-- ==== Sys2Proof/Word.lean ====
section
/-! DEFINITION. The plainest word types of the N48 and the reading of byte strings as numbers. -/

namespace Sys2Proof

/-- One byte of a structure, a buffer or a parcel. -/
abbrev Byte := BitVec 8

/-- A 32-bit register of the partition window. -/
abbrev Word32 := BitVec 32

/-- A 64-bit register of the partition window. -/
abbrev Word64 := BitVec 64

/-- The number a byte string spells, its first byte least significant (the N48's own structures are
little-endian, R12). -/
def leNat : List Byte → Nat
  | [] => 0
  | b :: bs => b.toNat + 256 * leNat bs

/-- The number a byte string spells, its first byte most significant (fields carried inside a published
standard keep that standard's order, R12). -/
def beNat (bs : List Byte) : Nat := leNat bs.reverse

/-- The `n` low bytes of a number, least significant first (R12). -/
def leBytes : Nat → Nat → List Byte
  | 0, _ => []
  | n + 1, v => BitVec.ofNat 8 v :: leBytes n (v / 256)

/-- The `n` low bytes of a number, most significant first. -/
def beBytes (n v : Nat) : List Byte := (leBytes n v).reverse

end Sys2Proof
end

