-- ==== Sys2Proof/Terms.lean ====
section
/-! DEFINITION. The kinds of operand a command carries. -/

namespace Sys2Proof

/-- Where a command of the command set comes from (R1): a request slot of a partition's window, or the
board management controller over TWT, whose request stands in the held frame (R453, R482). -/
inductive Origin where
  /-- Request slot `slot` of partition `p` (R131). -/
  | mbx (p slot : Fin 32)
  /-- The request held by TWT. -/
  | twt
  deriving DecidableEq, Repr

/-- What reading a request from the slot store shows (R159): an error once, or twice, with the 128 bytes the second read
returned and whether the slot's response storage still passes. `mistagged` reads well, but the tag of the response storage names
another partition from then on (R160). -/
inductive StoreRead where
  | good
  | mistagged
  | once
  | twice (bytes : List Byte) (responsePasses : Bool)
  deriving DecidableEq, Repr

/-- What the bus showed in one attempt at a two-wire transaction (R447–R450). -/
inductive TwTry where
  /-- The address was not acknowledged. -/
  | addressNack
  /-- A data byte written was not acknowledged. -/
  | dataNack
  /-- The PEC byte read did not match. -/
  | pecBad
  /-- The attempt went through; the bytes the target returned. -/
  | done (data : List Byte)
  deriving DecidableEq, Repr

/-- What a poll of an absent target met (R449). -/
inductive PollResult where
  | acknowledged | notAcknowledged | lost
  deriving DecidableEq, Repr

/-- What a read of one protected word showed (R224, R225). -/
inductive WordRead where
  | clean
  /-- A single-bit error, corrected; whether the word showed an error again when read back. -/
  | single (again : Bool)
  /-- An uncorrectable word; whether the second read failed too. -/
  | double (again : Bool)
  deriving DecidableEq, Repr

/-- What a command's reads return: the bytes from where its descriptor names, as the operand gives them, and what one word of node
memory showed on the way, if it is not sound (R224, R225): its index over all units, and the finding. -/
structure Fetched where
  bytes : List Byte
  word : Option (Fin 41943040 × WordRead)
  deriving DecidableEq, Repr

/-- A function of a host port, by its number (R273). -/
structure HostFunction where
  host : Fin 2
  fn : Fin 32
  deriving DecidableEq, Repr

/-- A slot whose receipt and response are written, with what the inline digest units (R94: the unit, and whether its second run
differed too) and the tag of the response slot's storage (R160) showed. -/
structure SlotDelivery where
  slot : Fin 32
  digestFault : Option (Fin 16 × Bool)
  tagMismatch : Bool
  deriving DecidableEq, Repr

/-- What forward error correction reported of the codewords that carried a slot (R236, R245): whether one was
uncorrectable, and the symbol errors by lane. -/
structure Fec where
  uncorrectable : Bool
  symbols : List Nat
  deriving DecidableEq, Repr

/-- Why a convoy is cancelled, as the table of R80 names it. -/
inductive CancelCause where
  | ownCheck | deadline | portLeftRun | inputFrame | hostCancel | ownTimeout
  deriving DecidableEq, Repr

/-- A change of one cell's accumulator in one sub-pass of a pass, counted over the pass: in units of the bobbin's least
significant bit, or of 2⁻¹⁴⁹ where the cell accumulates in FP32 (R105, R172). -/
structure CellFault where
  row : Nat
  col : Nat
  sub : Nat
  change : Int
  deriving DecidableEq, Repr

/-- What went wrong inside a tile during a pass (R179, R182, R183): changed cells, readout copies that differed, a vector lane
whose two datapaths differed. -/
structure TileErrors where
  cells : List CellFault
  readoutDiffers : Bool
  lane : Option (Fin 512)
  deriving DecidableEq, Repr

/-- One tile pass as its tile ran it (R171–R183): operand format and output format codes, extents and depth, operand
codes in row-major order, block scales in row-major order of their blocks, and what went wrong inside the tile. -/
structure TilePass where
  format : Nat
  out : Nat
  rows : Nat
  cols : Nat
  k : Nat
  a : List Nat
  b : List Nat
  sa : List Nat
  sb : List Nat
  errors : TileErrors
  deriving DecidableEq, Repr

/-- A rail table entry (R393): millivolts (0: not used), window limits in 0.1 % of nominal, sense divider, PMBus address and
page. -/
structure RailCfg where
  nominal : Nat
  under : Nat
  above : Nat
  divider : Nat
  pmbus : Option (Nat × Nat)
  main : Bool
  response : Nat
  switchable : Bool
  deriving DecidableEq, Repr

/-- A sequence step (R394). -/
structure SeqStep where
  rail : Nat
  flags : Nat
  delay : Nat
  timeout : Nat
  down : Nat
  deriving DecidableEq, Repr

/-- A fan table entry (R413): minimum speed in rpm, minimum running duty in percent. -/
structure FanCfg where
  used : Bool
  ppr : Nat
  minSpeed : Nat
  minDuty : Nat
  zone : Nat
  deriving DecidableEq, Repr

/-- A thermal plan row (R419, R435): threshold in °C, duty per zone in percent, KT ceiling code 1–4, a target for each axis. -/
structure PlanRow where
  threshold : Int
  duties : List Nat
  ceiling : Nat
  targets : List Int
  deriving DecidableEq, Repr

/-- An axis table entry (R426): window limits in hundredths, gains as Q16.16, homing direction (forward or not). -/
structure AxisCfg where
  used : Bool
  periods : Nat
  lower : Int
  upper : Int
  velocity : Nat
  acceleration : Nat
  jerk : Nat
  following : Nat
  windowLow : Nat
  windowHigh : Nat
  gains : List Nat
  homeForward : Bool
  homeVelocity : Nat
  span : Nat
  homeOffset : Int
  rail : Option Nat
  planDriven : Bool
  inverted : Bool
  amplitude : Nat
  deriving DecidableEq, Repr

/-- The always-on section of a configuration image (R492): rail and sequence tables, collapse and restart codes, fan, axis
and sensor tables, thermal plan, two-wire settings, device settings. -/
structure AonTables where
  rails : List RailCfg
  steps : List SeqStep
  collapseCode : Nat
  restartCode : Nat
  fans : List FanCfg
  rows : List PlanRow
  mainOff : List Nat
  /-- °C. -/
  hysteresis : Int
  critical : Int
  shutdown : Int
  /-- Zones (mask) of each die sensor, and of each board sensor; the 7-bit address of each board sensor. -/
  dieZones : List Nat
  boardZones : List Nat
  boardAddresses : List Nat
  axes : List AxisCfg
  /-- Mode and glitch filter of TW0–TW2 (R443). -/
  buses : List (Nat × Nat)
  /-- Edges of EVT0 and EVT1: 1 rising, 2 falling, 3 both. -/
  evtEdges : List Nat
  /-- The host port whose PF is bound to partition 0 (R274). -/
  adminPort : Nat
  /-- Partner and network ports to enable (masks), network speed codes, bifurcation code of S0, self-test enable, KT
  voltage setpoints in mV for the points 1–4. -/
  partnerPorts : Nat
  netPorts : Nat
  netSpeeds : List Nat
  bifurcation : Nat
  selfTest : Bool
  setpoints : List Nat
  deriving DecidableEq, Repr

/-- What the management core finds on one copy in the flash (R492–R496): the first 4,096 bytes, whether the signature
verifies, which sections match their digest on the first and on the second read (by type), and what the always-on section
holds. -/
structure ImageCopy where
  header : List Byte
  signatureOk : Bool
  first : List Nat
  second : List Nat
  tables : AonTables
  deriving DecidableEq, Repr

/-- What a parser extension stage reports of a frame (R316): further headers as type, offset and length, whether a header
is malformed, and the extension fields. -/
structure Extension where
  headers : List (Nat × Nat × Nat)
  malformed : Bool
  fields : List Byte
  deriving DecidableEq, Repr

/-- What the classifier's own check found (R320–R323): nothing; a compare mismatch, in the extension stage or in the
pipeline, on one attempt or on both; an uncorrectable slot or a slot CRC error, on one read or on both. -/
inductive ClassFault where
  | none
  | compare (stage again : Bool)
  | slot (again : Bool)
  deriving DecidableEq, Repr

/-- What the initiator finds on a drive (R280, R281): NVMe version, serial number, namespaces as identifier, LBA size in bytes,
LBA count, and whether each is formatted with metadata or protection information. -/
structure DriveInfo where
  version : Nat
  serial : List Byte
  namespaces : List (Nat × Nat × Nat × Bool)
  deriving DecidableEq, Repr

/-- What the checks inside a cipher operation found (R352, R353): nothing, a mismatch of the engine's copies on one attempt
or both, an uncorrectable key slot on one read or both. -/
inductive UnitFault where
  | none
  | mismatch (again : Bool)
  | slot (again : Bool)
  deriving DecidableEq, Repr

/-- A configuration write of a host that changes what a function may do (R142, R274, R276, R278): Bus Master Enable, the
power state D3hot or D0, Enable Relaxed Ordering, the MSI-X mask, and of a PF VF Enable and NumVFs. -/
inductive CfgWrite where
  | busMaster (on : Bool)
  | d3hot (on : Bool)
  | relaxedOrdering (on : Bool)
  | msixMask (on : Bool)
  | vfEnable (on : Bool)
  | numVfs (n : Fin 32)
  deriving DecidableEq, Repr

/-- What disables a function (R278). -/
inductive Disable where
  | busMasterCleared | d3hotEntered | vfEnableCleared
  deriving DecidableEq, Repr

end Sys2Proof
end

