-- ==== Sys2Proof/Syntax.lean ====
section
/-! DEFINITION. The commands of the N48: one constructor per row of the opcode table. A command's operands are
what the world brings with it (who sends it, the host data it reads, what a device or a line answers); the request
fields of a mailbox command are read from the request the mailbox unit copied at the doorbell (R136), or from the
frame the board management controller wrote (R453), which its origin names. -/

namespace Sys2Proof

inductive Instr where
  /-- Command 0x0001 reports the product code, fuse map, stepping, release, engineering mark and power-up count,
  and is never answered with BOOTING. (R3) -/
  | deviceIdentity (o : Origin)
  /-- Command 0x0002 creates a tenant partition: binds its function, reserves quotas and granules, and installs
  its wrapped receipt key. (R148) -/
  | partitionCreate (o : Origin)
  /-- Command 0x0003 tears a tenant partition down: cancels or finishes its operations, releases and clears its
  resources, and stops its window. (R156) -/
  | partitionTeardown (o : Origin)
  /-- Command 0x0004 raises or lowers one quota of a partition. (R150) -/
  | quotaSet (o : Origin)
  /-- Command 0x0005 sets a tenant's grant mask for doorbells registered after its completion. (R149) -/
  | grantMaskSet (o : Origin)
  /-- Command 0x0006 sets the convoy deadline of a partition or network port. (R75) -/
  | convoyDeadlineSet (o : Origin)
  /-- Command 0x0007 sets a partition's model loading mode to Strict or Spill. (R148) -/
  | loadingModeSet (o : Origin)
  /-- Command 0x0008 cancels a named command of the same partition, or reports that its outcome is already
  decided or past its point of no return. (R141) -/
  | commandCancel (o : Origin)
  /-- Command 0x0009 returns a partition's state, mode, quotas and use. (R478) -/
  | partitionStatus (o : Origin)
  /-- Command 0x0101 checks a manifest, answers ACCEPTED, and streams the weights into granules and pages,
  checking each layer's digest. (R210) -/
  | modelLoad (o : Origin) (image : List Byte) (reread : Option (List Byte))
  /-- Command 0x0102 unloads a model and frees its granules and pages. (R208) -/
  | modelUnload (o : Origin)
  /-- Command 0x0103 returns a model's layers, placement, damage and declared spill times. (R214) -/
  | modelQuery (o : Origin)
  /-- Command 0x0110 runs layers of a loaded model in convoys and optionally signals a sync object on
  completion. (R216) -/
  | modelRun (o : Origin) (input : Fetched) (spillFault : Option (Nat × Fin 4))
  /-- Command 0x0111 sends a block multiply to a partner and checks the returned result blocks. (R254) -/
  | blockOffload (o : Origin) (hostData : Fetched)
  /-- Command 0x0120 sets a partition's cluster mask. (R165) -/
  | clusterMaskSet (o : Origin)
  /-- Command 0x0121 sets the administrator's KT limit. (R167) -/
  | ktLimitSet (o : Origin)
  /-- Command 0x0122 sets a partner port's checking mode and sampling ratio. (R184) -/
  | partnerCheckingSet (o : Origin)
  /-- Command 0x0201 allocates a region of bound granules in one memory unit and returns its handle. (R199) -/
  | regionAllocate (o : Origin)
  /-- Command 0x0202 frees a region and clears its granules. (R200) -/
  | regionFree (o : Origin)
  /-- Command 0x0203 copies data between two buffer descriptors in convoys. (R477) -/
  | memoryTransfer (o : Origin) (hostData : Fetched)
  /-- Command 0x0210 creates a sync object with an initial value and optional bound port. (R217) -/
  | syncCreate (o : Origin)
  /-- Command 0x0211 destroys a sync object and completes its waiters with CANCELLED. (R222) -/
  | syncDestroy (o : Origin)
  /-- Command 0x0212 adds a value to a sync object's counter and releases satisfied waiters. (R218) -/
  | syncSignal (o : Origin)
  /-- Command 0x0213 registers a waiter with a threshold, answers ACCEPTED and completes when the counter
  reaches it. (R219) -/
  | syncWait (o : Origin)
  /-- Command 0x0214 returns a sync object's counter, waiters, bound port and partner-absent mark. (R218) -/
  | syncRead (o : Origin)
  /-- Command 0x0215 binds a sync object to a partner port or unbinds it. (R222) -/
  | syncBind (o : Origin)
  /-- Command 0x0301 inserts an exact-match entry, moving at most four entries if needed. (R306) -/
  | entryInsert (o : Origin)
  /-- Command 0x0302 rewrites the action of an existing entry in one slot write. (R306) -/
  | entryUpdate (o : Origin)
  /-- Command 0x0303 clears the valid bit of an existing entry. (R306) -/
  | entryDelete (o : Origin)
  /-- Command 0x0304 returns the action and choice of an existing entry. (R305) -/
  | entryLookup (o : Origin)
  /-- Command 0x0305 sets a key profile of a network port. (R302) -/
  | profileSet (o : Origin)
  /-- Command 0x0306 sets a payload pattern of a network port. (R301) -/
  | patternSet (o : Origin)
  /-- Command 0x0307 sets a port's header and byte limits, TPID and tunnel UDP ports. (R299) -/
  | parseLimitsSet (o : Origin)
  /-- Command 0x0308 sets a port's miss action or parse-failure action. (R309) -/
  | defaultActionSet (o : Origin)
  /-- Command 0x0309 enables, sizes or disables one of a partition's receive rings. (R483) -/
  | receiveRingSet (o : Origin)
  /-- Command 0x030A posts receive descriptors by advancing a ring's tail index. (R483) -/
  | receiveRingPost (o : Origin) (descs : List (List Byte))
  /-- Command 0x030B transmits a frame from a buffer on a network port, optionally ESP-encrypted. (R284) -/
  | frameTransmit (o : Origin) (frame : Fetched) (fault : UnitFault)
  /-- Command 0x030C sets an inbound or outbound ESP security association. (R287) -/
  | espSaSet (o : Origin)
  /-- Command 0x030D sets a MACsec secure association of a port. (R286) -/
  | macsecSaSet (o : Origin)
  /-- Command 0x0381 enables a Disabled partner port, which enters Seek. (R257) -/
  | partnerPortEnable (o : Origin)
  /-- Command 0x0382 disables a partner port, a link fault if it was in Run or Degrade. (R257) -/
  | partnerPortDisable (o : Origin)
  /-- Command 0x0383 returns a partner port's state, lanes and the partner's declarations. (R250) -/
  | partnerPortStatus (o : Origin)
  /-- Command 0x03C1 sets a disabled network port's speed, flow control and buffer marks. (R285) -/
  | networkPortConfigure (o : Origin)
  /-- Command 0x03C2 enables a network port's transmitters. (R500) -/
  | networkPortEnable (o : Origin)
  /-- Command 0x03C3 disables a network port and discards its held transmit frames. (R292) -/
  | networkPortDisable (o : Origin)
  /-- Command 0x0401 creates a storage extent bound to a key slot and assigns it to a partition. (R282) -/
  | extentCreate (o : Origin)
  /-- Command 0x0402 destroys a storage extent. (R282) -/
  | extentDestroy (o : Origin)
  /-- Command 0x0403 reads and XTS-decrypts an extent range into a buffer. (R283) -/
  | storageRead (o : Origin)
  /-- Command 0x0404 XTS-encrypts a buffer and writes it to an extent range. (R283) -/
  | storageWrite (o : Origin) (hostData : Fetched) (fault : UnitFault)
  /-- Command 0x0405 issues an NVMe Flush for an extent. (R281) -/
  | flush (o : Origin)
  /-- Command 0x0406 issues an NVMe deallocate for an extent range. (R281) -/
  | deallocate (o : Origin)
  /-- Command 0x0407 returns a drive's readiness, namespaces, version and serial number. (R291) -/
  | driveQuery (o : Origin)
  /-- Command 0x0501 unwraps a key under the AKEK into a partition's key slot. (R336) -/
  | keyInstall (o : Origin)
  /-- Command 0x0502 generates a key inside the N48 into the partition's own slot. (R336) -/
  | keyGenerate (o : Origin)
  /-- Command 0x0503 replaces or empties the key of any partition's slot. (R337) -/
  | keyReplace (o : Origin)
  /-- Command 0x0504 destroys the partition's own key slot. (R337) -/
  | keyDestroy (o : Origin)
  /-- Command 0x0505 returns a slot's type, usage mask and key check value. (R335) -/
  | keyQuery (o : Origin)
  /-- Command 0x0506 replaces the key of the partition's own slot with a wrapped or generated key. (R337) -/
  | ownSlotKeyReplace (o : Origin)
  /-- Command 0x0510 runs one cipher or CMAC operation of the selected mode on an inline engine. (R330) -/
  | cipherOperation (o : Origin) (aad : List Byte) (input : Fetched) (fault : UnitFault)
  /-- Command 0x0520 writes the signed transport public key to a host buffer. (R340) -/
  | transportKeyGet (o : Origin)
  /-- Command 0x0521 derives a new AKEK by ECDH with an ephemeral key and returns its KCV. (R340) -/
  | akekEstablish (o : Origin) (qe : List Byte)
  /-- Command 0x0522 installs a new receipt key for a partition under the next epoch. (R341) -/
  | receiptKeyChange (o : Origin)
  /-- Command 0x0601 returns RTC seconds, ticks, calendar, validity and main timebase. (R360) -/
  | timeRead (o : Origin)
  /-- Command 0x0602 sets the RTC, marks time valid and writes a time-set ledger entry. (R361) -/
  | timeSet (o : Origin)
  /-- Command 0x0603 sets the RTC trim from the next interval and writes a trim ledger entry. (R363) -/
  | trimSet (o : Origin)
  /-- Command 0x0604 sets an alarm's match, period, enable and wake bits or clears its fired flag. (R364) -/
  | alarmSet (o : Origin)
  /-- Command 0x0605 returns a time-stamp channel's captures and count, optionally clearing it. (R365) -/
  | timeStampRead (o : Origin)
  /-- Command 0x0606 sets the temperature tamper limits and starts calibration items [0] and [4]. (R367) -/
  | tamperLimitsSet (o : Origin)
  /-- Command 0x0607 sets the tamper sampling rate on backup. (R370) -/
  | backupRateSet (o : Origin)
  /-- Command 0x0608 arms or disarms a tamper source, arming a pin pair only when its first sample passes.
  (R369) -/
  | sourceArmingSet (o : Origin) (firstSamplePassed : Bool)
  /-- Command 0x0609 blows a tamper source's fuse for ever and writes a fuse ledger entry. (R5) -/
  | fuseBlow (o : Origin)
  /-- Command 0x060A runs inserted samples on the named tamper sources. (R371) -/
  | tamperSelfTest (o : Origin) (passed : BitVec 6)
  /-- Command 0x060B returns a Tripped vault to Clear when every Armed source is in range. (R374) -/
  | tamperAcknowledge (o : Origin)
  /-- Command 0x060C returns the tamper state, arming, trip counts, rate and limits. (R374) -/
  | tamperStatus (o : Origin)
  /-- Command 0x0610 returns ledger entries, staged entries, summary counter and record. (R380) -/
  | ledgerStatus (o : Origin)
  /-- Command 0x0611 copies ledger entries to a buffer. (R377) -/
  | ledgerRead (o : Origin)
  /-- Command 0x0612 signs the ledger with a nonce under the SPDM leaf key. (R381) -/
  | ledgerAttest (o : Origin)
  /-- Command 0x0613 stages an administrator record and completes once it is committed. (R380) -/
  | recordAppend (o : Origin)
  /-- Command 0x0701 releases or enables a switchable rail. (R398) -/
  | railSwitch (o : Origin)
  /-- Command 0x0702 proves a fenced rail and clears its fence if it passes. (R404) -/
  | railFenceRelease (o : Origin)
  /-- Command 0x0703 with code 0x01 runs power-down 1 ms after its response and stays Off. (R484) -/
  | powerDown (o : Origin)
  /-- Command 0x0703 with code 0x02 runs power-down, reselects the configuration image and resequences from step
  0. (R484) -/
  | deviceRestart (o : Origin)
  /-- Command 0x0704 over TWT leaves Held off, or reruns image selection when no image was accepted. (R402) -/
  | restartFromHeldOff (o : Origin)
  /-- Command 0x0705 returns 32 bytes of the power snapshot and optionally clears it. (R408) -/
  | snapshotRead (o : Origin)
  /-- Command 0x0710 sets the administrator's duty floor for a fan. (R414) -/
  | fanFloorSet (o : Origin)
  /-- Command 0x0711 restarts a Stalled or Tach lost fan with spin-up attempt 1. (R417) -/
  | fanRestart (o : Origin)
  /-- Command 0x0712 returns each fan's duty, state and speed. (R417) -/
  | fanStatus (o : Origin)
  /-- Command 0x0720 gives a manual axis a new target, retargeting under R431. (R430) -/
  | axisTarget (o : Origin)
  /-- Command 0x0721 sets an axis's soft limits while it is Holding. (R430) -/
  | axisLimitsSet (o : Origin)
  /-- Command 0x0722 sets an axis to manual or plan-driven. (R435) -/
  | axisModeSet (o : Origin)
  /-- Command 0x0723 starts a homing run of an Unhomed or Holding axis. (R432) -/
  | axisHome (o : Origin)
  /-- Command 0x0724 releases a Fenced axis with a single homing attempt. (R432) -/
  | axisRelease (o : Origin)
  /-- Command 0x0725 returns an axis's state, amplitude, position, velocity, target and limits. (R432) -/
  | axisStatus (o : Origin)
  /-- Command 0x0730 returns zone and die temperatures, rows and KT ceiling. (R420) -/
  | thermalStatus (o : Origin)
  /-- Command 0x0801 runs one two-wire pass-through transaction on a controller-capable bus. (R445) -/
  | transaction (o : Origin)
  /-- Command 0x0802 sets a bus's mode and glitch filter when it is next idle. (R444) -/
  | busConfigure (o : Origin)
  /-- Command 0x0803 returns a bus's hang state, mode, filter and absent targets. (R456) -/
  | busStatus (o : Origin)
  /-- Command 0x0901 returns one counter instance, clearing it where its chapter says. (R486) -/
  | counterRead (o : Origin)
  /-- Command 0x0902 returns the 32-bit guarantee status. (R120) -/
  | guaranteeStatusRead (o : Origin)
  /-- Command 0x0903 configures a network port's telemetry export. (R288) -/
  | telemetryExportSet (o : Origin) (list : List Byte)
  /-- Command 0x0A01 starts a calibration run of the named items plus item [0]. (R468) -/
  | calibrationRun (o : Origin)
  /-- Command 0x0A02 disables or enables node memory scrub. (R202) -/
  | scrubSet (o : Origin)
  /-- Command 0x0A03 fences a resource of a maintenance class after its work in flight. (R107) -/
  | fenceResource (o : Origin)
  /-- Command 0x0A04 self-tests a fenced resource and releases it if the test passes. (R110) -/
  | fenceRelease (o : Origin) (passed : Bool)
  /-- Command 0x0A05 checks a signed image and writes it to the copy not in use, committing it last. (R507) -/
  | firmwareUpdate (o : Origin) (image : List Byte) (signatureOk : Bool) (readBack : Fin 3)
  /-- A doorbell write registers a slot, copies its request, sets busy and starts T, or is discarded and
  counted. (R136) -/
  | doorbell (p : Fin 32) (size : Nat) (value : Word32) (poisoned : Bool)
  /-- Writing partition control [0] = 1 re-enables a Quiesced partition with a programmed receipt ring and makes
  its pending deliveries. (R155) -/
  | partitionControlEnable (p : Fin 32)
  /-- The host advances the receipt ring consumer index, letting completions that waited for a free entry
  proceed. (R85) -/
  | receiptRingConsumerWrite (p : Fin 32) (value : Word32)
  /-- The host advances an event ring consumer index, and the backlog drains into the freed entries in order.
  (R146) -/
  | eventRingConsumerWrite (p : Fin 32) (value : Word32)
  /-- A write to a window register without behaviour of its own sets its value or is ignored. (R131) -/
  | registerWrite (sender : HostFunction) (offset : Fin 524288) (data : List Byte) (poisoned : Bool)
  /-- A control write with an unkeyed algorithm code zeroes the context's length and enters Absorbing. (R346) -/
  | digestInitialise (p : Fin 32) (ctx : Fin 2) (value : Word32)
  /-- A control write with an HMAC code holds busy for exactly 20 µs while the key and pad states load. (R345)
  -/
  | digestHmacInitialise (p : Fin 32) (ctx : Fin 2) (alg : Fin 3)
  /-- A control write of 0x0 clears the context to Idle. (R346) -/
  | digestClear (p : Fin 32) (ctx : Fin 2)
  /-- A data write appends 8 bytes and sets busy when it completes a block. (R343) -/
  | digestData (p : Fin 32) (ctx : Fin 2) (value : Word64)
  /-- A tail data write holds the 0–7 final bytes for the finish. (R342) -/
  | digestTailData (p : Fin 32) (ctx : Fin 2) (value : Word64)
  /-- A finish write appends the tail, pads, compresses and writes the digest, entering Done. (R346) -/
  | digestFinish (p : Fin 32) (ctx : Fin 2) (value : Word32)
  /-- A save write with the export bit writes the saved state, wrapped for keyed contexts, holding busy for 5
  µs. (R348) -/
  | digestExport (p : Fin 32) (ctx : Fin 2) (value : Word32)
  /-- A save write with the import bit checks and restores saved state, holding busy for 5 µs. (R348) -/
  | digestImport (p : Fin 32) (ctx : Fin 2)
  /-- A digest engine ends a block's compression and the context's busy clears. (R343) -/
  | digestBlockComplete (p : Fin 32) (ctx : Fin 2) (fault : Option Bool)
  /-- The 20 µs of an HMAC initialisation expires, clearing busy with its result. (R345) -/
  | digestHmacInitEnd (p : Fin 32) (ctx : Fin 2)
  /-- The 5 µs of an export or import expires, clearing busy with its result. (R346) -/
  | digestSaveEnd (p : Fin 32) (ctx : Fin 2)
  /-- The function unmasks its vector or becomes able to send, and a pending MSI-X message is sent. (R142) -/
  | msixUnmask (host : Fin 2) (fn : Fin 32)
  /-- The moderation holdoff runs out from the first pending raise and one MSI-X message is sent. (R142) -/
  | msixHoldoffExpiry (p : Fin 32)
  /-- Synfy starts a registered command: applies the checks of R18, looks up its sequence number and begins
  execution. (R137) -/
  | commandStart (p slot : Fin 32) (read : StoreRead)
  /-- 20,000 KM cycles after registration a tenant refusal writes its receipt and REFUSED response and clears
  busy. (R151) -/
  | refusalCompletion (p : Fin 32) (slot : SlotDelivery)
  /-- A command's final outcome is delivered: receipt, response, completion event, bit clear and MSI-X, in
  order. (R140) -/
  | completion (p slot : Fin 32) (digestFault : Option (Fin 16 × Bool)) (tagMismatch : Bool)
  /-- A command's own timeout T expires: it ends with TIMEOUT or, if in repair, is extended once. (R135) -/
  | commandTimeout (p slot : Fin 32)
  /-- 1 ms after teardown began, receipts and responses still waiting for a full ring are discarded. (R85) -/
  | teardownDiscardExpiry (p : Fin 32)
  /-- An FLR of a PF or VF quiesces the partitions bound to it with cause 0x01. (R278) -/
  | functionLevelReset (host : Fin 2) (fn : Fin 32)
  /-- PERST# asserted on a host port resets it and quiesces every partition bound on it. (R278) -/
  | perstAssert (host : Fin 2)
  /-- PERST# released: the host port starts its clock and trains once the sequence has completed. (R498) -/
  | perstRelease (host : Fin 2)
  /-- A hot reset, link disable, link down or fatal AER error quiesces the port's partitions and retraining
  starts. (R542) -/
  | hostLinkDown (host : Fin 2) (cause : Fin 4)
  /-- Bus Master Enable cleared, D3hot entered or VF Enable cleared quiesces the affected partitions with cause
  0x03. (R278) -/
  | functionDisabled (host : Fin 2) (fn : Fin 32) (why : Disable)
  /-- A host port finishes training and stops answering Configuration Request Retry Status. (R498) -/
  | hostPortReady (host : Fin 2) (width : Fin 5) (rate : Fin 6)
  /-- An uncorrectable AER error is logged and raises an event. (R293) -/
  | aerUncorrectable (host : Fin 2) (fn : Fin 32) (status : Word32)
  /-- A host DMA read completes with an error or times out and is issued once more or ends the command. (R277)
  -/
  | hostDmaReadFailure (p slot : Fin 32) (poisoned again : Bool)
  /-- A parcel written into a queue has its waybill checked before release. (R65) -/
  | parcelCheck (cls : Fin 24) (number : Fin 16) (parcel : List Byte)
  /-- A producer has been without credit for 1 ms and a credit-stall event is written. (R50) -/
  | creditStall (cls : Fin 24) (number : Fin 16) (cycles : Nat)
  /-- A synchronised Gray pointer fails parity or moves backwards and the queue is re-initialised. (R57) -/
  | crossingFault (cls : Fin 24) (number : Fin 16) (parity : Bool)
  /-- A domain leaving reset runs credit re-initialisation with each neighbour. (R54) -/
  | domainLeaveReset (d : Fin 19)
  /-- A clock monitor trips, the domain is isolated as in reset, and its clock is restarted once. (R56) -/
  | clockLoss (d : Fin 19)
  /-- A restarted clock passes ten windows, or 50 µs expires, classifying the loss as transient or lasting.
  (R56) -/
  | clockRestartEnd (d : Fin 19) (passed : Bool)
  /-- Synfy or the classifier opens a convoy number, toggling its generation. (R75) -/
  | convoyOpen (n : Fin 256) (p slot : Fin 32)
  /-- The owner seals a convoy, sending seal parcels and starting the deadline. (R76) -/
  | convoySeal (n : Fin 256)
  /-- A sealed convoy meets its conditions and is confirmed: gates release, lines confirm, confirm parcels are
  sent. (R77) -/
  | convoyConfirm (n : Fin 256)
  /-- A cancel cause cancels a convoy: gates discard, lines are marked cancelled, cancel parcels are sent. (R78)
  -/
  | convoyCancel (n : Fin 256) (cause : CancelCause) (group : Fin 23) (index : Fin 1024)
  /-- A sealed convoy's deadline expires: it is cancelled, or extended once if in repair. (R80) -/
  | convoyDeadlineExpiry (n : Fin 256)
  /-- All acknowledgements of an outcome are in: the convoy is freed with its final status or re-run. (R79) -/
  | convoyResolved (n : Fin 256) (hostData : List Byte)
  /-- A seal, confirm or cancel acknowledgement arrives from a partner. (R76) -/
  | convoyControlReceived (port : Fin 8) (payload : List Byte)
  /-- A 12 µs acknowledgement timer expires and the port has a link fault. (R84) -/
  | ackTimeout (port : Fin 8) (convoy : Fin 256)
  /-- The two convoy table copies differ, open convoys are cancelled and the table is rebuilt. (R93) -/
  | convoyTableMismatch
  /-- A memory unit finishes sweeping the tags of a resolved convoy. (R204) -/
  | sweepEnd (unit : Fin 10)
  /-- The two cores of a lockstep pair differ, and the step re-executes or the pair is taken offline. (R109) -/
  | lockstepMismatch (pair : Fin 2) (lasting : Bool) (running : List (Fin 1024))
  /-- The shadow checker differs from the management core, which resumes or enters its safe state. (R109) -/
  | managementCoreMismatch (lasting : Bool)
  /-- A checker is exercised with an injected error, and a failure to flag it is a detected fault. (R101) -/
  | checkerExercise (checker : Fin 12) (number : Fin 1024) (group : Fin 23) (index : Fin 1024) (flagged again : Bool)
  /-- Every 1,024 KC cycles a memory unit reads, checks and corrects one word. (R201) -/
  | scrubRead (unit : Fin 9) (found : WordRead)
  /-- A granule's retirement ends, its replacement is bound, or its region and models are damaged. (R226) -/
  | granuleRetirementEnd (granule : Fin 320)
  /-- A tile's last accumulating cycle ends and readout begins. (R171) -/
  | tilePassComplete (convoy : Fin 256) (cluster : Fin 8) (tile : Fin 16) (pass : TilePass)
  /-- The cluster's picot comparator raises a pass's check result, failing the convoy on a mismatch. (R180) -/
  | picotCheck (cluster : Fin 8)
  /-- A returned result block completes and is verified inline. (R185) -/
  | partnerBlockCheck (port : Fin 8)
  /-- A sampled recomputation of a partner block finishes and is compared with the returned block. (R186) -/
  | recomputationComplete (port cluster : Fin 8) (tile : Fin 17) (errors : TileErrors)
  /-- The idle KT PLL locks and the multiplexer moves KT to the new operating point. (R39) -/
  | ktSwitch
  /-- After 1 ms with no tile pass running Synfy requests 0.6 GHz. (R167) -/
  | ktIdleExpiry
  /-- A partner's sync signal parcel adds to a bound object or is discarded and counted. (R221) -/
  | syncSignalParcel (port : Fin 8) (payload : List Byte) (convoy : Option (Fin 256 × Bool))
  /-- A data link parcel is received and checked for FEC, link CRC and sequence. (R239) -/
  | linkParcelReceive (port : Fin 8) (parcel : List Byte) (fec : Fec)
  /-- A control parcel is received: acknowledged sequence, replay request, lane change notice and freed counts.
  (R240) -/
  | controlParcelReceive (port : Fin 8) (parcel : List Byte) (fec : Fec)
  /-- A replay is not complete within 2 µs and the port has a link fault. (R245) -/
  | replayTimeout (port : Fin 8)
  /-- No link parcel has passed its checks for 8 µs and the port has a link fault. (R264) -/
  | linkSilence (port : Fin 8)
  /-- A lane loses lock and is dropped at once with a background relock. (R261) -/
  | laneLossOfLock (port lane : Fin 8)
  /-- A dropped lane passes its relock test and is restored, or 10 ms expires and it is fenced. (R261) -/
  | laneRelockEnd (port lane : Fin 8) (passed : Bool)
  /-- Both sides restripe on the new lane mask and the port returns from Degrade to Run. (R260) -/
  | restripeComplete (port : Fin 8)
  /-- A 1 s Seek window ends, counting an empty window and reporting ABSENT at the third. (R258) -/
  | seekWindowEnd (port : Fin 8)
  /-- The 100 ms training burst of a Seek window ends. (R262) -/
  | trainingBurstEnd (port : Fin 8)
  /-- A partner training signal is seen on a usable lane, and with NODE_DONE high the port enters Train. (R257)
  -/
  | partnerTrainingSignal (port lane : Fin 8)
  /-- Every usable lane trains or 20 ms elapses, and the port enters Exchange or returns to Seek. (R257) -/
  | trainEnd (port : Fin 8) (trained : BitVec 8)
  /-- Capability and initial grant have been exchanged both ways and the port enters Run. (R257) -/
  | exchangeComplete (port : Fin 8)
  /-- Exchange does not complete within 10 ms and the port returns to Seek. (R253) -/
  | exchangeTimeout (port : Fin 8)
  /-- A retrain does not reach Run within 5 ms: the link fault is lasting and the port seeks. (R266) -/
  | retrainTimeout (port : Fin 8)
  /-- NODE_DONE rises and ports in Seek that saw a partner enter Train. (R503) -/
  | nodeDoneHigh
  /-- NODE_DONE is still low 3 s after release and a solo event is written. (R504) -/
  | soloMode
  /-- A frame arrives at a network port, is buffered or dropped, numbered and dealt to a pipeline. (R285) -/
  | frameReceive (port : Fin 2) (frame : List Byte) (fcsOk fecOk : Bool) (fault : Option Bool)
  /-- A pipeline finishes parsing, matching and action selection for a frame, which resolves in reorder. (R297)
  -/
  | classificationComplete (port : Fin 2) (pipeline : Fin 16) (ext : Extension) (fault : ClassFault)
  /-- A port's 50 µs release timer expires and unresolved frames ahead are skipped. (R314) -/
  | reorderReleaseTimeout (port : Fin 2)
  /-- Synfy reinserts a retired slot's entry from the shadow and parked lookups resume. (R322) -/
  | slotRepairEnd (ext : Extension)
  /-- A network link comes up with its peer. (R500) -/
  | networkLinkUp (port : Fin 2)
  /-- A network link goes down: held transmit frames are discarded and their commands end with ABSENT. (R292) -/
  | networkLinkDown (port : Fin 2)
  /-- An export period ends and the listed counters are sent in MACed datagrams. (R288) -/
  | telemetryPeriod (port : Fin 2)
  /-- A drive completes an NVMe command, reissued once on a retryable error. (R291) -/
  | driveCompletion (p slot : Fin 32) (status : BitVec 15) (data : List Byte) (fault : UnitFault)
  /-- A drive leaves a command uncompleted for 1 s and its controller is reset once. (R291) -/
  | driveCommandTimeout (link : Fin 4) (fatal resetOk : Bool)
  /-- Every 1 s S0 probes the link of an absent drive. (R291) -/
  | driveProbe (link : Fin 4) (found : Option DriveInfo)
  /-- A drive's controller reports ready after S0 trains, or is reported absent. (R501) -/
  | driveReady (link : Fin 4) (found : Option DriveInfo)
  /-- VAON has stayed at or above 1.66 V for 1 ms and the always-on domain leaves reset. (R537) -/
  | vaonValid (straps : Fin 4)
  /-- VAON falls below 1.58 V for 2 µs and the always-on domain resets. (R537) -/
  | alwaysOnReset
  /-- The management core chooses an eligible image copy and checks its always-on section for acceptance. (R494)
  -/
  | imageSelection (a b : ImageCopy)
  /-- A later image section has streamed and its digest is checked, rejecting the copy on a second mismatch.
  (R496) -/
  | sectionReadComplete (kind : Fin 6) (good : Bool)
  /-- Start-up self-test ends and the guarantee status is formed. (R128) -/
  | selfTestEnd (once twice : List (Fin 23 × Fin 1024))
  /-- Synfy becomes ready: partner ports enabled, NODE_DONE released, S0 trains, default classifier loads.
  (R500) -/
  | synfyReady
  /-- The default classifier content and extension stages are loaded and listed network ports are enabled.
  (R500) -/
  | classifierLoadComplete (content : List (Nat × List Byte))
  /-- An EXTEST-type instruction loaded while the main domain runs stops the main domain. (R530) -/
  | boundaryScanInstruction (instr : Fin 5)
  /-- A supply is applied to a vault in Off, which resets and restores its configuration from non-volatile
  memory. (R358) -/
  | vaultPowerOnReset (vaonValid : Bool)
  /-- VAON falls below 1.62 V and the vault switches to VBAT and the backup rate. (R357) -/
  | vaultSwitchToVbat
  /-- VAON rises above 1.70 V, or falls again, starting or stopping the 10 ms return timer. (R358) -/
  | vaonReturn (above : Bool)
  /-- The 10 ms return timer expires and the vault enters Main with 100 Hz sampling. (R358) -/
  | vaultReturnToMain
  /-- VBAT falls below 2.0 V with VAON absent and battery-backed contents are lost. (R358) -/
  | vaultOff
  /-- A regular sample of the Armed tamper sources is taken and compared. (R373) -/
  | tamperSample (tdA : Fin 3) (tdB : Int) (diffs : List (BitVec 16)) (failA failB : Fin 3)
  /-- An inserted sample stimulates a non-fused source, which must report past its limit. (R371) -/
  | insertedSample (source : Fin 6) (result : Fin 3)
  /-- A configured edge on EVT0 or EVT1 is captured in its time-stamp channel. (R365) -/
  | evtCapture (input : Fin 2) (rising : Bool)
  /-- The RTC seconds counter advances and the boundary disciplines the main timebase. (R366) -/
  | rtcSecond (gain : Int)
  /-- At the end of each 60 s interval the prescaler advances or holds by the trim. (R363) -/
  | trimInterval
  /-- A staged entry is numbered, MACed, programmed into the ledger and its slot freed. (R378) -/
  | stagedEntryCommit
  /-- VBAT is measured at main start and hourly, with an event below 2.5 V. (R389) -/
  | vbatMeasurement (mv : BitVec 16)
  /-- A step's delay expires: the setpoint is written, the enable asserted and the power-good timeout started.
  (R395) -/
  | sequenceStepAct (step : Fin 48) (absent : Bool)
  /-- A step's rail reaches power good inside its window and the sequencer moves to the next step. (R395) -/
  | sequenceStepPowerGood (step : Fin 48) (mv : Nat)
  /-- A step's power-good timeout expires, starting a retry or fencing the rail. (R402) -/
  | powerGoodTimeout (step : Fin 48)
  /-- A step's down delay expires during power-down and the next rail in reverse order is released. (R396) -/
  | powerDownDelayExpiry (step : Fin 48)
  /-- The 100 ms off time ends and the sequence or a rail is retried. (R402) -/
  | retryOffTimeExpiry (rail : Option (Fin 24))
  /-- A retried rail stays good for 60 s and its fault is counted transient. (R404) -/
  | railProvingExpiry (rail : Fin 24)
  /-- A rail's power good falls after its filter and the rail's fault response runs. (R404) -/
  | railFault (rail : Fin 24)
  /-- Every 1 ms the converters scan all rails and VIN_SENSE against their windows. (R399) -/
  | railWindowScan (a b : List Nat) (vin : Nat × Nat) (vaon : Nat)
  /-- Every 10 ms a rail's PMBus READ_VOUT is read against its window. (R399) -/
  | pmbusReadPoll (rail : Fin 24) (mv : Option Nat) (current : BitVec 16)
  /-- A rail's two channels disagree for 50 ms and are checked against the internal reference. (R400) -/
  | sensorDisagreement (sensor : Fin 33) (failA failB : Bool)
  /-- VIN_SENSE crosses the collapse threshold: enables released, main domain stopped, snapshot written, entry
  staged. (R405) -/
  | collapse
  /-- VIN_SENSE has stayed above the restart threshold for 100 ms and the discharge wait has ended. (R402) -/
  | restartQualified
  /-- A collapse's 60 s window expires and it no longer counts toward lockout. (R402) -/
  | collapseWindowExpiry
  /-- At 2 s or 5 s a spin-up attempt is judged passed or failed. (R415) -/
  | spinUpCheck (fan : Fin 12) (final : Bool)
  /-- The 3 s pause after a failed first attempt ends and attempt 2 starts. (R417) -/
  | fanPauseExpiry (fan : Fin 12)
  /-- No tach pulse arrives for W and the fan is driven at 100 % open loop. (R416) -/
  | tachLost (fan : Fin 12)
  /-- A tach-lost fan holds its minimum speed for 1 s and returns to Running. (R416) -/
  | tachRestored (fan : Fin 12)
  /-- 10 s after a tach loss without recovery the fault is counted lasting. (R417) -/
  | tachLostLasting (fan : Fin 12)
  /-- Every 100 ms a board sensor on TW1 is read. (R418) -/
  | boardSensorRead (sensor : Fin 16) (reading : Option Int)
  /-- Every 100 ms each zone and the KT ceiling select their rows. (R420) -/
  | thermalPlanEvaluation (dieA dieB : List Int)
  /-- At 40 kHz sine and cosine are sampled, position updated and amplitude and following error checked. (R425)
  -/
  | axisFeedbackSample (axis : Fin 4) (sin cos : Int) (angle : Fin 4096)
  /-- Every 25 µs the generator produces a commanded position, velocity and acceleration within the limits.
  (R427) -/
  | trajectoryUpdate (axis : Fin 4) (pos vel acc : Int)
  /-- An AnREF pulse during homing sets the position and the axis enters Holding. (R434) -/
  | referenceMark (axis : Fin 4) (sin cos : Int) (angle : Fin 4096)
  /-- A homing search finds no mark in either direction, retrying once after 100 ms or fencing the axis. (R432)
  -/
  | homingAttemptFailed (axis : Fin 4)
  /-- The 100 ms with AnENABLE low after a failed first homing attempt ends and attempt 2 starts. (R432) -/
  | homingRetryExpiry (axis : Fin 4)
  /-- A Faulted axis's window passes for 100 ms and homing retries, or 1 s expires and it is fenced. (R432) -/
  | axisFaultRecovery (axis : Fin 4)
  /-- An axis at rest in Holding for 100 ms with calibration pending enters Calibrating. (R433) -/
  | axisCalibrationStart (axis : Fin 4)
  /-- An axis front-end calibration ends and any queued target starts. (R433) -/
  | axisCalibrationEnd (axis : Fin 4) (sin cos : Int) (amplitude : Nat)
  /-- A bus has been free for the bus free time and the queued transaction issues its START. (R446) -/
  | busFreeStart (b : Fin 3) (try_ : TwTry)
  /-- A controller loses arbitration, releases the bus and waits to restart the transaction. (R447) -/
  | arbitrationLost (b : Fin 3)
  /-- Every 1 s an absent target is polled and its mark cleared when it acknowledges. (R449) -/
  | absentPoll (b : Fin 3) (addr : Fin 128) (result : PollResult)
  /-- An ALERT# held low makes the core read the Alert Response Address, repeating every 10 ms. (R451) -/
  | alertResponse (b : Fin 3) (answer : Option (Fin 128))
  /-- SCL or SDA stays low for 30 ms and the bus is hung until the loss of VAON. (R456) -/
  | busHung (b : Fin 3) (sda : Bool)
  /-- A TWT Block Write with command 0x01 delivers a request for processing. (R453) -/
  | twtRequest (frame : List Byte) (pecOk : Bool)
  /-- A TWT Block Read with command 0x02 returns the response of the last request or BUSY. (R453) -/
  | twtResponseRead
  /-- A TWT Block Read with command 0x04 returns and removes the oldest waiting event. (R453) -/
  | twtEventRead
  /-- SCL stays low 30 ms during a TWT transaction; TWT discards the frame and returns to idle. (R459) -/
  | twtTargetTimeout
  /-- Every 24 h of VAON time a calibration run of all items starts. (R468) -/
  | calibrationPeriodic
  /-- The die temperature moves more than 15 °C from the last item [3] pass and items [0]–[4] run. (R468) -/
  | calibrationDrift
  /-- A calibration item completes and writes its code, or is retried or fails. (R466) -/
  | calibrationItemEnd (item : Fin 9) (measured : List Int)
  /-- NODE_DONE is pulled low by another device of the node, so ports still in Seek may no longer leave it.
  (R503) -/
  | nodeDoneFall
  /-- A filtered falling edge on FnTACH updates the fan speed, passes a spin-up whose minimum speed is reached
  between 2 s and 5 s, and restarts the tach-loss window W. (R415) -/
  | fanTachPulse (fan : Fin 12) (rpm : Nat)
  /-- After a raise of the tensor supply setpoint the rail reports power good at the new value, so KT may move
  to the higher point and the old window of R397 is dropped. (R168) -/
  | setpointPowerGood (rail : Fin 24)
  /-- An SPDM 1.2 request arrives over DOE on a PF and is answered, with the SPDM error Busy for signing
  requests while the vault is Tripped. (R279) -/
  | spdmRequest (host : Fin 2) (request : List Byte)
  /-- A host configuration write sets Bus Master Enable, VF Enable, NumVFs, the D0 state, Enable Relaxed
  Ordering or the MSI-X mask, changing which functions are eligible for binding and how DMA and interrupts
  behave. (R274) -/
  | configurationWrite (host : Fin 2) (fn : Fin 32) (write : CfgWrite)
  /-- Zeroing of a granule, or of spill memory, ends after a teardown or region free, and the granule returns to
  the pool or to the partition's free bound granules. (R157) -/
  | granuleCleared (granule : Fin 320)
  /-- The management core finishes resuming from its last committed state after a checker mismatch, and held fan
  and axis outputs and an abandoned calibration run resume. (R109) -/
  | managementCoreResumed
  /-- PLL-A locks to AREF and KA moves from RO-A to PLL-A, ending the RO-A timing of R443 and R56. (R58) -/
  | pllALock
  /-- The vault crystal first reaches its amplitude after a power-on, up to 2 s later, and time can become
  valid. (R58) -/
  | crystalAmplitudeReached
  /-- A Function Level Reset completes, within 10 ms, and the function answers configuration requests again.
  (R278) -/
  | flrComplete (host : Fin 2) (fn : Fin 32)
  /-- The test access port returns to Test-Logic-Reset through TRST# or TMS, which is required before a device
  restart can return the main domain to service. (R530) -/
  | testLogicReset
  deriving DecidableEq, Repr

end Sys2Proof
end

