-- ==== Sys2Proof/Decode.lean ====
section
/-! DEFINITION. The commands of the N48 have no encoding of their own in words: every row of the opcode table has an empty
list of bit fields. -/

namespace Sys2Proof

/-- The command that a word spells by the table's bits: none, since no row of the table gives bits. -/
def decodeTableWord (_nbits _w : Nat) : Option Instr := none

end Sys2Proof
end

