-- ==== Sys2Proof/Machine/Table.lean ====
section
/-! DEFINITION. Sparse tables by number, and memory as a list of address and byte pairs in one canonical form. -/

namespace Sys2Proof.Machine

open Sys2Proof

/-- A table by number: strictly rising keys, one entry a key. A key with no entry reads as the default its
reader names. -/
abbrev Tbl (α : Type) := List (Nat × α)

/-- The entry under a key. -/
def Tbl.get? {α : Type} : Tbl α → Nat → Option α
  | [], _ => none
  | (k', v) :: t, k => if k = k' then some v else Tbl.get? t k

/-- The entry under a key, or the value an absent key reads as. -/
def Tbl.getD {α : Type} (t : Tbl α) (k : Nat) (d : α) : α := (Tbl.get? t k).getD d

/-- The table with one entry set, keys kept rising. -/
def Tbl.set {α : Type} : Tbl α → Nat → α → Tbl α
  | [], k, v => [(k, v)]
  | (k', v') :: t, k, v =>
    if k < k' then (k, v) :: (k', v') :: t
    else if k = k' then (k, v) :: t
    else (k', v') :: Tbl.set t k v

/-- The table without an entry. -/
def Tbl.erase {α : Type} (t : Tbl α) (k : Nat) : Tbl α := t.filter (fun e => e.1 != k)

/-- One entry changed by a function, from the default where it is absent. -/
def Tbl.modify {α : Type} (t : Tbl α) (k : Nat) (d : α) (f : α → α) : Tbl α :=
  Tbl.set t k (f (Tbl.getD t k d))

/-- Every listed entry changed by a function of its key and value. -/
def Tbl.mapAll {α β : Type} (t : Tbl α) (f : Nat → α → β) : Tbl β := t.map (fun e => (e.1, f e.1 e.2))

/-- How many entries satisfy a test. -/
def Tbl.count {α : Type} (t : Tbl α) (f : Nat → α → Bool) : Nat := (t.filter (fun e => f e.1 e.2)).length

/-- The keys whose entries satisfy a test, rising. -/
def Tbl.keysWhere {α : Type} (t : Tbl α) (f : Nat → α → Bool) : List Nat :=
  (t.filter (fun e => f e.1 e.2)).map (fun e => e.1)

/-- The keys of a list of pairs rise strictly. -/
def Tbl.sorted {α : Type} : Tbl α → Bool
  | [] => true
  | (k, _) :: t => (match t with | [] => true | (k', _) :: _ => decide (k < k')) && Tbl.sorted t

/-- Node memory: address and byte pairs, addresses strictly rising, no entry 0. An unlisted address reads 0,
because start-up self-test writes every word of node memory in service with zero (R232). -/
abbrev Mem := List (Nat × Byte)

/-- What an address of node memory holds. -/
def Mem.read (m : Mem) (a : Nat) : Byte := Tbl.getD m a 0

/-- One byte written; writing 0 removes the entry. -/
def Mem.write (m : Mem) (a : Nat) (b : Byte) : Mem :=
  if b = 0 then Tbl.erase m a else Tbl.set m a b

/-- Consecutive bytes read from an address upward. -/
def Mem.readBytes (m : Mem) : Nat → Nat → List Byte
  | _, 0 => []
  | a, n + 1 => Mem.read m a :: Mem.readBytes m (a + 1) n

/-- Consecutive bytes written from an address upward. -/
def Mem.writeBytes (m : Mem) : Nat → List Byte → Mem
  | _, [] => m
  | a, b :: bs => Mem.writeBytes (Mem.write m a b) (a + 1) bs

/-- Every byte from `a` up to `a + n` cleared to zero (R157). -/
def Mem.clear (m : Mem) (a n : Nat) : Mem := m.filter (fun e => !(decide (a ≤ e.1) && decide (e.1 < a + n)))

/-- The canonical form of memory: addresses strictly rising and no entry 0. -/
def Mem.wf (m : Mem) : Bool := Tbl.sorted m && m.all (fun e => e.2 != 0)

/-- A list's bytes from an offset, padded with zeros to a length. -/
def slice (bs : List Byte) (off n : Nat) : List Byte :=
  let t := (bs.drop off).take n
  t ++ List.replicate (n - t.length) 0

/-- The little-endian field of a structure at an offset (R12); bytes beyond the structure read 0. -/
def field (bs : List Byte) (off n : Nat) : Nat := leNat (slice bs off n)

/-- Bits [hi:lo] of a number. -/
def bits (v hi lo : Nat) : Nat := v / 2 ^ lo % 2 ^ (hi + 1 - lo)

/-- Bit `i` of a number. -/
def bit (v i : Nat) : Bool := v / 2 ^ i % 2 == 1

/-- A bit as a number. -/
def b2n (b : Bool) : Nat := if b then 1 else 0

/-- A number with bit `i` set. -/
def setBit (v i : Nat) : Nat := if bit v i then v else v + 2 ^ i

/-- A number with bit `i` cleared. -/
def clearBit (v i : Nat) : Nat := if bit v i then v - 2 ^ i else v

/-- The number whose bits below `n` a test gives. -/
def maskOf (n : Nat) (f : Nat → Bool) : Nat := ((List.range n).map (fun i => if f i then 2 ^ i else 0)).sum

/-- A two's-complement field of `n` bits read as an integer. -/
def toSigned (v n : Nat) : Int := if v % 2 ^ n < 2 ^ (n - 1) then (v % 2 ^ n : Int) else (v % 2 ^ n : Int) - (2 ^ n : Int)

/-- An integer as a two's-complement field of `n` bits. -/
def ofSigned (v : Int) (n : Nat) : Nat := (v % (2 ^ n : Int)).toNat

/-- A count raised by `k` that holds at the top of its width. -/
def satAdd (width v k : Nat) : Nat := min (v + k) (2 ^ width - 1)

/-- The least multiple count: the ceiling of a quotient. -/
def ceilDiv (a b : Nat) : Nat := (a + b - 1) / b

/-- Bytes with the bytes from an offset replaced. -/
def splice (bs : List Byte) (off : Nat) (new : List Byte) : List Byte :=
  slice bs 0 off ++ new ++ bs.drop (off + new.length)

/-- Whether every byte is zero. -/
def allZero (bs : List Byte) : Bool := bs.all (fun b => b == 0)

/-- Byte by byte exclusive or. -/
def xorBytes (a b : List Byte) : List Byte := List.zipWith (fun x y => x ^^^ y) a b

end Sys2Proof.Machine
end

