-- ==== Sys2Proof/Machine/Checks.lean ====
section
/-! DEFINITION. The cyclic redundancy checks of the spec, bit by bit from their polynomials (R63, R442). -/

namespace Sys2Proof.Machine

open Sys2Proof

/-- One reflected CRC-32 step per bit, polynomial given reflected. -/
def crc32Bits (poly : BitVec 32) : Nat → BitVec 32 → BitVec 32
  | 0, c => c
  | n + 1, c => crc32Bits poly n (if c.getLsbD 0 then (c >>> 1) ^^^ poly else c >>> 1)

/-- CRC-32 reflected in and out, initial value and final exclusive or all ones. -/
def crc32With (poly : BitVec 32) (bs : List Byte) : BitVec 32 :=
  ~~~ (bs.foldl (fun c b => crc32Bits poly 8 (c ^^^ b.setWidth 32)) (0xFFFFFFFF : BitVec 32))

/-- The payload CRC: CRC-32C, polynomial 0x1EDC_6F41, reflected (R63). -/
def crc32c (bs : List Byte) : BitVec 32 := crc32With 0x82F63B78 bs

/-- The frame check sequence of IEEE 802.3, polynomial 0x04C1_1DB7, reflected (R284, R285). PRESUMED: the
polynomial is the published standard's. Log 5. -/
def crc32Ethernet (bs : List Byte) : BitVec 32 := crc32With 0xEDB88320 bs

/-- One unreflected CRC-16 step per bit, polynomial 0x1021. -/
def crc16Bits : Nat → BitVec 16 → BitVec 16
  | 0, c => c
  | n + 1, c => crc16Bits n (if c.getLsbD 15 then (c <<< 1) ^^^ 0x1021 else c <<< 1)

/-- The header CRC: polynomial 0x1021, unreflected, initial value 0xFFFF, no final exclusive or (R63). -/
def crc16 (bs : List Byte) : BitVec 16 :=
  bs.foldl (fun c b => crc16Bits 8 (c ^^^ ((b.setWidth 16 : BitVec 16) <<< 8))) (0xFFFF : BitVec 16)

/-- One CRC-8 step per bit, polynomial x⁸ + x² + x + 1. -/
def crc8Bits : Nat → BitVec 8 → BitVec 8
  | 0, c => c
  | n + 1, c => crc8Bits n (if c.getLsbD 7 then (c <<< 1) ^^^ 0x07 else c <<< 1)

/-- The PEC of SMBus, initial value 0 (R442). -/
def crc8 (bs : List Byte) : Byte := bs.foldl (fun c b => crc8Bits 8 (c ^^^ b)) 0

end Sys2Proof.Machine
end

