-- ==== Sys2Proof/Machine/Digests.lean ====
section
/-! DEFINITION. The digest algorithms the spec names (R342): SHA-256, SHA-384, SHA-512 (FIPS 180-4), SHA3-256,
SHA3-512 (FIPS 202) and HMAC. The spec names the published standards and does not print them: PRESUMED, log 5. -/

namespace Sys2Proof.Machine

open Sys2Proof

/-- A list cut into pieces of `n`; `fuel` bounds the pieces. -/
def chunksFuel {α : Type} (n : Nat) : Nat → List α → List (List α)
  | 0, _ => []
  | _, [] => []
  | f + 1, l => l.take n :: chunksFuel n f (l.drop n)

/-- A list cut into pieces of `n`, the last one perhaps shorter. -/
def chunks {α : Type} (n : Nat) (l : List α) : List (List α) := chunksFuel n (l.length + 1) l

/-- SHA-2 over words of `w` bits: rotation and shift amounts of the four functions (Σ0, Σ1, σ0, σ1). -/
structure ShaForm where
  w : Nat
  s0 : Nat × Nat × Nat
  s1 : Nat × Nat × Nat
  g0 : Nat × Nat × Nat
  g1 : Nat × Nat × Nat

def sha256Form : ShaForm := ⟨32, (2, 13, 22), (6, 11, 25), (7, 18, 3), (17, 19, 10)⟩
def sha512Form : ShaForm := ⟨64, (28, 34, 39), (14, 18, 41), (1, 8, 7), (19, 61, 6)⟩

def bigSigma {w : Nat} (r : Nat × Nat × Nat) (x : BitVec w) : BitVec w :=
  x.rotateRight r.1 ^^^ x.rotateRight r.2.1 ^^^ x.rotateRight r.2.2

def smallSigma {w : Nat} (r : Nat × Nat × Nat) (x : BitVec w) : BitVec w :=
  x.rotateRight r.1 ^^^ x.rotateRight r.2.1 ^^^ (x >>> r.2.2)

/-- The message schedule kept newest first: `n` further words from the last sixteen. -/
def shaExtend {w : Nat} (g0 g1 : Nat × Nat × Nat) : Nat → List (BitVec w) → List (BitVec w)
  | 0, ws => ws
  | n + 1, ws =>
    shaExtend g0 g1 n
      ((smallSigma g1 (ws.getD 1 0) + ws.getD 6 0 + smallSigma g0 (ws.getD 14 0) + ws.getD 15 0) :: ws)

/-- One round over the eight working variables. -/
def shaRound {w : Nat} (f1 f0 : Nat × Nat × Nat) (v : List (BitVec w)) (kw : BitVec w × BitVec w) : List (BitVec w) :=
  match v with
  | [a, b, c, d, e, f, g, h] =>
    let t1 := h + bigSigma f1 e + ((e &&& f) ^^^ (~~~ e &&& g)) + kw.1 + kw.2
    let t2 := bigSigma f0 a + ((a &&& b) ^^^ (a &&& c) ^^^ (b &&& c))
    [t1 + t2, a, b, c, d + t1, e, f, g]
  | _ => v

/-- One compression: the chaining words and a block of sixteen words. -/
def shaCompress {w : Nat} (s0 s1 g0 g1 : Nat × Nat × Nat) (ks : List (BitVec w)) (hs block : List (BitVec w)) :
    List (BitVec w) :=
  let ws := (shaExtend g0 g1 (ks.length - 16) block.reverse).reverse
  List.zipWith (fun x y => x + y) hs ((List.zip ks ws).foldl (shaRound s1 s0) hs)

/-- Newton's step for the `k`-th root of `n` from a value not below it, until it no longer falls: the integer part of the root. -/
def rootDown (k n : Nat) : Nat → Nat → Nat
  | 0, x => x
  | f + 1, x =>
    let y := ((k - 1) * x + n / x ^ (k - 1)) / k
    if y < x then rootDown k n f y else x

/-- The first 64 bits of the fractional part of the `k`-th root of a prime below 512. -/
def rootFraction (k p : Nat) : BitVec 64 := BitVec.ofNat 64 (rootDown k (p * 2 ^ (64 * k)) 48 (2 ^ 70))

/-- The first eighty primes, from which the standard takes its constants. -/
def firstPrimes : List Nat := (List.range 410).filter (fun n => decide (2 ≤ n) && (List.range 20).all (fun d => d < 2 || n ≤ d || n % d != 0))

/-- The round constants of SHA-512: fractions of cube roots. -/
def sha512K : List (BitVec 64) := firstPrimes.map (rootFraction 3)

/-- Those of SHA-256: the upper halves of the first 64 of them. -/
def sha256K : List (BitVec 32) := (sha512K.take 64).map (fun x => x.extractLsb' 32 32)

/-- The initial values of SHA-512: fractions of the square roots of the first eight primes. -/
def sha512Init : List (BitVec 64) := (firstPrimes.take 8).map (rootFraction 2)

/-- Those of SHA-384: the same of the next eight. -/
def sha384Init : List (BitVec 64) := ((firstPrimes.drop 8).take 8).map (rootFraction 2)

/-- Those of SHA-256: the upper halves of SHA-512's. -/
def sha256Init : List (BitVec 32) := sha512Init.map (fun x => x.extractLsb' 32 32)

/-- The FIPS 180-4 padding of a message of `total` bytes whose last `rest` bytes stand in the partial block:
block size in bytes and length field in bytes. -/
def shaPad (block lenBytes total : Nat) (rest : List Byte) : List Byte :=
  let zeros := (block - (rest.length + 1 + lenBytes) % block) % block
  rest ++ [0x80] ++ List.replicate zeros 0 ++ beBytes lenBytes (8 * total)

def words (w : Nat) (bs : List Byte) : List (BitVec w) := (chunks (w / 8) bs).map (fun c => BitVec.ofNat w (beNat c))

def unwords {w : Nat} (ws : List (BitVec w)) : List Byte := (ws.map (fun x => beBytes (w / 8) x.toNat)).flatten

/-- SHA-256 compression of a list of whole blocks from given chaining words. -/
def sha256Blocks (hs : List (BitVec 32)) (bs : List Byte) : List (BitVec 32) :=
  (chunks 64 bs).foldl
    (fun h b => shaCompress sha256Form.s0 sha256Form.s1 sha256Form.g0 sha256Form.g1 sha256K h (words 32 b)) hs

/-- SHA-512 compression of a list of whole blocks from given chaining words. -/
def sha512Blocks (hs : List (BitVec 64)) (bs : List Byte) : List (BitVec 64) :=
  (chunks 128 bs).foldl
    (fun h b => shaCompress sha512Form.s0 sha512Form.s1 sha512Form.g0 sha512Form.g1 sha512K h (words 64 b)) hs

/-- SHA-256 of a byte string. -/
@[irreducible] def sha256 (m : List Byte) : List Byte := unwords (sha256Blocks sha256Init (shaPad 64 8 m.length m))

/-- SHA-512 of a byte string. -/
@[irreducible] def sha512 (m : List Byte) : List Byte := unwords (sha512Blocks sha512Init (shaPad 128 16 m.length m))

/-- SHA-384 of a byte string. -/
@[irreducible] def sha384 (m : List Byte) : List Byte :=
  (unwords (sha512Blocks sha384Init (shaPad 128 16 m.length m))).take 48

/-- The round constants of Keccak-f[1600]. -/
def keccakRc : List (BitVec 64) :=
  [0x0000000000000001, 0x0000000000008082, 0x800000000000808a, 0x8000000080008000, 0x000000000000808b,
   0x0000000080000001, 0x8000000080008081, 0x8000000000008009, 0x000000000000008a, 0x0000000000000088,
   0x0000000080008009, 0x000000008000000a, 0x000000008000808b, 0x800000000000008b, 0x8000000000008089,
   0x8000000000008003, 0x8000000000008002, 0x8000000000000080, 0x000000000000800a, 0x800000008000000a,
   0x8000000080008081, 0x8000000000008080, 0x0000000080000001, 0x8000000080008008]

/-- The rotation offsets of ρ, lane x + 5y. -/
def keccakRot : List Nat :=
  [0, 1, 62, 28, 27, 36, 44, 6, 55, 20, 3, 10, 43, 25, 39, 41, 45, 15, 21, 8, 18, 2, 61, 56, 14]

/-- One round of Keccak-f[1600] over 25 lanes. -/
def keccakRound (a : List (BitVec 64)) (rc : BitVec 64) : List (BitVec 64) :=
  let c := (List.range 5).map (fun x => a.getD x 0 ^^^ a.getD (x + 5) 0 ^^^ a.getD (x + 10) 0 ^^^ a.getD (x + 15) 0 ^^^ a.getD (x + 20) 0)
  let d := (List.range 5).map (fun x => c.getD ((x + 4) % 5) 0 ^^^ (c.getD ((x + 1) % 5) 0).rotateLeft 1)
  let t := (List.range 25).map (fun i => (a.getD i 0 ^^^ d.getD (i % 5) 0).rotateLeft (keccakRot.getD i 0))
  -- π: lane (y, 2x + 3y) takes lane (x, y)
  let p := (List.range 25).map (fun i => let y := i % 5; let z := i / 5; t.getD ((y + 3 * z) % 5 + 5 * y) 0)
  let q := (List.range 25).map (fun i =>
    let x := i % 5; let y := 5 * (i / 5)
    p.getD i 0 ^^^ (~~~ (p.getD ((x + 1) % 5 + y) 0) &&& p.getD ((x + 2) % 5 + y) 0))
  match q with
  | h :: tl => (h ^^^ rc) :: tl
  | [] => []

def keccakF (a : List (BitVec 64)) : List (BitVec 64) := keccakRc.foldl keccakRound a

/-- A 200-byte state as 25 little-endian lanes. -/
def lanes (bs : List Byte) : List (BitVec 64) := (chunks 8 bs).map (fun c => BitVec.ofNat 64 (leNat c))

def unlanes (a : List (BitVec 64)) : List Byte := (a.map (fun x => leBytes 8 x.toNat)).flatten

/-- Absorption of one block of `rate` bytes into a 200-byte state. -/
def keccakAbsorb (st block : List Byte) : List Byte :=
  unlanes (keccakF (lanes (xorBytes st (slice block 0 200))))

/-- FIPS 202 padding of the last partial block, domain suffix 01. -/
def sha3Pad (rate : Nat) (rest : List Byte) : List Byte :=
  let t := rest ++ [0x06] ++ List.replicate (rate - 1 - rest.length) 0
  t.dropLast ++ [(t.getLastD 0) ^^^ 0x80]

def sha3 (rate out : Nat) (m : List Byte) : List Byte :=
  let whole := m.length / rate * rate
  let st := (chunks rate (m.take whole)).foldl keccakAbsorb (List.replicate 200 0)
  (keccakAbsorb st (sha3Pad rate (m.drop whole))).take out

@[irreducible] def sha3of256 (m : List Byte) : List Byte := sha3 136 32 m
@[irreducible] def sha3of512 (m : List Byte) : List Byte := sha3 72 64 m

/-- A key brought to the block size of its hash and masked (RFC 2104). -/
def hmacPad (block : Nat) (hash : List Byte → List Byte) (key : List Byte) (mask : Byte) : List Byte :=
  (slice (if key.length > block then hash key else key) 0 block).map (fun b => b ^^^ mask)

/-- HMAC over a hash with the given block size. -/
def hmac (block : Nat) (hash : List Byte → List Byte) (key msg : List Byte) : List Byte :=
  hash (hmacPad block hash key 0x5C ++ hash (hmacPad block hash key 0x36 ++ msg))

def hmacSha256 (key msg : List Byte) : List Byte := hmac 64 sha256 key msg

/-- `T(x)`: the first 16 bytes of SHA-256 (R87). -/
def digestT (x : List Byte) : List Byte := (sha256 x).take 16

end Sys2Proof.Machine
end

