-- ==== Sys2Proof/Config.lean ====
section
/-! DEFINITION. What the spec leaves open and what a particular N48 fixes: constants and functions with no
body, so that no proof can see a value (assumption log 1, 2, 3, 4 and 47). -/

namespace Sys2Proof.Config

open Sys2Proof

/-- The `n`-th byte of the internal random source, which the spec says no partition can read or influence
(R186), and of every other value the spec leaves open. Log 1. DESIGN CHOICE. -/
opaque freeByte : Nat → Byte

/-- The `n`-th open number of the spec (a value the spec does not state). Log 1. DESIGN CHOICE. -/
opaque freeNat : Nat → Nat

/-- The vendor identifier PCI-SIG assigned to Uavastad, which the spec does not give (R273). Log 2. -/
opaque vendorId : BitVec 16

/-- The 16-byte device identifier the device identity command reports (0x0001), not given. Log 2. -/
opaque deviceIdentifier : Nat → Byte

/-- The fused unique device secret, from which the ledger key and the SPDM leaf key are derived (R372).
How they are derived is not given. Log 2. -/
opaque ledgerKeyByte : Nat → Byte

/-- The instruction code event 0x0A40 reports for a boundary-scan instruction: the spec does not give the
instruction codes of the 8-bit instruction register (R528, R530). Log 2. -/
opaque scanCode : Nat → Byte

/-- The open number the private key of the SPDM leaf (R279) is made from: how it is derived from the unique device secret is not
given. Log 3. -/
opaque leafPrivate : Nat

/-- The open number the nonce of the ECDSA signature of a draw is made from. Log 3. -/
opaque signatureNonce : Nat → Nat

/-- The open number the transport private key of a draw (R339) is made from. Log 3. -/
opaque transportPrivate : Nat → Nat

/-- What a model layer computes from its inputs (byte `i` of the output of the run named by the first
argument): the spec does not say which operation a layer performs (R206a, R216). Log 4. -/
opaque layerOutput : Nat → Nat → Byte

/-- The SPDM measurement digests (R279): byte `i` of the digest of a block over what it measures, given as the block's index
and the state it covers. What exactly is hashed is not given. Log 2. -/
opaque measurement : Nat → List Nat → Nat → Byte

/-- The certificate chain of SPDM slot 0 (R279), from the Uavastad device root to the leaf: its length and its bytes. Log 2. -/
opaque certificateLength : Nat
opaque certificateByte : Nat → Byte

/-- The header bytes of a telemetry frame that the spec does not give (R288, R289): destination and source MAC address of a
port (12 bytes), then type of service, identification and time to live of its IP header. Log 2. -/
opaque telemetryHeader : Nat → Nat → Byte

/-- The code of an FP8 output whose value lies above the format's largest, given the format (4 E4M3, 5 E5M2) and its sign: R175
gives no overflow for the outputs of the vector lanes. Log 47. -/
opaque fp8Overflow : Nat → Bool → Nat

/-- The codes of a block-scaled output block that holds an infinity or a NaN, and the shared scale of a block of zeros or of such
a block, given the output format and the FP32 codes of the block: R175 leaves them open. Log 47. -/
opaque mxCode : Nat → List Nat → Nat → Nat
opaque mxScale : Nat → List Nat → Nat

end Sys2Proof.Config
end

