-- ==== Sys2Proof/Machine/State.lean ====
section
/-! DEFINITION. The state of the N48: every register, store, table, counter, mode and pin the spec gives it, and
the queue of commands that wait. Plain data. -/

namespace Sys2Proof.Machine

open Sys2Proof

/-- The 17 status codes (R16). -/
inductive Status where
  | ok | accepted | booting | busy | refused | footprint | budget | quota | absent | hung | recovered | lasting
  | cancelled | timeout | badCommand | badParameter | integrity
  deriving DecidableEq, Repr

/-- Why the machine stops. -/
inductive Fault where
  /-- Raised by PARCEL_CHECK when the queue class and number it names are no queue of R48. Safe: the machine stops. -/
  | noSuchQueue
  deriving DecidableEq, Repr

/-- Why a command is not carried out. -/
inductive Refusal where
  /-- The command has no meaning in the model: raised by an arm of `exec`. Safe: the machine stops. -/
  | notModelled (mnemonic : String)
  deriving DecidableEq, Repr

/-- An event as it arose, before a ring gives it a number (R144). -/
structure Event where
  code : Nat
  /-- Flag [1] of the ring entry. -/
  fault : Bool
  subject : Nat
  /-- Main timebase in ns, or RTC time in ns for an event of the always-on or vault domain while main was off. -/
  time : Nat
  seq : Nat
  opcode : Nat
  slot : Nat
  /-- 64 bits, laid out by event code. -/
  detail : Nat
  deriving DecidableEq, Repr

/-- An event ring: its control registers (R143), its counts (R144, R146) and its backlog. -/
structure EventRing where
  base : Nat
  control : Nat
  producer : Nat
  consumer : Nat
  /-- Lost events, 32 bits, holds at the top. -/
  lost : Nat
  /-- The number the next entry takes. -/
  number : Nat
  /-- The phase bit the next entry carries. -/
  phase : Bool
  backlog : List Event
  /-- Events lost since the last events-lost event. -/
  lostSince : Nat
  deriving DecidableEq, Repr

def EventRing.init : EventRing := ⟨0, 0, 0, 0, 0, 1, true, [], 0⟩

/-- The states of a partition (R131). -/
inductive PartitionState where
  | free | active | quiesced | tearing
  deriving DecidableEq, Repr

/-- Where a request stands (R139). `waiting` is decided with its completion begun and held back by a full ring or
by a quiesce (R85, R139). -/
inductive Phase where
  | free | registered | refusing | running | decided | waiting
  deriving DecidableEq, Repr

/-- What a decided command leaves: status, result bytes and the sealed receipt (R85, R86, R135). -/
structure Ending where
  status : Status
  result : List Byte
  receipt : List Byte
  /-- Response flags [1]: a first response returned under R118. -/
  returned : Bool
  /-- Response flags [2] and receipt flags [2] (R89). -/
  reexecuted : Bool
  deriving DecidableEq, Repr

/-- One request slot's command (R136, R139). -/
structure Slot where
  phase : Phase
  /-- The 128 bytes copied at registration. -/
  request : List Byte
  /-- Time of registration (ns). -/
  at_ : Nat
  /-- Grant mask in force at registration (R151). -/
  grant : Nat
  busy : Bool
  held : Bool
  inRepair : Bool
  /-- T was extended once (R114). -/
  extended : Bool
  /-- Past its point of no return (R141). -/
  pastReturn : Bool
  /-- A layer retried and passed: the command ends with RECOVERED (R106). -/
  retried : Bool
  /-- A layer beneath retried for it and passed: RECOVERED without a second attempt of its own (R106, R111). -/
  lower : Bool
  refusal : Nat
  ending : Option Ending
  /-- Tile passes that passed and partner results checked (R86). -/
  picots : Nat
  checks : Nat
  /-- What a command that runs over several steps has still to do, and what it has read (chapter by chapter). -/
  job : List Nat
  inputs : List (List Byte)
  /-- Its effect is under way and ends in a later step. -/
  begun : Bool
  /-- Its sequence number entered the history with it (R117). -/
  inHistory : Bool
  /-- T in µs, known from the command's start (R112, R135). -/
  limitUs : Nat
  /-- The hop on which a parcel of it was lost and the work re-executed (R68, R106). -/
  lostHop : Option Nat
  /-- The layer of R111 that retries while the command is in repair: 1 link, 2 memory, 3 operation, 4 device. -/
  layer : Nat
  /-- B_op in ns, known from the command's start, and what T was extended by (R111, R114). -/
  budgetNs : Nat
  extraNs : Nat
  /-- The tag of its response slot's storage names another partition (R160). -/
  mistagged : Bool
  deriving DecidableEq, Repr

def Slot.empty : Slot :=
  ⟨.free, [], 0, 0, false, false, false, false, false, false, false, 0, none, 0, 0, [], [], false, false, 0, none, 0, 0, 0, false⟩

/-- What the sequence history keeps of a number (R117): in flight, or completed with its digest, status, result
bytes and first receipt (R118). -/
inductive HistEntry where
  | inFlight
  | completed (digest : List Byte) (status : Status) (result : List Byte) (receipt : List Byte)
  deriving DecidableEq, Repr

/-- The sequence history of a partition (R117): the highest number accepted, and the window. -/
structure History where
  high : Option Nat
  seen : Tbl HistEntry
  deriving DecidableEq, Repr

def History.init : History := ⟨none, []⟩

/-- States of a digest context (R342). -/
inductive DigestState where
  | idle | absorbing | done | overrun
  deriving DecidableEq, Repr

/-- One digest context with its registers (R342–R348). -/
structure DigestCtx where
  state : DigestState
  busy : Bool
  alg : Nat
  keySlot : Nat
  result : Nat
  /-- Message length so far in bytes. -/
  length : Nat
  /-- Bytes not yet compressed. -/
  buffer : List Byte
  /-- Chaining bytes. -/
  chain : List Byte
  /-- Outer pad state of a keyed context. -/
  outer : List Byte
  tail : List Byte
  digest : List Byte
  saved : List Byte
  /-- What the running busy time ends with: 0 nothing, 1 block, 2 HMAC initialisation, 3 export, 4 import, 5 finish. -/
  pendingWork : Nat
  /-- When busy was set. -/
  since : Nat
  deriving DecidableEq, Repr

def DigestCtx.init : DigestCtx := ⟨.idle, false, 0, 0, 0, 0, [], [], [], [], [], [], 0, 0⟩

/-- One receive ring of a partition (R483). -/
structure RxRing where
  log2 : Nat
  base : Nat
  tail : Nat
  head : Nat
  /-- Descriptors posted and not filled: buffer address and length. -/
  posted : List (Nat × Nat)
  deriving DecidableEq, Repr

/-- A partition's quotas (R150): granules of units 0–8, spill GiB, sync objects, waiters, key slots, convoys. -/
structure Quotas where
  granules : List Nat
  spill : Nat
  sync : Nat
  waiters : Nat
  keys : Nat
  convoys : Nat
  deriving DecidableEq, Repr

/-- A teardown under way (R156): the slot that asked, whether the partition was Active, and its counts. -/
structure Teardown where
  by_ : Nat
  at_ : Nat
  wasActive : Bool
  cancelled : Nat
  own : Nat
  granules : Nat
  discarded : Nat
  expired : Bool
  /-- Its resources have been released, and clearing runs. -/
  released : Bool
  deriving DecidableEq, Repr

/-- Partition state: registers of the window (R131), what creation fixed (R148), and its stores. -/
structure Partition where
  state : PartitionState
  port : Nat
  fn : Nat
  spillMode : Bool
  grant : Nat
  deadlineUs : Nat
  clusterMask : Nat
  quotas : Quotas
  receiptKey : Option (List Byte)
  epoch : Nat
  lastEpoch : Nat
  wrapKey : List Byte
  /-- The next receipt number (R86, R96). -/
  receiptNo : Nat
  moderation : Nat
  discards : Nat
  receiptBase : Nat
  receiptSize : Nat
  receiptProducer : Nat
  receiptConsumer : Nat
  /-- The request slots as the host wrote them: offset in 0x1000–0x1FFF and byte. -/
  requestBytes : Mem
  /-- The response slots: offset in 0x2000–0x27FF and byte. -/
  responseBytes : Mem
  slots : Tbl Slot
  /-- Slots decided, in the order their receipts were sealed. -/
  sealOrder : List Nat
  events : EventRing
  history : History
  digests : Tbl DigestCtx
  rings : Tbl RxRing
  /-- Pending MSI-X raises, and when the holdoff began (R142). -/
  raises : Nat
  holdoffFrom : Option Nat
  teardown : Option Teardown
  /-- Export counter of the context-wrap key (R348). -/
  exports : Nat
  /-- Partition control [0]: set by the write of 1 that re-enables the partition (R131; log 61). -/
  control : Nat
  deriving DecidableEq, Repr

def Quotas.none : Quotas := ⟨List.replicate 9 0, 0, 0, 0, 0, 8⟩

/-- A partition that does not exist (R148); also what creation starts from, and the reset values of the window. -/
def Partition.absent : Partition :=
  ⟨.free, 0, 0, false, 0, 20, 0xFF, Quotas.none, none, 0, 0, [], 1, 1, 0, 0, 0, 0, 0, [], [], [], [], EventRing.init,
    History.init, [], [], 0, none, none, 0, 0⟩

/-- What the last step sent out of the device. -/
inductive Output where
  /-- A posted write to host memory through the host gate, with the requester ID of a function (R275) and its Relaxed
  Ordering attribute (R276). -/
  | hostWrite (port fn : Nat) (relaxed : Bool) (addr : Nat) (bytes : List Byte)
  /-- An MSI-X message of a function's entry 0 (R142). -/
  | msix (port fn : Nat)
  /-- A link parcel sent on a partner port: link type and payload. -/
  | parcel (port kind : Nat) (bytes : List Byte)
  /-- A PAUSE or PFC frame: XOFF or XON for a priority (R285). -/
  | flow (port priority : Nat) (xoff : Bool)
  /-- A frame sent on a network port. -/
  | frame (port : Nat) (bytes : List Byte)
  /-- An NVMe command to a drive: opcode, namespace, first LBA, bytes, data written. -/
  | nvme (link opcode ns lba len : Nat) (data : List Byte)
  /-- A two-wire transaction on a bus: address, bytes written, bytes read. -/
  | twoWire (bus addr : Nat) (written : List Byte) (readLen : Nat)
  /-- What a TWT Block Read returns (R453). -/
  | twt (bytes : List Byte)
  /-- Bytes written to the flash copy not in use (R507). -/
  | flash (copy off : Nat) (bytes : List Byte)
  /-- An answer to a data object exchange request on a function (R279). -/
  | doe (port fn : Nat) (bytes : List Byte)
  deriving DecidableEq, Repr

/-- A clock domain (R37, R51–R56): its clock runs, it is held in reset, a restart runs, it is fenced. -/
structure Domain where
  clock : Bool
  inReset : Bool
  restarting : Bool
  fenced : Bool
  deriving DecidableEq, Repr

/-- A domain that has not started: no clock, held in reset (R58). -/
def Domain.off : Domain := ⟨false, true, false, false⟩

/-- The Gray code of a pointer (R41). -/
def grayOf (v : Nat) : Nat := v ^^^ (v / 2)

/-- Whether a number has an odd count of ones among its low 16 bits. -/
def oddOnes (v : Nat) : Bool := (List.range 16).foldl (fun b i => b != (v / 2 ^ i % 2 == 1)) false

/-- A pointer as it crosses (R41): Gray code, modulo twice the depth, with an odd parity bit at [16]. -/
def pointerWord (depth v : Nat) : Nat :=
  let g := grayOf (v % (2 * depth))
  g + if oddOnes g then 0 else 65536

/-- One queue of a class (R41, R45–R53, R57): the producer's credit counter, the cumulative counts of units sent and of
entries freed (16 bits), the freed count the producer last sampled, the entries occupied, the units a consumer in reset has
not read (R52), the entries that a lasting fault has made unusable (R46: none, as no rule says how one comes to be known, so every
grant keeps them occupied and none adds to them; log 57), since when the producer holds a unit without credit, the
pointers as they cross, and what the rules remember. -/
structure Queue where
  granted : Bool
  credit : Nat
  sent : Nat
  freed : Nat
  sampled : Nat
  occupied : Nat
  stallReported : Bool
  lastFault : Option Nat
  fenced : Bool
  units : List (List Byte)
  unusable : Nat
  stallFrom : Option Nat
  writeWord : Nat
  readWord : Nat
  deriving DecidableEq, Repr

/-- A queue before its first grant: credit zero (R59), both pointers zero. -/
def Queue.init : Queue :=
  ⟨false, 0, 0, 0, 0, 0, false, none, false, [], 0, none, pointerWord 1 0, pointerWord 1 0⟩

/-- A read from a partner's memory under way (R249, R256): port, partition and command sequence, tag, byte offset and length in
parcels, the parcels that have come, and the buffer space held for the whole response once the request has gone out. -/
structure PartnerRead where
  port : Nat
  partition : Nat
  cmd : Nat
  tag : Nat
  offset : Nat
  parcels : Nat
  got : Nat
  space : Option Nat
  deriving DecidableEq, Repr

/-- Convoy states (R79). -/
inductive ConvoyState where
  | free | opened | sealed | confirmed | cancelling
  deriving DecidableEq, Repr

/-- The instance a cause of cancellation counts under: its row in the table of R80. -/
def causeIndex : CancelCause → Nat
  | .ownCheck => 0 | .deadline => 1 | .portLeftRun => 2 | .inputFrame => 3 | .hostCancel => 4 | .ownTimeout => 5

/-- One convoy number (R74–R80). `owner` is partition × 32 + slot for a command convoy; frame convoys have none. -/
structure Convoy where
  state : ConvoyState
  generation : Bool
  attempt : Nat
  partition : Nat
  owner : Option Nat
  members : Nat
  /-- Own checks of members still awaited, and inputs still provisional (R77). -/
  checksOwed : Nat
  inputsOwed : Nat
  /-- Parcels sent on each partner port in this generation (R76). -/
  carried : Tbl Nat
  /-- Ports whose acknowledgement is awaited, with the time the parcel was sent (R84). -/
  acksOwed : Tbl Nat
  /-- Ports from which a result is awaited (R83). -/
  resultsOwed : List Nat
  cause : Option CancelCause
  /-- The cause of the first attempt, the resource that failed in it, and the one that failed in the second. -/
  firstCause : Option CancelCause
  firstResource : Nat
  resource : Nat
  deadlineAt : Option Nat
  extended : Bool
  /-- Ports whose acknowledgement timer was extended once (R114). -/
  ackExtended : List Nat
  inRepair : Bool
  /-- Parcels held at confirmation gates, in order, each with the queue whose entry it keeps (R28, R47). -/
  held : List (Nat × List Byte)
  /-- Sync updates held until confirmation: handle, value, and the partner port + 1 they came from, 0 for a command's own (R77, R221). -/
  signals : List (Nat × Nat × Nat)
  /-- When it opened (R216); tile passes and partner results of this attempt that passed their checks (R86). -/
  openedAt : Nat
  picots : Nat
  checks : Nat
  /-- Unit codes of its members: clusters and inline units that may see its provisional parcels (R65, R70). -/
  units : List Nat
  /-- A port has carried the most parcels a generation may (R91): it is sealed, and its command goes on in the next one. -/
  full : Bool
  /-- What the second copy of the convoy table shows (R93). -/
  copyState : ConvoyState
  copyGeneration : Bool
  /-- Reads from partner memory that its layer still needs, and the byte addresses of the buffers free for them (R249). -/
  reads : List PartnerRead
  spaces : List Nat
  /-- The tiles its passes ran on in this attempt, and those that the passes of the first attempt still have to run on again:
  cluster × 17 + physical tile (R190). -/
  tiles : List Nat
  planned : List Nat
  deriving DecidableEq, Repr

def Convoy.init : Convoy :=
  ⟨.free, false, 1, 0, none, 0, 0, 0, [], [], [], none, none, 0, 0, none, false, [], false, [], [], 0, 0, 0, [], false, .free,
    false, [], [], [], []⟩

/-- Every update of the convoy table is made in both copies (R93). -/
def Convoy.mirrored (c : Convoy) : Convoy := { c with copyState := c.state, copyGeneration := c.generation }

/-- The two copies of a convoy's entry agree (R93). -/
def Convoy.agrees (c : Convoy) : Bool := c.copyState == c.state && c.copyGeneration == c.generation

/-- Faults, counts and fences that outlive one operation (R99, R107, R110, R120). -/
structure Faults where
  /-- The management core's fault record: at most 64 entries (R99). -/
  record : List Event
  dropped : Nat
  /-- Times of transient faults per resource (group × 1,024 + index), kept for 24 h (R107). -/
  transients : Tbl (List Nat)
  /-- Resources whose advisory stands (R107). -/
  advised : List Nat
  /-- The fence map in vault memory: resources group × 1,024 + index (R110). -/
  fenceMap : List Nat
  /-- Other fenced units, which a restart of the main domain releases. -/
  mainFences : List Nat
  /-- Last convoy table mismatch (R93). -/
  tableMismatch : Option Nat
  /-- The management core is in its safe state, or resuming (R109). -/
  safeState : Bool
  resuming : Bool
  /-- Lockstep pairs in service (R109, R161). -/
  pairs : List Nat
  /-- The mailbox unit is fenced (R160). -/
  mailboxFenced : Bool
  /-- Start-up self-test was disabled or did not pass (R120 bit [3]). -/
  selfTestFailed : Bool
  scrubOff : Bool
  /-- Memory units whose full pass since scrub was enabled is not complete (R202). -/
  scrubOwed : List Nat
  /-- Quantities outside the recommended conditions (R533), by number. -/
  outOfRange : List Nat
  /-- The guarantee status last written in an event, once it has been formed (R120). -/
  status : Option Nat
  deriving DecidableEq, Repr

/-- Supply states of the vault (R358). -/
inductive Supply where
  | off | backup | returning | main
  deriving DecidableEq, Repr

/-- Arming states of a tamper source (R369). -/
inductive Arming where
  | fused | disarmed | armed
  deriving DecidableEq, Repr

/-- One alarm (R364). -/
structure Alarm where
  match_ : Nat
  period : Nat
  enable : Bool
  wake : Bool
  flag : Bool
  deriving DecidableEq, Repr

def Alarm.init : Alarm := ⟨0, 0, false, false, false⟩

/-- One time-stamp channel (R365): captures as [47:0] seconds, [62:48] ticks, [63] direction. -/
structure Channel where
  first : Nat
  latest : Nat
  count : Nat
  deriving DecidableEq, Repr

def Channel.init : Channel := ⟨0, 0, 0⟩

/-- One tamper source (R4, R367–R374): its arming, a pin pair's mode and level, its LFSR, what its latest regular
sample found, whether it is recorded in this trip, its trip count, and whether the receiver of a pin pair's sense ball is
disabled. -/
structure Source where
  arming : Arming
  dynamic : Bool
  level : Bool
  lfsr : Nat
  beyond : Bool
  recorded : Bool
  trips : Nat
  receiverOff : Bool
  deriving DecidableEq, Repr

def Source.init : Source := ⟨.disarmed, false, false, 0, false, false, 0, false⟩

/-- A source whose fuse is blown (R4, R5): for ever Fused; a pin pair's drive ball is held low in static mode, and its receiver is
disabled. -/
def Source.fuse (x : Source) : Source :=
  { x with arming := .fused, dynamic := false, level := false, lfsr := 0, beyond := false, receiverOff := true }

/-- A staged ledger entry (R377, R378): the content bytes' fields, whether its CRC holds, and the command that
waits for its commit (R380). -/
structure Staged where
  flags : Nat
  kind : Nat
  source : Nat
  seconds : Nat
  ticks : Nat
  detail : Nat
  crcOk : Bool
  waiter : Option Nat
  deriving DecidableEq, Repr

/-- The vault (R357–R390). -/
structure Vault where
  supply : Supply
  /-- When the 10 ms of Returning began. -/
  returnFrom : Option Nat
  /-- Sampling on backup: code 0–6 for 0.25–16 Hz (R370). -/
  backupRate : Nat
  seconds : Nat
  /-- Ticks at the moment `tickAt`, from which they run on (R360). -/
  tickBase : Nat
  tickAt : Nat
  timeSet : Bool
  overflow : Bool
  untrusted : Bool
  crystalOk : Bool
  /-- The trim in force, and the one from the next interval (R363). -/
  trim : Int
  trimNext : Int
  alarms : Tbl Alarm
  channels : Tbl Channel
  /-- EVT0 and EVT1 edges: 1 rising, 2 falling, 3 both; from the configuration (R365). -/
  evtEdges : List Nat
  low : Int
  high : Int
  /-- TD-A's low and high trim codes; none: its factory codes (R367, R465). -/
  tdaCodes : Option (Nat × Nat)
  /-- The latest TD-B reading in 0.5 °C. -/
  tdB : Int
  sources : Tbl Source
  tripped : Bool
  tamperOut : Bool
  akek : Option (List Byte)
  adminKey : Option (List Byte)
  adminEpoch : Nat
  lastAdminEpoch : Nat
  /-- The random draw the transport key pair comes from (R339). -/
  transport : Option Nat
  leaf : Bool
  staging : List Staged
  stagingLost : Nat
  ledger : List (List Byte)
  summary : Nat
  summaryRecord : List Byte
  nearFullTold : Bool
  fullTold : Bool
  powerUps : Nat
  nvTripped : Bool
  nvArming : List Nat
  nvLow : Int
  nvHigh : Int
  nvTrim : Int
  /-- Events that arose on backup, for the next start (R389). -/
  heldEvents : List Event
  /-- Staged entries committed since the last event 0x060B. -/
  committed : Nat
  deriving DecidableEq, Repr

/-- A vault without supply (R358): the contents of its non-volatile memory, the battery-backed contents lost (R382). The
arming codes are 1 Disarmed, 2 Armed; from the factory TD-A and TD-B are Armed (R369), the limits −30 °C and +110 °C. -/
def Vault.off (ledger : List (List Byte)) (summary : Nat) (record : List Byte) (near full : Bool) (powerUps : Nat)
    (tripped : Bool) (arming : List Nat) (low high trim : Int) : Vault :=
  { supply := .off, returnFrom := none, backupRate := 2, seconds := 0, tickBase := 0, tickAt := 0, timeSet := false,
    overflow := false, untrusted := false, crystalOk := false, trim := 0, trimNext := 0, alarms := [], channels := [],
    evtEdges := [], low := -30, high := 110, tdaCodes := none, tdB := 0, sources := [], tripped := false, tamperOut := false,
    akek := none, adminKey := none, adminEpoch := 0, lastAdminEpoch := 0, transport := none, leaf := false, staging := [],
    stagingLost := 0, ledger := ledger, summary := summary, summaryRecord := record, nearFullTold := near, fullTold := full,
    powerUps := powerUps, nvTripped := tripped, nvArming := arming, nvLow := low, nvHigh := high, nvTrim := trim,
    heldEvents := [], committed := 0 }

/-- From the factory: no ledger entry, never powered. -/
def Vault.init : Vault := Vault.off [] 0 (List.replicate 16 0) false false 0 false [1, 1, 1, 1, 2, 2] (-30) 110 0

/-- The main timebase (R366): value and device time at its last correction, rate in ppm, the errors at the last two
boundaries within 1 µs, disciplined, and whether the next boundary steps. -/
structure Timebase where
  value : Nat
  at_ : Nat
  ppm : Int
  goodBoundaries : Nat
  disciplined : Bool
  stepNext : Bool
  deriving DecidableEq, Repr

def Timebase.init : Timebase := ⟨0, 0, 0, 0, false, true⟩

/-- Phases of start-up (R490). -/
inductive BootPhase where
  | down | selecting | noImage | accepted | mainStart | ready
  deriving DecidableEq, Repr

/-- Boot, images, NODE_DONE and the supplies (R22, R490–R510, R530, R537). -/
structure Boot where
  /-- Product code (R3). -/
  product : Nat
  /-- Tamper fuses blown: bits [5:0] of the fuse map (R3, R5). -/
  fuses : Nat
  vaon : Bool
  vaonAt : Nat
  phase : BootPhase
  /-- Main domain powered: the power sequence has completed (R402). -/
  mainOn : Bool
  mainAt : Nat
  copy : Option Nat
  rejected : List Nat
  engineering : Bool
  major : Nat
  minor : Nat
  imageSeq : Nat
  /-- Section types the accepted copy carries (R493), and those that the main domain has loaded (R496). -/
  sections : List Nat
  loaded : List Nat
  selfTestDone : Bool
  /-- Extension stages loaded: bits 0 and 1 (R317). -/
  stages : Nat
  classifierLoaded : Bool
  synfyReady : Bool
  /-- A section read once with a digest mismatch (R496). -/
  sectionRetry : List Nat
  nodeDoneDriven : Bool
  nodeDoneHigh : Bool
  /-- When NODE_DONE was released, while the solo timer runs (R504). -/
  soloTimer : Option Nat
  solo : Bool
  /-- The origin of the firmware update that runs: partition 0's slot (R507). -/
  update : Option Nat
  updateCopy : Nat
  /-- PLL-A locked: KA runs from it (R58). -/
  pllA : Bool
  /-- KA's PLL is lost for good (R56). -/
  pllLost : Bool
  /-- TWT address straps as sampled at VAON valid. -/
  twtStraps : Nat
  /-- A boundary-scan instruction stopped the main domain (R530). -/
  scanStopped : Bool
  testLogicReset : Bool
  /-- A power-down or restart due 1 ms after its response (R484): 0 none, 1 stay Off, 2 restart. -/
  powerDownDue : Nat
  /-- The image accepted in this start replaces a rejected one: its sequence starts at acceptance (R496). -/
  noQualify : Bool
  /-- When this start began (event 0x0A26). -/
  startAt : Nat
  deriving DecidableEq, Repr

/-- The always-on domain without supply: no image accepted; only the product code and the fuses are kept. -/
def Boot.init (product fuses : Nat) : Boot :=
  { product := product, fuses := fuses, vaon := false, vaonAt := 0, phase := .down, mainOn := false, mainAt := 0, copy := none,
    rejected := [], engineering := false, major := 0, minor := 0, imageSeq := 0, sections := [], loaded := [],
    selfTestDone := false, stages := 0, classifierLoaded := false, synfyReady := false, sectionRetry := [],
    nodeDoneDriven := false, nodeDoneHigh := false, soloTimer := none, solo := false, update := none, updateCopy := 0,
    pllA := false, pllLost := false, twtStraps := 0, scanStopped := false, testLogicReset := true, powerDownDue := 0, noQualify := false,
    startAt := 0 }

/-- States of the power sequencer (R402). -/
inductive SeqState where
  | off | sequencing | retry | on | collapsed | heldOff
  deriving DecidableEq, Repr

/-- What a power-down leads to: Off, a restart, the retry of R402 and R404, Held off, another selection (R496), the end of
a fence proof (R404) with its verdict. -/
inductive DownTo where
  | off | restart | retry | heldOff | reselect | proved (ok : Bool)
  deriving DecidableEq, Repr

/-- A rail's own course outside the sequence (R398, R404): stages 0 step delay, 1 power good awaited, 2 down delay,
3 off time; purposes 0 the retry of its fault, 1 switched on, 2 switched off, 3 a fence proof. -/
structure RailRun where
  stage : Nat
  purpose : Nat
  attempt : Nat
  origin : Option Origin
  deriving DecidableEq, Repr

/-- One rail channel (R391, R399, R404, R407): readings in mV, consecutive readings outside the window by channel, snapshot
flags and state, the old window of R397 (nominal and end), the 60 s proving time. -/
structure Rail where
  enabled : Bool
  good : Bool
  status : Nat
  fenced : Bool
  a : Nat
  b : Nat
  current : Nat
  badA : Nat
  badB : Nat
  /-- Consecutive scans outside the recommended range (R533). -/
  badRange : Nat
  flags : Nat
  changedAt : Nat
  readAt : Nat
  proving : Option Nat
  window : Option (Nat × Nat)
  run : Option RailRun
  deriving DecidableEq, Repr

def Rail.init : Rail := ⟨false, false, 0, false, 0, 0, 0xFFFF, 0, 0, 0, 0, 0, 0, none, none, none⟩

/-- The power sequencer and the snapshot (R395–R409). -/
structure Sequencer where
  state : SeqState
  step : Nat
  /-- The step has acted and its power good is awaited. -/
  acted : Bool
  attempt : Nat
  startedAt : Nat
  /-- When the wait under way ends: step delay, power-good timeout, down delay or off time. -/
  timer : Nat
  /-- Steps completed or acted, latest first. -/
  done : List Nat
  /-- A power-down runs, and what it leads to. -/
  down : Option DownTo
  /-- Powered down by the administrator, to stay Off (R484). -/
  stayOff : Bool
  /-- The rail whose fault the attempt under way repairs, and the end of its proving time. -/
  faultRail : Option Nat
  proving : Option Nat
  /-- A fence proof by the sequence (R404): the rail and who asked. -/
  proof : Option (Nat × Origin)
  /-- Collapses of the last 60 s. -/
  collapses : List Nat
  vinA : Nat
  vinB : Nat
  /-- VIN_SENSE channels disagree. -/
  vinDiffer : Bool
  /-- The first rail whose fault was raised, and when. -/
  firstFail : Option (Nat × Nat)
  snapshot : List Byte
  stored : Bool
  unread : Bool
  deriving DecidableEq, Repr

def Sequencer.init : Sequencer :=
  ⟨.off, 0, false, 1, 0, 0, [], none, false, none, none, none, [], 0, 0, false, none, [], false, false⟩

/-- A fan (R412–R417, R421): state code, administrator's floor (0.1 %), speed in rpm, the start of its attempt, the last
pulse, the loss of its tach, since when it held its minimum speed, and zone temperature and row at the loss. -/
structure Fan where
  state : Nat
  floor : Nat
  speed : Nat
  pulse : Bool
  startedAt : Nat
  pulseAt : Nat
  lostAt : Nat
  lasting : Bool
  fastFrom : Option Nat
  zoneTemp : Int
  zoneRow : Nat
  airflow : Bool
  deriving DecidableEq, Repr

def Fan.init : Fan := ⟨0, 0, 0, false, 0, 0, 0, false, none, 0, 0, false⟩

/-- Temperatures and rows (R418–R422), in 0.5 °C. -/
structure Thermal where
  dieA : List Int
  dieB : List Int
  board : Tbl Int
  boardAbsent : List Nat
  zoneTemps : List Int
  zoneRows : List Nat
  ktRow : Nat
  critical : Bool
  throttled : Bool
  /-- Cause of the ceiling last reported (R439), and the ceiling. -/
  ceiling : Nat
  deriving DecidableEq, Repr

def Thermal.init : Thermal :=
  ⟨List.replicate 8 0, List.replicate 8 0, [], [], [0, 0, 0, 0], [0, 0, 0, 0], 0, false, false, 1⟩

/-- A valve axis (R423–R435). States: 0 Unhomed, 1 Homing, 2 Holding, 3 Calibrating, 4 Moving, 5 Stopping, 6 Faulted,
7 Fenced. -/
structure Axis where
  state : Nat
  enable : Bool
  position : Int
  angle : Nat
  command : Int
  velocity : Int
  acceleration : Int
  /-- None before the first. -/
  target : Option Int
  /-- The point a stop under way ends at or before, in counts (R431). -/
  stopAt : Int
  lower : Int
  upper : Int
  planDriven : Bool
  calibrate : Bool
  /-- r² × 1,000, the nominal amplitude A, consecutive samples outside the window and beyond the following limit. -/
  r2 : Nat
  amplitude : Nat
  badAmplitude : Nat
  badFollowing : Nat
  attempt : Nat
  fromFault : Bool
  /-- The release command that waits for this homing (R432). -/
  release : Option Origin
  /-- Since when the axis is at rest in Holding; since when a Faulted axis's window passes; when it faulted. -/
  restAt : Nat
  passFrom : Option Nat
  faultAt : Nat
  queued : Option Int
  /-- Failed attempts of a front-end item that runs by itself (R472). -/
  frontEndTries : Nat
  deriving DecidableEq, Repr

def Axis.init : Axis :=
  ⟨0, false, 0, 0, 0, 0, 0, none, 0, 0, 0, false, false, 0, 0, 0, 0, 1, false, none, 0, none, 0, none, 0⟩

/-- A calibration run under way (R466–R472): items still to do, the attempt at the first of them, and what came of the
others. -/
structure CalRun where
  mask : Nat
  left : Nat
  attempt : Nat
  passed : Nat
  deferred : Nat
  failed : Nat
  retried : Bool
  automatic : Bool
  origin : Option Origin
  deriving DecidableEq, Repr

/-- Calibration (R464–R475): the run, automatic runs that wait, deferred axis items, count, time of the last run that
counted, times of the items' last passes with the invalid flag, trim codes, and the die temperature at the last pass of
item [3] (0.5 °C). -/
structure Calibration where
  run : Option CalRun
  waiting : List Nat
  deferred : Nat
  count : Nat
  lastSeconds : Nat
  lastTicks : Nat
  itemSeconds : Tbl (Nat × Bool)
  codes : Tbl Int
  item3Temp : Int
  periodicAt : Nat
  deriving DecidableEq, Repr

def Calibration.init : Calibration := ⟨none, [], 0, 0, 0, 0, [], [], 0, 0⟩

def AonTables.none : AonTables :=
  ⟨[], [], 0, 0, [], [], [0, 0, 0, 0], 3, 100, 106, [], [], [], [], [], [1, 1], 0, 0, 0, [], 0, true, [0, 0, 0, 0]⟩

/-- The always-on domain beside boot and the vault: the accepted tables, sequencer, rails, fans, temperatures, axes and
calibration. -/
structure AlwaysOn where
  tables : AonTables
  seq : Sequencer
  rails : Tbl Rail
  fans : Tbl Fan
  thermal : Thermal
  axes : Tbl Axis
  cal : Calibration
  deriving DecidableEq, Repr

def AlwaysOn.init : AlwaysOn := ⟨AonTables.none, Sequencer.init, [], [], Thermal.init, [], Calibration.init⟩

/-- A host port (R271–R278, R498, R542). -/
structure HostPort where
  perst : Bool
  training : Bool
  linkUp : Bool
  /-- Configuration requests are answered without Configuration Request Retry Status. -/
  ready : Bool
  vfEnable : Bool
  numVfs : Nat
  /-- Logged uncorrectable error: function and status (R293). -/
  aerFunction : Nat
  aerStatus : Nat
  /-- SPDM transcripts of the PF (R279): version to algorithms, certificates, measurements. -/
  spdmA : List Byte
  spdmB : List Byte
  spdmL : List Byte
  deriving DecidableEq, Repr

def HostPort.init : HostPort := ⟨true, false, false, false, false, 0, 0, 0, [], [], []⟩

/-- A function's configuration (R274, R276, R278) and its MSI-X entry 0 (R142). -/
structure HostFn where
  bme : Bool
  d3 : Bool
  relaxed : Bool
  masked : Bool
  pendingBit : Bool
  flr : Bool
  deriving DecidableEq, Repr

/-- A function after reset. -/
def HostFn.init : HostFn := ⟨false, false, true, true, false, false⟩

/-- A drive behind a link of S0 (R280, R281, R291): namespaces by identifier with LBA size and LBA count. -/
structure Drive where
  ready : Bool
  absent : Bool
  namespaces : Tbl (Nat × Nat)
  version : Nat
  serial : List Byte
  /-- When its controller was last reset; when it was found absent or last probed. -/
  resetAt : Option Nat
  probedAt : Nat
  deriving DecidableEq, Repr

def Drive.init : Drive := ⟨false, false, [], 0, [], none, 0⟩

/-- A storage extent (R282). -/
structure Extent where
  partition : Nat
  link : Nat
  ns : Nat
  start : Nat
  count : Nat
  keySlot : Nat
  deriving DecidableEq, Repr

/-- An NVMe command outstanding on a drive, for the command of partition × 32 + slot (R291). -/
structure DriveCmd where
  link : Nat
  opcode : Nat
  ns : Nat
  lba : Nat
  len : Nat
  data : List Byte
  issuedAt : Nat
  reissued : Bool
  deriving DecidableEq, Repr

/-- A MACsec secure association (R286). -/
structure MacsecSa where
  valid : Bool
  suite : Nat
  offset : Nat
  keySlot : Nat
  ssci : Nat
  sci : Nat
  salt : List Byte
  window : Nat
  nextPn : Nat
  deriving DecidableEq, Repr

/-- An ESP security association (R287). -/
structure EspSa where
  valid : Bool
  keySlot : Nat
  spi : Nat
  salt : Nat
  esn : Bool
  tunnel : Bool
  udp : Bool
  window : Nat
  sequence : Nat
  /-- Sequence numbers received within the window. -/
  seen : List Nat
  deriving DecidableEq, Repr

/-- A telemetry export (R288, R289). -/
structure Export where
  enabled : Bool
  ipv6 : Bool
  period : Nat
  vlan : Nat
  srcPort : Nat
  dstPort : Nat
  src : List Byte
  dst : List Byte
  list : List (Nat × Nat)
  deriving DecidableEq, Repr

/-- A network port (R284–R292). -/
structure NetPort where
  enabled : Bool
  linkUp : Bool
  speed : Nat
  flow : Nat
  high : Nat
  low : Nat
  /-- Convoy deadline of the port's frame convoys in µs (R75). -/
  deadlineUs : Nat
  /-- Bytes held in the receive buffer. -/
  used : Nat
  xoff : List Nat
  /-- Priorities the peer's PAUSE or PFC frames hold, each until a moment (R284). -/
  paused : Tbl Nat
  /-- MACsec: transmit SAs by AN; receive SAs by channel × 4 + AN. -/
  macTx : Tbl MacsecSa
  macRx : Tbl MacsecSa
  macTxSc : Nat
  espIn : Tbl EspSa
  espOut : Tbl EspSa
  telemetry : Option Export
  /-- Export sequence (R289). -/
  exportSeq : Nat
  /-- Frames held at the network gate: partition × 32 + slot and bytes. -/
  heldTx : List (Nat × List Byte)
  /-- Millisecond of the last dropped-frames event, by cause (R294). -/
  dropTold : Tbl Nat
  deriving DecidableEq, Repr

def NetPort.init : NetPort := ⟨false, false, 3, 0, 75, 50, 20, 0, [], [], [], [], 0, [], [], none, 0, [], []⟩

/-- A pass-through transaction in a bus's queue (R445): who asked, what it is, and how its attempts went. -/
structure TwJob where
  origin : Origin
  addr : Nat
  protocol : Nat
  command : Nat
  pec : Bool
  write : List Byte
  readLen : Nat
  attempt : Nat
  losses : Nat
  deriving DecidableEq, Repr

/-- A controller-capable bus TW0–TW2 (R441–R458). Modes: 0 Standard, 1 Fast, 2 Fast Plus. -/
structure Bus where
  mode : Nat
  filter : Nat
  /-- A mode and filter that take effect when the bus is next idle (R443). -/
  next : Option (Nat × Nat)
  /-- Hung, and whether on SDA (R456). -/
  hung : Option Bool
  /-- Absent targets by address, with the time each was marked (R449). -/
  absent : Tbl Nat
  queue : List TwJob
  deriving DecidableEq, Repr

def Bus.init : Bus := ⟨0, 5, none, none, [], []⟩

/-- The target-only interface (R452–R454). -/
structure Twt where
  /-- The request held: the bytes of its frame. -/
  request : Option (List Byte)
  /-- The request is being processed. -/
  running : Bool
  /-- The request sequence of a Block Write that met a request being processed: the next read answers BUSY. -/
  overrun : Option (List Byte)
  /-- Its effect is under way and ends in a later step. -/
  begun : Bool
  response : Option (List Byte)
  /-- The response has not been read: TWT_ALERT# (R452). -/
  unread : Bool
  events : List Event
  deriving DecidableEq, Repr

def Twt.init : Twt := ⟨none, false, none, false, none, false, []⟩

/-- What holds a granule: a region or a model of a partition (R199, R208). -/
inductive Holder where
  | region (p i : Nat)
  | model (p i : Nat)
  deriving DecidableEq, Repr

/-- A granule of node memory (R196–R200): bound to a partition, held, being cleared (R157), being retired with the
data lost or not (R226). -/
structure Granule where
  bound : Option Nat
  holder : Option Holder
  clearing : Bool
  retiring : Option Bool
  deriving DecidableEq, Repr

def Granule.init : Granule := ⟨none, none, false, none⟩

/-- A region (R199): its granules in address order. -/
structure Region where
  granules : List Nat
  damaged : Bool
  deriving DecidableEq, Repr

/-- Where a model's granule lies (R213): a granule of node memory, a spill page by its number among its partition's and by
the page of spill memory that holds it, counted stack by stack, or a page of a partner's memory. -/
inductive Place2 where
  | node (granule : Nat)
  | spill (page at_ : Nat)
  | partner (port page : Nat)
  deriving DecidableEq, Repr

/-- A layer of a loaded model as its manifest gives it (R206a), with its declared spill time (R214). -/
structure Layer where
  format : Nat
  outFormat : Nat
  weights : Nat
  area : Nat
  passes : Nat
  timeNs : Nat
  spillUs : Nat
  places : List Place2
  deriving DecidableEq, Repr

/-- A loaded model (R208–R214, R227). -/
structure Model where
  layers : List Layer
  areaPlaces : List Place2
  staging : List Nat
  spill : Bool
  /-- Cause of damage: 0 none, 1 granule, 2 spill unit, 3 partner memory (R231). -/
  damaged : Nat
  digest : List Byte
  deriving DecidableEq, Repr

/-- The tag of a line (R203): states 0 confirmed, 1 provisional, 2 cancelled, 3 poisoned. -/
structure Tag where
  convoy : Nat
  generation : Bool
  state : Nat
  deriving DecidableEq, Repr

/-- A sweep in progress (R204). -/
structure Sweep where
  unit : Nat
  convoy : Nat
  generation : Bool
  cancelled : Bool
  deriving DecidableEq, Repr

/-- A sync object (R217–R230): waiters as threshold, then partition × 32 + slot, in registration order. -/
structure SyncObj where
  owner : Nat
  counter : Nat
  port : Option Nat
  absent : Bool
  waiters : List (Nat × Nat)
  deriving DecidableEq, Repr

/-- Node memory, spill memory and the handle tables (R196–R234). -/
structure Memory where
  bytes : Mem
  /-- Spill memory and partner memory as the N48 wrote them: 2 MiB pages from 0 and, per port, from 2⁴⁸ × (port + 1). -/
  spill : Mem
  tags : Tbl Tag
  granules : Tbl Granule
  regions : Tbl Region
  models : Tbl Model
  sync : Tbl SyncObj
  /-- Generation counters: kind × 65,536 + index; kinds 0 regions, 1 models, 2 sync objects, 3 key slots, 4 extents. -/
  generations : Tbl Nat
  generationBase : Nat
  sweeps : List Sweep
  /-- The next word each unit scrubs, and the words of its owed full pass. -/
  scrubAt : Tbl Nat
  scrubDone : Tbl Nat
  /-- Spill units of 1 GiB retired: stack × 36 + unit (R228). -/
  spillRetired : List Nat
  deriving DecidableEq, Repr

def Memory.init : Memory := ⟨[], [], [], [], [], [], [], [], 0, [], [], [], []⟩

/-- Link states (R257). -/
inductive PortState where
  | disabled | seek | train | exchange | run | degrade | retrain
  deriving DecidableEq, Repr

/-- The sender state codes of a control parcel (R240); 0 for Disabled, as in port status (0x0383). -/
def PortState.code : PortState → Nat
  | .disabled => 0 | .seek => 1 | .train => 2 | .exchange => 3 | .run => 4 | .degrade => 5 | .retrain => 6

/-- A partner port (R235–R268). Lane sets are masks; the four credit classes are bulk, convoy control, sync signal and
link management in this order. -/
structure Port where
  state : PortState
  /-- Consecutive empty windows (R257), and whether a partner signal was seen in the present window. -/
  empty : Nat
  seen : Bool
  bursting : Bool
  absent : Bool
  lanes : Nat
  /-- Lanes dropped and being relocked (R261). -/
  relocking : Nat
  /-- Lanes trained in the last Train, whose equaliser settings serve a retrain (R266). -/
  trained : Nat
  /-- The new mask of a lane change under way (R260). -/
  newLanes : Option Nat
  txSeq : Nat
  rxExpected : Nat
  /-- Sent link parcels not yet acknowledged, oldest first: sequence and bytes (R243). -/
  replay : List (Nat × List Byte)
  /-- Parcels that wait for credit: class, content, waybill and payload. -/
  waiting : List (Nat × Nat × List Byte)
  /-- The sequence this side asks to be replayed, how often it failed, and its symbol errors by lane (R244, R245). -/
  asked : Option Nat
  failures : Nat
  laneErrors : List Nat
  /-- The replay the partner last asked for. -/
  answered : Option Nat
  /-- Transmit credit by class, and the partner's freed counts as last seen. -/
  credit : List Nat
  freedSeen : List Nat
  /-- Receive: parcels taken in and entries freed, by class. -/
  received : List Nat
  freed : List Nat
  /-- The partner's capability payload (64 bytes), none before it is received in this Exchange (R250). -/
  capability : Option (List Byte)
  granted : Bool
  /-- Checking mode the administrator set (R184): sampled, and N; none: the default. -/
  checking : Option (Bool × Nat)
  /-- Millisecond and count of replays (R269, event 0x0388). -/
  replayMs : Option Nat
  /-- When the retrain under way began (R266). -/
  retrainFrom : Option Nat
  /-- The lane KP is recovered from: the lowest-numbered in service (R40). -/
  recovery : Nat
  /-- Starts of the timers of R262: of the state or Seek window entered, of the last link parcel that passed its checks, of the
  replay under way. -/
  stateFrom : Nat
  lastGood : Nat
  replayFrom : Nat
  /-- Data slots used in the present group of six (R237). -/
  slots : Nat
  /-- Parcels of operations outside convoys that were lost with the link, to be sent once more, and those already sent twice (R265). -/
  lost : List (Nat × List Byte)
  resent : List (Nat × List Byte)
  deriving DecidableEq, Repr

def Port.init : Port :=
  ⟨.disabled, 0, false, false, false, 0, 0, 0, none, 0, 0, [], [], none, 0, [], none, [0, 0, 0, 0], [0, 0, 0, 0],
    [0, 0, 0, 0], [0, 0, 0, 0], none, false, none, none, none, 0, 0, 0, 0, 0, [], []⟩

/-- A tile pass whose picot check is awaited (R180): where it ran, for which convoy, and what it computed. -/
structure PendingPass where
  cluster : Nat
  tile : Nat
  convoy : Nat
  generation : Bool
  pass : TilePass
  /-- What the tile's cells hold of it, a list for each sub-pass in row-major order: a bobbin's 112 bits, or the FP32
  accumulator in units of 2⁻³²⁰ (R164, R172, R173, R178). -/
  cells : List (List Int)
  deriving DecidableEq, Repr

/-- The outputs of a pass as its tile read them out, row-major, with the shared scales of a block-scaled output (R171, R175). -/
structure TileOutput where
  codes : List Nat
  scales : List Nat
  deriving DecidableEq, Repr

/-- An offload under way (R254, R255), by partition × 32 + slot. -/
structure Offload where
  port : Nat
  tag : Nat
  format : Nat
  out : Nat
  flags : Nat
  k : Nat
  blocks : Nat
  operands : List Byte
  /-- The checking mode its convoy opened with (R184): sampled, and N. -/
  sampled : Bool
  ratio : Nat
  /-- Result bytes returned, by offset in the result stream. -/
  results : Mem
  /-- Checksums (content 0x04) and magnitude sums (0x05): block × 1,024 + column × 512 + index and binary64 bits. -/
  sums : Tbl Nat
  mags : Tbl Nat
  /-- Element bytes of each block that arrived; the blocks complete, in order; those that await their inline check; those
  that passed a check. -/
  arrived : Tbl Nat
  complete : List Nat
  ready : List Nat
  verified : List Nat
  /-- Blocks drawn for recomputation and not yet recomputed (R186); those that run, by their tile, cluster × 17 + physical tile
  (R187); and the tiles whose recomputation failed its own check once (R190). -/
  drawn : List Nat
  running : Tbl Nat
  retried : List Nat
  deriving DecidableEq, Repr

/-- The tensor fabric and its operating point. -/
structure Tensor where
  /-- Logical to physical tiles: cluster × 16 + logical; no entry is the factory's map; 17 marks a removed tile (R163, R190). -/
  tileMap : Tbl Nat
  passes : List PendingPass
  /-- The outputs of the last pass of each tile that passed its check, by cluster × 17 + physical tile (R171, R181). -/
  outputs : Tbl TileOutput
  offloads : Tbl Offload
  nextTag : Nat
  /-- Operating points 1–4 for 0.6–1.5 GHz: in use, requested, the administrator's limit, the thermal ceiling, the
  point KT is moving to, the one the supply's setpoint supports, and the one a raise waits for (R26, R167, R168). -/
  point : Nat
  request : Nat
  limit : Nat
  ceiling : Nat
  target : Option Nat
  setpoint : Nat
  raising : Option Nat
  /-- The PLL of the pair in use: 1 or 2 (R39). -/
  pll : Nat
  /-- The ceiling in force: a lower ceiling enters it at once, a raise with Synfy's next request (R26). -/
  allowed : Nat
  /-- Since when KT has been heading for a lower point, and no new tile pass is issued (R26). -/
  lowerFrom : Option Nat
  deriving DecidableEq, Repr

def Tensor.init : Tensor := ⟨[], [], [], [], 0, 1, 1, 4, 1, none, 1, none, 1, 1, none⟩

/-- A payload pattern (R301). -/
structure Pattern where
  enabled : Bool
  length : Nat
  first : Nat
  last : Nat
  value : List Byte
  mask : List Byte
  deriving DecidableEq, Repr

/-- A key profile (R302): extracts as header type, occurrence, offset, length. -/
structure Profile where
  enabled : Bool
  table : Nat
  required : Nat
  absent : Nat
  extracts : List (Nat × Nat × Nat × Nat)
  deriving DecidableEq, Repr

/-- What a classification settled for a frame (R308–R311): its action, whether an entry was hit, record flags, profile,
pattern index, failure cause, and where payload, the innermost Ethernet header and an ESP header start. -/
structure Verdict where
  action : List Byte
  hit : Bool
  flags : Nat
  profile : Nat
  pattern : Nat
  cause : Nat
  payload : Nat
  inner : Option Nat
  esp : Option Nat
  deriving DecidableEq, Repr

/-- A numbered frame not yet delivered (R285, R296, R313): its pipeline, bytes without FCS, receive time, whether it failed
once, whether it is parked at a bucket under repair (slot key), skipped, and its verdict once resolved. -/
structure RxFrame where
  pipeline : Nat
  bytes : List Byte
  time : Nat
  failed : Bool
  parked : Option Nat
  skipped : Bool
  verdict : Option Verdict
  deriving DecidableEq, Repr

/-- A frame riding a frame convoy (R81, R285): destination port, bytes with record, tag, its size in the buffer. -/
structure Riding where
  dest : Nat
  bytes : List Byte
  tag : Nat
  size : Nat
  deriving DecidableEq, Repr

/-- The classifier's side of a network port (R296–R315). -/
structure ClsPort where
  headerLimit : Nat
  byteLimit : Nat
  tpid : Nat
  vxlan : Nat
  geneve : Nat
  patterns : Tbl Pattern
  profiles : Tbl Profile
  miss : List Byte
  failure : List Byte
  nextSequence : Nat
  nextPipeline : Nat
  frames : Tbl RxFrame
  /-- When the release timer started. -/
  timer : Option Nat
  /-- Frames skipped before the next release. -/
  gap : Nat
  /-- Millisecond of the last gap event; of the last drop event by cause. -/
  gapTold : Option Nat
  dropTold : Tbl Nat
  riding : Tbl Riding
  deriving DecidableEq, Repr

/-- Default actions: drops that count in action counter 0 for a miss and 1 for a parse failure (R309). -/
def dropCounting (n : Nat) : List Byte := [0, 2, 0, 0] ++ leBytes 2 n ++ List.replicate 10 0

def ClsPort.init : ClsPort :=
  ⟨16, 512, 0x8100, 4789, 6081, [], [], dropCounting 0, dropCounting 1, 0, 0, [], none, 0, none, [], []⟩

/-- An exact-match entry (R304). -/
structure Entry where
  profile : Nat
  key : List Byte
  action : List Byte
  deriving DecidableEq, Repr

/-- The classifier (R296–R325). Slots are numbered (table × 4 + choice) × 65,536 + bucket × 4 + slot. -/
structure Classifier where
  ports : Tbl ClsPort
  entries : Tbl Entry
  /-- Synfy's shadow of the tables (R307). -/
  shadow : Tbl Entry
  /-- The index of each table's seed among the open values (R303). -/
  seeds : List Nat
  /-- Slots retired and slots whose bucket is under repair (R322). -/
  retired : List Nat
  repairing : List Nat
  /-- Ports with a profile or entry of the image that a check refused (R325). -/
  failed : List Nat
  deriving DecidableEq, Repr

def Classifier.init : Classifier := ⟨[], [], [], [], [], [], []⟩

/-- A key slot (R334). -/
structure KeySlot where
  owner : Nat
  kind : Nat
  usage : Nat
  key : List Byte
  deriving DecidableEq, Repr

/-- The whole machine. -/
structure State where
  /-- Device time in ns: advanced by the idle step and by events that name a later moment. -/
  now : Nat
  /-- How many open values have been drawn (the model's own, log 1). -/
  fresh : Nat
  /-- What the last step sent out. -/
  out : List Output
  /-- Commands that wait, first in first out (the model's own, log 6). -/
  pending : List Instr
  parts : Tbl Partition
  /-- Fenced request slots: partition × 32 + slot (R139, R159). -/
  fencedSlots : List Nat
  domains : Tbl Domain
  queues : Tbl Queue
  /-- The next sequence number of each stream: source × 65,536 + destination × 256 + partition (R64). -/
  streams : Tbl Nat
  convoys : Tbl Convoy
  faults : Faults
  /-- Counters: identifier × 65,536 + instance (R486, R541). -/
  ctr : Tbl Nat
  vault : Vault
  timebase : Timebase
  boot : Boot
  hosts : Tbl HostPort
  fns : Tbl HostFn
  drives : Tbl Drive
  extents : Tbl Extent
  driveCmds : Tbl DriveCmd
  nets : Tbl NetPort
  buses : Tbl Bus
  twt : Twt
  memory : Memory
  ports : Tbl Port
  tensor : Tensor
  aon : AlwaysOn
  cls : Classifier
  /-- Key slots by index (R334), and slots that lost their key and failed (R353). -/
  keys : Tbl KeySlot
  keysLost : List Nat
  deriving DecidableEq, Repr

def Faults.init : Faults :=
  ⟨[], 0, [], [], [], [], none, false, false, [0, 1], false, false, false, [], [], none⟩

/-- The machine right after reset: nothing is powered, no domain runs, no partition exists, and the stores hold what the
factory left in them (R22, R37, R58, R358, R490). Product code 0x01 with no fuse blown is the model's choice (log 7), and so
is every value the spec gives no reset value for (log 8). -/
def State.reset : State :=
  { now := 0, fresh := 0, out := [], pending := [], parts := [], fencedSlots := [], domains := [], queues := [], streams := [],
    convoys := [], faults := Faults.init, ctr := [], vault := Vault.init, timebase := Timebase.init, boot := Boot.init 1 0,
    hosts := [], fns := [], drives := [], extents := [], driveCmds := [], nets := [], buses := [], twt := Twt.init,
    memory := Memory.init, ports := [], tensor := Tensor.init, aon := AlwaysOn.init, cls := Classifier.init, keys := [],
    keysLost := [] }

end Sys2Proof.Machine
end

