-- ==== Sys2Proof/Machine/Flags.lean ====
section
/-! DEFINITION. Status codes, the order among the checks, and every flag computed from the state: receipt flags,
response flags, time validity and the guarantee status. -/

namespace Sys2Proof.Machine

open Sys2Proof

/-- The 16-bit code of a status (R16). -/
def Status.code : Status → Nat
  | .ok => 0x0000 | .accepted => 0x0001 | .booting => 0x0010 | .busy => 0x0011 | .refused => 0x0020
  | .footprint => 0x0021 | .budget => 0x0022 | .quota => 0x0023 | .absent => 0x0030 | .hung => 0x0031
  | .recovered => 0x0040 | .lasting => 0x0041 | .cancelled => 0x0042 | .timeout => 0x0043
  | .badCommand => 0x0050 | .badParameter => 0x0051 | .integrity => 0x0060

/-- Whether a status makes the result usable (R16): the output digest is zero for every other (R87). -/
def Status.usable (st : Status) : Bool := st == .ok || st == .recovered

/-- What each check of R18 finds for a request; `execution` is a status found only after all checks passed. -/
structure Checks where
  booting : Bool := false
  refused : Option Nat := none
  badCommand : Bool := false
  badParameter : Bool := false
  quota : Bool := false
  footprint : Bool := false
  budget : Bool := false
  busy : Bool := false
  execution : Option Status := none
  deriving DecidableEq, Repr

/-- The first status in the order of R18. -/
def Checks.verdict (c : Checks) : Option Status :=
  if c.booting then some .booting
  else if c.refused.isSome then some .refused
  else if c.badCommand then some .badCommand
  else if c.badParameter then some .badParameter
  else if c.quota then some .quota
  else if c.footprint then some .footprint
  else if c.budget then some .budget
  else if c.busy then some .busy
  else c.execution

/-- The checks of the header and those of the opcode taken together. -/
def Checks.both (a b : Checks) : Checks where
  booting := a.booting || b.booting
  refused := a.refused.or b.refused
  badCommand := a.badCommand || b.badCommand
  badParameter := a.badParameter || b.badParameter
  quota := a.quota || b.quota
  footprint := a.footprint || b.footprint
  budget := a.budget || b.budget
  busy := a.busy || b.busy
  execution := a.execution.or b.execution

/-- RTC ticks within the second: they run from `tickBase` at 32,768 a second and never pass 32,767 (R360). -/
def rtcTicks (s : State) : Nat :=
  min 32767 (s.vault.tickBase + (s.now - s.vault.tickAt) * 32768 / 1000000000)

/-- RTC time in ns. -/
def rtcNs (s : State) : Nat := s.vault.seconds * 1000000000 + rtcTicks s * 1000000000 / 32768

/-- The main timebase in ns since 2000-01-01 (R366). -/
def mainTime (s : State) : Nat :=
  s.timebase.value + (s.now - s.timebase.at_) * (1000000 + s.timebase.ppm).toNat / 1000000

/-- Time is valid (R362). -/
def timeValid (s : State) : Bool := s.vault.timeSet && s.vault.crystalOk && !s.vault.overflow

/-- Time is flagged in ledger entries and telemetry (R362). -/
def timeFlagged (s : State) : Bool := !timeValid s || s.vault.untrusted

/-- Receipt flags [1]: time invalid or untrusted, or the timebase undisciplined (R89, R162, R366). -/
def receiptUntrusted (s : State) : Bool := timeFlagged s || !s.timebase.disciplined

/-- Receipt flags (R86, R89). -/
def receiptFlags (s : State) (reexecuted : Bool) : Nat :=
  b2n s.boot.engineering + 2 * b2n (receiptUntrusted s) + 4 * b2n reexecuted

/-- Response flags (R134). -/
def responseFlags (final returned reexecuted : Bool) : Nat := b2n final + 2 * b2n returned + 4 * b2n reexecuted

/-- A resource of R541 is fenced, in the fence map or until the main domain restarts. -/
def isFenced (s : State) (group index : Nat) : Bool :=
  s.faults.fenceMap.contains (group * 1024 + index) || s.faults.mainFences.contains (group * 1024 + index)

/-- Inline digest units in service (R109). -/
def digestUnits (s : State) : Nat := ((List.range 16).filter (fun i => !isFenced s 0x07 i)).length

/-- A means of detection is missing (R120 bit [5]). -/
def detectionMissing (s : State) : Bool :=
  (List.range 66).any (isFenced s 0x04) || (List.range 2).any (isFenced s 0x05) || decide (digestUnits s < 2)

/-- The guarantee status (R120). -/
def guaranteeStatus (s : State) : Nat :=
  let b1 := !s.faults.outOfRange.isEmpty
  let b2 := s.faults.scrubOff || !s.faults.scrubOwed.isEmpty
  let b3 := s.faults.selfTestFailed
  let b4 := s.boot.engineering
  let b5 := detectionMissing s
  b2n (!(b1 || b2 || b3 || b4 || b5)) + 2 * b2n b1 + 4 * b2n b2 + 8 * b2n b3 + 16 * b2n b4 + 32 * b2n b5

/-- The tamper fuse map (R2). -/
def fuseMap (s : State) : Nat := s.boot.fuses

/-- A state number as the window and the partition status report it (R131). -/
def PartitionState.code : PartitionState → Nat
  | .free => 0 | .active => 1 | .quiesced => 2 | .tearing => 3

end Sys2Proof.Machine
end

