-- ==== Sys2Proof/Machine/Ops.lean ====
section
/-! DEFINITION. The operations the meanings share: partitions and slots, counters, events, interrupts, outcomes and
receipts, the sequence history, fault classification. -/

namespace Sys2Proof.Machine

open Sys2Proof

/-- Every command starts by forgetting what the last one sent out. -/
def State.fresh_ (s : State) : State := { s with out := [] }

/-- Bytes, messages and parcels sent out. -/
def send (s : State) (o : List Output) : State := { s with out := s.out ++ o }

/-- Device time moved to a later moment. -/
def advanceTo (s : State) (t : Nat) : State := { s with now := max s.now t }

/-- `n` open bytes from the internal random source (R186), fresh each time. -/
def drawBytes (s : State) (n : Nat) : List Byte × State :=
  ((List.range n).map (fun i => Config.freeByte (s.fresh + i)), { s with fresh := s.fresh + n })

/-- One open number, fresh each time. -/
def drawNat (s : State) : Nat × State := (Config.freeNat s.fresh, { s with fresh := s.fresh + 1 })

def part (s : State) (p : Nat) : Partition := Tbl.getD s.parts p Partition.absent

def setPart (s : State) (p : Nat) (f : Partition → Partition) : State :=
  { s with parts := Tbl.modify s.parts p Partition.absent f }

def slotAt (s : State) (p k : Nat) : Slot := Tbl.getD (part s p).slots k Slot.empty

def setSlot (s : State) (p k : Nat) (f : Slot → Slot) : State :=
  setPart s p (fun q => { q with slots := Tbl.modify q.slots k Slot.empty f })

/-! ### Counters (R486, R541) -/

def counterKey (ident inst : Nat) : Nat := ident * 65536 + inst

def counter (s : State) (ident inst : Nat) : Nat := Tbl.getD s.ctr (counterKey ident inst) 0

/-- A counter raised by `k`, holding at the top of its width. -/
def bumpBy (s : State) (ident inst width k : Nat) : State :=
  { s with ctr := Tbl.modify s.ctr (counterKey ident inst) 0 (fun v => satAdd width v k) }

def bump (s : State) (ident inst width : Nat) : State := bumpBy s ident inst width 1

def clearCounter (s : State) (ident inst : Nat) : State := { s with ctr := Tbl.erase s.ctr (counterKey ident inst) }

/-! ### Host functions and interrupts (R142, R274–R278) -/

def hostPort (s : State) (h : Nat) : HostPort := Tbl.getD s.hosts h HostPort.init

def setHost (s : State) (h : Nat) (f : HostPort → HostPort) : State :=
  { s with hosts := Tbl.modify s.hosts h HostPort.init f }

def hostFn (s : State) (h fn : Nat) : HostFn := Tbl.getD s.fns (h * 32 + fn) HostFn.init

/-- Data writes of a partition carry Relaxed Ordering where its function enables it (R276). -/
def relaxedFor (s : State) (p : Nat) : Bool := (hostFn s (part s p).port (part s p).fn).relaxed

def setFn (s : State) (h fn : Nat) (f : HostFn → HostFn) : State :=
  { s with fns := Tbl.modify s.fns (h * 32 + fn) HostFn.init f }

/-- The function can send requests: Bus Master Enable set, D0, link up, no reset of its own under way (R142, R277). -/
def fnCanSend (s : State) (h fn : Nat) : Bool :=
  (hostFn s h fn).bme && !(hostFn s h fn).d3 && !(hostFn s h fn).flr && (hostPort s h).linkUp

/-- The MSI-X message of a function, or its pending bit while it is masked or cannot be sent (R142). -/
def sendMsix (s : State) (h fn : Nat) : State :=
  if fnCanSend s h fn && !(hostFn s h fn).masked then send s [.msix h fn]
  else setFn s h fn (fun f => { f with pendingBit := true })

/-- The moderation count in effect: 0 acts as 1 and 33–63 as 32 (R131). -/
def moderationCount (m : Nat) : Nat := max 1 (min 32 (bits m 5 0))

/-- The holdoff in effect in µs (R131). -/
def moderationHoldoff (m : Nat) : Nat := min 1000 (bits m 25 16)

/-- The N48 writes to a partition's rings and window: it is Active, or was when its teardown began (R155, R156). -/
def windowLive (q : Partition) : Bool :=
  q.state == .active || (q.state == .tearing && (match q.teardown with
    | some t => t.wasActive
    | none => false))

/-- The vector of a partition is raised: one message at the count or with no holdoff, else the holdoff runs from the
first pending raise (R142). -/
def raiseMsix (s : State) (p : Nat) : State :=
  let q := part s p
  if !windowLive q || s.faults.mailboxFenced then s
  else if decide (moderationCount q.moderation ≤ q.raises + 1) || moderationHoldoff q.moderation == 0 then
    sendMsix (setPart s p (fun q => { q with raises := 0, holdoffFrom := none })) q.port q.fn
  else
    setPart s p (fun q => { q with raises := q.raises + 1, holdoffFrom := q.holdoffFrom.or (some s.now) })

/-! ### Events (R143–R146) -/

/-- Entries of a partition's event ring (R143). -/
def eventEntries (p : Nat) : Nat := if p = 0 then 4096 else 256

/-- Entries of a partition's backlog (R146). -/
def backlogSize (p : Nat) : Nat := if p = 0 then 256 else 32

/-- The newest event that is no fault leaves the backlog. -/
def dropNewestPlain (es : List Event) : List Event :=
  match es.reverse.span (fun e => e.fault) with
  | (_, []) => es
  | (faults, _ :: rest) => (faults ++ rest).reverse

/-- An event joins a ring's backlog; a full backlog loses it, but the administrator's gives up its newest event that
is no fault for a fault event (R146). -/
def EventRing.push (r : EventRing) (p : Nat) (e : Event) : EventRing :=
  if r.backlog.length < backlogSize p then { r with backlog := r.backlog ++ [e] }
  else
    let r' := { r with lost := satAdd 32 r.lost 1, lostSince := satAdd 32 r.lostSince 1 }
    if p == 0 && e.fault && r.backlog.any (fun e => !e.fault) then
      { r' with backlog := dropNewestPlain r.backlog ++ [e] }
    else r'

/-- The 32 bytes of an event ring entry (R144). -/
def eventBytes (number : Nat) (phase : Bool) (e : Event) : List Byte :=
  leBytes 2 e.code ++ leBytes 1 (b2n phase + 2 * b2n e.fault) ++ leBytes 1 (e.subject % 32) ++ leBytes 4 number
    ++ leBytes 8 e.time ++ leBytes 4 e.seq ++ leBytes 2 e.opcode ++ leBytes 1 e.slot ++ [0] ++ leBytes 8 e.detail

/-- An event ring takes entries: enabled, its function reachable, one entry free (R146, R155, R160). -/
def ringTakes (s : State) (p : Nat) : Bool :=
  let q := part s p
  let n := eventEntries p
  bit q.events.control 0 && windowLive q && !s.faults.mailboxFenced
    && (q.events.producer + 1) % n != q.events.consumer % n

/-- One entry written into an event ring through the host gate (R144). -/
def writeEntry (s : State) (p : Nat) (e : Event) : State :=
  let q := part s p
  let n := eventEntries p
  let r := q.events
  let next := (r.producer + 1) % n
  let s := send s [.hostWrite q.port q.fn false (r.base + 32 * r.producer) (eventBytes r.number r.phase e)]
  let s := setPart s p (fun q => { q with events := { q.events with
    producer := next
    number := (r.number + 1) % 4294967296
    phase := if next = 0 then !r.phase else r.phase } })
  if bit r.control 1 then raiseMsix s p else s

/-- The backlog drains into the ring in order; the first entry after a loss is an events-lost event (R146). -/
def drainFuel : Nat → State → Nat → State
  | 0, s, _ => s
  | f + 1, s, p =>
    if ringTakes s p then
      let r := (part s p).events
      if r.lostSince = 0 then
        match r.backlog with
        | [] => s
        | e :: rest =>
          drainFuel f (writeEntry (setPart s p (fun q => { q with events := { q.events with backlog := rest } })) p e) p
      else
        drainFuel f (writeEntry (setPart s p (fun q => { q with events := { q.events with lostSince := 0 } })) p
          ⟨0x0007, false, p, mainTime s, 0, 0, 0xFF, r.lostSince⟩) p
    else s

def drain (s : State) (p : Nat) : State := drainFuel ((part s p).events.backlog.length + 2) s p

/-- An event written to a partition's ring. -/
def postEvent (s : State) (p : Nat) (e : Event) : State :=
  if (part s p).state == .free then s
  else drain (setPart s p (fun q => { q with events := q.events.push p e })) p

/-- A main-domain event to the administrator's ring. -/
def raiseAdmin (s : State) (code : Nat) (fault : Bool) (subject detail : Nat) : State :=
  postEvent s 0 ⟨code, fault, subject, mainTime s, 0, 0, 0xFF, detail⟩

/-- A main-domain event to a partition's own ring. -/
def raiseOwn (s : State) (p code : Nat) (fault : Bool) (detail : Nat) : State :=
  postEvent s p ⟨code, fault, p, mainTime s, 0, 0, 0xFF, detail⟩

/-- An event to the administrator and to the partition it concerns, once where they are the same. -/
def raiseBoth (s : State) (p code : Nat) (fault : Bool) (detail : Nat) : State :=
  let s := raiseAdmin s code fault p detail
  if p = 0 then s else raiseOwn s p code fault detail

/-- TWT keeps at most 64 waiting events; the oldest is dropped and counted (R454, R455 row 6). -/
def twtEvent (s : State) (e : Event) : State :=
  if s.twt.events.length < 64 then { s with twt := { s.twt with events := s.twt.events ++ [e] } }
  else bump { s with twt := { s.twt with events := s.twt.events.drop 1 ++ [e] } } 0x0E06 0 16

/-- An event of the management core: to the administrator's ring, or while the main domain is off into the fault
record of 64 entries and to TWT (R99, R122 row 5, R461). -/
def raiseAon (s : State) (code : Nat) (fault : Bool) (detail : Nat) : State :=
  if s.boot.mainOn then raiseAdmin s code fault 0 detail
  else
    let e : Event := ⟨code, fault, 0, rtcNs s, 0, 0, 0xFF, detail⟩
    let s := twtEvent s e
    if s.faults.record.length < 64 then { s with faults := { s.faults with record := s.faults.record ++ [e] } }
    else bump { s with faults := { s.faults with dropped := s.faults.dropped + 1 } } 0x0305 0 16

/-- An event of the vault: held while the main domain is off (R389). -/
def raiseVault (s : State) (code : Nat) (fault : Bool) (detail : Nat) : State :=
  if s.boot.mainOn then raiseAdmin s code fault 0 detail
  else { s with vault := { s.vault with heldEvents := s.vault.heldEvents ++ [⟨code, fault, 0, rtcNs s, 0, 0, 0xFF, detail⟩] } }

/-! ### Fault classification (R106, R107, R109, R120) -/

/-- Event 0x0907 on a change of the guarantee status (R120). -/
def guard (s : State) : State :=
  match s.faults.status with
  | none => s
  | some old =>
    let new := guaranteeStatus s
    if new = old then s
    else raiseAdmin { s with faults := { s.faults with status := some new } } 0x0907 false 0 (new + 4294967296 * old)

/-- 24 hours in ns. -/
def day : Nat := 86400000000000

/-- A transient fault counted against a resource (R106, R122 row 0), with the advisory at 16 in 24 h (R107).
The main domain's stop clears the counts, so between two starts the device's time measures them. DESIGN CHOICE, log 52. -/
def transient (s : State) (group index : Nat) : State :=
  let key := group * 1024 + index
  let s := bump s 0x0300 key 16
  let recent := ((Tbl.getD s.faults.transients key []).filter (fun t => decide (s.now < t + day))) ++ [s.now]
  let low := decide (recent.length < 16)
  let told := s.faults.advised.contains key && !decide (recent.length ≤ 16)
  let s := { s with faults := { s.faults with
    transients := Tbl.set s.faults.transients key recent
    advised := if low then s.faults.advised.erase key
      else if s.faults.advised.contains key then s.faults.advised else s.faults.advised ++ [key] } }
  if low || told then s
  else raiseAon s 0x090B false (group + 256 * index + 4294967296 * recent.length)

/-- Groups whose fences the fence map keeps (R110). -/
def inFenceMap (group : Nat) : Bool := [0x01, 0x02, 0x03, 0x04, 0x05, 0x07].contains group

/-- A resource is fenced. -/
def fence (s : State) (group index : Nat) : State :=
  let key := group * 1024 + index
  if isFenced s group index then s
  else if inFenceMap group then { s with faults := { s.faults with fenceMap := s.faults.fenceMap ++ [key] } }
  else { s with faults := { s.faults with mainFences := s.faults.mainFences ++ [key] } }

/-- A fence released. -/
def unfence (s : State) (group index : Nat) : State :=
  let key := group * 1024 + index
  { s with faults := { s.faults with
    fenceMap := s.faults.fenceMap.filter (fun k => k != key)
    mainFences := s.faults.mainFences.filter (fun k => k != key) } }

/-- A lasting fault counted against its group (R122 row 1), its resource fenced (R106, R109). -/
def lastingFault (s : State) (group index : Nat) : State :=
  guard (fence (bump s 0x0301 group 16) group index)

/-! ### Requests, receipts and outcomes (R85–R89, R133–R140) -/

/-- Header fields of a copied request (R133). -/
def reqOpcode (r : List Byte) : Nat := field r 0 2
def reqTag (r : List Byte) : Nat := field r 2 1
def reqFlags (r : List Byte) : Nat := field r 3 1
def reqSeq (r : List Byte) : Nat := field r 4 4
def reqLen (r : List Byte) : Nat := field r 8 2
def reqTimeout (r : List Byte) : Nat := field r 12 4

/-- The request bytes after the header, as many as the length gives, at most 112 (R133). -/
def reqBody (r : List Byte) : List Byte := slice r 16 (min 112 (reqLen r))

/-- The receipt key and epoch in force for a partition: partition 0's is the administrator key of the vault key store
(R148, R341); with none held, the all-zero key of epoch 0 (R88). -/
def receiptKeyOf (s : State) (p : Nat) : List Byte × Nat :=
  if p = 0 then
    match s.vault.adminKey with
    | some k => (k, s.vault.adminEpoch)
    | none => (List.replicate 32 0, 0)
  else
    match (part s p).receiptKey with
    | some k => (k, (part s p).epoch)
    | none => (List.replicate 32 0, 0)

/-- T over the SHA-256 of each part (R87). -/
def digestOf (xs : List (List Byte)) : List Byte := digestT (xs.map sha256).flatten

/-- Receipt bytes 0x00–0x4F given, the MAC added (R88). -/
def macReceipt (key bs : List Byte) : List Byte := bs ++ (hmacSha256 key bs).take 16

/-- The slot a receipt names: the request's own, or that of the tag the slot store's second read returned once the store has failed
(R86, R159). -/
def receiptSlot (s : State) (p k : Nat) : Nat :=
  if s.fencedSlots.contains (p * 32 + k) then bits (reqTag (slotAt s p k).request) 4 0 else k

/-- The 80 bytes of a receipt before its MAC (R86). -/
def receiptBody (s : State) (p k : Nat) (st : Status) (op seq checks picots epoch : Nat) (reexecuted : Bool)
    (manifest input output : List Byte) : List Byte :=
  [1] ++ leBytes 1 (receiptFlags s reexecuted) ++ leBytes 2 st.code ++ leBytes 1 p ++ leBytes 1 (receiptSlot s p k) ++ leBytes 1 epoch
    ++ leBytes 1 s.vault.powerUps ++ leBytes 2 op ++ leBytes 2 (min 65535 checks) ++ leBytes 4 seq
    ++ leBytes 4 (part s p).receiptNo ++ leBytes 4 (min 4294967295 picots) ++ leBytes 8 (mainTime s)
    ++ slice manifest 0 16 ++ slice input 0 16 ++ slice output 0 16

/-- What a command's execution ends with: status, result bytes, buffers read and written, and the manifest digest. -/
structure Answer where
  status : Status
  result : List Byte := []
  reads : List (List Byte) := []
  writes : List (List Byte) := []
  manifest : List Byte := []
  deriving DecidableEq, Repr

/-- The hop where a command's parcel was lost counts one transient fault once the command has recovered (R68, R106). -/
def countHop (s : State) (st : Status) (hop : Option Nat) : State :=
  match st, hop with
  | .recovered, some h => transient s 0x0C h
  | _, _ => s

/-- The outcome of a request is decided and its receipt sealed (R135, R87): the receipt takes the partition's next
number, and a number that is in flight in the history becomes completed (R117). -/
def decideWith (s : State) (p k : Nat) (a : Answer) : State :=
  let sl := slotAt s p k
  let r := sl.request
  let st := if a.status == .ok && (sl.retried || sl.lower) then .recovered else a.status
  let key := receiptKeyOf s p
  let result := a.result.take 48
  let out := if st.usable then digestOf (result :: a.writes) else []
  let reads := digestOf (reqBody r :: sl.inputs ++ a.reads)
  let refusal := st == .refused
  let receipt := macReceipt key.1 (receiptBody s p k st (reqOpcode r) (reqSeq r) (if refusal then 0 else sl.checks)
    (if refusal then 0 else sl.picots) key.2 sl.retried (if refusal then [] else a.manifest) reads out)
  let e : Ending := ⟨st, result, receipt, false, sl.retried⟩
  setPart (countHop s st sl.lostHop) p (fun q => { q with
    receiptNo := (q.receiptNo + 1) % 4294967296
    slots := Tbl.modify q.slots k Slot.empty (fun sl => { sl with phase := .decided, ending := some e, inRepair := false })
    sealOrder := q.sealOrder ++ [k]
    history := { q.history with seen := match sl.inHistory, Tbl.get? q.history.seen (reqSeq r) with
      | true, some .inFlight => Tbl.set q.history.seen (reqSeq r) (.completed (sha256 (reqBody r)) st result receipt)
      | _, _ => q.history.seen } })

/-- A first response returned under R118: its receipt carries afresh number, time, slot, epoch, flags [0] and [1] and
MAC; every other field is the first receipt's. -/
def decideReturned (s : State) (p k : Nat) (st : Status) (result first : List Byte) : State :=
  let key := receiptKeyOf s p
  let again := bit (field first 1 1) 2
  let body := [1] ++ leBytes 1 (receiptFlags s again) ++ slice first 2 3 ++ leBytes 1 k ++ leBytes 1 key.2
    ++ leBytes 1 s.vault.powerUps ++ slice first 8 8 ++ leBytes 4 (part s p).receiptNo ++ slice first 0x14 4
    ++ leBytes 8 (mainTime s) ++ slice first 0x20 48
  let e : Ending := ⟨st, result, macReceipt key.1 body, true, again⟩
  let s := bump s 0x0303 p 32
  setPart s p (fun q => { q with
    receiptNo := (q.receiptNo + 1) % 4294967296
    slots := Tbl.modify q.slots k Slot.empty (fun sl => { sl with phase := .decided, ending := some e, inRepair := false })
    sealOrder := q.sealOrder ++ [k] })

/-- Entries of the receipt ring, none while it is not programmed (R85). -/
def receiptEntries (q : Partition) : Option Nat :=
  let n := bits q.receiptSize 4 0
  if decide (6 ≤ n) && decide (n ≤ 16) then some (2 ^ n) else none

/-- The receipt ring has a free entry (R85). -/
def receiptFree (q : Partition) : Bool :=
  match receiptEntries q with
  | none => false
  | some n => (q.receiptProducer + 1) % n != q.receiptConsumer % n

/-- The 64 bytes of a response slot (R134). -/
def responseBytes (st : Status) (tag flags seq elapsed : Nat) (result : List Byte) : List Byte :=
  leBytes 2 st.code ++ leBytes 1 tag ++ leBytes 1 flags ++ leBytes 4 seq ++ leBytes 2 result.length ++ [0, 0]
    ++ leBytes 4 (min 4294967295 elapsed) ++ slice result 0 48

/-- Writes a response slot of a partition's window. -/
def writeResponse (s : State) (p k : Nat) (bytes : List Byte) : State :=
  setPart s p (fun q => { q with responseBytes := Mem.writeBytes q.responseBytes (64 * k) bytes })

/-- Elapsed µs from the registration (R134), a part of a µs cut off. DESIGN CHOICE, log 53. -/
def elapsed (s : State) (sl : Slot) : Nat := (s.now - sl.at_) / 1000

/-- What the refusal field holds while a returned first response of REFUSED waits for 20 µs (R118). -/
def returnedRefusal : Nat := 256

/-- The completion sequence of R140 for a decided slot whose receipt ring has a free entry. -/
def deliverNow (s : State) (p k : Nat) (e : Ending) : State :=
  let q := part s p
  let sl := slotAt s p k
  let r := sl.request
  let s := send s [.hostWrite q.port q.fn false (q.receiptBase + 96 * (q.receiptProducer % (receiptEntries q).getD 1)) e.receipt]
  let s := setPart s p (fun q => { q with
    receiptProducer := (q.receiptProducer + 1) % (receiptEntries q).getD 1
    sealOrder := q.sealOrder.filter (fun j => j != k) })
  let s := writeResponse s p k (responseBytes e.status (reqTag r) (responseFlags true e.returned e.reexecuted)
    (reqSeq r) (elapsed s sl) e.result)
  let s := if sl.held then postEvent s p ⟨0x0001, false, p, mainTime s, reqSeq r, reqOpcode r, k,
      e.status.code + 65536 * e.result.length⟩ else s
  let s := setSlot s p k (fun _ => Slot.empty)
  if bit (reqFlags r) 0 then s else raiseMsix s p

/-- Decided slots whose completion waits are delivered in the order their receipts were sealed, as long as the ring
has room (R85), up to one whose response's tag does not match (R160). -/
def deliverFuel : Nat → State → Nat → State
  | 0, s, _ => s
  | f + 1, s, p =>
    let q := part s p
    if windowLive q && !s.faults.mailboxFenced && receiptFree q then
      match q.sealOrder with
      | [] => s
      | k :: _ =>
        match (slotAt s p k).phase, (slotAt s p k).ending with
        | .waiting, some e => if (slotAt s p k).mistagged then s else deliverFuel f (deliverNow s p k e) p
        | _, _ => s
    else s

def deliverWaiting (s : State) (p : Nat) : State := deliverFuel ((part s p).sealOrder.length + 1) s p

/-- A decided slot's completion begins; it is delivered as soon as the ring and the order allow (R85, R140). -/
def beginDelivery (s : State) (p k : Nat) : State :=
  deliverWaiting (setSlot s p k (fun sl => { sl with phase := .waiting })) p

/-- A host write of a response is due, and the tag of its storage does not match (R160). -/
def tagDue (s : State) (p : Nat) : Bool :=
  let q := part s p
  windowLive q && !s.faults.mailboxFenced
    && (q.slots.any (fun e => e.2.mistagged && e.2.held && (e.2.phase == .running || e.2.phase == .decided) && q.state == .active)
      || (receiptFree q && (q.sealOrder.head?).any (fun k => (slotAt s p k).mistagged && (slotAt s p k).phase == .waiting)))

/-- ACCEPTED written, the slot held (R138, R139). While the partition is not Active nothing is written: in Quiesced the slot is a
pending delivery and shown busy. A write under a tag that does not match is discarded (R160). -/
def accept (s : State) (p k : Nat) : State :=
  let sl := slotAt s p k
  if sl.held then s
  else
    let r := sl.request
    let active := (part s p).state == .active && !s.faults.mailboxFenced
    let s := setSlot s p k (fun sl => { sl with held := true, busy := (part s p).state == .quiesced })
    if active && !sl.mistagged then
      let s := writeResponse s p k (responseBytes .accepted (reqTag r) 0 (reqSeq r) (elapsed s sl) [])
      if bit (reqFlags r) 0 then s else raiseMsix s p
    else s

/-! ### Sequence history (R117–R119) -/

/-- Every running slot that satisfies a test. -/
def mapRunning (s : State) (test : Nat → Nat → Slot → Bool) (f : Slot → Slot) : State :=
  { s with parts := Tbl.mapAll s.parts (fun p q => { q with slots := Tbl.mapAll q.slots (fun k sl =>
    if sl.phase == .running && test p k sl then f sl else sl) }) }

/-- A layer retries on a command's behalf (R114). -/
def Slot.repairing (layer : Nat) (sl : Slot) : Slot := { sl with inRepair := true, layer := layer }

/-- The budget in ns of the layer that retries for a command (R111). -/
def Slot.layerNs (sl : Slot) : Nat :=
  match sl.layer with
  | 1 => 2000
  | 2 => 500
  | 3 => sl.budgetNs
  | _ => 50000

/-- Where a sequence number stands (R117, R118). -/
inductive Place where
  | new | unseen | inFlight | behind
  | completed (digest : List Byte) (status : Status) (result receipt : List Byte)
  deriving DecidableEq, Repr

/-- The distance of a number from the highest accepted, modulo 2³² (R117). -/
def distance (high s : Nat) : Nat := (s + 4294967296 - high % 4294967296) % 4294967296

def History.place (h : History) (s : Nat) : Place :=
  match h.high with
  | none => .new
  | some hi =>
    let d := distance hi s
    if decide (1 ≤ d) && decide (d ≤ 2147483647) then .new
    else if d == 0 || decide (4294963201 ≤ d) then
      match Tbl.get? h.seen s with
      | none => .unseen
      | some .inFlight => .inFlight
      | some (.completed g st r rc) => .completed g st r rc
    else .behind

/-- A number enters the history: a new one becomes the highest, and numbers that fall out of the window leave (R117). -/
def History.enter (h : History) (s : Nat) : History :=
  match h.place s with
  | .new =>
    ⟨some s, Tbl.set (h.seen.filter (fun e => decide (distance e.1 s ≤ 4095))) s .inFlight⟩
  | .unseen => ⟨h.high, Tbl.set h.seen s .inFlight⟩
  | _ => h

def History.remove (h : History) (s : Nat) : History := ⟨h.high, Tbl.erase h.seen s⟩

/-! ### Ending a command -/

/-- A command that runs ends with a status: a tenant's or the administrator's slot is decided. -/
def endSlot (s : State) (p k : Nat) (a : Answer) : State :=
  match (slotAt s p k).phase with
  | .running => decideWith s p k a
  | .registered => decideWith s p k a
  | .refusing => decideWith s p k a
  | _ => s

/-- A slot that leaves no response and no receipt: its number leaves the history (R139). -/
def dropSlot (s : State) (p k : Nat) : State :=
  let sl := slotAt s p k
  setPart s p (fun q => { q with
    slots := Tbl.erase q.slots k
    sealOrder := q.sealOrder.filter (fun j => j != k)
    history := match sl.inHistory, Tbl.get? q.history.seen (reqSeq sl.request) with
      | true, some .inFlight => q.history.remove (reqSeq sl.request)
      | _, _ => q.history })

end Sys2Proof.Machine
end

