-- ==== Sys2Proof/Machine/Operands.lean ====
section
/-! DEFINITION. What a mailbox or TWT request carries: its fields, the opcode table with privileges, latency classes
and body lengths, buffer descriptors, and the checks every opcode shares. -/

namespace Sys2Proof.Machine

open Sys2Proof

/-- Privilege classes (R149). -/
inductive Privilege where
  | admin | any | granted
  deriving DecidableEq, Repr

/-- Latency classes (R480). -/
inductive Latency where
  | immediate | control | management | data | modelRun | storage | long
  deriving DecidableEq, Repr

/-- A row of the command reference: opcode, privilege, latency class, least and greatest body length (R476). -/
structure OpInfo where
  op : Nat
  privilege : Privilege
  latency : Latency
  least : Nat
  most : Nat
  deriving DecidableEq, Repr

/-- Group 0x00xx. -/
def opcodes00 : List OpInfo :=
  [⟨0x0001, .any, .immediate, 0, 0⟩, ⟨0x0002, .admin, .control, 76, 76⟩, ⟨0x0003, .admin, .control, 1, 1⟩,
   ⟨0x0004, .admin, .control, 8, 8⟩, ⟨0x0005, .admin, .immediate, 4, 4⟩, ⟨0x0006, .admin, .immediate, 2, 2⟩,
   ⟨0x0007, .admin, .immediate, 2, 2⟩, ⟨0x0008, .any, .immediate, 8, 8⟩, ⟨0x0009, .any, .immediate, 1, 1⟩]

/-- Group 0x01xx. -/
def opcodes01 : List OpInfo :=
  [⟨0x0101, .any, .long, 16, 16⟩, ⟨0x0102, .any, .control, 2, 2⟩, ⟨0x0103, .any, .immediate, 2, 2⟩,
   ⟨0x0110, .any, .modelRun, 56, 56⟩, ⟨0x0111, .any, .data, 48, 48⟩, ⟨0x0120, .admin, .immediate, 2, 2⟩,
   ⟨0x0121, .admin, .immediate, 1, 1⟩, ⟨0x0122, .admin, .immediate, 4, 4⟩]

/-- Group 0x02xx. -/
def opcodes02 : List OpInfo :=
  [⟨0x0201, .any, .immediate, 4, 4⟩, ⟨0x0202, .any, .immediate, 4, 4⟩, ⟨0x0203, .any, .data, 32, 32⟩,
   ⟨0x0210, .any, .immediate, 9, 9⟩, ⟨0x0211, .any, .immediate, 4, 4⟩, ⟨0x0212, .any, .immediate, 16, 16⟩,
   ⟨0x0213, .any, .long, 16, 16⟩, ⟨0x0214, .any, .immediate, 4, 4⟩, ⟨0x0215, .any, .immediate, 5, 5⟩]

/-- Group 0x03xx. -/
def opcodes03 : List OpInfo :=
  [⟨0x0301, .admin, .immediate, 21, 84⟩, ⟨0x0302, .admin, .immediate, 21, 84⟩, ⟨0x0303, .admin, .immediate, 5, 68⟩,
   ⟨0x0304, .admin, .immediate, 5, 68⟩, ⟨0x0305, .admin, .immediate, 80, 80⟩, ⟨0x0306, .admin, .immediate, 72, 72⟩,
   ⟨0x0307, .admin, .immediate, 10, 10⟩, ⟨0x0308, .admin, .immediate, 20, 20⟩, ⟨0x0309, .any, .control, 16, 16⟩,
   ⟨0x030A, .any, .immediate, 8, 8⟩, ⟨0x030B, .granted, .data, 24, 24⟩, ⟨0x030C, .admin, .control, 32, 32⟩,
   ⟨0x030D, .admin, .control, 48, 48⟩, ⟨0x0381, .admin, .immediate, 1, 1⟩, ⟨0x0382, .admin, .immediate, 1, 1⟩,
   ⟨0x0383, .admin, .immediate, 1, 1⟩, ⟨0x03C1, .admin, .immediate, 5, 5⟩, ⟨0x03C2, .admin, .control, 1, 1⟩,
   ⟨0x03C3, .admin, .immediate, 1, 1⟩]

/-- Group 0x04xx. -/
def opcodes04 : List OpInfo :=
  [⟨0x0401, .admin, .control, 24, 24⟩, ⟨0x0402, .admin, .immediate, 4, 4⟩, ⟨0x0403, .granted, .storage, 32, 32⟩,
   ⟨0x0404, .granted, .storage, 32, 32⟩, ⟨0x0405, .granted, .storage, 4, 4⟩, ⟨0x0406, .granted, .storage, 24, 24⟩,
   ⟨0x0407, .admin, .immediate, 1, 1⟩]

/-- Group 0x05xx. -/
def opcodes05 : List OpInfo :=
  [⟨0x0501, .admin, .control, 32, 80⟩, ⟨0x0502, .any, .control, 4, 4⟩, ⟨0x0503, .admin, .control, 16, 88⟩,
   ⟨0x0504, .any, .immediate, 12, 12⟩, ⟨0x0505, .any, .immediate, 4, 4⟩, ⟨0x0506, .any, .control, 16, 88⟩,
   ⟨0x0510, .any, .data, 88, 88⟩, ⟨0x0520, .admin, .management, 16, 16⟩, ⟨0x0521, .admin, .management, 24, 24⟩,
   ⟨0x0522, .admin, .control, 44, 44⟩]

/-- Group 0x06xx. -/
def opcodes06 : List OpInfo :=
  [⟨0x0601, .any, .management, 0, 0⟩, ⟨0x0602, .admin, .management, 10, 10⟩, ⟨0x0603, .admin, .management, 2, 2⟩,
   ⟨0x0604, .admin, .management, 16, 16⟩, ⟨0x0605, .admin, .management, 2, 2⟩, ⟨0x0606, .admin, .management, 2, 2⟩,
   ⟨0x0607, .admin, .management, 1, 1⟩, ⟨0x0608, .admin, .management, 4, 4⟩, ⟨0x0609, .admin, .management, 2, 2⟩,
   ⟨0x060A, .admin, .management, 1, 1⟩, ⟨0x060B, .admin, .management, 0, 0⟩, ⟨0x060C, .admin, .management, 0, 0⟩,
   ⟨0x0610, .admin, .management, 0, 0⟩, ⟨0x0611, .admin, .management, 24, 24⟩, ⟨0x0612, .admin, .management, 48, 48⟩,
   ⟨0x0613, .admin, .management, 4, 4⟩]

/-- Group 0x07xx. -/
def opcodes07 : List OpInfo :=
  [⟨0x0701, .admin, .management, 2, 2⟩, ⟨0x0702, .admin, .management, 1, 1⟩, ⟨0x0703, .admin, .management, 1, 1⟩,
   ⟨0x0704, .admin, .management, 0, 0⟩, ⟨0x0705, .admin, .management, 3, 3⟩, ⟨0x0710, .admin, .management, 4, 4⟩,
   ⟨0x0711, .admin, .management, 1, 1⟩, ⟨0x0712, .admin, .management, 0, 0⟩, ⟨0x0720, .admin, .management, 8, 8⟩,
   ⟨0x0721, .admin, .management, 12, 12⟩, ⟨0x0722, .admin, .management, 2, 2⟩, ⟨0x0723, .admin, .management, 1, 1⟩,
   ⟨0x0724, .admin, .management, 1, 1⟩, ⟨0x0725, .admin, .management, 1, 1⟩, ⟨0x0730, .admin, .management, 0, 0⟩]

/-- Group 0x08xx. -/
def opcodes08 : List OpInfo :=
  [⟨0x0801, .granted, .management, 8, 56⟩, ⟨0x0802, .admin, .management, 3, 3⟩, ⟨0x0803, .admin, .management, 1, 1⟩]

/-- Group 0x09xx. -/
def opcodes09 : List OpInfo :=
  [⟨0x0901, .any, .immediate, 4, 4⟩, ⟨0x0902, .admin, .immediate, 0, 0⟩, ⟨0x0903, .admin, .control, 60, 60⟩]

/-- Group 0x0Axx. -/
def opcodes0A : List OpInfo :=
  [⟨0x0A01, .admin, .long, 2, 2⟩, ⟨0x0A02, .admin, .immediate, 1, 1⟩, ⟨0x0A03, .admin, .control, 4, 4⟩,
   ⟨0x0A04, .admin, .long, 4, 4⟩, ⟨0x0A05, .admin, .long, 16, 16⟩]

/-- Every opcode of the command reference (R479). -/
def opcodes : List OpInfo :=
  opcodes00 ++ opcodes01 ++ opcodes02 ++ opcodes03 ++ opcodes04 ++ opcodes05 ++ opcodes06 ++ opcodes07 ++ opcodes08 ++ opcodes09 ++ opcodes0A

def opInfo (op : Nat) : Option OpInfo := opcodes.find? (fun i => i.op == op)

/-- A request under way: partition and slot, or TWT. -/
structure Ctx where
  p : Nat
  k : Nat
  twt : Bool
  op : Nat
  tag : Nat
  flags : Nat
  seq : Nat
  len : Nat
  reserved : Nat
  timeout : Nat
  grant : Nat
  body : List Byte
  deriving DecidableEq, Repr

/-- The fields of a slot's copied request. -/
def slotCtx (p k : Nat) (sl : Slot) : Ctx :=
  ⟨p, k, false, reqOpcode sl.request, reqTag sl.request, reqFlags sl.request, reqSeq sl.request, reqLen sl.request,
    field sl.request 10 2, reqTimeout sl.request, sl.grant, reqBody sl.request⟩

/-- The fields of a TWT request frame (R453); it runs with administrator privilege (R482). -/
def twtCtx (f : List Byte) : Ctx :=
  ⟨0, 0, true, field f 0 2, 0, 0, field f 2 4, field f 6 2, 0, 0, 0, slice f 8 (min 56 (field f 6 2))⟩

/-- The request an origin names, while it runs. -/
def ctxOf (s : State) : Origin → Option Ctx
  | .mbx p k => if (slotAt s p k).phase == .running then some (slotCtx p k (slotAt s p k)) else none
  | .twt => if s.twt.running then s.twt.request.map twtCtx else none

/-- A body field (R476, little-endian R12). Bytes beyond the length read zero and decide nothing (R18). -/
def Ctx.u (c : Ctx) (off n : Nat) : Nat := field c.body off n

/-- A field that lies wholly within the request's length (R18). -/
def Ctx.has (c : Ctx) (off n : Nat) : Bool := decide (off + n ≤ c.body.length)

/-- A reserved field that is not zero (R13). -/
def Ctx.dirty (c : Ctx) (off n : Nat) : Bool := c.u off n != 0

/-- The administrator: partition 0, and TWT. -/
def Ctx.isAdmin (c : Ctx) : Bool := c.p == 0

/-- Always-on counters: chapter codes 0x0C–0x0F (R486). -/
def alwaysOnCounter (ident : Nat) : Bool := decide (0x0C ≤ ident / 256) && decide (ident / 256 ≤ 0x0F)

/-- A request's latency class: a counter read is of class M for an always-on counter (R480, R486). -/
def Ctx.latency (c : Ctx) (i : OpInfo) : Latency :=
  if c.op == 0x0901 && alwaysOnCounter (c.u 0 2) then .management else i.latency

/-- Opcodes TWT accepts (R454). -/
def twtAccepts (op : Nat) : Bool := op == 0x0001 || op / 256 == 0x07 || op / 256 == 0x08 || op == 0x0901

/-- Opcodes the safe state still answers over TWT (R487). -/
def safeStateAnswers (op : Nat) : Bool := [0x0001, 0x0705, 0x0712, 0x0725, 0x0730, 0x0803, 0x0901].contains op

/-- T_min in µs from a recovery budget B_op in ns: 2 × (2 + 0.5 + B_op + 50) (R112), rounded up. -/
def tMin (bopNs : Nat) : Nat := ceilDiv (2 * (52500 + bopNs)) 1000

/-- The greatest timeout the header carries (R112). -/
def maxTimeout : Nat := 4294967295

/-- The recovery budgets of the classes that have a fixed one, in ns (R480). -/
def Latency.budgetNs : Latency → Nat
  | .immediate => 10000 | .control => 1000000 | .management => 100000000 | .storage => 1000000000
  | .data => 0 | .modelRun => 0 | .long => 10000

/-- B_op of a data command: E + D + 12 µs, E = 2 µs + 8 ns per parcel moved (R111, R480). -/
def dataBudgetNs (s : State) (p bytes : Nat) : Nat :=
  2000 + 8 * ceilDiv bytes 256 + 1000 * (part s p).deadlineUs + 12000

/-- The management core does not serve the mailbox: its safe state, or a fenced hop to or from it (R109, R487). -/
def managementOut (s : State) : Bool := s.faults.safeState || isFenced s 0x0C (20 * 16) || isFenced s 0x0C (21 * 16)

/-- A hop to or from the vault is fenced (R109). -/
def vaultOut (s : State) : Bool := isFenced s 0x0C (22 * 16) || isFenced s 0x0C (23 * 16)

/-- The checks of R18 that every mailbox request undergoes, with its opcode's recovery budget (R13, R112, R133,
R149, R162, R476, R487). -/
def mailboxChecks (s : State) (c : Ctx) (bopNs : Nat) : Checks :=
  match opInfo c.op with
  | none => { booting := !s.boot.synfyReady, badCommand := true }
  | some i =>
    { booting := !s.boot.synfyReady && c.op != 0x0001
      refused := if c.p == 0 then none
        else match i.privilege with
          | .any => none
          | .admin => some 0x01
          | .granted => if bit c.grant (c.op / 256) then none else some 0x01
      badCommand := c.op == 0x0704
      badParameter := bits c.tag 4 0 != c.k || bits c.flags 7 1 != 0 || c.reserved != 0 || decide (112 < c.len)
        || decide (c.len < i.least) || decide (i.most < c.len)
      budget := (c.timeout != 0 && decide (c.timeout < tMin bopNs)) || decide (maxTimeout < tMin bopNs)
      execution := if (c.latency i == .management && managementOut s) || (c.op / 256 == 6 && vaultOut s) then some .lasting
        else none }

/-- The checks of a TWT request (R454, R463, R476, R482, R487). -/
def twtChecks (s : State) (c : Ctx) : Checks :=
  let accepted := s.boot.phase != .noImage && s.boot.phase != .selecting && s.boot.phase != .down
  { booting := !accepted && c.op != 0x0001 && !(c.op == 0x0704 && s.boot.phase == .noImage)
    badCommand := !twtAccepts c.op || (opInfo c.op).isNone
    badParameter := match opInfo c.op with
      | none => false
      | some i => decide (c.len < i.least) || decide (i.most < c.len)
          || (c.op == 0x0901 && !alwaysOnCounter (c.u 0 2))
    execution := if s.faults.safeState && !safeStateAnswers c.op then some .lasting else none }

def commonChecks (s : State) (c : Ctx) (bopNs : Nat) : Checks :=
  if c.twt then twtChecks s c else mailboxChecks s c bopNs

/-- The answer to a TWT request stands until the next Block Write (R453). -/
def twtAnswer (s : State) (st : Status) (result : List Byte) : State :=
  match s.twt.request with
  | none => s
  | some f =>
    { s with twt := { s.twt with
      running := false
      unread := true
      response := some (leBytes 2 st.code ++ slice f 2 4 ++ leBytes 2 (result.take 56).length ++ result.take 56) } }

/-- A request's outcome: a slot is decided and its receipt sealed; TWT gets its answer and no receipt (R482). -/
def finish (s : State) (c : Ctx) (a : Answer) : State :=
  if c.twt then twtAnswer s a.status a.result else endSlot s c.p c.k a

/-- A request from the origin named ends. -/
def finishOrigin (s : State) (o : Origin) (a : Answer) : State :=
  match o with
  | .mbx p k => endSlot s p k a
  | .twt => twtAnswer s a.status a.result

/-- A refusal decided (R17, R149, R151): the reason goes to the administrator's ring, the refusal is counted
(R158 row 3), and a tenant's slot is held until 20 µs after its registration. -/
def refuse (s : State) (c : Ctx) (reason : Nat) : State :=
  if c.twt then twtAnswer (raiseAon s 0x0002 false (reason + 256 * c.k)) .refused []
  else
    let s := postEvent s 0 ⟨0x0002, false, c.p, mainTime s, c.seq, c.op, c.k, reason + 256 * c.k⟩
    let s := bump s 0x0403 (c.p * 256 + reason) 32
    if c.p == 0 then endSlot s c.p c.k { status := .refused }
    else setSlot s c.p c.k (fun sl => { sl with phase := .refusing, refusal := reason })

/-- A request that one of its checks ends (R18). -/
def turnAway (s : State) (c : Ctx) (ch : Checks) (st : Status) (result : List Byte := []) : State :=
  match st with
  | .refused => refuse s c (ch.refused.getD 0)
  | _ => finish s c { status := st, result := result }

/-- A check that a command under way no longer passes. A refusal was judged at its command start (R151): what has since become one,
its object removed or the fuse of its source blown, withdraws a slot's command and ends it with CANCELLED. TWT requests are judged as
they run. DESIGN CHOICE, log 62. -/
def turnBack (s : State) (c : Ctx) (ch : Checks) (st : Status) : State :=
  if st == .refused && !c.twt then finish s c { status := .cancelled } else turnAway s c ch st

/-- The common course of every command of the command set: the request its origin names must be running under this
opcode; the checks of R18 are made in order, and the effect follows only when all have passed. -/
def runOp (op : Nat) (o : Origin) (s : State) (bop : State → Ctx → Nat) (chk : State → Ctx → Checks)
    (eff : State → Ctx → State) : State :=
  let s := s.fresh_
  match ctxOf s o with
  | none => s
  | some c =>
    if c.op != op then s
    else
      let ch := (commonChecks s c (bop s c)).both (chk s c)
      match ch.verdict with
      | some st => turnBack s c ch st
      | none => eff s c

/-- The request an origin names is under way already. -/
def begun (s : State) : Origin → Bool
  | .mbx p k => (slotAt s p k).begun
  | .twt => s.twt.begun

/-- A request that its effect left running is under way. -/
def markBegun (s : State) (o : Origin) : State :=
  if (ctxOf s o).isNone then s
  else match o with
    | .mbx p k => setSlot s p k (fun sl => { sl with begun := true })
    | .twt => { s with twt := { s.twt with begun := true } }

/-- The course of a command whose effect may end in a later step: once it is under way the row does nothing more. -/
def runOnce (op : Nat) (o : Origin) (s : State) (bop : State → Ctx → Nat) (chk : State → Ctx → Checks)
    (eff : State → Ctx → State) : State :=
  if begun s o then s.fresh_ else runOp op o s bop chk (fun s c => markBegun (eff s c) o)

/-- The fixed budget of a class as an opcode's budget. -/
def fixed (l : Latency) : State → Ctx → Nat := fun _ _ => l.budgetNs

/-- No check beyond the common ones. -/
def noChecks : State → Ctx → Checks := fun _ _ => {}

/-! ### Handles (R199, R234) -/

/-- The generation an index of a handle kind holds: 16 bits, 8 for models (R234). -/
def generation (s : State) (kind index : Nat) : Nat :=
  Tbl.getD s.memory.generations (kind * 65536 + index)
    (s.memory.generationBase % (if kind = 1 then 256 else 65536))

/-- The generation of an index raised by one at each new object (R199, R217). -/
def nextGeneration (s : State) (kind index : Nat) : State :=
  let g := (generation s kind index + 1) % (if kind = 1 then 256 else 65536)
  { s with memory := { s.memory with generations := Tbl.set s.memory.generations (kind * 65536 + index) g } }

/-- The live region a handle names for a partition (R200). -/
def regionOf (s : State) (p handle : Nat) : Option Region :=
  let i := handle % 65536
  if decide (i < 256) && handle / 65536 == generation s 0 (p * 256 + i) then Tbl.get? s.memory.regions (p * 256 + i)
  else none

def regionKey (p handle : Nat) : Nat := p * 256 + handle % 65536

/-! ### Buffer descriptors (R477) and node memory (R196–R205) -/

structure Desc where
  loc : Nat
  len : Nat
  kind : Nat
  reserved : Nat
  deriving DecidableEq, Repr

def Ctx.desc (c : Ctx) (off : Nat) : Desc := ⟨c.u off 8, c.u (off + 8) 4, c.u (off + 12) 1, c.u (off + 13) 3⟩

def granuleBytes : Nat := 2097152

/-- The node-memory address of a byte offset in a region. -/
def Region.address (r : Region) (off : Nat) : Nat :=
  (r.granules.getD (off / granuleBytes) 0) * granuleBytes + off % granuleBytes

/-- What a descriptor must satisfy: its kind, its length, its reserved bytes, its region live and reached (R200, R477). -/
def descChecks (s : State) (c : Ctx) (off : Nat) : Checks :=
  let d := c.desc off
  { refused := if c.has off 13 && d.kind == 2 && (regionOf s c.p (d.loc % 4294967296)).isNone then some 0x02 else none
    badParameter := (d.kind != 1 && d.kind != 2) || d.reserved != 0 || d.len == 0
      || (d.kind == 2 && (match regionOf s c.p (d.loc % 4294967296) with
          | none => false
          | some r => decide (r.granules.length * granuleBytes < d.loc / 4294967296 + d.len))) }

/-- A descriptor that must name host memory. -/
def hostDescChecks (s : State) (c : Ctx) (off least : Nat) : Checks :=
  let d := c.desc off
  (descChecks s c off).both { badParameter := d.kind != 1 || decide (d.len < least) }

/-- The tag state of a line: a sweep in progress decides before its own writes reach the line (R203, R205). -/
def lineTag (s : State) (line : Nat) : Tag :=
  let t := Tbl.getD s.memory.tags line ⟨0, false, 0⟩
  if t.state == 1 then
    match s.memory.sweeps.find? (fun w => w.convoy == t.convoy && w.generation == t.generation) with
    | some w => if w.cancelled then { t with state := 2 } else ⟨0, false, 0⟩
    | none => t
  else t

/-- A cancelled line's convoy may still have another outcome: its second attempt is owed or runs (R72, R80). -/
def outcomeOpen (s : State) (t : Tag) : Bool :=
  let c := Tbl.getD s.convoys t.convoy Convoy.init
  if decide (c.attempt < 2) then
    c.state == .cancelling && c.generation == t.generation
      && (c.cause == some .ownCheck || c.cause == some .deadline || c.cause == some .portLeftRun)
  else (c.state == .opened || c.state == .sealed) && c.generation == !t.generation

/-- The state a line shows a reader: a line cancelled in a first attempt stays provisional until its convoy's final outcome (R72,
R205). -/
def readState (s : State) (line : Nat) : Nat :=
  let t := lineTag s line
  if t.state == 2 && outcomeOpen s t then 1 else t.state

/-- The lines a byte range of a region covers. -/
def Region.lines (r : Region) (off len : Nat) : List Nat :=
  (List.range (ceilDiv (off % 256 + len) 256)).map (fun i => (r.address (off - off % 256 + 256 * i)) / 256)

/-- A byte range of a region touches a granule that is retiring: accesses wait until the retirement ends (R226). -/
def rangeRetiring (s : State) (r : Region) (off len : Nat) : Bool :=
  (List.range (ceilDiv (off % granuleBytes + len) granuleBytes)).any (fun i =>
    (Tbl.getD s.memory.granules (r.granules.getD (off / granuleBytes + i) 0) Granule.init).retiring.isSome)

/-- What a read of a range meets: `some none` must wait for a convoy (R72) or the end of a retirement (R226),
`some (some st)` ends with a status, `none` goes ahead: a cancelled line fails with INTEGRITY (R72), a poisoned one or a damaged region with LASTING (R225, R226). -/
def readMeets (s : State) (r : Region) (off len : Nat) : Option (Option Status) :=
  let ts := (r.lines off len).map (readState s)
  if r.damaged then some (some .lasting)
  else if rangeRetiring s r off len then some none
  else if ts.contains 3 then some (some .lasting)
  else if ts.contains 2 then some (some .integrity)
  else if ts.contains 1 then some none
  else none

/-- What a write of a range meets, in the same form: a damaged region, a retiring granule, or a partial write to a cancelled or poisoned line (R203, R226). -/
def writeMeets (s : State) (r : Region) (off len : Nat) : Option (Option Status) :=
  let first := if off % 256 = 0 then [] else [off]
  let last := if (off + len) % 256 = 0 then [] else [off + len - 1]
  if r.damaged then some (some .lasting)
  else if rangeRetiring s r off len then some none
  else if (first ++ last).any (fun o => decide (2 ≤ (lineTag s (r.address o / 256)).state)) then some (some .integrity)
  else none

def regionRead (s : State) (r : Region) (off len : Nat) : List Byte :=
  (List.range len).map (fun i => Mem.read s.memory.bytes (r.address (off + i)))

/-- A confirmed write: the bytes, and tags of state 0 (R203). -/
def regionWrite (s : State) (r : Region) (off : Nat) (bs : List Byte) : State :=
  let writes := (List.range bs.length).foldl (fun m i => Mem.write m (r.address (off + i)) (bs.getD i 0)) s.memory.bytes
  { s with memory := { s.memory with
    bytes := writes
    tags := (r.lines off bs.length).foldl (fun t l => Tbl.erase t l) s.memory.tags } }

/-- What reading a descriptor meets. -/
def descReadMeets (s : State) (p : Nat) (d : Desc) : Option (Option Status) :=
  if d.kind == 2 then
    match regionOf s p (d.loc % 4294967296) with
    | none => some (some .lasting)
    | some r => readMeets s r (d.loc / 4294967296) d.len
  else none

/-- What writing a descriptor meets. -/
def descWriteMeets (s : State) (p : Nat) (d : Desc) : Option (Option Status) :=
  if d.kind == 2 then
    match regionOf s p (d.loc % 4294967296) with
    | none => some (some .lasting)
    | some r => writeMeets s r (d.loc / 4294967296) d.len
  else none

/-- The bytes a descriptor names: what the host returned, or node memory. -/
def readDesc (s : State) (p : Nat) (d : Desc) (host : List Byte) : List Byte :=
  if d.kind == 2 then
    match regionOf s p (d.loc % 4294967296) with
    | none => []
    | some r => regionRead s r (d.loc / 4294967296) d.len
  else slice host 0 d.len

/-- Bytes written where a descriptor names: through the host gate under the partition's function (R275), or to node
memory. -/
def writeDesc (s : State) (p : Nat) (d : Desc) (bs : List Byte) : State :=
  if d.kind == 2 then
    match regionOf s p (d.loc % 4294967296) with
    | none => s
    | some r => regionWrite s r (d.loc / 4294967296) bs
  else send s [.hostWrite (part s p).port (part s p).fn (relaxedFor s p) d.loc bs]

end Sys2Proof.Machine
end

