-- ==== Sys2Proof/Machine/Buses.lean ====
section
/-! DEFINITION. Controller-capable buses as every user of them sees them: hung, and absent targets (R448, R449, R456). -/

namespace Sys2Proof.Machine

open Sys2Proof

def bus (s : State) (b : Nat) : Bus := Tbl.getD s.buses b Bus.init

def setBus (s : State) (b : Nat) (f : Bus → Bus) : State := { s with buses := Tbl.modify s.buses b Bus.init f }

/-- A transaction to a target makes no traffic: the bus is hung, or the target is marked absent (R449, R456). -/
def noTraffic (s : State) (b addr : Nat) : Bool := (bus s b).hung.isSome || (Tbl.get? (bus s b).absent addr).isSome

/-- A target did not acknowledge its address in two attempts: it is marked absent (R448). -/
def markTargetAbsent (s : State) (b addr : Nat) : State :=
  let s := setBus s b (fun x => { x with absent := Tbl.set x.absent addr s.now })
  raiseAon (bump (bump s 0x0E01 b 16) 0x0301 0x14 16) 0x0801 true (b + 256 * addr)

/-- What a read or write of the management core's own meets: the target answers, or is absent. Two attempts went unanswered
where there was traffic. -/
def ownTraffic (s : State) (b addr : Nat) (answered : Bool) : Bool × State :=
  if noTraffic s b addr then (false, s)
  else if answered then (true, s)
  else (false, markTargetAbsent (bump s 0x0E00 b 32) b addr)

end Sys2Proof.Machine
end

