-- ==== Sys2Proof/Machine/Kt.lean ====
section
/-! DEFINITION. The KT operating point: Synfy's request, the administrator's limit, the thermal ceiling, the supply's setpoint
and the switch (R26, R39, R167, R168). -/

namespace Sys2Proof.Machine

open Sys2Proof

def setTensor (s : State) (f : Tensor → Tensor) : State := { s with tensor := f s.tensor }

def setAon (s : State) (f : AlwaysOn → AlwaysOn) : State := { s with aon := f s.aon }

def rail (s : State) (v : Nat) : Rail := Tbl.getD s.aon.rails v Rail.init

def setRail (s : State) (v : Nat) (f : Rail → Rail) : State :=
  setAon s (fun a => { a with rails := Tbl.modify a.rails v Rail.init f })

def railCfg (s : State) (v : Nat) : RailCfg := s.aon.tables.rails.getD v ⟨0, 50, 50, 1, none, false, 0, false⟩

/-- The tensor supply's setpoint of a point, in mV (R168). -/
def setpointOf (s : State) (point : Nat) : Nat := s.aon.tables.setpoints.getD (point - 1) 0

/-- The tensor supply's rail: the main-domain rail whose nominal voltage is the setpoint of 0.6 GHz, at which KT starts. -/
def tensorRail (s : State) : Option Nat :=
  (List.range 24).find? (fun v => (railCfg s v).main && (railCfg s v).nominal == setpointOf s 1 && setpointOf s 1 != 0)

/-- The setpoint of the tensor supply changes: old and new window are both in force for at most 200 µs (R397). -/
def writeSetpoint (s : State) (old : Nat) : State :=
  match tensorRail s with
  | none => s
  | some v => setRail s v (fun r => { r with window := some (setpointOf s old, s.now + 200000) })

/-- The point KT may go to: the lowest of the ceiling in force, the limit and the request. -/
def wantedPoint (s : State) : Nat := min s.tensor.allowed (min s.tensor.request s.tensor.limit)

/-- KT heads for a lower point at once, and no new tile pass is issued until it is there (R26). A higher one waits for the
supply (R168). -/
def retune (s : State) : State :=
  let w := wantedPoint s
  let t := s.tensor
  if w < t.point then
    setTensor s (fun t => { t with target := some w, raising := none, lowerFrom := t.lowerFrom.or (some s.now) })
  else
    let s := setTensor s (fun t => { t with lowerFrom := none })
    if t.point < w then
      if w ≤ t.setpoint then setTensor s (fun t => { t with target := some w, raising := none })
      else if t.raising == some w then s
      else writeSetpoint (setTensor s (fun t => { t with raising := some w, target := none })) t.setpoint
    else setTensor s (fun t => { t with target := none, raising := none })

/-- Synfy requests a point (R167): the ceiling as it now stands comes into force (R26). -/
def requestPoint (s : State) (p : Nat) : State := retune (setTensor s (fun t => { t with request := p, allowed := t.ceiling }))

/-- A new ceiling: a lower one acts at once, a raise only when Synfy next requests (R26). -/
def setCeiling (s : State) (c : Nat) : State :=
  retune (setTensor s (fun t => { t with ceiling := c, allowed := min t.allowed c }))

/-- Tile passes are queued or running: a model run under way, or partner blocks to be recomputed (R167, R186). -/
def passesQueued (s : State) : Bool :=
  !s.tensor.passes.isEmpty || s.tensor.offloads.any (fun e => !e.2.drawn.isEmpty)
    || s.parts.any (fun e => e.2.slots.any (fun k => k.2.phase == .running && k.2.begun && reqOpcode k.2.request == 0x0110))

/-- The idle PLL has locked and the multiplexer moves KT (R39); after a lower the setpoint follows (R168). -/
def ktSwitch (s : State) : State :=
  let s := s.fresh_
  match s.tensor.target with
  | none => s
  | some w =>
    let s := setTensor s (fun t => { t with point := w, target := none, pll := 3 - t.pll, lowerFrom := none })
    if w < s.tensor.setpoint then writeSetpoint (setTensor s (fun t => { t with setpoint := w })) s.tensor.setpoint else s

/-- KT_SWITCH (R39). -/
def execKtSwitch (s : State) : Host.Outcome State Fault Refusal := .next (ktSwitch s)

/-- KT_IDLE_EXPIRY (R167): 1 ms with no tile pass running. -/
def execKtIdleExpiry (s : State) : Host.Outcome State Fault Refusal :=
  .next (if passesQueued s then s.fresh_ else requestPoint s.fresh_ 1)

/-- The rail reports power good at the new value: the old window ends and KT may move (R168, R397). -/
def setpointPowerGood (s : State) (v : Nat) : State :=
  let s := setRail s.fresh_ v (fun r => { r with window := none })
  if tensorRail s != some v then s
  else match s.tensor.raising with
    | none => s
    | some w => setTensor s (fun t => { t with setpoint := w, raising := none, target := some (min w t.allowed) })

/-- SETPOINT_POWER_GOOD (R168, R397). -/
def execSetpointPowerGood (rail : Fin 24) (s : State) : Host.Outcome State Fault Refusal :=
  .next (setpointPowerGood s rail)

/-- The checks of opcode 0x0121 beyond the common ones (R18). -/
def ktLimitSetChecks : State → Ctx → Checks :=
                                             (fun _ c => { badParameter := c.u 0 1 == 0 || decide (4 < c.u 0 1) })

/-- KT_LIMIT_SET (R167): the administrator's limit. While work asks for more than 0.6 GHz, Synfy requests anew under it. -/
def execKtLimitSet (o : Origin) (s : State) : Host.Outcome State Fault Refusal :=
  .next (runOp 0x0121 o s (fixed .immediate) ktLimitSetChecks
    (fun s c =>
      let s := setTensor s (fun t => { t with limit := c.u 0 1 })
      finish (if 1 < s.tensor.request then requestPoint s s.tensor.request else retune s) c { status := .ok }))

end Sys2Proof.Machine
end

