-- ==== Sys2Proof/Machine/Aes.lean ====
section
/-! DEFINITION. AES and the modes the spec names (R330, R336, R348): GCM, CTR, XTS, CBC with PKCS #7, CMAC and
AES-KW. The spec names the published standards and does not print them: PRESUMED, log 5. -/

namespace Sys2Proof.Machine

open Sys2Proof

/-- Multiplication by x in the AES field, a byte read as a number. -/
def xtime (a : Nat) : Nat := if a < 128 then 2 * a else Nat.xor (2 * a) 0x11B

/-- Multiplication in the AES field by a constant below 16, the constant taken bit by bit. -/
def gmul (a k : Nat) : Nat :=
  Nat.xor (Nat.xor (if k % 2 = 1 then a else 0) (if k / 2 % 2 = 1 then xtime a else 0))
    (Nat.xor (if k / 4 % 2 = 1 then xtime (xtime a) else 0) (if k / 8 % 2 = 1 then xtime (xtime (xtime a)) else 0))

/-- Half of the S-box of FIPS 197, sixteen entries a row. -/
def sboxRowsLow : List (List Byte) :=
  [[0x63, 0x7C, 0x77, 0x7B, 0xF2, 0x6B, 0x6F, 0xC5, 0x30, 0x01, 0x67, 0x2B, 0xFE, 0xD7, 0xAB, 0x76],
   [0xCA, 0x82, 0xC9, 0x7D, 0xFA, 0x59, 0x47, 0xF0, 0xAD, 0xD4, 0xA2, 0xAF, 0x9C, 0xA4, 0x72, 0xC0],
   [0xB7, 0xFD, 0x93, 0x26, 0x36, 0x3F, 0xF7, 0xCC, 0x34, 0xA5, 0xE5, 0xF1, 0x71, 0xD8, 0x31, 0x15],
   [0x04, 0xC7, 0x23, 0xC3, 0x18, 0x96, 0x05, 0x9A, 0x07, 0x12, 0x80, 0xE2, 0xEB, 0x27, 0xB2, 0x75],
   [0x09, 0x83, 0x2C, 0x1A, 0x1B, 0x6E, 0x5A, 0xA0, 0x52, 0x3B, 0xD6, 0xB3, 0x29, 0xE3, 0x2F, 0x84],
   [0x53, 0xD1, 0x00, 0xED, 0x20, 0xFC, 0xB1, 0x5B, 0x6A, 0xCB, 0xBE, 0x39, 0x4A, 0x4C, 0x58, 0xCF],
   [0xD0, 0xEF, 0xAA, 0xFB, 0x43, 0x4D, 0x33, 0x85, 0x45, 0xF9, 0x02, 0x7F, 0x50, 0x3C, 0x9F, 0xA8],
   [0x51, 0xA3, 0x40, 0x8F, 0x92, 0x9D, 0x38, 0xF5, 0xBC, 0xB6, 0xDA, 0x21, 0x10, 0xFF, 0xF3, 0xD2]]

/-- Half of the S-box of FIPS 197, sixteen entries a row. -/
def sboxRowsHigh : List (List Byte) :=
  [[0xCD, 0x0C, 0x13, 0xEC, 0x5F, 0x97, 0x44, 0x17, 0xC4, 0xA7, 0x7E, 0x3D, 0x64, 0x5D, 0x19, 0x73],
   [0x60, 0x81, 0x4F, 0xDC, 0x22, 0x2A, 0x90, 0x88, 0x46, 0xEE, 0xB8, 0x14, 0xDE, 0x5E, 0x0B, 0xDB],
   [0xE0, 0x32, 0x3A, 0x0A, 0x49, 0x06, 0x24, 0x5C, 0xC2, 0xD3, 0xAC, 0x62, 0x91, 0x95, 0xE4, 0x79],
   [0xE7, 0xC8, 0x37, 0x6D, 0x8D, 0xD5, 0x4E, 0xA9, 0x6C, 0x56, 0xF4, 0xEA, 0x65, 0x7A, 0xAE, 0x08],
   [0xBA, 0x78, 0x25, 0x2E, 0x1C, 0xA6, 0xB4, 0xC6, 0xE8, 0xDD, 0x74, 0x1F, 0x4B, 0xBD, 0x8B, 0x8A],
   [0x70, 0x3E, 0xB5, 0x66, 0x48, 0x03, 0xF6, 0x0E, 0x61, 0x35, 0x57, 0xB9, 0x86, 0xC1, 0x1D, 0x9E],
   [0xE1, 0xF8, 0x98, 0x11, 0x69, 0xD9, 0x8E, 0x94, 0x9B, 0x1E, 0x87, 0xE9, 0xCE, 0x55, 0x28, 0xDF],
   [0x8C, 0xA1, 0x89, 0x0D, 0xBF, 0xE6, 0x42, 0x68, 0x41, 0x99, 0x2D, 0x0F, 0xB0, 0x54, 0xBB, 0x16]]

/-- Half of the inverse S-box of FIPS 197, sixteen entries a row. -/
def invSboxRowsLow : List (List Byte) :=
  [[0x52, 0x09, 0x6A, 0xD5, 0x30, 0x36, 0xA5, 0x38, 0xBF, 0x40, 0xA3, 0x9E, 0x81, 0xF3, 0xD7, 0xFB],
   [0x7C, 0xE3, 0x39, 0x82, 0x9B, 0x2F, 0xFF, 0x87, 0x34, 0x8E, 0x43, 0x44, 0xC4, 0xDE, 0xE9, 0xCB],
   [0x54, 0x7B, 0x94, 0x32, 0xA6, 0xC2, 0x23, 0x3D, 0xEE, 0x4C, 0x95, 0x0B, 0x42, 0xFA, 0xC3, 0x4E],
   [0x08, 0x2E, 0xA1, 0x66, 0x28, 0xD9, 0x24, 0xB2, 0x76, 0x5B, 0xA2, 0x49, 0x6D, 0x8B, 0xD1, 0x25],
   [0x72, 0xF8, 0xF6, 0x64, 0x86, 0x68, 0x98, 0x16, 0xD4, 0xA4, 0x5C, 0xCC, 0x5D, 0x65, 0xB6, 0x92],
   [0x6C, 0x70, 0x48, 0x50, 0xFD, 0xED, 0xB9, 0xDA, 0x5E, 0x15, 0x46, 0x57, 0xA7, 0x8D, 0x9D, 0x84],
   [0x90, 0xD8, 0xAB, 0x00, 0x8C, 0xBC, 0xD3, 0x0A, 0xF7, 0xE4, 0x58, 0x05, 0xB8, 0xB3, 0x45, 0x06],
   [0xD0, 0x2C, 0x1E, 0x8F, 0xCA, 0x3F, 0x0F, 0x02, 0xC1, 0xAF, 0xBD, 0x03, 0x01, 0x13, 0x8A, 0x6B]]

/-- Half of the inverse S-box of FIPS 197, sixteen entries a row. -/
def invSboxRowsHigh : List (List Byte) :=
  [[0x3A, 0x91, 0x11, 0x41, 0x4F, 0x67, 0xDC, 0xEA, 0x97, 0xF2, 0xCF, 0xCE, 0xF0, 0xB4, 0xE6, 0x73],
   [0x96, 0xAC, 0x74, 0x22, 0xE7, 0xAD, 0x35, 0x85, 0xE2, 0xF9, 0x37, 0xE8, 0x1C, 0x75, 0xDF, 0x6E],
   [0x47, 0xF1, 0x1A, 0x71, 0x1D, 0x29, 0xC5, 0x89, 0x6F, 0xB7, 0x62, 0x0E, 0xAA, 0x18, 0xBE, 0x1B],
   [0xFC, 0x56, 0x3E, 0x4B, 0xC6, 0xD2, 0x79, 0x20, 0x9A, 0xDB, 0xC0, 0xFE, 0x78, 0xCD, 0x5A, 0xF4],
   [0x1F, 0xDD, 0xA8, 0x33, 0x88, 0x07, 0xC7, 0x31, 0xB1, 0x12, 0x10, 0x59, 0x27, 0x80, 0xEC, 0x5F],
   [0x60, 0x51, 0x7F, 0xA9, 0x19, 0xB5, 0x4A, 0x0D, 0x2D, 0xE5, 0x7A, 0x9F, 0x93, 0xC9, 0x9C, 0xEF],
   [0xA0, 0xE0, 0x3B, 0x4D, 0xAE, 0x2A, 0xF5, 0xB0, 0xC8, 0xEB, 0xBB, 0x3C, 0x83, 0x53, 0x99, 0x61],
   [0x17, 0x2B, 0x04, 0x7E, 0xBA, 0x77, 0xD6, 0x26, 0xE1, 0x69, 0x14, 0x63, 0x55, 0x21, 0x0C, 0x7D]]

/-- An entry of a table of sixteen rows given in halves. -/
def boxEntry (low high : List (List Byte)) (i : Nat) : Byte :=
  ((if i < 128 then low else high).getD (i / 16 % 8) []).getD (i % 16) 0

def sbox (a : Byte) : Byte := boxEntry sboxRowsLow sboxRowsHigh a.toNat

def invSbox (a : Byte) : Byte := boxEntry invSboxRowsLow invSboxRowsHigh a.toNat

/-- The key schedule, words kept newest first; `n` further words. -/
def keyExpand (nk : Nat) : Nat → Nat → Nat → List (List Byte) → List (List Byte)
  | 0, _, _, ws => ws
  | n + 1, i, rc, ws =>
    let t := ws.headD []
    let t' := if i % nk = 0 then
        match t with
        | [a, b, c, d] => [sbox b ^^^ BitVec.ofNat 8 rc, sbox c, sbox d, sbox a]
        | _ => t
      else if nk > 6 ∧ i % nk = 4 then t.map sbox else t
    keyExpand nk n (i + 1) (if i % nk = 0 then xtime rc else rc) (xorBytes (ws.getD (nk - 1) []) t' :: ws)

/-- The round keys of a 16, 24 or 32-byte key, 16 bytes each. -/
def roundKeys (key : List Byte) : List (List Byte) :=
  let nk := key.length / 4
  let ws := keyExpand nk (4 * (nk + 7) - nk) nk 1 (chunks 4 key).reverse
  chunks 16 ws.reverse.flatten

def shiftRows (st : List Byte) : List Byte := (List.range 16).map (fun i => st.getD ((i + 4 * (i % 4)) % 16) 0)
def invShiftRows (st : List Byte) : List Byte := (List.range 16).map (fun i => st.getD ((i + 12 * (i % 4)) % 16) 0)

/-- One column times the circulant matrix whose first row is `m`. -/
def mixColumn (m : List Nat) (col : List Byte) : List Byte :=
  (List.range 4).map (fun r => BitVec.ofNat 8
    (((List.range 4).map (fun c => gmul (col.getD c 0).toNat (m.getD ((c + 4 - r) % 4) 0))).foldl Nat.xor 0))

def mixColumns (m : List Nat) (st : List Byte) : List Byte := ((chunks 4 st).map (mixColumn m)).flatten

/-- One AES block encrypted under expanded round keys. -/
def aesEncRounds : List (List Byte) → List Byte → List Byte
  | [], st => st
  | [k], st => xorBytes (shiftRows (st.map sbox)) k
  | k :: ks, st => aesEncRounds ks (xorBytes (mixColumns [2, 3, 1, 1] (shiftRows (st.map sbox))) k)

def aesEncWith (rks : List (List Byte)) (b : List Byte) : List Byte :=
  match rks with
  | [] => b
  | k :: ks => aesEncRounds ks (xorBytes b k)

def aesDecRounds : List (List Byte) → List Byte → List Byte
  | [], st => st
  | [k], st => xorBytes ((invShiftRows st).map invSbox) k
  | k :: ks, st => aesDecRounds ks (mixColumns [14, 11, 13, 9] (xorBytes ((invShiftRows st).map invSbox) k))

def aesDecWith (rks : List (List Byte)) (b : List Byte) : List Byte :=
  match rks.reverse with
  | [] => b
  | k :: ks => aesDecRounds ks (xorBytes b k)

@[irreducible] def aesEnc (key b : List Byte) : List Byte := aesEncWith (roundKeys key) b
@[irreducible] def aesDec (key b : List Byte) : List Byte := aesDecWith (roundKeys key) b

/-- A 16-byte block doubled in GF(2¹²⁸), most significant bit first (CMAC subkeys). -/
def dbl (b : List Byte) : List Byte :=
  let v := beNat b
  beBytes 16 ((v * 2 % 2 ^ 128) ^^^ (if v / 2 ^ 127 = 1 then 0x87 else 0))

/-- CMAC of SP 800-38B, all 16 bytes. A complete last block takes K1; otherwise 10* padding and K2 (R330). -/
def cmac (key msg : List Byte) : List Byte :=
  let k1 := dbl (aesEnc key (List.replicate 16 0))
  let k2 := dbl k1
  let n := (msg.length - 1) / 16
  let last := msg.drop (16 * n)
  let tail := if last.length = 16 then xorBytes last k1 else xorBytes (slice (last ++ [0x80]) 0 16) k2
  let x := (chunks 16 (msg.take (16 * n))).foldl (fun c b => aesEnc key (xorBytes c b)) (List.replicate 16 0)
  aesEnc key (xorBytes x tail)

/-- Counter mode: the counter occupies the low `width` bits of the block and is incremented big-endian (R330). -/
def ctrBlock (width : Nat) (icb : List Byte) (i : Nat) : List Byte :=
  let v := beNat icb
  beBytes 16 (v / 2 ^ width * 2 ^ width + (v + i) % 2 ^ width)

def ctr (key : List Byte) (width : Nat) (icb msg : List Byte) : List Byte :=
  ((chunks 16 msg).zipIdx.map (fun p => xorBytes p.1 (aesEnc key (ctrBlock width icb p.2)))).flatten

/-- One step of the GHASH product: the bits of the first factor from the most significant down. -/
def ghashMulFuel : Nat → Nat → Nat → Nat → Nat
  | 0, _, _, z => z
  | n + 1, x, v, z =>
    ghashMulFuel n x (if v % 2 = 1 then v / 2 ^^^ (0xE1 * 2 ^ 120) else v / 2) (if x / 2 ^ n % 2 = 1 then z ^^^ v else z)

def ghashMul (x h : Nat) : Nat := ghashMulFuel 128 x h 0

def padTo16 (bs : List Byte) : List Byte := bs ++ List.replicate ((16 - bs.length % 16) % 16) 0

def ghash (h : Nat) (bs : List Byte) : Nat := (chunks 16 bs).foldl (fun y b => ghashMul (y ^^^ beNat b) h) 0

/-- The GCM tag over ciphertext, 16 bytes; J0 is the 12-byte IV followed by 0x0000_0001 (R330). -/
def gcmTag (key iv aad ct : List Byte) : List Byte :=
  let h := beNat (aesEnc key (List.replicate 16 0))
  let s := ghash h (padTo16 aad ++ padTo16 ct ++ beBytes 8 (8 * aad.length) ++ beBytes 8 (8 * ct.length))
  xorBytes (beBytes 16 s) (aesEnc key (iv ++ [0, 0, 0, 1]))

/-- The GCM keystream applied to a text. -/
def gcmCrypt (key iv msg : List Byte) : List Byte := ctr key 32 (iv ++ [0, 0, 0, 2]) msg

/-- A tweak multiplied by x in GF(2¹²⁸), little-endian (IEEE 1619). -/
def xtsNext (t : List Byte) : List Byte :=
  let v := leNat t
  leBytes 16 ((v * 2 % 2 ^ 128) ^^^ (if v / 2 ^ 127 = 1 then 0x87 else 0))

def xtsBlock (k : List Byte) (enc : Bool) (t b : List Byte) : List Byte :=
  xorBytes ((if enc then aesEnc k else aesDec k) (xorBytes b t)) t

/-- The blocks of one data unit; the last whole block and a partial one steal ciphertext when the length is not
a multiple of 16 (R330). -/
def xtsFuel (k : List Byte) (enc : Bool) : Nat → List Byte → List Byte → List Byte
  | 0, _, _ => []
  | n + 1, t, m =>
    if m.length < 32 ∧ m.length ≠ 16 ∧ m.length > 16 then
      let t' := xtsNext t
      let r := m.drop 16
      if enc then
        let cc := xtsBlock k true t (m.take 16)
        xtsBlock k true t' (r ++ cc.drop r.length) ++ cc.take r.length
      else
        let pp := xtsBlock k false t' (m.take 16)
        xtsBlock k false t (r ++ pp.drop r.length) ++ pp.take r.length
    else if m.length < 16 then m
    else xtsBlock k enc t (m.take 16) ++ xtsFuel k enc n (xtsNext t) (m.drop 16)

/-- XTS-AES of one data unit: key 1 ‖ key 2 and a 16-byte data unit number. -/
def xts (key : List Byte) (enc : Bool) (unit msg : List Byte) : List Byte :=
  let n := key.length / 2
  xtsFuel (key.take n) enc (msg.length / 16 + 1) (aesEnc (key.drop n) unit) msg

def cbcEnc (key : List Byte) : List Byte → List (List Byte) → List Byte
  | _, [] => []
  | iv, b :: bs => let c := aesEnc key (xorBytes b iv); c ++ cbcEnc key c bs

def cbcDec (key : List Byte) : List Byte → List (List Byte) → List Byte
  | _, [] => []
  | iv, b :: bs => xorBytes (aesDec key b) iv ++ cbcDec key b bs

/-- CBC encryption with the PKCS #7 padding that is always added (R330). -/
def cbcEncrypt (key iv msg : List Byte) : List Byte :=
  let p := 16 - msg.length % 16
  cbcEnc key iv (chunks 16 (msg ++ List.replicate p (BitVec.ofNat 8 p)))

/-- CBC decryption; `none` when the padding is wrong (R330). -/
def cbcDecrypt (key iv msg : List Byte) : Option (List Byte) :=
  let m := cbcDec key iv (chunks 16 msg)
  let p := (m.getLastD 0).toNat
  if 1 ≤ p ∧ p ≤ 16 ∧ (m.drop (m.length - p)).all (fun b => b.toNat == p) then some (m.take (m.length - p)) else none

/-- One step of AES-KW unwrapping: A, the semiblocks in order, and the step count downward. -/
def kwUnwrapStep (kek : List Byte) (n t : Nat) (a : List Byte) (r : List (List Byte)) : List Byte × List (List Byte) :=
  let i := (t - 1) % n
  let b := aesDec kek (beBytes 8 (beNat a ^^^ t) ++ r.getD i [])
  (b.take 8, r.set i (b.drop 8))

def kwUnwrapFuel (kek : List Byte) (n : Nat) : Nat → List Byte → List (List Byte) → List Byte × List (List Byte)
  | 0, a, r => (a, r)
  | t + 1, a, r => let x := kwUnwrapStep kek n (t + 1) a r; kwUnwrapFuel kek n t x.1 x.2

/-- AES-KW unwrapping of SP 800-38F with the default integrity check value; `none` when it fails (R336). -/
@[irreducible] def kwUnwrap (kek wrapped : List Byte) : Option (List Byte) :=
  match chunks 8 wrapped with
  | [] => none
  | a :: r =>
    let x := kwUnwrapFuel kek r.length (6 * r.length) a r
    if x.1 = List.replicate 8 0xA6 then some x.2.flatten else none

end Sys2Proof.Machine
end

