-- ==== Sys2Proof/Machine/Staging.lean ====
section
/-! DEFINITION. The vault's staging buffer and the ledger (R377–R380, R388). -/

namespace Sys2Proof.Machine

open Sys2Proof

def setVault (s : State) (f : Vault → Vault) : State := { s with vault := f s.vault }

/-- Tamper entries: pin pair and temperature (R377). -/
def isTamperKind (kind : Nat) : Bool := kind == 0x01 || kind == 0x02

/-- The entry an event gives rise to, with its time and flags (R377). -/
def stagedEntry (s : State) (kind source detail : Nat) (waiter : Option Nat) : Staged :=
  ⟨b2n (s.vault.supply == .backup) + 2 * b2n (timeFlagged s), kind, source, s.vault.seconds, rtcTicks s, detail, true, waiter⟩

/-- The newest entry that is no tamper entry leaves the staging buffer. -/
def displace (es : List Staged) : List Staged :=
  match es.reverse.span (fun e => isTamperKind e.kind) with
  | (_, []) => es
  | (tampers, _ :: rest) => (tampers ++ rest).reverse

/-- An event is staged (R378, R379): with all 16 slots full a tamper entry displaces the newest other one, and any other
entry is lost. -/
def stage (s : State) (kind source detail : Nat) (waiter : Option Nat) : State :=
  let e := stagedEntry s kind source detail waiter
  let lost := fun (v : Vault) => { v with stagingLost := satAdd 16 v.stagingLost 1 }
  if s.vault.staging.length < 16 then setVault s (fun v => { v with staging := v.staging ++ [e] })
  else if isTamperKind kind && s.vault.staging.any (fun e => !isTamperKind e.kind) then
    setVault s (fun v => lost { v with staging := displace v.staging ++ [e] })
  else setVault s lost

/-- The 16 content bytes of an entry under a number; the number is zero in staging (R377, R378). -/
def entryContent (e : Staged) (number : Nat) : List Byte :=
  [1] ++ leBytes 1 (e.flags + 4 * b2n (!e.crcOk)) ++ leBytes 1 e.kind ++ leBytes 1 e.source ++ leBytes 2 number
    ++ leBytes 6 e.seconds ++ leBytes 2 e.ticks ++ leBytes 2 e.detail

/-- The ledger key, derived from the unique device secret (R372). -/
def ledgerKey : List Byte := (List.range 32).map Config.ledgerKeyByte

/-- The MAC of an entry: over its content and the MAC of the previous entry (R377). -/
def entryMac (content previous : List Byte) : List Byte := cmac ledgerKey (content ++ previous)

def lastMac (ledger : List (List Byte)) : List Byte := ((ledger.getLast?).map (fun e => slice e 16 16)).getD (List.replicate 16 0)

/-- The content of a ledger entry with its number taken out. -/
def bareContent (e : List Byte) : List Byte := slice e 0 4 ++ [0, 0] ++ slice e 6 10

/-- An entry reaches the ledger, or with 2,048 entries written the summary (R380). -/
def appendEntry (s : State) (e : Staged) : State :=
  let n := s.vault.ledger.length + 1
  if n ≤ 2048 then
    let content := entryContent e n
    let s := setVault s (fun v => { v with ledger := v.ledger ++ [content ++ entryMac content (lastMac v.ledger)] })
    if n = 1792 ∧ !s.vault.nearFullTold then
      raiseVault (setVault s (fun v => { v with nearFullTold := true })) 0x0605 false n
    else s
  else
    let s := setVault s (fun v => { v with summary := satAdd 32 v.summary 1, summaryRecord := entryContent e 0 })
    if s.vault.fullTold then s
    else raiseVault (setVault s (fun v => { v with fullTold := true })) 0x0606 false s.vault.summary

/-- The administrator record that waits for its commit completes with its number, or meets a full ledger (R380). -/
def answerWaiter (s : State) (w : Option Nat) (number : Nat) : State :=
  match w with
  | none => s
  | some w => endSlot s (w / 32) (w % 32) { status := .ok, result := leBytes 2 number }

/-- The oldest staged entry is committed (R378): one equal to the last ledger entry is freed without a second write. -/
def commitOldest (s : State) : State :=
  match s.vault.staging with
  | [] => s
  | e :: rest =>
    let s := setVault s (fun v => { v with staging := rest, committed := v.committed + 1 })
    let same := match s.vault.ledger.getLast? with
      | none => false
      | some l => bareContent l == entryContent e 0
    let s := if same then s else appendEntry s e
    answerWaiter s e.waiter s.vault.ledger.length

/-- With the buffer empty the losses are written as an entry, and the administrator is told what was committed
(R379, R389). -/
def closeCommit (s : State) : State :=
  if !s.vault.staging.isEmpty then s
  else
    let lost := s.vault.stagingLost
    let s := if lost = 0 then s
      else appendEntry (setVault s (fun v => { v with stagingLost := 0 })) (stagedEntry s 0x09 0 (min 65535 lost) none)
    let n := s.vault.committed
    if n = 0 && lost = 0 then s
    else raiseVault (setVault s (fun v => { v with committed := 0 })) 0x060B false (n % 32 + 32 * b2n (lost != 0))

def commitFuel : Nat → State → State
  | 0, s => s
  | n + 1, s => if s.vault.staging.isEmpty then s else commitFuel n (commitOldest s)

/-- Every staged entry is committed in order, as at each start of the main domain (R390). -/
def commitAll (s : State) : State := closeCommit (commitFuel s.vault.staging.length s)

/-- The chain of MACs is verified; each entry that fails is reported (R388). -/
def verifyFrom (s : State) : Nat → List Byte → List (List Byte) → State
  | _, _, [] => s
  | n, prev, e :: rest =>
    let ok := entryMac (slice e 0 16) prev == slice e 16 16
    verifyFrom (if ok then s else raiseVault s 0x060A true n) (n + 1) (slice e 16 16) rest

def verifyLedger (s : State) : State := verifyFrom s 1 (List.replicate 16 0) s.vault.ledger

end Sys2Proof.Machine
end

