-- ==== Sys2Proof/Machine/Shutdown.lean ====
section
/-! DEFINITION. The main domain stops: nothing open is confirmed and its state is gone (R22, R24, R25, R36, R119, R233,
R338, R488, R502). -/

namespace Sys2Proof.Machine

open Sys2Proof

def setBoot (s : State) (f : Boot → Boot) : State := { s with boot := f s.boot }

/-- Domains 3 KA and 4 KV run without the main domain (R37, R22). -/
def stopDomains (d : Tbl Domain) : Tbl Domain := d.filter (fun e => e.1 == 3 || e.1 == 4)

/-- The queues between KA and KV, classes 22 and 23, join domains that stay powered (R24, R35, R48). -/
def alwaysOnQueues (q : Tbl Queue) : Tbl Queue := q.filter (fun e => e.1 / 16 == 22 || e.1 / 16 == 23)

/-- Counters held in the vault and the always-on domain, chapter codes 0x0B to 0x0F, and the fault record's overflow
count, survive. -/
def survivingCounters (c : Tbl Nat) : Tbl Nat :=
  c.filter (fun e => (decide (0x0B00 ≤ e.1 / 65536) && decide (e.1 / 65536 < 0x1000)) || e.1 / 65536 == 0x0305)

/-- A request of the mailbox that waits in the management core's queue is dropped with the main domain (R488). -/
def keepTwt (o : Option Origin) : Option Origin := if o == some .twt then o else none

/-- What the management core has under way for the mailbox goes on without an answer or is dropped. -/
def dropMailboxWork (s : State) : State :=
  let s := setAon s (fun a => { a with
    rails := Tbl.mapAll a.rails (fun _ r => { r with run := r.run.map (fun x => { x with origin := keepTwt x.origin }) })
    axes := Tbl.mapAll a.axes (fun _ x => { x with release := keepTwt x.release })
    cal := { a.cal with run := a.cal.run.map (fun r => { r with origin := keepTwt r.origin }) } })
  { s with
    buses := Tbl.mapAll s.buses (fun _ b => { b with queue := b.queue.filter (fun j => j.origin == .twt) })
    vault := { s.vault with staging := s.vault.staging.map (fun e => { e with waiter := none }) } }

/-- A firmware update cut off by the loss of power leaves its copy without a commit word (R510). -/
def cutUpdate (s : State) : State :=
  match s.boot.update with
  | none => s
  | some _ => raiseAon (setBoot s (fun b => { b with update := none })) 0x0A28 true (s.boot.updateCopy + 256 * 0x04)

/-- The main domain stops (R36): no convoy is confirmed, no command in flight is completed, and every store of the domain
is lost, with the counts of transient faults (DESIGN CHOICE, log 52). The handle generations (R234), the fence map and the fault
record (R99, R110) are kept. -/
def stopMain (s : State) : State :=
  if !s.boot.mainOn then { s with domains := stopDomains s.domains }
  else
    let s := dropMailboxWork s
    let s := setBoot s (fun b => { b with
      mainOn := false
      phase := if b.phase == .mainStart || b.phase == .ready then .accepted else b.phase
      loaded := []
      sectionRetry := []
      selfTestDone := false
      stages := 0
      classifierLoaded := false
      synfyReady := false
      nodeDoneDriven := true
      nodeDoneHigh := false
      soloTimer := none
      solo := false })
    let s := cutUpdate s
    { s with
      parts := []
      fencedSlots := []
      domains := stopDomains s.domains
      queues := alwaysOnQueues s.queues
      streams := []
      convoys := []
      faults := { s.faults with
        transients := []
        advised := []
        mainFences := []
        tableMismatch := none
        pairs := [0, 1]
        mailboxFenced := false
        selfTestFailed := false
        scrubOff := false
        scrubOwed := []
        outOfRange := s.faults.outOfRange.filter (fun k => k < 512 || 1023 < k)
        status := none }
      ctr := survivingCounters s.ctr
      timebase := Timebase.init
      hosts := Tbl.mapAll s.hosts (fun _ h => { HostPort.init with perst := h.perst })
      fns := []
      drives := []
      extents := []
      driveCmds := []
      nets := []
      memory := { Memory.init with generations := s.memory.generations, generationBase := s.memory.generationBase }
      ports := []
      tensor := { Tensor.init with ceiling := s.tensor.ceiling, allowed := s.tensor.ceiling, tileMap := s.tensor.tileMap }
      cls := Classifier.init
      keys := []
      keysLost := [] }

end Sys2Proof.Machine
end

