-- ==== Sys2Proof/Machine/MainStart.lean ====
section
/-! DEFINITION. The main domain starts when the power sequence has completed (R22, R58, R96, R148, R349, R390, R490, R498). -/

namespace Sys2Proof.Machine

open Sys2Proof

/-- Clocks start in domains that have none, held in reset (R58). -/
def startClocks (d : Tbl Domain) (ds : List Nat) : Tbl Domain :=
  ds.foldl (fun d i => if (Tbl.getD d i Domain.off).clock || (Tbl.getD d i Domain.off).fenced then d
    else Tbl.set d i ⟨true, true, false, false⟩) d

/-- Clock domains whose clocks start with the power sequence (R58): KC, KT, KM, KS, KB. -/
def startedDomains (d : Tbl Domain) : Tbl Domain := startClocks d [0, 1, 2, 7, 18]

/-- The rail channel of the main-domain core supply, from whose step on REFCLK_SYS is present (R38, R513, R539): the first
main-domain rail of the sequence at 0.75 V. DEDUCED, log 35. -/
def coreRail (s : State) : Option Nat :=
  (s.aon.tables.steps.map (fun t => t.rail)).find? (fun v => decide (v < 24) && (railCfg s v).main && (railCfg s v).nominal == 750)

/-- The clocks that start as a rail's sequence step completes (R58, R513): KC, KM and KB with the core supply, KT with the tensor
supply, KS, whose supply the spec does not name, with the core supply. DEDUCED, log 35. -/
def railClocks (s : State) (v : Nat) : List Nat :=
  (if coreRail s == some v then [0, 2, 7, 18] else []) ++ if tensorRail s == some v then [1] else []

/-- Partition 0 exists from the start of the main domain, bound to the PF the device settings name (R148, R274); its
context-wrap key is drawn afresh (R349). -/
def createAdministrator (s : State) : State :=
  let (key, s) := drawBytes s 32
  setPart s 0 (fun _ => { Partition.absent with state := .active, port := s.aon.tables.adminPort, wrapKey := key })

/-- A host port whose PERST# is released starts its clock and trains (R58, R498). -/
def startHosts (s : State) : State :=
  [0, 1].foldl (fun s h =>
    if (hostPort s h).perst then s
    else setHost { s with domains := Tbl.set s.domains (5 + h) ⟨true, true, false, false⟩ } h (fun x => { x with training := true })) s

/-- The vault's steps at a start of the main domain, in their order (R390). -/
def vaultStart (s : State) : State :=
  let s := setVault s (fun v => { v with powerUps := satAdd 32 v.powerUps 1 })
  let s := setVault s (fun v => { v with leaf := !v.tripped })
  verifyLedger (commitAll s)

/-- The main domain starts. With self-test disabled by the image, guarantee status bit [3] is set for this start (R129). After a
boundary-scan instruction it stays out of service (R530). -/
def mainStart (s : State) : State :=
  if s.boot.scanStopped then s
  else
  let s := setBoot s (fun b => { b with mainOn := true, mainAt := s.now, phase := .mainStart })
  let s := { s with
    domains := startedDomains s.domains
    timebase := { Timebase.init with at_ := s.now }
    faults := { s.faults with selfTestFailed := !s.aon.tables.selfTest } }
  vaultStart (startHosts (createAdministrator s))

end Sys2Proof.Machine
end

