-- ==== Sys2Proof/Machine/Homing.lean ====
section
/-! DEFINITION. Valve axes: their table entries and the start of a homing run (R426, R432, R434, R440). -/

namespace Sys2Proof.Machine

open Sys2Proof

def axis (s : State) (i : Nat) : Axis := Tbl.getD s.aon.axes i Axis.init

def setAxis (s : State) (i : Nat) (f : Axis → Axis) : State :=
  setAon s (fun a => { a with axes := Tbl.modify a.axes i Axis.init f })

/-- An entry of the axis table with its defaults (R426). -/
def axisCfg (s : State) (i : Nat) : AxisCfg :=
  s.aon.tables.axes.getD i ⟨false, 1, 0, 0, 0, 0, 0, 4096, 49, 169, [], true, 0, 0, 0, none, false, false, 0⟩

/-- A homing run starts: AnENABLE high, the first attempt (R432), counted (R436 row 6). The commanded position starts at the
measured one. -/
def startHoming (s : State) (i : Nat) (fromFault : Bool) (release : Option Origin) : State :=
  setAxis (bump s (0x0D06) i 16) i (fun x => { x with
    state := 1, enable := true, attempt := 1, fromFault := fromFault, release := release, command := x.position,
    velocity := 0, acceleration := 0, badAmplitude := 0, badFollowing := 0 })

/-- A driver rail is good: the axes that name it, are Unhomed and have run their front-end item start homing (R432, R440, R475). -/
def driverGood (s : State) (v : Nat) : State :=
  (List.range 4).foldl (fun s i =>
    if (axisCfg s i).used && (axisCfg s i).rail == some v && (axis s i).state == 0 && !(axis s i).calibrate then
      startHoming s i false none else s) s

/-- At acceptance of an image: amplitudes, limits and modes from the table; each used axis runs its front-end item in Unhomed
before homing begins (R440, R475). -/
def startAxes (s : State) : State :=
  (List.range 4).foldl (fun s i =>
    let c := axisCfg s i
    if !c.used || (axis s i).state != 0 then s
    else setAxis s i (fun x => { x with
      lower := c.lower, upper := c.upper, planDriven := c.planDriven, calibrate := true
      amplitude := if x.amplitude = 0 then c.amplitude else x.amplitude })) s

/-- An Unhomed axis whose item has ended starts homing where its driver rail is good or it names none (R440, R475). -/
def homeIfReady (s : State) (i : Nat) : State :=
  let c := axisCfg s i
  let good := match c.rail with
    | none => true
    | some v => (rail s v).status == 2
  if c.used && (axis s i).state == 0 && good then startHoming s i false none else s

end Sys2Proof.Machine
end

