-- ==== Sys2Proof/Machine/Power.lean ====
section
/-! DEFINITION. Power sequencing and supervision (R391–R411, R484, R533). -/

namespace Sys2Proof.Machine

open Sys2Proof

def setSeq (s : State) (f : Sequencer → Sequencer) : State := setAon s (fun a => { a with seq := f a.seq })

def seqStep (s : State) (i : Nat) : SeqStep := s.aon.tables.steps.getD i ⟨0x1F, 4, 0, 0, 0⟩

/-- The step that enables a rail (R394). -/
def stepOfRail (s : State) (v : Nat) : Option Nat :=
  (List.range s.aon.tables.steps.length).find? (fun i => (seqStep s i).rail == v)

/-- The nominal voltage now in force: the tensor supply's is its setpoint (R168). -/
def presentNominal (s : State) (v : Nat) : Nat :=
  if s.boot.mainOn && tensorRail s == some v then setpointOf s (s.tensor.raising.getD s.tensor.setpoint) else (railCfg s v).nominal

/-- 0, or 2 below and 3 above a window around a nominal voltage (R393, R410). -/
def windowSide (c : RailCfg) (nominal mv : Nat) : Nat :=
  if 1000 * mv < nominal * (1000 - c.under) then 2
  else if nominal * (1000 + c.above) < 1000 * mv then 3
  else 0

/-- The same for the windows in force: a reading inside the old or the new one is no fault (R397). -/
def railSide (s : State) (v mv : Nat) : Nat :=
  let c := railCfg s v
  let old := match (rail s v).window with
    | some (n, t) => decide (s.now ≤ t) && windowSide c n mv == 0
    | none => false
  if old then 0 else windowSide c (presentNominal s v) mv

/-! ### Snapshot (R407, R408) -/

/-- The operating point as the snapshot codes it. -/
def ktCode (s : State) : Nat := if s.boot.mainOn then s.tensor.point else 0

def railRecord (s : State) (v : Nat) : List Byte :=
  let r := rail s v
  leBytes 2 r.a ++ leBytes 2 r.b ++ leBytes 2 r.current ++ leBytes 1 r.status ++ leBytes 1 (b2n r.good + r.flags)
    ++ leBytes 4 (min 4294967295 ((s.now - r.changedAt) / 1000)) ++ leBytes 2 (min 65535 ((s.now - r.readAt) / 1000)) ++ [0, 0]

/-- The reading of a die sensor: of its channels in service, the one nearer the protective limit (R102, R418). -/
def dieReading (s : State) (i : Nat) : Int :=
  let a := s.aon.thermal.dieA.getD i 0
  let b := s.aon.thermal.dieB.getD i 0
  if isFenced s 0x04 (2 * i) then b else if isFenced s 0x04 (2 * i + 1) then a else max a b

def fan (s : State) (i : Nat) : Fan := Tbl.getD s.aon.fans i Fan.init

def fanCfg (s : State) (i : Nat) : FanCfg := s.aon.tables.fans.getD i ⟨false, 2, 1200, 20, 0⟩

/-- Every used fan is driven at 100 %: a Stalled fan, the critical temperature, the safe state, or no image that could be
accepted (R415, R422, R437, R508). -/
def fansForced (s : State) : Bool :=
  s.aon.fans.any (fun e => e.2.state == 7) || s.aon.thermal.critical || s.faults.safeState || s.boot.phase == .noImage

/-- The commanded duty of a used fan in 0.1 % (R414): the plan's, while the main domain is off the main-off row's. -/
def commandedDuty (s : State) (i : Nat) : Nat :=
  let c := fanCfg s i
  let plan := if s.boot.mainOn then
      ((s.aon.tables.rows.getD (s.aon.thermal.zoneRows.getD c.zone 0) ⟨0, [], 1, []⟩).duties.getD c.zone 0)
    else s.aon.tables.mainOff.getD c.zone 0
  let d := max (10 * plan) (fan s i).floor
  if d = 0 then 0 else max d (10 * c.minDuty)

/-- What a fan is driven at, in 0.1 % (R412–R417, R440). -/
def fanDrive (s : State) (i : Nat) : Nat :=
  let f := fan s i
  if s.aon.tables.fans.isEmpty then 1000
  else if !(fanCfg s i).used then 0
  else if fansForced s then 1000
  else if f.state = 1 ∨ f.state = 3 then 0
  else if f.state = 5 then commandedDuty s i
  else 1000

def fanRecord (s : State) (i : Nat) : List Byte :=
  leBytes 1 (fanDrive s i / 10) ++ leBytes 1 (fan s i).state ++ leBytes 2 (min 65535 ((fan s i).speed / 16))

/-- The shutdown that a rail's fault in On began is under way (R404, R409). -/
def faultShutdown (s : State) (v : Nat) : Bool :=
  s.aon.seq.state == .on && (s.aon.seq.down == some .retry || (s.aon.seq.down == some .heldOff && (rail s v).fenced))

/-- The rail whose fault was raised first in the millisecond before, or that began the shutdown under way; 0xFF for none
(R407, R409). -/
def firstFailing (s : State) : Nat :=
  match s.aon.seq.firstFail with
  | some (v, t) => if s.now ≤ t + 1000000 ∨ faultShutdown s v = true then v else 0xFF
  | none => 0xFF

/-- The snapshot's bytes (R407): cause, and the rail whose fault was raised first in the millisecond before. -/
def snapshotBytes (s : State) (cause : Nat) : List Byte :=
  let q := s.aon.seq
  let running := q.state == .sequencing || q.state == .retry
  let first := firstFailing s
  let b := [1] ++ leBytes 1 (b2n running + 2 * b2n q.down.isSome + 4 * b2n q.vinDiffer + 8 * b2n q.unread)
    ++ leBytes 1 cause ++ leBytes 1 (if q.state == .sequencing then q.step else 0xFF)
    ++ leBytes 4 (maskOf 24 (fun v => (rail s v).enabled)) ++ leBytes 4 (maskOf 24 (fun v => (rail s v).good))
    ++ leBytes 4 (maskOf 24 (fun v => (rail s v).fenced)) ++ leBytes 6 s.vault.seconds ++ leBytes 2 (rtcTicks s)
    ++ leBytes 2 q.vinA ++ leBytes 2 q.vinB ++ leBytes 1 first ++ leBytes 1 (ktCode s)
    ++ leBytes 2 (satAdd 16 (counter s 0x0C03 0) 1)
    ++ ((List.range 24).map (railRecord s)).flatten
    ++ ((List.range 8).map (fun i => leBytes 2 (ofSigned (dieReading s i) 16))).flatten
    ++ ((List.range 12).map (fanRecord s)).flatten ++ List.replicate 28 0
  b ++ leBytes 4 (crc32c b).toNat

/-- The snapshot is written; it overwrites the previous one (R407, R408). -/
def writeSnapshot (s : State) (cause : Nat) : State :=
  let old := s.aon.seq.unread
  let bytes := snapshotBytes s cause
  let s := bump s 0x0C03 0 16
  raiseAon (setSeq s (fun q => { q with snapshot := bytes, stored := true, unread := true })) 0x0705 false (cause + 256 * b2n old)

/-! ### Releasing and enabling -/

def releaseRail (s : State) (v : Nat) : State :=
  setRail s v (fun r => { r with enabled := false, status := if r.fenced then 4 else 0, changedAt := s.now, badA := 0, badB := 0 })

def enableRail (s : State) (v : Nat) : State :=
  setRail s v (fun r => { r with enabled := true, status := 1, changedAt := s.now, badA := 0, badB := 0 })

/-- A step's rail is released in power-down; the main domain stops before the first of its supplies is (R396). -/
def releaseStep (s : State) (i : Nat) : State :=
  let v := (seqStep s i).rail
  if 24 ≤ v then s
  else releaseRail (if (railCfg s v).main then stopMain s else s) v

/-- A rail is fenced until VAON is lost or its fence is released (R404). -/
def fenceRail (s : State) (v : Nat) : State :=
  let s := setRail (bump s 0x0301 0x11 16) v (fun r => { r with fenced := true, status := 4, proving := none })
  raiseAon s 0x0708 true (v + 256)

/-- The sequence begins at step 0. -/
def startSequence (s : State) (state : SeqState) (attempt : Nat) : State :=
  setSeq s (fun q => { q with
    state := state, step := 0, acted := false, attempt := attempt, startedAt := s.now,
    timer := s.now + 10000 * (seqStep s 0).delay, done := [], down := none })

/-- The request for a fence proof ends, and the sequencer is back in Held off (R404). -/
def endProof (s : State) (ok : Bool) : State :=
  match s.aon.seq.proof with
  | none => s
  | some (v, o) =>
    let s := setSeq s (fun q => { q with state := .heldOff, proof := none, down := none })
    if ok then
      let s := raiseAon (setRail s v (fun r => { r with fenced := false, status := 0 })) 0x0708 false v
      finishOrigin s o { status := .ok }
    else finishOrigin s o { status := .lasting }

/-- A power-down has released every step (R396, R402, R404, R484, R496). -/
def endDown (s : State) (goal : DownTo) : State :=
  let s := setSeq s (fun q => { q with down := none, acted := false })
  match goal with
  | .off => setSeq s (fun q => { q with state := .off, stayOff := true })
  | .restart => setBoot (setSeq s (fun q => { q with state := .off })) (fun b =>
      { b with phase := .selecting, noQualify := false, scanStopped := false, startAt := s.now })
  | .reselect => setBoot (setSeq s (fun q => { q with state := .off })) (fun b => { b with phase := .selecting, noQualify := true })
  | .retry => setSeq s (fun q => { q with state := .retry, timer := s.now + 100000000 })
  | .heldOff => stopMain (setSeq s (fun q => { q with state := .heldOff }))
  | .proved ok => endProof s ok

/-- The next step in reverse order is released, its down delay starts (R396). -/
def downNext (s : State) : State :=
  match s.aon.seq.down, s.aon.seq.done with
  | some goal, [] => endDown (stopMain s) goal
  | some _, i :: _ => setSeq (releaseStep s i) (fun q => { q with timer := s.now + 10000 * (seqStep s i).down })
  | none, _ => s

/-- A calibration run under way is abandoned (R473). -/
def abandonCalibration (s : State) : State :=
  match s.aon.cal.run with
  | none => s
  | some r =>
    let s := setAon s (fun a => { a with cal := { a.cal with run := none } })
    match r.origin with
    | none => s
    | some o => finishOrigin s o { status := .cancelled }

/-- A rail's own course gives way to a shutdown, and the command behind it ends with a status. -/
def endRuns (s : State) (st : Status) : State :=
  (List.range 24).foldl (fun s v => match (rail s v).run with
    | none => s
    | some r =>
      let s := setRail s v (fun x => { x with run := none })
      match r.origin with
      | some o => finishOrigin s o { status := st }
      | none => s) s

/-- Power-down begins (R396). A shutdown that protects the device wins over a rail's own course, and the request behind that
course ends with BUSY (R27). -/
def powerDown (s : State) (goal : DownTo) : State :=
  downNext (setSeq (endRuns (abandonCalibration s) .busy) (fun q => { q with down := some goal }))

/-! ### The sequence (R395, R402) -/

/-- The last step has completed (R402): the control complex is released. -/
def sequenceComplete (s : State) : State :=
  let q := s.aon.seq
  let s := setSeq s (fun q => { q with
    state := .on, acted := false, proving := if q.attempt = 2 then some (s.now + 60000000000) else none })
  let s := raiseAon s 0x0701 false ((q.step + 1) + 256 * b2n (q.attempt == 2) + 4294967296 * ((s.now - q.startedAt) / 1000))
  mainStart s

/-- The present step has completed, and clocks that wait for its rail start (R58). -/
def nextStep (s : State) : State :=
  let q := s.aon.seq
  let st := seqStep s q.step
  let s := { s with domains := startClocks s.domains (railClocks s st.rail) }
  if q.proof.any (fun p => p.1 == st.rail) then powerDown s (.proved true)
  else if bit st.flags 2 then sequenceComplete s
  else setSeq s (fun q => { q with step := q.step + 1, acted := false, timer := s.now + 10000 * (seqStep s (q.step + 1)).delay })

/-- The sequence runs: in Sequencing, or for a fence proof. -/
def sequencing (s : State) : Bool :=
  (s.aon.seq.state == .sequencing || s.aon.seq.proof.isSome) && s.aon.seq.down.isNone

/-- A power-good timeout of the present step (R402, R404). -/
def sequenceTimeout (s : State) : State :=
  let q := s.aon.seq
  let v := (seqStep s q.step).rail
  let s := bump s 0x0C02 q.step 16
  let s := raiseAon s 0x0702 true (q.step + 256 * v + 65536 * b2n (q.attempt == 2))
  if q.proof.isSome then powerDown s (.proved false)
  else if q.attempt = 1 then powerDown s .retry
  else
    let s := if v < 24 then fenceRail s v else s
    let s := match q.faultRail with
      | some w => if w = v then s else fenceRail s w
      | none => s
    powerDown (setSeq s (fun q => { q with faultRail := none })) .heldOff

/-! ### A rail's own course (R398, R404) -/

def setRun (s : State) (v : Nat) (r : Option RailRun) : State := setRail s v (fun x => { x with run := r })

/-- A rail's course begins with its step's delay. -/
def startRail (s : State) (v purpose attempt : Nat) (o : Option Origin) : State := setRun s v (some ⟨0, purpose, attempt, o⟩)

/-- The rail reached power good and its window on its own. -/
def railUp (s : State) (v : Nat) (r : RailRun) : State :=
  let s := setRun s v none
  match r.purpose, r.origin with
  | 0, _ => setRail s v (fun x => { x with proving := some (s.now + 60000000000) })
  | 3, o =>
    let s := raiseAon (setRail s v (fun x => { x with fenced := false })) 0x0708 false v
    let s := if s.aon.seq.state == .on then s else releaseRail s v
    match o with
    | some o => finishOrigin s o { status := .ok }
    | none => s
  | _, some o => finishOrigin s o { status := if r.attempt = 2 then .recovered else .ok }
  | _, none => s

/-- The rail failed to come up on its own: switched on it is tried once more, otherwise it stays or becomes fenced. -/
def railDown (s : State) (v : Nat) (r : RailRun) : State :=
  let s := releaseRail s v
  if r.purpose = 1 ∧ r.attempt = 1 then setRun s v (some { r with stage := 3 })
  else
    let s := setRun s v none
    let s := if r.purpose = 3 then setRail s v (fun x => { x with status := 4 }) else fenceRail s v
    let s := if r.purpose = 0 then raiseAon s 0x0703 true (v + 8192) else s
    match r.origin with
    | some o => finishOrigin s o { status := .lasting }
    | none => s

/-- The rail named by a step and its own course at a stage. -/
def runAt (s : State) (i stage : Nat) : Option (Nat × RailRun) :=
  let v := (seqStep s i).rail
  match (rail s v).run with
  | some r => if r.stage = stage ∧ v < 24 ∧ i < s.aon.tables.steps.length then some (v, r) else none
  | none => none

/-! ### Rows of the sequence -/

/-- The setpoint a step writes over TW0 meets an absent target or a hung bus (R395, R458). -/
def setpointAbsent (s : State) (st : SeqStep) (absent : Bool) : Bool × State :=
  match bit st.flags 1, (railCfg s st.rail).pmbus with
  | true, some p => let (answered, s) := ownTraffic s 0 p.1 (!absent); (!answered, s)
  | _, _ => (false, s)

/-- A step acts: setpoint, enable, power-good timeout (R395). -/
def stepAct (s : State) (i : Nat) (absent : Bool) : State :=
  let s := s.fresh_
  let st := seqStep s i
  if sequencing s && s.aon.seq.step == i && !s.aon.seq.acted then
    let s := advanceTo s s.aon.seq.timer
    let s := setSeq s (fun q => { q with done := i :: q.done })
    let (failed, s) := setpointAbsent s st absent
    if failed then sequenceTimeout s
    else
      let s := if st.rail < 24 ∧ (railCfg s st.rail).nominal ≠ 0 then enableRail s st.rail else s
      if bit st.flags 0 then setSeq s (fun q => { q with acted := true, timer := s.now + 100000 * st.timeout })
      else nextStep (if st.rail < 24 then driverGood (setRail s st.rail (fun r => { r with status := 2 })) st.rail else s)
  else match runAt s i 0 with
    | none => s
    | some (v, r) =>
      let (failed, s) := setpointAbsent s st absent
      if failed then railDown (bump s 0x0C02 i 16) v r
      else
        let s := enableRail s v
        if bit st.flags 0 then setRun s v (some { r with stage := 1 })
        else railUp (driverGood (setRail s v (fun x => { x with status := 2 })) v) v r

/-- SEQUENCE_STEP_ACT (R395). `absent`: the setpoint write met an absent target. -/
def execSequenceStepAct (step : Fin 48) (absent : Bool) (s : State) : Host.Outcome State Fault Refusal :=
  .next (stepAct s step absent)

/-- Power good after the filter, with channel A at a reading (R395). -/
def stepGood (s : State) (i mv : Nat) : State :=
  let s := s.fresh_
  let v := (seqStep s i).rail
  let up := fun (s : State) => driverGood (setRail s v (fun r => { r with good := true, status := 2, a := mv, changedAt := s.now, readAt := s.now })) v
  if windowSide (railCfg s v) (railCfg s v).nominal mv != 0 || decide (24 ≤ v) then s
  else if sequencing s && s.aon.seq.step == i && s.aon.seq.acted then nextStep (up s)
  else match runAt s i 1 with
    | none => s
    | some (v, r) => railUp (up s) v r

/-- SEQUENCE_STEP_POWER_GOOD (R395, R402). -/
def execSequenceStepPowerGood (step : Fin 48) (mv : Nat) (s : State) : Host.Outcome State Fault Refusal :=
  .next (stepGood s step mv)

def goodTimeout (s : State) (i : Nat) : State :=
  let s := s.fresh_
  if sequencing s && s.aon.seq.step == i && s.aon.seq.acted then sequenceTimeout (advanceTo s s.aon.seq.timer)
  else match runAt s i 1 with
    | none => s
    | some (v, r) =>
      let s := raiseAon (bump s 0x0C02 i 16) 0x0702 true (i + 256 * v + 65536 * b2n (r.attempt == 2))
      railDown s v r

/-- POWER_GOOD_TIMEOUT (R402). -/
def execPowerGoodTimeout (step : Fin 48) (s : State) : Host.Outcome State Fault Refusal := .next (goodTimeout s step)

def downExpiry (s : State) (i : Nat) : State :=
  let s := s.fresh_
  if s.aon.seq.down.isSome && s.aon.seq.done.head? == some i then
    downNext (setSeq (advanceTo s s.aon.seq.timer) (fun q => { q with done := q.done.tail }))
  else match runAt s i 2 with
    | none => s
    | some (v, r) =>
      if r.purpose = 2 then
        let s := setRun s v none
        match r.origin with
        | some o => finishOrigin s o { status := .ok }
        | none => s
      else setRun s v (some { r with stage := 3 })

/-- POWER_DOWN_DELAY_EXPIRY (R396). -/
def execPowerDownDelayExpiry (step : Fin 48) (s : State) : Host.Outcome State Fault Refusal := .next (downExpiry s step)

def offTimeExpiry (s : State) : Option Nat → State
  | none =>
    if s.aon.seq.state == .retry && s.aon.seq.down.isNone then
      startSequence (advanceTo s s.aon.seq.timer) .sequencing 2
    else s
  | some v =>
    match (rail s v).run with
    | some r => if r.stage = 3 then startRail s v r.purpose 2 r.origin else s
    | none => s

/-- RETRY_OFF_TIME_EXPIRY (R402, R404): of the sequence, or of one rail. -/
def execRetryOffTimeExpiry (rail : Option (Fin 24)) (s : State) : Host.Outcome State Fault Refusal :=
  .next (offTimeExpiry s.fresh_ (rail.map (fun v => v.val)))

/-- A retried rail stayed good for 60 s: its fault is transient (R404). -/
def provingExpiry (s : State) (v : Nat) : State :=
  let s := s.fresh_
  let good := fun s => raiseAon (transient s 0x11 v) 0x0703 false (v + 4096)
  match (rail s v).proving, s.aon.seq.proving with
  | some t, _ => good (setRail (advanceTo s t) v (fun r => { r with proving := none }))
  | none, some t =>
    let s := setSeq (advanceTo s t) (fun q => { q with proving := none, faultRail := none })
    if s.aon.seq.faultRail == some v then good s else s
  | none, none => s

/-- RAIL_PROVING_EXPIRY (R404). -/
def execRailProvingExpiry (rail : Fin 24) (s : State) : Host.Outcome State Fault Refusal :=
  .next (match s.aon.seq.proving, s.aon.seq.faultRail with
    | some t, some w => if w = rail.val ∧ (Machine.rail s rail).proving.isNone then
        raiseAon (transient (setSeq (advanceTo s.fresh_ t) (fun q => { q with proving := none, faultRail := none })) 0x11 rail)
          0x0703 false (rail.val + 4096)
      else provingExpiry s rail
    | _, _ => provingExpiry s rail)

/-! ### Supervision (R399, R400, R404) -/

/-- A rail fault: 1 power good, 2 under, 3 over (R404, R410). -/
def railFault (s : State) (v check : Nat) : State :=
  let q := s.aon.seq
  let again := (rail s v).proving.isSome || (q.proving.isSome && q.faultRail == some v)
  let s := bump s 0x0C01 (v * 256 + check) 16
  let s := raiseAon s 0x0703 true (v + 256 * check + 8192 * b2n again)
  let recent := q.firstFail.any (fun f => decide (s.now ≤ f.2 + 1000000) || faultShutdown s f.1)
  let s := setSeq s (fun q => { q with firstFail := if recent then q.firstFail else some (v, s.now) })
  let s := setRail s v (fun r => { r with
    status := 3, changedAt := s.now, good := r.good && check != 1, flags := r.flags ||| (if check = 2 then 2 else if check = 3 then 4 else 0) })
  if q.down.isSome || q.proof.isSome then s
  else match q.state with
    | .on =>
      if (railCfg s v).response = 1 ∧ !(railCfg s v).main then
        let s := releaseRail s v
        if again then fenceRail s v else setRun s v (some ⟨2, 0, 1, none⟩)
      else
        let s := writeSnapshot s 0x02
        if again then powerDown (setSeq (fenceRail s v) (fun q => { q with faultRail := none, proving := none })) .heldOff
        else powerDown (setSeq s (fun q => { q with faultRail := some v, proving := none })) .retry
    | .sequencing =>
      if q.attempt = 1 then powerDown s .retry else powerDown (fenceRail s v) .heldOff
    | _ => s

/-- Rails under supervision: enabled, their step completed. -/
def supervised (s : State) (v : Nat) : Bool := (rail s v).enabled && (rail s v).status == 2 && (rail s v).run.isNone

/-- RAIL_FAULT (R399, R404): VnnPG low after the filter. -/
def execRailFault (rail : Fin 24) (s : State) : Host.Outcome State Fault Refusal :=
  .next (if supervised s rail then railFault s.fresh_ rail 1 else s.fresh_)

/-- Two consecutive readings of a channel outside the window are a rail fault (R399). -/
def judge (s : State) (v channel mv : Nat) : State :=
  let side := railSide s v mv
  let bad := if side = 0 then 0 else (if channel = 0 then (rail s v).badA else (rail s v).badB) + 1
  let s := setRail s v (fun r =>
    let r := { r with readAt := s.now, flags := if side = 0 then r.flags &&& 8 else r.flags }
    if channel = 0 then { r with a := mv, badA := bad } else { r with b := mv, badB := bad })
  if isFenced s 0x04 ((8 + v) * 2 + channel) then s
  else if 2 ≤ bad ∧ supervised s v then railFault s v side
  else s

/-- An operating condition is left or re-entered (R533): quantity 1 die temperature, 2 a supply, 3 VAON, 4 reference. -/
def operatingCondition (s : State) (quantity index : Nat) (outside : Bool) : State :=
  let key := quantity * 256 + index
  let was := s.faults.outOfRange.contains key
  if was == outside then s
  else
    let s := { s with faults := { s.faults with outOfRange :=
      if outside then s.faults.outOfRange ++ [key] else s.faults.outOfRange.erase key } }
    guard (raiseAon s 0x0A41 false (quantity + 256 * index + 65536 * b2n outside))

/-- A main-domain supply's recommended range (R532): 5 % around 1.8 V, 3 % around every other. -/
def recommended (nominal mv : Nat) : Bool :=
  let w := if nominal = 1800 then 50 else 30
  decide (nominal * (1000 - w) ≤ 1000 * mv) && decide (1000 * mv ≤ nominal * (1000 + w))

def judgeRange (s : State) (v mv : Nat) : State :=
  if !(railCfg s v).main then s
  else
    let n := if recommended (presentNominal s v) mv then 0 else (rail s v).badRange + 1
    let s := setRail s v (fun r => { r with badRange := n })
    if n = 0 then operatingCondition s 2 v false else if 2 ≤ n then operatingCondition s 2 v true else s

/-- The converter whose gain item runs (0 ADC-A, 1 ADC-B): its readings are suspended (R467). -/
def converterInItem (s : State) (channel : Nat) : Bool :=
  match s.aon.cal.run with
  | some r => r.left % 2 ^ (channel + 1) == 0 && bit r.left (channel + 1)
  | none => false

/-- One scan of both converters (R399, R401, R533): readings in mV. VAON is judged with them against its recommended 1.71 V while
the main domain runs; by what it is read the spec does not say. DESIGN CHOICE, log 60. -/
def windowScan (s : State) (a b : List Nat) (vinA vinB vaon : Nat) : State :=
  let s := setSeq s.fresh_ (fun q => { q with vinA := vinA, vinB := vinB })
  let s := operatingCondition s 3 0 (s.boot.mainOn && decide (vaon < 1710))
  (List.range 24).foldl (fun s v =>
    if !supervised s v then s
    else
      let s := if converterInItem s 0 then s else judge (judgeRange s v (a.getD v 0)) v 0 (a.getD v 0)
      if (railCfg s v).pmbus.isNone && supervised s v && !converterInItem s 1 then judge s v 1 (b.getD v 0) else s) s

/-- RAIL_WINDOW_SCAN (R399). -/
def execRailWindowScan (a b : List Nat) (vin : Nat × Nat) (vaon : Nat) (s : State) : Host.Outcome State Fault Refusal :=
  .next (windowScan s a b vin.1 vin.2 vaon)

/-- A sensor channel is fenced, and the other governs alone (R109, R400). -/
def fenceChannel (s : State) (sensor channel : Nat) : State :=
  let s := lastingFault s 0x04 (sensor * 2 + channel)
  if sensor < 8 then s
  else raiseAon s 0x0706 true ((if sensor = 32 then 0x1F else sensor - 8) + 256 * channel + 512)

/-- PMBUS_READ_POLL (R399, R400): the voltage read, or an absent target. `current` is READ_IOUT in 10 mA units. -/
def execPmbusReadPoll (rail : Fin 24) (mv : Option Nat) (current : BitVec 16) (s : State) : Host.Outcome State Fault Refusal :=
  let s := s.fresh_
  .next (if (railCfg s rail).pmbus.isNone || !supervised s rail then s
    else
    let (answered, s) := ownTraffic s 0 (((railCfg s rail).pmbus.map (fun p => p.1)).getD 0) mv.isSome
    match (if answered then mv else none) with
      | none => if isFenced s 0x04 ((8 + rail.val) * 2 + 1) then s else fenceChannel s (8 + rail.val) 1
      | some mv => judge (setRail s rail (fun r => { r with current := current.toNat })) rail 1 mv)

/-- A disagreement of 50 ms (R400): both channels were checked against the internal reference; a channel that failed twice is
fenced. -/
def disagreement (s : State) (sensor : Nat) (failA failB : Bool) : State :=
  let s := s.fresh_
  if converterInItem s 0 || converterInItem s 1 then s else
  let s := if sensor < 8 then s else bump s 0x0C04 (sensor - 8) 16
  let s := if 8 ≤ sensor ∧ sensor < 32 then setRail s (sensor - 8) (fun r => { r with flags := r.flags ||| 8 })
    else if sensor = 32 then setSeq s (fun q => { q with vinDiffer := true }) else s
  if isFenced s 0x04 (sensor * 2) || isFenced s 0x04 (sensor * 2 + 1) then s
  else if failA && !failB then fenceChannel s sensor 0
  else if failB && !failA then fenceChannel s sensor 1
  else if sensor < 8 then s
  else raiseAon s 0x0706 true (if sensor = 32 then 0x1F else sensor - 8)

/-- SENSOR_DISAGREEMENT (R400): sensors D0–D7 are 0–7, rails V00–V23 8–31, VIN_SENSE 32. -/
def execSensorDisagreement (sensor : Fin 33) (failA failB : Bool) (s : State) : Host.Outcome State Fault Refusal :=
  .next (disagreement s sensor failA failB)

/-! ### Collapse (R401, R402, R405, R409) -/

/-- A rail's own course ends with the collapse; the command behind it ends with LASTING. -/
def dropRuns (s : State) : State := endRuns s .lasting

/-- Every enable is released at once. -/
def releaseAll (s : State) : State :=
  (List.range 24).foldl (fun s v => if (rail s v).enabled then releaseRail s v else s) s

def collapse (s : State) : State :=
  let s := s.fresh_
  let q := s.aon.seq
  if q.proof.isSome then endProof (releaseAll (dropRuns s)) false
  else if (q.state == .off || q.state == .heldOff) && q.down.isNone then s
  else if q.state == .collapsed then s
  else
    let before := s
    let s := abandonCalibration s
    let s := stopMain (releaseAll s)
    let bytes := snapshotBytes { before with aon := { before.aon with tables := s.aon.tables } } 0x01
    let old := q.unread
    let s := bump s 0x0C03 0 16
    let s := setSeq s (fun q => { q with snapshot := bytes, stored := true, unread := true })
    let first := firstFailing before
    let s := stage (raiseAon s 0x0705 false (0x01 + 256 * b2n old)) 0x0C 0 first none
    let recent := (q.collapses.filter (fun t => decide (s.now < t + 60000000000))) ++ [s.now]
    let s := raiseAon s 0x0704 true ((if q.state == .on then 0x3F else q.step) + 256 * recent.length)
    let s := setSeq (dropRuns s) (fun q => { q with
      state := .collapsed, down := none, acted := false, done := [], collapses := recent, faultRail := none, proving := none })
    if recent.length < 3 then s
    else
      let s := raiseAon (bump s 0x0C00 0 16) 0x0707 true 0
      setSeq s (fun q => { q with state := .heldOff })

/-- COLLAPSE (R405). -/
def execCollapse (s : State) : Host.Outcome State Fault Refusal := .next (collapse s)

/-- VIN_SENSE has stayed above the restart threshold for 100 ms and the discharge wait has ended (R402, R411). -/
def qualified (s : State) : State :=
  let s := s.fresh_
  match s.aon.seq.state with
  | .collapsed =>
    if s.boot.scanStopped then s else startSequence (setBoot (bump s 0x0C00 0 16) (fun b => { b with startAt := s.now })) .sequencing 1
  | .off =>
    if s.boot.phase == .accepted && !s.boot.scanStopped && !s.aon.seq.stayOff && s.aon.seq.down.isNone then startSequence s .sequencing 1 else s
  | _ => s

/-- RESTART_QUALIFIED (R402, R411). -/
def execRestartQualified (s : State) : Host.Outcome State Fault Refusal := .next (qualified s)

/-- COLLAPSE_WINDOW_EXPIRY (R402): the oldest collapse no longer counts. -/
def execCollapseWindowExpiry (s : State) : Host.Outcome State Fault Refusal :=
  let s := s.fresh_
  .next (match s.aon.seq.collapses with
    | [] => s
    | t :: rest => setSeq (advanceTo s (t + 60000000000)) (fun q => { q with collapses := rest }))

/-! ### Commands 0x0701–0x0705 -/

def railTimeoutNs (s : State) (v : Nat) : Nat :=
  match stepOfRail s v with
  | some i => 100000 * (seqStep s i).timeout
  | none => 0

def railSwitchChecks (s : State) (c : Ctx) : Checks :=
  let v := c.u 0 1
  let r := rail s v
  { badParameter := decide (23 < v) || decide (1 < c.u 1 1) || !(railCfg s v).switchable || (railCfg s v).nominal == 0
      || (stepOfRail s v).isNone
    busy := r.fenced || r.run.isSome || s.aon.seq.state != .on || s.aon.seq.down.isSome }

def railSwitchEffect (o : Origin) (s : State) (c : Ctx) : State :=
  let v := c.u 0 1
  if c.u 1 1 = 1 then
    if (rail s v).enabled then finish s c { status := .ok } else startRail s v 1 1 (some o)
  else if !(rail s v).enabled then finish s c { status := .ok }
  else setRun (releaseRail s v) v (some ⟨2, 2, 1, some o⟩)

/-- The recovery budget of opcode 0x0701 (R112, R480). -/
def railSwitchBudget : State → Ctx → Nat :=
                            (fun s c => 100000000 + 2 * railTimeoutNs s (c.u 0 1))

/-- RAIL_SWITCH (R398). -/
def execRailSwitch (o : Origin) (s : State) : Host.Outcome State Fault Refusal :=
  .next (runOnce 0x0701 o s railSwitchBudget railSwitchChecks (railSwitchEffect o))

/-- B_op of a fence release: 100 ms and twice the delays and timeouts of the steps it runs (R480). -/
def fenceReleaseBudget (s : State) (c : Ctx) : Nat :=
  let v := c.u 0 1
  let n := (stepOfRail s v).getD 0
  let steps := if (railCfg s v).main then List.range (n + 1) else [n]
  100000000 + 2 * (steps.map (fun i => 10000 * (seqStep s i).delay + 100000 * (seqStep s i).timeout)).sum

def railFenceReleaseChecks (s : State) (c : Ctx) : Checks :=
  let v := c.u 0 1
  { badParameter := decide (23 < v)
    badCommand := c.has 0 1 && decide (v ≤ 23) && !(rail s v).fenced
    busy := (rail s v).run.isSome || s.aon.seq.proof.isSome || s.aon.seq.down.isSome
      || ((railCfg s v).main && s.aon.seq.state != .heldOff) }

def railFenceReleaseEffect (o : Origin) (s : State) (c : Ctx) : State :=
  let v := c.u 0 1
  if (railCfg s v).main then
    setSeq (startSequence s .heldOff 1) (fun q => { q with proof := some (v, o) })
  else startRail s v 3 1 (some o)

/-- RAIL_FENCE_RELEASE (R404). -/
def execRailFenceRelease (o : Origin) (s : State) : Host.Outcome State Fault Refusal :=
  .next (runOnce 0x0702 o s fenceReleaseBudget railFenceReleaseChecks (railFenceReleaseEffect o))

/-- The checks of opcode 0x0703 beyond the common ones (R18, R484): codes are 0x01 and 0x02. -/
def powerRequestChecks (s : State) (c : Ctx) : Checks :=
  { badParameter := c.u 0 1 != 1 && c.u 0 1 != 2
    busy := s.aon.seq.state != .on || s.aon.seq.down.isSome || (s.boot.scanStopped && !s.boot.testLogicReset) }

/-- The request of a power-down or restart: over the mailbox it completes with OK first, and the action begins 1 ms after the
response is written, when the command is presented again; over TWT the action begins with the answer (R484). -/
def powerRequest (o : Origin) (code due : Nat) (goal : DownTo) (s : State) : State :=
  let s := s.fresh_
  match ctxOf s o with
  | some c =>
    if c.op != 0x0703 || (c.u 0 1 == 2) != (code == 2) then s
    else
      let ch := (commonChecks s c Latency.management.budgetNs).both (powerRequestChecks s c)
      match ch.verdict with
      | some st => turnAway s c ch st
      | none =>
        let s := finish s c { status := .ok }
        if c.twt then powerDown (writeSnapshot s 0x03) goal else setBoot s (fun b => { b with powerDownDue := due })
  | none =>
    let waits := match o with
      | .mbx p k => (slotAt s p k).phase != .free
      | .twt => true
    if s.boot.powerDownDue = due ∧ !waits then
      powerDown (writeSnapshot (setBoot (advanceTo s (s.now + 1000000)) (fun b => { b with powerDownDue := 0 })) 0x03) goal
    else s

/-- POWER_DOWN (R484): code 0x01, and what carries no code of 0x0703, which a check ends. -/
def execPowerDown (o : Origin) (s : State) : Host.Outcome State Fault Refusal := .next (powerRequest o 1 1 .off s)

/-- DEVICE_RESTART (R484): code 0x02. -/
def execDeviceRestart (o : Origin) (s : State) : Host.Outcome State Fault Refusal := .next (powerRequest o 2 2 .restart s)

/-- A main-domain rail is fenced (R402). -/
def mainRailFenced (s : State) : Bool := (List.range 24).any (fun v => (rail s v).fenced && (railCfg s v).main)

def restartChecks (s : State) (_ : Ctx) : Checks :=
  { badCommand := s.aon.seq.state != .heldOff && s.boot.phase != .noImage
    busy := s.aon.seq.state == .heldOff && (mainRailFenced s || s.aon.seq.proof.isSome) }

/-- RESTART_FROM_HELD_OFF (R402, R506, R508): image selection runs again. -/
def execRestartFromHeldOff (o : Origin) (s : State) : Host.Outcome State Fault Refusal :=
  .next (runOp 0x0704 o s (fixed .management) restartChecks (fun s c =>
    finish (setBoot (setSeq s (fun q => { q with state := .off, stayOff := false })) (fun b =>
      { b with phase := .selecting, noQualify := false, startAt := s.now })) c
      { status := .ok }))

def snapshotReadEffect (s : State) (c : Ctx) : State :=
  let q := s.aon.seq
  let crc := field q.snapshot 0x1FC 4 == (crc32c (slice q.snapshot 0 0x1FC)).toNat
  let r := leBytes 1 (b2n q.stored + 2 * b2n (q.stored && crc)) ++ List.replicate 15 0 ++ slice q.snapshot (c.u 0 2) 32
  let clear := bit (c.u 2 1) 0 && !s.faults.safeState
  let s := if clear then setSeq s (fun q => { q with snapshot := [], stored := false, unread := false })
    else setSeq s (fun q => { q with unread := false })
  finish s c { status := .ok, result := r }

/-- The checks of opcode 0x0705 beyond the common ones (R18). -/
def snapshotReadChecks : State → Ctx → Checks :=
                                              (fun _ c =>
    { badParameter := c.u 0 2 % 32 != 0 || decide (480 < c.u 0 2) || decide (1 < c.u 2 1) })

/-- SNAPSHOT_READ (R408). -/
def execSnapshotRead (o : Origin) (s : State) : Host.Outcome State Fault Refusal :=
  .next (runOp 0x0705 o s (fixed .management) snapshotReadChecks snapshotReadEffect)

end Sys2Proof.Machine
end

