-- ==== Sys2Proof/Machine/Fans.lean ====
section
/-! DEFINITION. Fans (R412–R417, R436) and the KT ceiling they and the thermal plan set (R421, R422, R435). -/

namespace Sys2Proof.Machine

open Sys2Proof

def setFan (s : State) (i : Nat) (f : Fan → Fan) : State :=
  setAon s (fun a => { a with fans := Tbl.modify a.fans i Fan.init f })

/-! ### The KT ceiling -/

/-- A fan Stalled, until a restart has brought it to Running (R417, R421). -/
def stalledStill (f : Fan) : Bool := f.state == 7 || (decide (2 ≤ f.state) && decide (f.state ≤ 4) && f.lasting)

/-- KT is throttled by one point: a fan Stalled, or an airflow loss confirmed (R421). -/
def throttling (s : State) : Bool := s.aon.fans.any (fun e => stalledStill e.2 || (e.2.state == 6 && e.2.airflow))

/-- A plan-driven axis has not left Unhomed and Homing (R435). -/
def homingHold (s : State) : Bool :=
  (List.range 4).any (fun i => (axisCfg s i).used && (axis s i).planDriven && decide ((axis s i).state < 2))

/-- The ceiling (code 1–4) and the cause event 0x0746 gives for it: critical, homing, throttle, row (R421, R422, R435, R437–R439). -/
def ceilingNow (s : State) : Nat × Nat :=
  let row := (s.aon.tables.rows.getD s.aon.thermal.ktRow ⟨0, [], 1, []⟩).ceiling
  if s.aon.thermal.critical || s.faults.safeState then (1, 3)
  else if homingHold s then (1, 4)
  else if throttling s then (max 1 (row - 1), 2)
  else (row, 1)

/-- The ceiling is formed again; a change is reported and given to KT, a throttle that begins is counted (R436 row 3). -/
def updateCeiling (s : State) : State :=
  let c := ceilingNow s
  let began := throttling s && !s.aon.thermal.throttled
  let s := if began then bump s 0x0D03 0 32 else s
  let s := setAon s (fun a => { a with thermal := { a.thermal with throttled := throttling s } })
  if c.1 = s.aon.thermal.ceiling then (if s.tensor.ceiling = c.1 then s else setCeiling s c.1)
  else
    let s := raiseAon s 0x0746 false (c.1 + 256 * c.2)
    setCeiling (setAon s (fun a => { a with thermal := { a.thermal with ceiling := c.1 } })) c.1

/-! ### Spin-up and supervision -/

/-- A spin-up attempt starts at 100 % in state 2 or 4. -/
def startSpin (s : State) (i st : Nat) : State :=
  setFan s i (fun f => { f with
    state := st, startedAt := s.now, pulse := false, fastFrom := none, airflow := false
    lasting := f.state == 7 || (f.state == 3 && f.lasting) })

/-- The commanded duty of every used fan acts on its state: an Idle fan spins up, a Running one at 0 % stops (R417). -/
def updateFans (s : State) : State :=
  (List.range 12).foldl (fun s i =>
    if !(fanCfg s i).used then s
    else if (fan s i).state = 1 ∧ 0 < commandedDuty s i then startSpin s i 2
    else if (fan s i).state = 5 ∧ commandedDuty s i = 0 then setFan s i (fun f => { f with state := 1 })
    else s) s

/-- At acceptance of an image every used fan runs a spin-up, every other goes to 0 % (R440). -/
def startFans (s : State) : State :=
  (List.range 12).foldl (fun s i =>
    if (fanCfg s i).used then startSpin s i 2 else setFan s i (fun f => { f with state := 0 })) s

/-- An attempt passes; a passed second attempt is a transient fault (R417). -/
def spinPassed (s : State) (i : Nat) : State :=
  let second := (fan s i).state = 4
  let s := setFan s i (fun f => { f with state := 5, pulseAt := s.now, lasting := false })
  updateCeiling (updateFans (if second then transient s 0x12 i else s))

/-- An attempt fails (R415, R417). -/
def spinFailed (s : State) (i : Nat) (noPulse : Bool) : State :=
  if (fan s i).state = 2 then
    raiseAon (setFan s i (fun f => { f with state := 3, startedAt := s.now })) 0x0741 true (i + 16 * b2n noPulse)
  else
    let s := bump (setFan s i (fun f => { f with state := 7 })) 0x0301 0x12 16
    updateCeiling (raiseAon s 0x0742 true i)

/-- The minimum speed was reached within 5 s of the attempt's start. -/
def reachedSpeed (f : Fan) : Bool :=
  match f.fastFrom with
  | some t => decide (t ≤ f.startedAt + 5000000000)
  | none => false

/-- The judgement at 2 s, or at 5 s (R415). -/
def spinCheck (s : State) (i : Nat) (final : Bool) : State :=
  let s := s.fresh_
  let f := fan s i
  if f.state != 2 && f.state != 4 then s
  else
    let s := advanceTo s (f.startedAt + if final then 5000000000 else 2000000000)
    if !f.pulse then spinFailed s i true
    else if reachedSpeed f then spinPassed s i
    else if final then spinFailed s i false
    else s

/-- SPIN_UP_CHECK (R415). -/
def execSpinUpCheck (fan : Fin 12) (final : Bool) (s : State) : Host.Outcome State Fault Refusal := .next (spinCheck s fan final)

/-- FAN_PAUSE_EXPIRY (R415, R417): attempt 2, counted as a retry (R436 row 0). -/
def execFanPauseExpiry (fan : Fin 12) (s : State) : Host.Outcome State Fault Refusal :=
  let s := s.fresh_
  let f := Machine.fan s fan
  .next (if f.state = 3 then bump (startSpin (advanceTo s (f.startedAt + 3000000000)) fan 4) 0x0D00 fan 16 else s)

/-- A pulse (R412, R415, R416): the speed over the last revolution in rpm. -/
def tachPulse (s : State) (i rpm : Nat) : State :=
  let s := s.fresh_
  if !(fanCfg s i).used then s
  else
    let spin := (fan s i).state == 2 || (fan s i).state == 4
    let fast := decide ((fanCfg s i).minSpeed ≤ rpm)
    let s := setFan s i (fun f => { f with
      speed := rpm
      pulseAt := s.now
      pulse := f.pulse || decide (s.now ≤ f.startedAt + 2000000000)
      fastFrom := if fast then f.fastFrom.or (some s.now) else if spin then f.fastFrom else none })
    let f := fan s i
    if spin && f.pulse && reachedSpeed f && decide (f.startedAt + 2000000000 ≤ s.now) then spinPassed s i else s

/-- FAN_TACH_PULSE (R412, R415). -/
def execFanTachPulse (fan : Fin 12) (rpm : Nat) (s : State) : Host.Outcome State Fault Refusal := .next (tachPulse s fan rpm)

/-- The window W in ns (R416). -/
def tachWindow (c : FanCfg) : Nat := max 1000000000 (240000000000 / (c.minSpeed * c.ppr))

def tachLost (s : State) (i : Nat) : State :=
  let s := s.fresh_
  let f := fan s i
  if f.state = 5 ∧ 0 < commandedDuty s i then
    let s := advanceTo s (f.pulseAt + tachWindow (fanCfg s i))
    let z := (fanCfg s i).zone
    let s := bump s 0x0D01 i 16
    let s := setFan s i (fun f => { f with
      state := 6, lostAt := s.now, lasting := false, fastFrom := none, speed := 0
      zoneTemp := s.aon.thermal.zoneTemps.getD z 0, zoneRow := s.aon.thermal.zoneRows.getD z 0, airflow := false })
    raiseAon s 0x0743 true (i + 65536 * (f.speed / 16))
  else s

/-- TACH_LOST (R416). -/
def execTachLost (fan : Fin 12) (s : State) : Host.Outcome State Fault Refusal := .next (tachLost s fan)

/-- The minimum speed was held for 1 s within 10 s of the loss (R416). -/
def tachRestored (s : State) (i : Nat) : State :=
  let s := s.fresh_
  let f := fan s i
  match f.fastFrom with
  | none => s
  | some t =>
    if f.state = 6 ∧ !f.lasting ∧ t + 1000000000 ≤ f.lostAt + 10000000000 then
      let s := advanceTo s (t + 1000000000)
      let s := setFan s i (fun f => { f with state := 5, airflow := false, pulseAt := s.now })
      updateCeiling (updateFans (raiseAon (transient s 0x12 i) 0x0744 false i))
    else s

/-- TACH_RESTORED (R416, R417). -/
def execTachRestored (fan : Fin 12) (s : State) : Host.Outcome State Fault Refusal := .next (tachRestored s fan)

/-- TACH_LOST_LASTING (R416, R417): the fan stays at 100 % in Tach lost. -/
def execTachLostLasting (fan : Fin 12) (s : State) : Host.Outcome State Fault Refusal :=
  let s := s.fresh_
  let f := Machine.fan s fan
  .next (if f.state = 6 ∧ !f.lasting then
      bump (setFan (advanceTo s (f.lostAt + 10000000000)) fan (fun f => { f with lasting := true })) 0x0301 0x12 16
    else s)

/-! ### Commands 0x0710–0x0712 -/

/-- A used fan's number. -/
def fanNamed (s : State) (i : Nat) : Bool := decide (i < 12) && (fanCfg s i).used

/-- The checks of opcode 0x0710 beyond the common ones (R18). -/
def fanFloorSetChecks : State → Ctx → Checks :=
    (fun s c => { badParameter := !fanNamed s (c.u 0 1) || c.dirty 1 1 || decide (1000 < c.u 2 2) })

/-- FAN_FLOOR_SET (R414). -/
def execFanFloorSet (o : Origin) (s : State) : Host.Outcome State Fault Refusal :=
  .next (runOp 0x0710 o s (fixed .management)
    fanFloorSetChecks
    (fun s c => finish (updateFans (setFan s (c.u 0 1) (fun f => { f with floor := c.u 2 2 }))) c { status := .ok }))

/-- The checks of opcode 0x0711 beyond the common ones (R18). -/
def fanRestartChecks : State → Ctx → Checks :=
    (fun s c => { badParameter := !fanNamed s (c.u 0 1)
                  badCommand := c.has 0 1 && fanNamed s (c.u 0 1) && (fan s (c.u 0 1)).state != 6 && (fan s (c.u 0 1)).state != 7 })

/-- FAN_RESTART (R417): completes when attempt 1 starts. -/
def execFanRestart (o : Origin) (s : State) : Host.Outcome State Fault Refusal :=
  .next (runOp 0x0711 o s (fixed .management)
    fanRestartChecks
    (fun s c => finish (updateCeiling (startSpin s (c.u 0 1) 2)) c { status := .ok }))

/-- FAN_STATUS (R417). -/
def execFanStatus (o : Origin) (s : State) : Host.Outcome State Fault Refusal :=
  .next (runOp 0x0712 o s (fixed .management) noChecks
    (fun s c => finish s c { status := .ok, result := ((List.range 12).map (fanRecord s)).flatten }))

end Sys2Proof.Machine
end

