-- ==== Sys2Proof/Machine/Axes.lean ====
section
/-! DEFINITION. Valve axes: feedback, trajectory, targets, homing and faults (R423–R436). -/

namespace Sys2Proof.Machine

open Sys2Proof

/-! ### Stopping (R428) -/

/-- From velocity `v > 0` (counts/s) and acceleration `a` the axis can stop within `x` counts under the acceleration limit
`lim` and the jerk limit `j`: the jerk-limited profile takes the acceleration down, holds it at the limit where it gets there,
and brings it back to zero with the velocity. With zero acceleration this is the distance d(V) of R428. DEDUCED. -/
def stopsForward (lim j v a x : Int) : Bool :=
  let n := 2 * j * v + a * a
  let m := 3 * j * j * x - 3 * j * v * a - a * a * a
  if a < 0 ∧ 2 * j * v ≤ a * a then decide (0 ≤ x) && decide (2 * j * v * (2 * j * v) * (2 * j * v) ≤ 36 * j * j * j * j * x * x)
  else if 2 * lim * lim ≤ n then decide (3 * n * n + 6 * lim * lim * n ≤ 8 * lim * m)
  else decide (0 ≤ m) && decide (9 * n * n * n ≤ 8 * m * m)

/-- From a commanded position, velocity and acceleration the axis can stop without passing `bound` in its direction of
motion; at rest it has no direction. -/
def stopsBefore (c : AxisCfg) (pos vel acc bound : Int) : Bool :=
  if 0 < vel then stopsForward c.acceleration c.jerk vel acc (bound - pos)
  else if vel < 0 then stopsForward c.acceleration c.jerk (-vel) (-acc) (pos - bound)
  else true

/-- The least whole bound before which a moving axis can stop, by halving. -/
def stopSearch (c : AxisCfg) (pos vel acc : Int) : Nat → Nat → Nat → Nat
  | 0, _, hi => hi
  | f + 1, lo, hi =>
    if hi ≤ lo then hi
    else
      let mid := (lo + hi) / 2
      if stopsBefore c pos vel acc (if 0 < vel then pos + mid else pos - mid) then stopSearch c pos vel acc f lo mid
      else stopSearch c pos vel acc f (mid + 1) hi

/-- The stopping point in whole counts (R431). -/
def stoppingPoint (c : AxisCfg) (pos vel acc : Int) : Int :=
  let d := stopSearch c pos vel acc 40 0 1099511627776
  if 0 < vel then pos + d else if vel < 0 then pos - d else pos

/-! ### Targets (R430, R431, R435) -/

/-- The axis is judged against its target (R431, R432): at rest on it Holding, able to reach it Moving, else Stopping, which is
counted as a retarget with reversal (R436 row 7). -/
def judgeMove (s : State) (i : Nat) : State :=
  let x := axis s i
  let c := axisCfg s i
  match x.target with
  | none => s
  | some t =>
    if x.velocity = 0 then
      if t = x.command then
        if x.state = 2 then s else setAxis s i (fun x => { x with state := 2, restAt := s.now, acceleration := 0 })
      else setAxis s i (fun x => { x with state := 4 })
    else if stopsBefore c x.command x.velocity x.acceleration t then setAxis s i (fun x => { x with state := 4 })
    else if x.state = 5 then s
    else setAxis (bump s 0x0D07 i 32) i (fun x => { x with
      state := 5, stopAt := stoppingPoint c x.command x.velocity x.acceleration })

/-- An accepted target replaces the previous one; one accepted during Calibrating waits (R430, R433). -/
def retarget (s : State) (i : Nat) (t : Int) : State :=
  let x := axis s i
  if x.state = 3 then setAxis s i (fun x => { x with queued := some t })
  else
    let s := setAxis s i (fun x => { x with target := some t })
    if x.state = 2 ∨ x.state = 4 ∨ x.state = 5 then judgeMove s i else s

/-- The present row's target of an axis (R435): of the row the die temperature selects, within the soft limits. -/
def planTarget (s : State) (i : Nat) : Option Int :=
  match (s.aon.tables.rows[s.aon.thermal.ktRow]?).bind (fun r => r.targets[i]?) with
  | some t => if (axis s i).lower ≤ t ∧ t ≤ (axis s i).upper then some t else none
  | none => none

/-- A plan-driven axis takes the row's target; with the main domain off it keeps its last one (R25, R435). -/
def planRetarget (s : State) (i : Nat) : State :=
  if (axisCfg s i).used && (axis s i).planDriven && s.boot.mainOn then
    match planTarget s i with
    | some t => if (axis s i).target = some t then s else retarget s i t
    | none => s
  else s

/-! ### Faults (R425, R427, R432) -/

/-- The release command that waits ends. -/
def endRelease (s : State) (i : Nat) (st : Status) : State :=
  match (axis s i).release with
  | none => s
  | some o => finishOrigin (setAxis s i (fun x => { x with release := none })) o { status := st }

/-- The axis is fenced: AnENABLE low, a lasting fault (R432). `cause` 0 homing failed, 1 window not restored. -/
def fenceAxis (s : State) (i cause : Nat) : State :=
  let s := setAxis (bump s 0x0301 0x13 16) i (fun x => { x with state := 7, enable := false, velocity := 0, acceleration := 0 })
  let s := endRelease (raiseAon s 0x074B true (i + 256 * cause)) i .lasting
  updateCeiling s

/-- An amplitude (0) or following (1) fault: AnENABLE low, Faulted (R432). In a run entered from Faulted or by a release, which
has one attempt, it is the attempt's failure. -/
def axisFault (s : State) (i kind : Nat) : State :=
  let x := axis s i
  let single := x.state = 1 ∧ (x.fromFault ∨ x.release.isSome)
  let s := bump s (if kind = 0 then 0x0D04 else 0x0D05) i 16
  let s := raiseAon s 0x0749 true (i + 256 * kind + 4294967296 * ofSigned x.position 32)
  if single then fenceAxis s i 0
  else updateCeiling (setAxis s i (fun x => { x with
    state := 6, enable := false, faultAt := s.now, passFrom := none, velocity := 0, acceleration := 0, badAmplitude := 0, badFollowing := 0 }))

/-- A 32-bit position wraps. -/
def wrap32 (v : Int) : Int := toSigned (ofSigned v 32) 32

/-- The shorter way from one angle of a period to another, in counts (R424). -/
def angleStep (a b : Nat) : Int :=
  let d := (b + 4096 - a) % 4096
  if d < 2048 then d else (d : Int) - 4096

/-- Commanded position less the measured one. -/
def followingError (x : Axis) : Int := x.command - x.position

/-- A sample of both channels with the interpolated angle (R424, R425, R427). In Calibrating the count and the check are
suspended (R433). -/
def feedback (s : State) (i : Nat) (sin cos : Int) (angle : Nat) : State :=
  let s := s.fresh_
  let c := axisCfg s i
  if !c.used || (axis s i).state == 3 then s
  else
    let a := (axis s i).amplitude
    let r2 := if a = 0 then 0 else 1000 * (sin * sin + cos * cos).toNat / (a * a)
    let out := decide (1000 * (sin * sin + cos * cos).toNat < 10 * c.windowLow * (a * a))
      || decide (10 * c.windowHigh * (a * a) < 1000 * (sin * sin + cos * cos).toNat)
    let s := setAxis s i (fun x => { x with
      r2 := r2
      position := wrap32 (x.position + angleStep x.angle angle)
      angle := angle })
    let active := [1, 2, 4, 5].contains (axis s i).state
    let far := decide ((c.following : Int) < (followingError (axis s i)).natAbs)
    let s := setAxis s i (fun x => { x with
      badAmplitude := if out && active then x.badAmplitude + 1 else 0
      badFollowing := if far && active then x.badFollowing + 1 else 0
      passFrom := if x.state = 6 then
          if out then none else x.passFrom.or (some (max s.now (x.faultAt + 100000000)))
        else x.passFrom })
    if 2 ≤ (axis s i).badAmplitude then axisFault s i 0
    else if 2 ≤ (axis s i).badFollowing then axisFault s i 1
    else s

/-- AXIS_FEEDBACK_SAMPLE (R424, R425, R427): the sampled sine and cosine and the interpolated angle. -/
def execAxisFeedbackSample (axis : Fin 4) (sin cos : Int) (angle : Fin 4096) (s : State) : Host.Outcome State Fault Refusal :=
  .next (feedback s axis sin cos angle)

/-! ### Trajectory (R427–R432, R434) -/

/-- One update obeys the velocity, acceleration and jerk limits within the 25 µs between two updates; values are whole, so
that each may be rounded by one (R428). -/
def withinLimits (c : AxisCfg) (vmax : Int) (x : Axis) (pos vel acc : Int) : Bool :=
  let near (d : Int) (per : Int) : Bool := decide (40000 * (d.natAbs : Int) ≤ per + 40000)
  decide ((vel.natAbs : Int) ≤ vmax) && decide (acc.natAbs ≤ c.acceleration)
    && near (acc - x.acceleration) c.jerk
    && near (vel - x.velocity) (max acc.natAbs x.acceleration.natAbs)
    && near (pos - x.command) (max vel.natAbs x.velocity.natAbs)

/-- The bound a moving axis must be able to stop before: in Moving its target where it lies ahead, in Stopping the stopping
point, and always the soft limit ahead (R429, R431). -/
def boundAhead (x : Axis) (vel : Int) : Int :=
  let soft := if 0 < vel then x.upper else x.lower
  let own := if x.state = 5 then x.stopAt else x.target.getD x.command
  if 0 < vel then min soft own else max soft own

/-- The generator's output is one the rules allow from the present state. An axis that was already past a bound may only
brake. -/
def updateAllowed (c : AxisCfg) (x : Axis) (pos vel acc : Int) : Bool :=
  if x.state = 1 then withinLimits c c.homeVelocity x pos vel acc
  else if x.state = 4 ∨ x.state = 5 then
    withinLimits c c.velocity x pos vel acc &&
      (stopsBefore c pos vel acc (boundAhead x vel)
        || (!stopsBefore c x.command x.velocity x.acceleration (boundAhead x x.velocity)
            && (if 0 < vel then decide (acc ≤ x.acceleration) else decide (x.acceleration ≤ acc))))
  else false

/-- One update of the generator (R427–R432). -/
def trajectory (s : State) (i : Nat) (pos vel acc : Int) : State :=
  let s := s.fresh_
  let s := if (axis s i).state = 2 ∧ (axis s i).velocity ≠ 0 then judgeMove s i else s
  if !(axisCfg s i).used || !(axis s i).enable || s.faults.safeState then s
  else if updateAllowed (axisCfg s i) (axis s i) pos vel acc then
    let before := (axis s i).state
    let s := setAxis s i (fun x => { x with command := pos, velocity := vel, acceleration := acc })
    if before = 1 then s
    else if before = 5 then (if vel = 0 then judgeMove s i else s)
    else if vel = 0 ∧ (axis s i).target = some pos then judgeMove s i
    else s
  else s

/-- TRAJECTORY_UPDATE (R427–R431): the position, velocity and acceleration the generator produced. -/
def execTrajectoryUpdate (axis : Fin 4) (pos vel acc : Int) (s : State) : Host.Outcome State Fault Refusal :=
  .next (trajectory s axis pos vel acc)

/-! ### Homing (R432, R434) -/

/-- A mark seen with sine and cosine both positive sets the position (R434). -/
def referenceMark (s : State) (i : Nat) (sin cos : Int) (angle : Nat) : State :=
  let s := s.fresh_
  let x := axis s i
  if x.state ≠ 1 ∨ !x.enable ∨ sin ≤ 0 ∨ cos ≤ 0 then s
  else
    let p := wrap32 ((axisCfg s i).homeOffset + angle)
    let keep := match x.target with
      | some t => if x.lower ≤ t ∧ t ≤ x.upper then t else p
      | none => p
    let s := setAxis s i (fun x => { x with
      state := 2, position := p, angle := angle, command := p, target := some keep, restAt := s.now, fromFault := false })
    let s := raiseAon s 0x074A false (i + 256 * b2n x.fromFault)
    let s := if x.fromFault then transient s 0x13 i else s
    let s := endRelease s i .ok
    let s := planRetarget s i
    updateCeiling (judgeMove s i)

/-- REFERENCE_MARK (R434). -/
def execReferenceMark (axis : Fin 4) (sin cos : Int) (angle : Fin 4096) (s : State) : Host.Outcome State Fault Refusal :=
  .next (referenceMark s axis sin cos angle)

/-- HOMING_ATTEMPT_FAILED (R432, R434). -/
def execHomingAttemptFailed (axis : Fin 4) (s : State) : Host.Outcome State Fault Refusal :=
  let s := s.fresh_
  let x := Machine.axis s axis
  .next (if x.state ≠ 1 ∨ !x.enable then s
    else if x.attempt = 1 ∧ !x.fromFault ∧ x.release.isNone then
      setAxis s axis (fun x => { x with enable := false, attempt := 2, restAt := s.now, velocity := 0, acceleration := 0 })
    else fenceAxis s axis 0)

/-- HOMING_RETRY_EXPIRY (R432): 100 ms with AnENABLE low. -/
def execHomingRetryExpiry (axis : Fin 4) (s : State) : Host.Outcome State Fault Refusal :=
  let s := s.fresh_
  let x := Machine.axis s axis
  .next (if x.state = 1 ∧ !x.enable ∧ x.attempt = 2 then
      setAxis (advanceTo s (x.restAt + 100000000)) axis (fun x => { x with enable := true, command := x.position })
    else s)

/-- A Faulted axis whose window passed for 100 ms within 1 s homes again, once; otherwise it is fenced at 1 s (R432). -/
def faultRecovery (s : State) (i : Nat) : State :=
  let s := s.fresh_
  let x := axis s i
  if x.state ≠ 6 then s
  else
    let above := fenceAxis (advanceTo s (x.faultAt + 1000000000)) i 1
    match x.passFrom with
    | some t => if t + 100000000 ≤ x.faultAt + 1000000000 then startHoming (advanceTo s (t + 100000000)) i true none else above
    | none => above

/-- AXIS_FAULT_RECOVERY (R432). -/
def execAxisFaultRecovery (axis : Fin 4) (s : State) : Host.Outcome State Fault Refusal :=
  .next (updateCeiling (faultRecovery s axis))

/-! ### Commands 0x0720–0x0725 -/

def axisNamed (s : State) (i : Nat) : Bool := decide (i < 4) && (axisCfg s i).used

def axisTargetChecks (s : State) (c : Ctx) : Checks :=
  let i := c.u 0 1
  let x := axis s i
  let t := toSigned (c.u 4 4) 32
  let named := axisNamed s i
  { badCommand := c.has 0 1 && named && x.state == 0
    badParameter := !named || c.dirty 1 3 || (named && !(decide (x.lower ≤ t) && decide (t ≤ x.upper)))
    busy := named && (x.planDriven || x.state == 1 || x.state == 6)
    execution := if named && x.state == 7 then some .lasting else none }

/-- AXIS_TARGET (R430): completes on acceptance. -/
def execAxisTarget (o : Origin) (s : State) : Host.Outcome State Fault Refusal :=
  .next (runOp 0x0720 o s (fixed .management) axisTargetChecks
    (fun s c => finish (retarget s (c.u 0 1) (toSigned (c.u 4 4) 32)) c { status := .ok }))

def axisLimitsChecks (s : State) (c : Ctx) : Checks :=
  let i := c.u 0 1
  let x := axis s i
  let lo := toSigned (c.u 4 4) 32
  let hi := toSigned (c.u 8 4) 32
  let t := x.target.getD x.position
  { badParameter := !axisNamed s i || c.dirty 1 3 || decide (hi ≤ lo)
      || !(decide (lo ≤ x.position) && decide (x.position ≤ hi) && decide (lo ≤ t) && decide (t ≤ hi))
    busy := axisNamed s i && x.state != 2 }

/-- AXIS_LIMITS_SET (R430). -/
def execAxisLimitsSet (o : Origin) (s : State) : Host.Outcome State Fault Refusal :=
  .next (runOp 0x0721 o s (fixed .management) axisLimitsChecks
    (fun s c => finish (setAxis s (c.u 0 1) (fun x => { x with
      lower := toSigned (c.u 4 4) 32, upper := toSigned (c.u 8 4) 32 })) c { status := .ok }))

def axisModeChecks (s : State) (c : Ctx) : Checks :=
  let i := c.u 0 1
  { badParameter := !axisNamed s i || decide (1 < c.u 1 1)
    busy := axisNamed s i && ((axis s i).state == 1 || (axis s i).state == 3) }

/-- AXIS_MODE_SET (R435): plan-driven takes the present row's target. -/
def execAxisModeSet (o : Origin) (s : State) : Host.Outcome State Fault Refusal :=
  .next (runOp 0x0722 o s (fixed .management) axisModeChecks
    (fun s c => finish (updateCeiling (planRetarget (setAxis s (c.u 0 1) (fun x => { x with planDriven := c.u 1 1 == 1 })) (c.u 0 1)))
      c { status := .ok }))

def axisHomeChecks (s : State) (c : Ctx) : Checks :=
  let i := c.u 0 1
  { badParameter := !axisNamed s i
    busy := axisNamed s i && (axis s i).state != 0 && (axis s i).state != 2 }

/-- AXIS_HOME (R432): completes when homing starts. -/
def execAxisHome (o : Origin) (s : State) : Host.Outcome State Fault Refusal :=
  .next (runOp 0x0723 o s (fixed .management) axisHomeChecks
    (fun s c => finish (updateCeiling (startHoming s (c.u 0 1) false none)) c { status := .ok }))

def axisReleaseChecks (s : State) (c : Ctx) : Checks :=
  let i := c.u 0 1
  { badParameter := !axisNamed s i
    badCommand := c.has 0 1 && axisNamed s i && (axis s i).state != 7 }

/-- AXIS_RELEASE (R432): the command ends with the single homing attempt it starts. -/
def execAxisRelease (o : Origin) (s : State) : Host.Outcome State Fault Refusal :=
  .next (runOnce 0x0724 o s (fixed .management) axisReleaseChecks
    (fun s c => updateCeiling (startHoming s (c.u 0 1) false (some o))))

/-- The 24 bytes of an axis status. -/
def axisRecord (x : Axis) : List Byte :=
  leBytes 1 x.state ++ leBytes 1 (b2n x.calibrate) ++ leBytes 2 (min 65535 x.r2) ++ leBytes 4 (ofSigned x.position 32)
    ++ leBytes 4 (ofSigned x.velocity 32) ++ leBytes 4 (ofSigned (x.target.getD x.position) 32)
    ++ leBytes 4 (ofSigned x.lower 32) ++ leBytes 4 (ofSigned x.upper 32)

/-- The checks of opcode 0x0725 beyond the common ones (R18). -/
def axisStatusChecks : State → Ctx → Checks :=
                                              (fun _ c => { badParameter := decide (3 < c.u 0 1) })

/-- AXIS_STATUS (R432). -/
def execAxisStatus (o : Origin) (s : State) : Host.Outcome State Fault Refusal :=
  .next (runOp 0x0725 o s (fixed .management) axisStatusChecks
    (fun s c => finish s c { status := .ok, result := axisRecord (axis s (c.u 0 1)) }))

end Sys2Proof.Machine
end

