-- ==== Sys2Proof/Machine/Curve.lean ====
section
/-! DEFINITION. The curve NIST P-384, key agreement and signatures over it (R279, R339, R340, R381). The spec names the
published standards and does not print them: PRESUMED, log 5. Private keys and nonces are open: log 3. -/

namespace Sys2Proof.Machine

open Sys2Proof

/-- The field of P-384, its coefficient b, its base point and the order of that point (SP 800-186). -/
def curveP : Nat := 2 ^ 384 - 2 ^ 128 - 2 ^ 96 + 2 ^ 32 - 1
def curveB : Nat :=
  0xB3312FA7E23EE7E4988E056BE3F82D19181D9C6EFE8141120314088F5013875AC656398D8A2ED19D2A85C8EDD3EC2AEF
def baseX : Nat :=
  0xAA87CA22BE8B05378EB1C71EF320AD746E1D3B628BA79B9859F741E082542A385502F25DBF55296C3A545E3872760AB7
def baseY : Nat :=
  0x3617DE4A96262C6F5D9E98BF9292DC29F8F41DBD289A147CE9DA3113B5F0B8C00A60B1CE1D7E819D7A431D7C90EA0E5F
def curveN : Nat :=
  0xFFFFFFFFFFFFFFFFFFFFFFFFFFFFFFFFFFFFFFFFFFFFFFFFC7634D81F4372DDF581A0DB248B0A77AECEC196ACCC52973

/-- `a` to the power `e` modulo `m`, by `n` squarings. -/
def powModFuel (m : Nat) : Nat → Nat → Nat → Nat
  | 0, _, _ => 1
  | n + 1, a, e => (if e % 2 = 1 then a else 1) * powModFuel m n (a * a % m) (e / 2) % m

/-- The inverse modulo a prime of 384 bits. -/
def invMod (m a : Nat) : Nat := powModFuel m 384 (a % m) (m - 2)

/-- A difference modulo `m`. -/
def subMod (m a b : Nat) : Nat := (a + (m - b % m)) % m

/-- The sum of two points of the curve; `none` is the point at infinity. -/
def addPoint : Option (Nat × Nat) → Option (Nat × Nat) → Option (Nat × Nat)
  | none, q => q
  | p, none => p
  | some (x1, y1), some (x2, y2) =>
    if x1 = x2 ∧ (y1 + y2) % curveP = 0 then none
    else
      let slope := if x1 = x2 then (3 * x1 * x1 + (curveP - 3)) * invMod curveP (2 * y1) % curveP
        else subMod curveP y2 y1 * invMod curveP (subMod curveP x2 x1) % curveP
      let x := subMod curveP (subMod curveP (slope * slope) x1) x2
      some (x, subMod curveP (slope * subMod curveP x1 x) y1)

/-- A point times a scalar, by `n` doublings. -/
def mulPointFuel : Nat → Nat → Option (Nat × Nat) → Option (Nat × Nat)
  | 0, _, _ => none
  | n + 1, k, p => addPoint (if k % 2 = 1 then p else none) (mulPointFuel n (k / 2) (addPoint p p))

@[irreducible] def mulPoint (k : Nat) (p : Option (Nat × Nat)) : Option (Nat × Nat) := mulPointFuel 384 k p

/-- A scalar from 1 to the order less one, made from an open number. -/
def scalarOf (n : Nat) : Nat := 1 + n % (curveN - 1)

/-- A point as 97 bytes, uncompressed (SEC 1). -/
def pointBytes : Option (Nat × Nat) → List Byte
  | none => List.replicate 97 0
  | some (x, y) => 4 :: (beBytes 48 x ++ beBytes 48 y)

/-- The point 97 bytes spell, where they spell one of the curve. -/
def pointOf (bs : List Byte) : Option (Nat × Nat) :=
  let x := beNat (slice bs 1 48)
  let y := beNat (slice bs 49 48)
  if bs.length == 97 && bs.headD 0 == 4 && decide (x < curveP) && decide (y < curveP)
    && y * y % curveP == (x * x * x + (curveP - 3) * x + curveB) % curveP then some (x, y) else none

/-- The public key of the transport key pair made at a draw (R339, R340). -/
def transportPublic (draw : Nat) : List Byte :=
  pointBytes (mulPoint (scalarOf (Config.transportPrivate draw)) (some (baseX, baseY)))

/-- The ECDH shared secret of the transport key pair of a draw and a peer's public point: the x coordinate (R340). -/
def ecdhSecret (draw : Nat) (peer : List Byte) : List Byte :=
  match mulPoint (scalarOf (Config.transportPrivate draw)) (pointOf peer) with
  | none => List.replicate 48 0
  | some (x, _) => beBytes 48 x

/-- The ECDSA signature r ‖ s over SHA-384 of a message, for a private key and a nonce (FIPS 186-5). -/
@[irreducible] def ecdsaSign (d k : Nat) (msg : List Byte) : List Byte :=
  let e := beNat (sha384 msg)
  let r := (match mulPoint k (some (baseX, baseY)) with
    | none => 0
    | some (x, _) => x % curveN)
  beBytes 48 r ++ beBytes 48 (invMod curveN k * (e + r * d) % curveN)

/-- A signature under the SPDM leaf key, with the nonce of a draw (R279, R340, R381). -/
def leafSign (msg : List Byte) (draw : Nat) : List Byte :=
  ecdsaSign (scalarOf Config.leafPrivate) (scalarOf (Config.signatureNonce draw)) msg

end Sys2Proof.Machine
end

