-- ==== Sys2Proof/Machine/Queues.lean ====
section
/-! DEFINITION. The queues that join the clock domains: their classes, credit, pointers and stalls (R37, R41, R45–R53). -/

namespace Sys2Proof.Machine

open Sys2Proof

def portAt (s : State) (n : Nat) : Port := Tbl.getD s.ports n Port.init

def setPort (s : State) (n : Nat) (f : Port → Port) : State := { s with ports := Tbl.modify s.ports n Port.init f }

/-- Degrade counts as Run (R259). -/
def inRun (s : State) (n : Nat) : Bool := (portAt s n).state == .run || (portAt s n).state == .degrade

/-- The partner's capability bytes; zeros while none is known. -/
def capability (s : State) (n : Nat) : List Byte := (portAt s n).capability.getD (List.replicate 64 0)

/-! ### Queue classes (R48) -/

def classInstances : List Nat := [8, 8, 8, 8, 8, 8, 2, 2, 2, 2, 2, 1, 1, 8, 8, 4, 4, 16, 1, 1, 1, 1, 1, 1]

def classCredits : List Nat :=
  [768, 64, 32, 32, 0, 1024, 512, 4096, 256, 256, 512, 256, 256, 128, 128, 512, 512, 32, 64, 256, 32, 64, 4, 16]

/-- The credit of an instance; the partner's advertisement for the transmit class (R48, R246). -/
def classCredit (s : State) (cls n : Nat) : Nat :=
  if cls = 4 then field (capability s n) 8 2 else classCredits.getD cls 0

/-- The clock domain of a queue's producer and of its consumer; none for a partner (R48). -/
def producerDomain (cls n : Nat) : Option Nat :=
  match cls with
  | 0 | 1 | 2 | 3 => none
  | 4 | 7 | 8 | 9 | 11 | 13 | 15 | 17 | 19 => some 0
  | 5 => some (10 + n)
  | 6 => some (8 + n)
  | 10 => some (5 + n)
  | 12 => some 7
  | 14 => some 1
  | 16 => some 18
  | 18 | 20 => some 2
  | 21 | 22 => some 3
  | _ => some 4

def consumerDomain (cls n : Nat) : Option Nat :=
  match cls with
  | 0 | 1 | 2 | 3 => some (10 + n)
  | 4 => none
  | 5 | 6 | 7 | 10 | 12 | 14 | 16 | 17 | 18 => some 0
  | 8 => some (8 + n)
  | 9 => some (5 + n)
  | 11 => some 7
  | 13 => some 1
  | 15 => some 18
  | 19 | 21 => some 2
  | 20 | 23 => some 3
  | _ => some 4

def queueKey (cls n : Nat) : Nat := cls * 16 + n

/-- The depth of a queue: the least power of two that holds its credit (R41, R48). -/
def queueDepth (cls : Nat) : Nat :=
  2 ^ ((List.range 13).find? (fun i => decide (classCredits.getD cls 0 ≤ 2 ^ i))).getD 12

def queueAt (s : State) (cls n : Nat) : Queue := Tbl.getD s.queues (queueKey cls n) Queue.init

def setQueue (s : State) (cls n : Nat) (f : Queue → Queue) : State :=
  { s with queues := Tbl.modify s.queues (queueKey cls n) Queue.init f }

def domain (s : State) (d : Nat) : Domain := Tbl.getD s.domains d Domain.off

def setDomain (s : State) (d : Nat) (f : Domain → Domain) : State :=
  { s with domains := Tbl.modify s.domains d Domain.off f }

/-- A domain runs and is out of reset. -/
def domainUp (s : State) (d : Nat) : Bool := (domain s d).clock && !(domain s d).inReset && !(domain s d).fenced

def endUp (s : State) (d : Option Nat) : Bool :=
  match d with
  | none => true
  | some d => domainUp s d


/-- A producer sends one unit: its credit falls and its write pointer moves on (R41, R45). -/
def takeCredit (s : State) (cls n : Nat) : State :=
  setQueue s cls n (fun q => { q with
    credit := q.credit - 1, sent := (q.sent + 1) % 65536, occupied := q.occupied + 1, stallReported := false
    writeWord := pointerWord (queueDepth cls) (q.sent + 1) })

/-- The consumer frees entries: the cumulative count and the read pointer advance. A producer that runs samples the count and
adds the difference; while it is in reset the returns collect (R45, R53). An unusable entry stays occupied (R46). -/
def freeEntries (s : State) (cls n k : Nat) : State :=
  let samples := endUp s (producerDomain cls n)
  setQueue s cls n (fun q =>
    let freed := (q.freed + k) % 65536
    { q with
      freed := freed
      readWord := pointerWord (queueDepth cls) freed
      credit := if samples then q.credit + (freed + 65536 - q.sampled) % 65536 else q.credit
      sampled := if samples then freed else q.sampled
      occupied := max q.unusable (q.occupied - k) })

/-- A producer holds a unit ready and has no credit: the stall begins (R50). -/
def noteStall (s : State) (cls n : Nat) : State :=
  setQueue s cls n (fun q => { q with stallFrom := q.stallFrom.or (some s.now) })

/-- The producer sends again: the KC cycles of its stall, 1.25 a nanosecond, are counted, and a further stall is told again (R50). -/
def endStall (s : State) (cls n : Nat) : State :=
  let q := queueAt s cls n
  match q.stallFrom with
  | none => if q.stallReported then setQueue s cls n (fun q => { q with stallReported := false }) else s
  | some t =>
    bumpBy (setQueue s cls n (fun q => { q with stallFrom := none, stallReported := false })) 0x0100 cls 32
      ((s.now - t) * 5 / 4)

/-- A producer has no credit for a unit it holds: the partner has used all that a receive class of the port gives, parcels wait
to be sent to the partner, or the queue's own counter is zero (R45, R50). -/
def producerStalled (s : State) (cls n : Nat) : Bool :=
  if cls < 4 then
    decide (classCredits.getD cls 0 ≤ ((portAt s n).received.getD cls 0 + 65536 - (portAt s n).freed.getD cls 0) % 65536)
  else if cls = 4 then !(portAt s n).waiting.isEmpty
  else (queueAt s cls n).credit == 0

/-- A unit that crosses a queue and is read at once: it takes a credit, and its entry is freed (R41, R45). -/
def crossQueue (s : State) (cls n : Nat) : State :=
  if (queueAt s cls n).granted && decide (0 < (queueAt s cls n).credit) then freeEntries (takeCredit s cls n) cls n 1 else s

end Sys2Proof.Machine
end

