-- ==== Sys2Proof/Machine/Links.lean ====
section
/-! DEFINITION. Waybills, streams, link parcels and the transmit side of a partner port. -/

namespace Sys2Proof.Machine

open Sys2Proof

/-- The partner's declaration flags (R250), binding while the port is in Run (R252). -/
def capFlag (s : State) (n i : Nat) : Bool := inRun s n && bit (field (capability s n) 1 1) i

def spanCapable (s : State) (n : Nat) : Bool := capFlag s n 0

/-- The credit class of a content code (R241): bulk, convoy control, sync signal, link management. -/
def contentClass (content : Nat) : Nat :=
  if content == 0x09 then 1 else if content == 0x0A then 2 else if content == 0x0B then 3 else 0

/-- The next sequence of a stream, which rises by one for each parcel modulo 2²⁴ (R64). -/
def streamKey (src dst p : Nat) : Nat := src * 65536 + dst * 256 + p

def nextStream (s : State) (src dst p : Nat) : Nat × State :=
  let n := Tbl.getD s.streams (streamKey src dst p) 0
  (n, { s with streams := Tbl.set s.streams (streamKey src dst p) ((n + 1) % 16777216) })

/-- A waybill (R61) over a payload. -/
def waybill (src dst flags p convoy seq cmd offset : Nat) (payload : List Byte) : List Byte :=
  let h := [1] ++ leBytes 1 src ++ leBytes 1 dst ++ leBytes 1 flags ++ leBytes 1 p ++ leBytes 1 convoy
    ++ leBytes 2 payload.length ++ leBytes 3 seq ++ [0] ++ leBytes 4 cmd ++ leBytes 8 offset
    ++ leBytes 4 (crc32c payload).toNat ++ [0, 0]
  h ++ leBytes 2 (crc16 h).toNat

/-- A data link parcel (R239). -/
def linkParcel (seq content : Nat) (wb payload : List Byte) : List Byte :=
  let b := leBytes 2 seq ++ leBytes 1 content ++ [0, 0, 0, 0, 0] ++ slice wb 0 32 ++ slice payload 0 256
  b ++ leBytes 4 (crc32c b).toNat

/-! ### Control slots (R237, R240) -/

/-- Lanes not in the fence map (R257). -/
def usableLanes (s : State) (n : Nat) : Nat := maskOf 8 (fun l => !isFenced s 0x02 (n * 8 + l))

/-- Lanes set in both masks. -/
def bothLanes (a b : Nat) : Nat := maskOf 8 (fun l => bit a l && bit b l)

/-- Lanes this side can use in its link: trained, not fenced, not being relocked (R240, R260). -/
def ownLanes (s : State) (n : Nat) : Nat :=
  let q := portAt s n
  maskOf 8 (fun l => bit q.trained l && bit (usableLanes s n) l && !bit q.relocking l)

/-- The 300 bytes of a control parcel (R240). -/
def controlParcel (q : Port) (lanes flags : Nat) : List Byte :=
  let b := [0x80] ++ leBytes 1 q.state.code ++ leBytes 2 (q.rxExpected + 65535) ++ leBytes 2 (q.asked.getD 0)
    ++ leBytes 1 flags ++ leBytes 1 lanes ++ (q.freed.map (leBytes 2)).flatten ++ List.replicate 280 0
  b ++ leBytes 4 (crc32c b).toNat

/-- A control parcel goes out in the next control slot (R237). -/
def sendControl (s : State) (n flags : Nat) : State :=
  let q := portAt s n
  send s [.parcel n 0x80 (controlParcel q (q.newLanes.getD (ownLanes s n)) (if q.asked.isSome then setBit flags 0 else flags))]

/-- A data slot has been used; behind the fifth of a group comes the next group's control slot (R237). Idle slots are left out
(log 43). -/
def dataSlot (s : State) (n : Nat) : State :=
  let used := (portAt s n).slots + 1
  let s := setPort s n (fun q => { q with slots := used % 5 })
  if used < 5 then s else sendControl s n 0

/-- A convoy control parcel goes out: the timer of its acknowledgement starts (R84). -/
def startAckTimer (s : State) (port content : Nat) (wb : List Byte) : State :=
  let n := field wb 5 1
  let c := Tbl.getD s.convoys n Convoy.init
  if content == 0x09 && (Tbl.get? c.acksOwed port).isSome then
    let c := { c with acksOwed := Tbl.set c.acksOwed port s.now }
    { s with convoys := Tbl.set s.convoys n c }
  else s

/-- A bulk parcel of a convoy's generation, by its waybill. -/
def bulkOf (n : Nat) (generation : Bool) (w : Nat × Nat × List Byte) : Bool :=
  w.1 == 0 && bit (field w.2.2 3 1) 1 && field w.2.2 5 1 == n && bit (field w.2.2 3 1) 2 == generation

/-- A convoy's control parcel follows its last parcel on the port, so it waits while one of those waits (R29, R76). -/
def behindBulk (q : Port) (content : Nat) (wb : List Byte) : Bool :=
  content == 0x09 && q.waiting.any (bulkOf (field wb 5 1) (bit (field wb 3 1) 2))

/-- A parcel with credit goes out on a port: it takes the next link sequence and stays in the replay buffer until it
is acknowledged (R242, R243). -/
def transmit (s : State) (n content : Nat) (wb payload : List Byte) : State :=
  let q := portAt s n
  let bytes := linkParcel q.txSeq content wb payload
  let s := startAckTimer (send (endStall s 4 n) [.parcel n content bytes]) n content wb
  let s := setPort s n (fun q => { q with
    txSeq := (q.txSeq + 1) % 65536
    replay := q.replay ++ [(q.txSeq, bytes)]
    credit := q.credit.set (contentClass content) (q.credit.getD (contentClass content) 0 - 1) })
  dataSlot s n

/-- A parcel for a partner waits for credit of its class, behind those of its class that already wait (R45, R47). -/
def sendLink (s : State) (n content : Nat) (wb payload : List Byte) : State :=
  let q := portAt s n
  let cls := contentClass content
  if inRun s n && decide (0 < q.credit.getD cls 0)
      && !q.waiting.any (fun w => contentClass w.2.1 == cls) && !behindBulk q content wb then
    transmit s n content wb payload
  else setPort (noteStall s 4 n) n (fun q => { q with waiting := q.waiting ++ [(cls, content, wb ++ payload)] })

/-- Waiting parcels go out as credit allows, in order within a class. -/
def flushFuel : Nat → State → Nat → State
  | 0, s, _ => s
  | f + 1, s, n =>
    let q := portAt s n
    if inRun s n then
      match q.waiting.find? (fun w => decide (0 < q.credit.getD w.1 0) && !behindBulk q w.2.1 w.2.2) with
      | none => s
      | some w =>
        let s := setPort s n (fun q => { q with waiting := q.waiting.erase w })
        flushFuel f (transmit s n w.2.1 (w.2.2.take 32) (w.2.2.drop 32)) n
    else s

def flushWaiting (s : State) (n : Nat) : State := flushFuel ((portAt s n).waiting.length + 1) s n

/-- A convoy control parcel of 16 bytes (R76), waybill flags [3] set with convoy and generation filled in. -/
def convoyPayload (kind n : Nat) (generation : Bool) (result count : Nat) : List Byte :=
  leBytes 1 kind ++ leBytes 1 n ++ leBytes 1 (b2n generation) ++ leBytes 1 result ++ leBytes 4 count
    ++ List.replicate 8 0

def sendConvoyControl (s : State) (port kind n p : Nat) (generation : Bool) (count : Nat) : State :=
  let payload := convoyPayload kind n generation 0 count
  let (seq, s) := nextStream s 0x01 (0x30 + port) p
  sendLink s port 0x09 (waybill 0x01 (0x30 + port) (1 + 2 + 4 * b2n generation + 8) p n seq 0 0 payload) payload

/-- The most parcels a convoy may send on one port in one generation (R91). -/
def mostParcels : Nat := 4294967295

/-- A convoy counts a parcel that it sends on a port (R76); at the most a generation may carry it is full (R91). -/
def countCarried (s : State) (n port : Nat) : State :=
  let c := Tbl.getD s.convoys n Convoy.init
  let sent := Tbl.getD c.carried port 0 + 1
  let c := { c with carried := Tbl.set c.carried port sent, full := c.full || decide (mostParcels ≤ sent) }
  { s with convoys := Tbl.set s.convoys n c }

/-- A bulk parcel from a unit, sent for an operation in a convoy or outside one; a convoy counts it (R76). It is provisional in
a frame's convoy, whose own check is still owed (R69, R81), and toward a span-capable partner (R29). The sequence of its
stream belongs to its source (R61, R64). What a full port would carry waits for the next convoy (R91). -/
def sendBulkFrom (src : Nat) (s : State) (port content p : Nat) (convoy : Option Nat) (cmd offset : Nat) (last : Bool)
    (payload : List Byte) : State :=
  match convoy with
  | none =>
    let (seq, s) := nextStream s src (0x30 + port) p
    sendLink s port content (waybill src (0x30 + port) (1 + 16 * b2n last) p 0 seq cmd offset payload) payload
  | some n =>
    let c := Tbl.getD s.convoys n Convoy.init
    let flags := b2n (decide (n < 192) && !spanCapable s port) + 2 + 4 * b2n c.generation + 16 * b2n last
    if mostParcels ≤ Tbl.getD c.carried port 0 then s
    else
      let (seq, s) := nextStream s src (0x30 + port) p
      sendLink (countCarried s n port) port content (waybill src (0x30 + port) flags p n seq cmd offset payload) payload

/-- A bulk parcel that the control complex sends (R62). -/
def sendBulk (s : State) (port content p : Nat) (convoy : Option Nat) (cmd offset : Nat) (last : Bool)
    (payload : List Byte) : State :=
  sendBulkFrom 0x01 s port content p convoy cmd offset last payload

end Sys2Proof.Machine
end

