-- ==== Sys2Proof/Machine/Convoys.lean ====
section
/-! DEFINITION. Convoys: opening, sealing, confirming, cancelling and what an outcome means for lines, gates and
members (R69–R84, R203–R205). -/

namespace Sys2Proof.Machine

open Sys2Proof

def convoy (s : State) (n : Nat) : Convoy := Tbl.getD s.convoys n Convoy.init

/-- An update of the convoy table, made in both its copies (R93). -/
def setConvoy (s : State) (n : Nat) (f : Convoy → Convoy) : State :=
  { s with convoys := Tbl.modify s.convoys n Convoy.init (fun c => (f c).mirrored) }

/-- Open convoys of a partition's commands (R74). -/
def convoysOpen (s : State) (p : Nat) : Nat :=
  Tbl.count s.convoys (fun n c => decide (n < 192) && c.state != .free && c.partition == p)

/-- The number a command's convoy takes that opens and resolves within one step: the lowest free one whose next generation no
sweep still holds (R74, R205). -/
def freeNumber (s : State) : Option Nat :=
  (List.range 192).find? (fun n => (convoy s n).state == .free
    && !s.memory.sweeps.any (fun w => w.convoy == n && w.generation == !(convoy s n).generation))

/-- A partition has as many convoys open as it may (R74). -/
def quotaReached (s : State) (p : Nat) : Bool := decide ((part s p).quotas.convoys ≤ convoysOpen s p)

/-- A command of the data class runs in a convoy (R74, R480): at quota, or with no number free, it waits; its convoy opens, which
toggles the number's generation (R75), and resolves within the step (log 12). -/
def inConvoy (eff : State → Ctx → State) (s : State) (c : Ctx) : State :=
  if quotaReached s c.p then s
  else match freeNumber s with
    | none => s
    | some n =>
      let t := eff s c
      if (slotAt t c.p c.k).phase == .running then t
      else setConvoy t n (fun x => { x with generation := !x.generation })

/-- The network port whose frames a number carries (R74). -/
def framePort (n : Nat) : Option Nat := if n < 192 then none else if n < 224 then some 0 else some 1

/-- The convoy deadline in ns: of the partition, or of the network port for a frame convoy (R75). -/
def convoyDeadline (s : State) (n : Nat) : Nat :=
  1000 * match framePort n with
    | some j => (Tbl.getD s.nets j NetPort.init).deadlineUs
    | none => (part s (convoy s n).partition).deadlineUs

/-- A command's convoy now held, where one is. -/
def convoyOf (s : State) (p k : Nat) : Option Nat :=
  (s.convoys.find? (fun e => e.2.owner == some (p * 32 + k) && e.2.state != .free)).map (fun e => e.1)

/-- The units that are members of a convoy (R65, R70): the clusters of a command's partition, or the classifier and the cipher
engines of a frame's path (R28). -/
def memberUnits (s : State) (n p : Nat) : List Nat :=
  if n < 192 then ((List.range 8).filter (fun i => bit (part s p).clusterMask i)).map (fun i => 0x10 + i)
  else 0x3D :: (List.range 16).map (fun i => 0x40 + i)

/-- A number opens (R75, R79): it must be free, its partition below quota, its command without another convoy, and no
sweep may still run under the generation it would take (R205). -/
def openConvoy (s : State) (n p : Nat) (owner : Option Nat) : State :=
  let c := convoy s n
  let swept := s.memory.sweeps.any (fun w => w.convoy == n && w.generation == !c.generation)
  if c.state != .free || swept then s
  else setConvoy s n (fun c => { Convoy.init with
    state := .opened, generation := !c.generation, partition := p, owner := owner, openedAt := s.now, units := memberUnits s n p })

/-- The owner seals (R76, R79): a seal control parcel goes out on every port that carried parcels of the convoy, behind the
last of them (R83), and the deadline starts. -/
def sealConvoy (s : State) (n : Nat) : State :=
  let c := convoy s n
  if c.state != .opened then s
  else
    let s := c.carried.foldl (fun s e => sendConvoyControl s e.1 0x01 n c.partition c.generation e.2) s
    setConvoy s n (fun c => { c with
      state := .sealed
      acksOwed := c.carried.map (fun e => (e.1, s.now))
      deadlineAt := some (s.now + convoyDeadline s n) })

/-- The memory units (spill controller 9) that hold lines of a convoy's present generation. -/
def unitOfLine (line : Nat) : Nat := let g := line / 8192; if g < 288 then g / 36 else if g < 320 then 8 else 9

def taggedUnits (s : State) (n : Nat) (generation : Bool) : List Nat :=
  (List.range 10).filter (fun u => s.memory.tags.any (fun e =>
    e.2.convoy == n && e.2.generation == generation && e.2.state == 1 && unitOfLine e.1 == u))

/-- Every unit that wrote lines of the convoy begins its sweep (R204). -/
def startSweeps (s : State) (n : Nat) (cancelled : Bool) : State :=
  let c := convoy s n
  { s with memory := { s.memory with sweeps := s.memory.sweeps ++
    (taggedUnits s n c.generation).map (fun u => ⟨u, n, c.generation, cancelled⟩) } }

/-- A held parcel leaves its gate: flags [0] set and a fresh header CRC (R66). -/
def releaseParcel (bs : List Byte) : List Byte :=
  let h := slice bs 0 3 ++ [bs.getD 3 0 ||| 1] ++ slice bs 4 26
  h ++ leBytes 2 (crc16 h).toNat ++ bs.drop 32

/-- The queue from the fabric queues toward a port: network transmit, host DMA write, storage write (R48). -/
def queueTo (dst : Nat) : Option (Nat × Nat) :=
  if dst = 0x38 ∨ dst = 0x39 then some (9, dst - 0x38)
  else if dst = 0x3A then some (11, 0)
  else if dst = 0x3B ∨ dst = 0x3C then some (8, dst - 0x3B)
  else none

/-- A parcel crosses into its port's domain, where it is not in that port's queue already (R41). -/
def crossTo (s : State) (key dst : Nat) : State :=
  match queueTo dst with
  | none => s
  | some (cls, n) => if key = queueKey cls n then s else crossQueue s cls n

/-- A confirmed parcel reaches the unit its waybill names: host, storage and network writes leave the device. A parcel to the
storage port names no link and no namespace, and the spec gives it none: the model writes it to namespace 0 behind link 0.
DESIGN CHOICE, log 44. -/
def parcelOut (s : State) (bs : List Byte) : State :=
  let dst := field bs 2 1
  let p := field bs 4 1 % 32
  let payload := slice bs 32 (field bs 6 2 % 512)
  if dst == 0x38 || dst == 0x39 then send s [.hostWrite (dst - 0x38) (part s p).fn (hostFn s (dst - 0x38) (part s p).fn).relaxed (field bs 16 8) payload]
  else if dst == 0x3B || dst == 0x3C then send s [.frame (dst - 0x3B) payload]
  else if dst == 0x3A then send s [.nvme 0 0x01 0 (field bs 16 8) payload.length payload]
  else if decide (0x30 ≤ dst) && decide (dst ≤ 0x37) then
    sendLink s (dst - 0x30) 0x06 (bs.take 32) payload
  else s

/-- Whether a sealed convoy meets the conditions of R77, and both copies of the table show it so (R93). -/
def confirmable (c : Convoy) : Bool :=
  c.state == .sealed && c.checksOwed == 0 && c.inputsOwed == 0 && c.acksOwed.isEmpty && c.agrees

/-- A held parcel's header CRC holds (R66). -/
def heldPasses (b : List Byte) : Bool := field b 0x1E 2 == (crc16 (slice b 0 30)).toNat

/-- A held parcel leaves its gate, and its entry and credit are returned (R47, R66). One whose header CRC fails there is
discarded and reported as parcel corruption (R68). -/
def releaseHeld (s : State) (e : Nat × List Byte) : State :=
  let cls := e.1 / 16
  let w := e.2
  let s := freeEntries s cls (e.1 % 16) 1
  if heldPasses w then parcelOut (crossTo s e.1 (field w 2 1)) (releaseParcel w)
  else raiseAdmin (bump s 0x0200 (cls * 256 + 1) 32) 0x0904 true (field w 4 1 % 32) (cls + 256 * field w 1 1
    + 65536 * field w 2 1 + 16777216 * (field w 4 1 % 32) + 4294967296 + 1099511627776 * field w 8 3)

/-- A convoy's parcels to a partner that have still to be accepted for transmission (R77). -/
def parcelsWait (s : State) (n : Nat) (generation : Bool) : Bool :=
  s.ports.any (fun e => e.2.waiting.any (bulkOf n generation))

/-- The sync updates a convoy holds are applied once every write of it has been accepted (R77). -/
def applySignals (s : State) (n : Nat) (signal : State → Nat → Nat → Nat → State) : State :=
  let c := convoy s n
  if parcelsWait s n c.generation then s
  else setConvoy (c.signals.foldl (fun s e => signal s e.1 e.2.1 e.2.2) s) n (fun c => { c with signals := [] })

/-- Confirmation (R77): gates release in stream order, lines are confirmed, a confirm goes out on each port that carried
the convoy, and a command whose data now passes a gate is past its point of no return (R141). Sync updates follow. -/
def confirmConvoy (s : State) (n : Nat) (signal : State → Nat → Nat → Nat → State) : State :=
  let c := convoy s n
  if !confirmable c then s
  else
    let s := startSweeps s n false
    let s := c.held.foldl releaseHeld s
    let s := c.carried.foldl (fun s e => sendConvoyControl s e.1 0x02 n c.partition c.generation 0) s
    let s := match c.owner with
      | none => s
      | some o => setSlot s (o / 32) (o % 32) (fun sl => { sl with
          inRepair := false
          retried := sl.retried || decide (2 ≤ c.attempt)
          picots := sl.picots + c.picots
          checks := sl.checks + c.checks
          pastReturn := sl.pastReturn || !c.held.isEmpty || !c.signals.isEmpty || !c.carried.isEmpty })
    let s := if decide (2 ≤ c.attempt) then
        let s := match c.firstCause with
          | some f => bump s 0x0202 (causeIndex f) 32
          | none => s
        if c.firstResource = 0 || isFenced s (c.firstResource / 1024) (c.firstResource % 1024) then s
        else transient s (c.firstResource / 1024) (c.firstResource % 1024)
      else s
    applySignals (setConvoy s n (fun c => { c with
      state := .confirmed, held := [], deadlineAt := none, acksOwed := c.carried.map (fun e => (e.1, s.now)) })) n signal

/-- A cause allows a re-run after the first attempt (R80). -/
def allowsRerun : CancelCause → Bool
  | .ownCheck => true | .deadline => true | .portLeftRun => true
  | .inputFrame => false | .hostCancel => false | .ownTimeout => false

/-- A control parcel of a convoy's generation, by its waybill. -/
def controlOf (n : Nat) (generation : Bool) (w : Nat × Nat × List Byte) : Bool :=
  w.2.1 == 0x09 && field w.2.2 5 1 == n && bit (field w.2.2 3 1) 2 == generation

/-- Provisional parcels of a convoy that still wait for credit are never sent, nor is a seal behind them (R78). -/
def dropWaitingParcels (s : State) (n : Nat) (generation : Bool) : State :=
  { s with ports := Tbl.mapAll s.ports (fun _ q => { q with
    waiting := q.waiting.filter (fun w => !bulkOf n generation w && !controlOf n generation w) }) }

/-- Cancellation (R78): gates discard, lines are marked cancelled, pending sync updates are discarded, a cancel goes
out on each port that carried the convoy; the command is in repair while a re-run is owed (R114). -/
def cancelConvoy (s : State) (n : Nat) (cause : CancelCause) (resource : Nat) : State :=
  let c := convoy s n
  if c.state != .opened && c.state != .sealed then s
  else
    let live := c.carried.filter (fun e => inRun s e.1)
    let s := c.held.foldl (fun s e => freeEntries s (e.1 / 16) (e.1 % 16) 1) s
    let s := bump s 0x0201 (causeIndex cause) 32
    let s := dropWaitingParcels (startSweeps s n true) n c.generation
    let s := live.foldl (fun s e => sendConvoyControl s e.1 0x03 n c.partition c.generation 0) s
    let again := allowsRerun cause && decide (c.attempt < 2)
    let s := (c.signals.filter (fun e => e.2.2 != 0)).foldl (fun s e =>
      raiseAdmin (bump s 0x0606 (e.2.2 - 1) 32) 0x0206 false c.partition
        (e.2.2 - 1 + 256 * 0x04 + 4294967296 * e.1)) s
    let s := match c.owner with
      | none => s
      | some o => setSlot s (o / 32) (o % 32) (fun sl => { sl with inRepair := again, layer := 3 })
    setConvoy s n (fun c => { c with
      state := .cancelling
      held := []
      signals := []
      deadlineAt := none
      checksOwed := 0
      inputsOwed := 0
      reads := []
      spaces := []
      picots := 0
      checks := 0
      resultsOwed := []
      acksOwed := live.map (fun e => (e.1, s.now))
      cause := some cause
      firstCause := if c.attempt < 2 then some cause else c.firstCause
      firstResource := if c.attempt < 2 then resource else c.firstResource
      resource := resource })

/-- Every convoy open or sealed that satisfies a test is cancelled; how many. -/
def cancelWhere (s : State) (f : Nat → Convoy → Bool) (cause : CancelCause) (resource : Nat) : Nat × State :=
  let ns := Tbl.keysWhere s.convoys (fun n c => (c.state == .opened || c.state == .sealed) && f n c)
  (ns.length, ns.foldl (fun s n => cancelConvoy s n cause resource) s)

/-- An attempt failed because a partner port left Run, and that port is not in Run (R80). -/
def portGone (s : State) (cause : Option CancelCause) (resource : Nat) : Bool :=
  cause == some .portLeftRun && !inRun s (resource % 1024)

/-- The status of a command whose convoy was cancelled for good (R80). -/
def cancelledStatus (s : State) (c : Convoy) : Status :=
  match c.cause with
  | some .hostCancel => .cancelled
  | some .ownTimeout => .timeout
  | some .inputFrame => .cancelled
  | second =>
    if portGone s c.firstCause c.firstResource || portGone s second c.resource then .absent
    else if c.firstCause == some .ownCheck && second == some .ownCheck && c.firstResource == c.resource then .lasting
    else .cancelled

/-- The acknowledgements of a port that leaves Run count as received (R83). -/
def forgetPortAcks (s : State) (port : Nat) : State :=
  { s with convoys := Tbl.mapAll s.convoys (fun _ c => { c with acksOwed := Tbl.erase c.acksOwed port }) }

end Sys2Proof.Machine
end

