-- ==== Sys2Proof/Machine/Sync.lean ====
section
/-! DEFINITION. Sync objects: signals, waits and what partners may do to them (R217–R222, R230). -/

namespace Sys2Proof.Machine

open Sys2Proof

def setSync (s : State) (i : Nat) (o : SyncObj) : State :=
  { s with memory := { s.memory with sync := Tbl.set s.memory.sync i o } }

/-- The live object a handle names, of any partition (R217). A handle with its reserved bits set names none, so that the command is a
refusal with reason 0x02 and not BAD_PARAMETER (R13). DESIGN CHOICE, log 45. -/
def syncAny (s : State) (handle : Nat) : Option SyncObj :=
  if handle / 65536 == generation s 2 (handle % 4096) && bits handle 15 12 == 0 then
    Tbl.get? s.memory.sync (handle % 4096)
  else none

/-- The live object a handle names for a partition (R217). -/
def syncOf (s : State) (p handle : Nat) : Option SyncObj :=
  match syncAny s handle with
  | some o => if o.owner == p then some o else none
  | none => none

/-- A handle field that names no live object of the requester is a refusal with reason 0x02 (R217). -/
def syncHandleCheck (s : State) (c : Ctx) (off : Nat) : Checks :=
  { refused := if c.has off 4 && (syncOf s c.p (c.u off 4)).isNone then some 0x02 else none }

/-- The top of the counter (R218). -/
def syncTop : Nat := 18446744073709551615

/-- A waiter is released: its command completes with OK and the counter (R219). -/
def releaseWaiter (s : State) (w : Nat) (st : Status) (counter : Nat) : State :=
  endSlot s (w / 32) (w % 32) { status := st, result := leBytes 8 counter }

/-- Waiters inserted by ascending threshold, later ones behind equals (R220). -/
def insertWaiter (w : Nat × Nat) : List (Nat × Nat) → List (Nat × Nat)
  | [] => [w]
  | x :: xs => if w.1 < x.1 then w :: x :: xs else x :: insertWaiter w xs

/-- Waiters in the order of release (R220). -/
def releaseOrder (ws : List (Nat × Nat)) : List (Nat × Nat) := ws.foldl (fun acc w => insertWaiter w acc) []

/-- A signal that fits the counter: the counter rises and every satisfied waiter is released (R218–R220). -/
def syncAdd (s : State) (i value : Nat) : State :=
  match Tbl.get? s.memory.sync i with
  | none => s
  | some o =>
    let counter := o.counter + value
    let due := releaseOrder (o.waiters.filter (fun w => decide (w.1 ≤ counter)))
    let s := setSync s i { o with counter := counter, waiters := o.waiters.filter (fun w => !decide (w.1 ≤ counter)) }
    due.foldl (fun s w => releaseWaiter s w.2 .ok counter) s

/-- A partner's signal that takes no effect: discarded, counted and reported (R221, R231). -/
def discardSignal (s : State) (port reason handle : Nat) : State :=
  raiseAdmin (bump s 0x0606 port 32) 0x0206 false 0 (port + 256 * reason + 4294967296 * handle)

/-- A signal taken from a convoy at its confirmation or from a confirmed parcel: `source` is the port + 1, 0 for a
command's own (R77, R221). A run's own signal whose object is gone by then, or whose counter would overflow, is dropped, and the run
completes with OK: the spec is silent on it. DESIGN CHOICE, log 49. -/
def applySignal (s : State) (handle value source : Nat) : State :=
  match syncAny s handle with
  | none => if source = 0 then s else discardSignal s (source - 1) 0x01 handle
  | some o =>
    if source != 0 && o.port != some (source - 1) then discardSignal s (source - 1) 0x02 handle
    else if decide (syncTop < o.counter + value) then
      if source = 0 then s else discardSignal s (source - 1) 0x03 handle
    else syncAdd s (handle % 4096) value

/-- Every waiter of an object ends with a status. -/
def dropWaiters (s : State) (i : Nat) (st : Status) : State :=
  match Tbl.get? s.memory.sync i with
  | none => s
  | some o => o.waiters.foldl (fun s w =>
      endSlot s (w.2 / 32) (w.2 % 32) { status := st, result := if st == .absent then leBytes 8 o.counter else [] })
      (setSync s i { o with waiters := [] })

/-- A command withdrawn waits no longer. -/
def forgetWaiter (s : State) (w : Nat) : State :=
  { s with memory := { s.memory with sync := Tbl.mapAll s.memory.sync (fun _ o =>
    { o with waiters := o.waiters.filter (fun x => x.2 != w) }) } }

/-- A port reports ABSENT: its objects are marked and their waiters complete with ABSENT (R230). -/
def markAbsent (s : State) (port : Nat) : State :=
  let is := Tbl.keysWhere s.memory.sync (fun _ o => o.port == some port)
  let waiting := (is.map (fun i => match Tbl.get? s.memory.sync i with
    | some o => o.waiters.length
    | none => 0)).sum
  let s := is.foldl (fun s i => dropWaiters s i .absent) s
  let s := { s with memory := { s.memory with sync := Tbl.mapAll s.memory.sync (fun _ o =>
    if o.port == some port then { o with absent := true } else o) } }
  raiseAdmin (bumpBy s 0x0607 port 16 waiting) 0x0207 false 0 (port + 65536 * is.length + 4294967296 * waiting)

/-- The port reaches Run again: the marks clear (R230). -/
def clearAbsent (s : State) (port : Nat) : State :=
  { s with memory := { s.memory with sync := Tbl.mapAll s.memory.sync (fun _ o =>
    if o.port == some port then { o with absent := false } else o) } }

/-! ### Quotas -/

/-- Sync objects a partition holds. -/
def syncUsed (s : State) (p : Nat) : Nat := Tbl.count s.memory.sync (fun _ o => o.owner == p)

/-- Waiters a partition holds. -/
def waitersUsed (s : State) (p : Nat) : Nat :=
  (s.memory.sync.map (fun e => (e.2.waiters.filter (fun w => w.2 / 32 == p)).length)).sum

/-- The tenants' reservations of a quota (R150). -/
def reservedSum (s : State) (f : Quotas → Nat) : Nat :=
  (s.parts.map (fun e => if e.1 != 0 && e.2.state != .free then f e.2.quotas else 0)).sum

/-- A partition may take one more: below its quota, or for partition 0 from what tenants have not reserved (R150). -/
def quotaRoom (s : State) (p total used : Nat) (f : Quotas → Nat) : Bool :=
  if p = 0 then decide (used + reservedSum s f + 1 ≤ total) else decide (used + 1 ≤ f (part s p).quotas)

/-- The lowest index below a bound that a test passes. -/
def firstIndex (n : Nat) (f : Nat → Bool) : Option Nat := (List.range n).find? f

/-! ### Meanings -/

/-- The checks of SYNC_CREATE (R217). -/
def syncCreateChecks (s : State) (c : Ctx) : Checks :=
  { badParameter := decide (7 < c.u 8 1) && c.u 8 1 != 0xFF
    quota := !quotaRoom s c.p 4096 (syncUsed s c.p) (fun q => q.sync) }

/-- An object created on, or bound to, a port that is ABSENT is partner-absent at once: the spec speaks only of objects bound as the
port reports ABSENT. DESIGN CHOICE, log 50. -/
def boundAbsent (s : State) (port : Option Nat) : Bool := port.any (fun n => (portAt s n).absent)

def syncCreateEffect (s : State) (c : Ctx) : State :=
  match firstIndex 4096 (fun i => (Tbl.get? s.memory.sync i).isNone) with
  | none => finish s c { status := .quota }
  | some i =>
    let s := nextGeneration s 2 i
    let port := if c.u 8 1 = 0xFF then none else some (c.u 8 1)
    let s := setSync s i ⟨c.p, c.u 0 8, port, boundAbsent s port, []⟩
    finish s c { status := .ok, result := leBytes 4 (i + 65536 * generation s 2 i) }

def execSyncCreate (o : Origin) (s : State) : Host.Outcome State Fault Refusal :=
  .next (runOp 0x0210 o s (fixed .immediate) syncCreateChecks syncCreateEffect)

/-- SYNC_DESTROY (R222): the object is gone, its waiters end with CANCELLED, then the command completes. -/
def syncDestroyEffect (s : State) (c : Ctx) : State :=
  let i := c.u 0 4 % 4096
  let n := match Tbl.get? s.memory.sync i with
    | some o => o.waiters.length
    | none => 0
  let s := dropWaiters s i .cancelled
  finish { s with memory := { s.memory with sync := Tbl.erase s.memory.sync i } } c
    { status := .ok, result := leBytes 2 n }

/-- The checks of opcode 0x0211 beyond the common ones (R18). -/
def syncDestroyChecks : State → Ctx → Checks :=
                                             (fun s c => syncHandleCheck s c 0)

def execSyncDestroy (o : Origin) (s : State) : Host.Outcome State Fault Refusal :=
  .next (runOp 0x0211 o s (fixed .immediate) syncDestroyChecks syncDestroyEffect)

/-- SYNC_SIGNAL (R218): value 0 and an overflow are BAD_PARAMETER. -/
def syncSignalChecks (s : State) (c : Ctx) : Checks :=
  (syncHandleCheck s c 0).both
    { badParameter := c.dirty 4 4 || c.u 8 8 == 0 || (match syncOf s c.p (c.u 0 4) with
        | some o => decide (syncTop < o.counter + c.u 8 8)
        | none => false) }

def syncSignalEffect (s : State) (c : Ctx) : State :=
  let i := c.u 0 4 % 4096
  let after := match Tbl.get? s.memory.sync i with
    | some o => o.counter + c.u 8 8
    | none => 0
  finish (syncAdd s i (c.u 8 8)) c { status := .ok, result := leBytes 8 after }

def execSyncSignal (o : Origin) (s : State) : Host.Outcome State Fault Refusal :=
  .next (runOp 0x0212 o s (fixed .immediate) syncSignalChecks syncSignalEffect)

/-- SYNC_WAIT (R219): ACCEPTED, then evaluated against the counter as it registers; ABSENT on a partner-absent
object (R230). -/
def syncWaitChecks (s : State) (c : Ctx) : Checks :=
  (syncHandleCheck s c 0).both
    { badParameter := c.dirty 4 4, quota := !quotaRoom s c.p 8192 (waitersUsed s c.p) (fun q => q.waiters) }

def syncWaitEffect (s : State) (c : Ctx) : State :=
  let i := c.u 0 4 % 4096
  match Tbl.get? s.memory.sync i with
  | none => s
  | some o =>
    if o.waiters.any (fun w => w.2 == c.p * 32 + c.k) then s
    else
      let s := accept s c.p c.k
      if o.absent then
        finish (bump s 0x0607 (o.port.getD 0) 16) c { status := .absent, result := leBytes 8 o.counter }
      else if decide (c.u 8 8 ≤ o.counter) then finish s c { status := .ok, result := leBytes 8 o.counter }
      else setSync s i { o with waiters := o.waiters ++ [(c.u 8 8, c.p * 32 + c.k)] }

/-- SYNC_READ (R218). -/
def syncReadEffect (s : State) (c : Ctx) : State :=
  match syncOf s c.p (c.u 0 4) with
  | none => s
  | some o =>
    let r := leBytes 8 o.counter ++ leBytes 2 o.waiters.length ++ leBytes 1 (o.port.getD 0xFF) ++ leBytes 1 (b2n o.absent)
    finish s c { status := .ok, result := r }

/-- The checks of opcode 0x0214 beyond the common ones (R18). -/
def syncReadChecks : State → Ctx → Checks :=
                                             (fun s c => syncHandleCheck s c 0)

def execSyncRead (o : Origin) (s : State) : Host.Outcome State Fault Refusal :=
  .next (runOp 0x0214 o s (fixed .immediate) syncReadChecks syncReadEffect)

/-- SYNC_BIND (R222): BUSY while the object has waiters. -/
def syncBindChecks (s : State) (c : Ctx) : Checks :=
  (syncHandleCheck s c 0).both
    { badParameter := decide (7 < c.u 4 1) && c.u 4 1 != 0xFF
      busy := match syncOf s c.p (c.u 0 4) with
        | some o => !o.waiters.isEmpty
        | none => false }

def syncBindEffect (s : State) (c : Ctx) : State :=
  match syncOf s c.p (c.u 0 4) with
  | none => s
  | some o =>
    let port := if c.u 4 1 = 0xFF then none else some (c.u 4 1)
    finish (setSync s (c.u 0 4 % 4096) { o with port := port, absent := boundAbsent s port }) c { status := .ok }

def execSyncBind (o : Origin) (s : State) : Host.Outcome State Fault Refusal :=
  .next (runOp 0x0215 o s (fixed .immediate) syncBindChecks syncBindEffect)

/-- SYNC_SIGNAL_PARCEL (R221): a parcel outside a convoy takes effect at once; a provisional one waits at the sync gate of its
convoy's generation, or takes effect where that is confirmed, once the convoy's writes have been accepted (R77). A port out of Run
carries none. -/
def syncSignalParcel (s : State) (port : Nat) (payload : List Byte) (cv : Option (Nat × Bool)) : State :=
  let s := s.fresh_
  if !inRun s port then s
  else
    match cv with
    | none => applySignal s (field payload 0 4) (field payload 8 8) (port + 1)
    | some (n, generation) =>
      let c := convoy s n
      let held := setConvoy s n (fun c => { c with signals := c.signals ++ [(field payload 0 4, field payload 8 8, port + 1)] })
      if c.generation != generation then discardSignal s port 0x04 (field payload 0 4)
      else match c.state with
        | .opened => held
        | .sealed => held
        | .confirmed => applySignals held n applySignal
        | _ => discardSignal s port 0x04 (field payload 0 4)

def execSyncSignalParcel (port : Fin 8) (payload : List Byte) (cv : Option (Fin 256 × Bool)) (s : State) :
    Host.Outcome State Fault Refusal :=
  .next (syncSignalParcel s port payload (cv.map (fun x => (x.1.val, x.2))))

end Sys2Proof.Machine
end

