-- ==== Sys2Proof/Machine/NodeMemory.lean ====
section
/-! DEFINITION. Node memory: granules, regions, transfers, scrub, retirement and sweeps (R196–R205, R224–R226). -/

namespace Sys2Proof.Machine

open Sys2Proof

def setMemory (s : State) (f : Memory → Memory) : State := { s with memory := f s.memory }

def granule (s : State) (g : Nat) : Granule := Tbl.getD s.memory.granules g Granule.init

def setGranule (s : State) (g : Nat) (f : Granule → Granule) : State :=
  setMemory s (fun m => { m with granules := Tbl.modify m.granules g Granule.init f })

/-- The memory unit of a granule (R196). -/
def unitOf (g : Nat) : Nat := if g < 288 then g / 36 else 8

/-- The granules of a memory unit (R196). -/
def unitGranules (u : Nat) : List Nat :=
  if u < 8 then (List.range 36).map (fun i => 36 * u + i) else (List.range 32).map (fun i => 288 + i)

/-- A granule in service that nothing holds, clears or retires. -/
def granuleIdle (s : State) (g : Nat) : Bool :=
  let e := granule s g
  e.holder.isNone && !e.clearing && e.retiring.isNone && !isFenced s 0x03 g

/-- Free and unreserved: bound to no tenant (R198). -/
def granuleUnreserved (s : State) (g : Nat) : Bool := granuleIdle s g && (granule s g).bound.isNone

/-- Free to a partition: one of its bound granules, or for partition 0 an unreserved one (R198, R199). -/
def granuleFor (s : State) (p g : Nat) : Bool :=
  granuleIdle s g && (granule s g).bound == (if p = 0 then none else some p)

def freeGranules (s : State) (p u : Nat) : List Nat := (unitGranules u).filter (granuleFor s p)

/-- Granules a partition is bound to, and those of them free. -/
def boundCount (s : State) (p : Nat) : Nat :=
  ((List.range 320).filter (fun g => (granule s g).bound == some p)).length

def heldByPartition (s : State) (p g : Nat) : Bool :=
  match (granule s g).holder with
  | some (.region q _) => q == p
  | some (.model q _) => q == p
  | none => false

/-! ### Regions -/

def regionCount (s : State) (p : Nat) : Nat := Tbl.count s.memory.regions (fun k _ => k / 256 == p)

/-- The unit that serves an allocation: the one named, or the lowest-numbered that can supply it all (R199). -/
def regionUnit (s : State) (c : Ctx) : Option Nat :=
  let n := c.u 2 2
  if c.u 0 1 = 0xFF then firstIndex 9 (fun u => decide (n ≤ (freeGranules s c.p u).length))
  else if decide (n ≤ (freeGranules s c.p (c.u 0 1)).length) then some (c.u 0 1) else none

def regionAllocateChecks (s : State) (c : Ctx) : Checks :=
  { badParameter := (decide (8 < c.u 0 1) && c.u 0 1 != 0xFF) || c.dirty 1 1 || c.u 2 2 == 0
      || decide ((if c.u 0 1 = 8 then 32 else 36) < c.u 2 2)
    quota := decide (256 ≤ regionCount s c.p) || (regionUnit s c).isNone }

def regionAllocateEffect (s : State) (c : Ctx) : State :=
  match regionUnit s c, firstIndex 256 (fun i => (Tbl.get? s.memory.regions (c.p * 256 + i)).isNone) with
  | some u, some i =>
    let gs := (freeGranules s c.p u).take (c.u 2 2)
    let s := nextGeneration s 0 (c.p * 256 + i)
    let s := gs.foldl (fun s g => setGranule s g (fun e => { e with holder := some (.region c.p i) })) s
    let s := setMemory s (fun m => { m with regions := Tbl.set m.regions (c.p * 256 + i) ⟨gs, false⟩ })
    finish s c { status := .ok, result := leBytes 4 (i + 65536 * generation s 0 (c.p * 256 + i)) }
  | _, _ => finish s c { status := .quota }

/-- REGION_ALLOCATE (R199). -/
def execRegionAllocate (o : Origin) (s : State) : Host.Outcome State Fault Refusal :=
  .next (runOp 0x0201 o s (fixed .immediate) regionAllocateChecks regionAllocateEffect)

def regionHandleCheck (s : State) (c : Ctx) (off : Nat) : Checks :=
  { refused := if c.has off 4 && (regionOf s c.p (c.u off 4)).isNone then some 0x02 else none }

/-- Where the buffer descriptors of an opcode stand in its body (R477). -/
def descOffsets (op : Nat) : List Nat :=
  match op with
  | 0x0101 => [0x00]
  | 0x0110 => [0x08, 0x18]
  | 0x0111 => [0x10, 0x20]
  | 0x0203 => [0x00, 0x10]
  | 0x030B => [0x08]
  | 0x0403 => [0x10]
  | 0x0404 => [0x10]
  | 0x0510 => [0x18, 0x28, 0x38, 0x48]
  | 0x0611 => [0x08]
  | 0x0612 => [0x20]
  | _ => []

/-- An operation of the partition is in flight on a region: a running command names it (R200). -/
def regionBusy (s : State) (p handle : Nat) : Bool :=
  (List.range 32).any (fun k =>
    let sl := slotAt s p k
    let b := reqBody sl.request
    sl.phase == .running && (descOffsets (reqOpcode sl.request)).any (fun o => field b (o + 12) 1 == 2 && field b o 4 == handle))

def regionFreeChecks (s : State) (c : Ctx) : Checks :=
  (regionHandleCheck s c 0).both { busy := regionBusy s c.p (c.u 0 4) }

/-- Granules go to be cleared (R157). -/
def startClearing (s : State) (gs : List Nat) : State :=
  gs.foldl (fun s g => setGranule s g (fun e => { e with holder := none, clearing := true })) s

def regionFreeEffect (s : State) (c : Ctx) : State :=
  match regionOf s c.p (c.u 0 4) with
  | none => s
  | some r =>
    let s := startClearing s (r.granules.filter (fun g => !isFenced s 0x03 g))
    finish (setMemory s (fun m => { m with regions := Tbl.erase m.regions (regionKey c.p (c.u 0 4)) })) c
      { status := .ok }

/-- REGION_FREE (R200): the handle names nothing from now on; the granules are cleared before they serve again. -/
def execRegionFree (o : Origin) (s : State) : Host.Outcome State Fault Refusal :=
  .next (runOp 0x0202 o s (fixed .immediate) regionFreeChecks regionFreeEffect)

/-! ### Words of node memory (R197, R224, R225) -/

/-- A granule's retirement starts (R226). -/
def startRetirement (s : State) (g : Nat) (lost : Bool) : State :=
  if (granule s g).retiring.isSome || isFenced s 0x03 g then s
  else setGranule (bump s 0x0301 0x03 16) g (fun e => { e with retiring := some lost })

/-- What a word read shows is corrected, classified and repaired (R224, R225). `line` counts over node memory. -/
def wordRead (s : State) (line word : Nat) (found : WordRead) : State :=
  let g := line / 8192
  match found with
  | .clean => s
  | .single again =>
    let s := bump s 0x0600 (unitOf g) 32
    if again then startRetirement s g false else transient s 0x03 g
  | .double again =>
    let s := bump s 0x0601 (unitOf g) 16
    let s := raiseAdmin s 0x0202 true 0 (g + 512 * (line % 8192) + 4194304 * word + 67108864 * b2n (!again))
    if again then
      let s := setMemory s (fun m => { m with tags := Tbl.set m.tags line ⟨0, false, 3⟩ })
      startRetirement s g true
    else transient s 0x03 g

/-- A word of node memory, by its number, lies in a buffer. -/
def descHolds (s : State) (p : Nat) (d : Desc) (word : Nat) : Bool :=
  if d.kind == 2 then
    match regionOf s p (d.loc % 4294967296) with
    | none => false
    | some r => (r.lines (d.loc / 4294967296) d.len).contains (word / 16)
  else false

/-- A word that a write of a buffer covers in part, and so reads, corrects and merges (R197). -/
def descMerges (s : State) (p : Nat) (d : Desc) (word : Nat) : Bool :=
  if d.kind == 2 then
    match regionOf s p (d.loc % 4294967296) with
    | none => false
    | some r =>
      let first := d.loc / 4294967296
      let last := first + d.len
      (first % 16 != 0 && r.address first / 16 == word) || (last % 16 != 0 && r.address last / 16 == word)
  else false

/-- What an operation's own read of a word showed (R100, R224, R225): a corrected one goes on, as does one that is good at the second
read, recovered beneath; a word bad twice ends the operation with LASTING. `hit` says whether the operation reads the word. -/
def onWord (hit : State → Ctx → Nat → Bool) (word : Option (Fin 41943040 × WordRead)) (eff : State → Ctx → State) (s : State)
    (c : Ctx) : State :=
  match word with
  | none => eff s c
  | some (w, found) =>
    if !hit s c w.val then eff s c
    else
      let s := wordRead s (w.val / 16) (w.val % 16) found
      match found with
      | .double true => finish s c { status := .lasting }
      | .double false => eff (setSlot s c.p c.k (fun sl => { sl with lower := true })) c
      | _ => eff s c

/-! ### Memory transfer -/

def memoryTransferChecks (s : State) (c : Ctx) : Checks :=
  ((descChecks s c 0).both (descChecks s c 16)).both
    { badParameter := (c.desc 0).len != (c.desc 16).len || ((c.desc 0).kind == 1 && (c.desc 16).kind == 1) }

/-- A read that meets a provisional line waits, and an access to a retiring granule: the command runs on (R72, R226). -/
def memoryTransferEffect (hostData : List Byte) (s : State) (c : Ctx) : State :=
  let src := c.desc 0
  let dst := c.desc 16
  match descReadMeets s c.p src with
  | some none => s
  | some (some st) => finish s c { status := st }
  | none =>
    match descWriteMeets s c.p dst with
    | some none => s
    | some (some st) => finish s c { status := st }
    | none =>
      let bs := readDesc s c.p src hostData
      finish (writeDesc s c.p dst bs) c { status := .ok, reads := [bs], writes := [bs] }

/-- The recovery budget of opcode 0x0203 (R112, R480). -/
def memoryTransferBudget : State → Ctx → Nat :=
                          (fun s c => dataBudgetNs s c.p (c.desc 0).len)

/-- MEMORY_TRANSFER (R477). Its convoys open, seal and confirm within the step (log 12). -/
def execMemoryTransfer (o : Origin) (hostData : Fetched) (s : State) :
    Host.Outcome State Fault Refusal :=
  .next (runOp 0x0203 o s memoryTransferBudget memoryTransferChecks
    (inConvoy (onWord (fun s c w => descHolds s c.p (c.desc 0) w || descMerges s c.p (c.desc 16) w) hostData.word
      (memoryTransferEffect hostData.bytes))))

/-! ### Damage, retirement and scrub -/

/-- A model is damaged; the administrator and its partition are told (R227). -/
def damageModel (s : State) (key cause : Nat) : State :=
  match Tbl.get? s.memory.models key with
  | none => s
  | some m =>
    if m.damaged != 0 then s
    else
      let p := key / 16
      let s := setMemory s (fun mm => { mm with models := Tbl.set mm.models key { m with damaged := cause } })
      raiseBoth s p 0x0204 true ((key % 16 + 256 * generation s 1 key) + 65536 * cause)

/-- Words of a memory unit (R201). -/
def unitWords (u : Nat) : Nat := if u < 8 then 4718592 else 4194304

/-- One scrub read: the unit's next word, wrapping at the end of its pass; a completed pass pays an owed one (R201,
R202). -/
def scrubRead (s : State) (u : Nat) (found : WordRead) : State :=
  let s := s.fresh_
  if !s.boot.mainOn || !s.boot.selfTestDone || s.faults.scrubOff then s
  else
    let at_ := Tbl.getD s.memory.scrubAt u 0
    let first := (unitGranules u).getD 0 0
    let done := Tbl.getD s.memory.scrubDone u 0 + 1
    let s := wordRead s (first * 8192 + at_ / 16) (at_ % 16) found
    let s := setMemory s (fun m => { m with
      scrubAt := Tbl.set m.scrubAt u ((at_ + 1) % unitWords u)
      scrubDone := Tbl.set m.scrubDone u (done % unitWords u) })
    if done = unitWords u then guard { s with faults := { s.faults with scrubOwed := s.faults.scrubOwed.erase u } }
    else s

/-- SCRUB_READ (R201). -/
def execScrubRead (unit : Fin 9) (found : WordRead) (s : State) : Host.Outcome State Fault Refusal :=
  .next (scrubRead s unit found)

/-- A granule's lines with their tags and poison move to another (R226). -/
def copyGranule (s : State) (g r : Nat) : State :=
  let moved := (s.memory.bytes.filter (fun e => e.1 / granuleBytes == g)).map
    (fun e => (r * granuleBytes + e.1 % granuleBytes, e.2))
  let tags := (s.memory.tags.filter (fun e => e.1 / 8192 == g)).map (fun e => (r * 8192 + e.1 % 8192, e.2))
  setMemory s (fun m => { m with
    bytes := moved.foldl (fun b e => Mem.write b e.1 e.2)
      (Mem.clear (Mem.clear m.bytes (g * granuleBytes) granuleBytes) (r * granuleBytes) granuleBytes)
    tags := tags.foldl (fun t e => Tbl.set t e.1 e.2)
      (m.tags.filter (fun e => e.1 / 8192 != g && e.1 / 8192 != r)) })

def swapNode (g r : Nat) : Place2 → Place2
  | .node x => .node (if x = g then r else x)
  | .spill n x => .spill n x
  | .partner n x => .partner n x

/-- The replacement takes the retired granule's place wherever it is named. -/
def replaceGranule (s : State) (g r : Nat) : State :=
  setMemory s (fun m => { m with
    regions := Tbl.mapAll m.regions (fun _ x => { x with granules := x.granules.map (fun y => if y = g then r else y) })
    models := Tbl.mapAll m.models (fun _ x => { x with
      layers := x.layers.map (fun l => { l with places := l.places.map (swapNode g r) })
      areaPlaces := x.areaPlaces.map (swapNode g r)
      staging := x.staging.map (fun y => if y = g then r else y) }) })

def usesGranule (m : Model) (g : Nat) : Bool :=
  (m.areaPlaces ++ (m.layers.map (fun l => l.places)).flatten).contains (.node g) || m.staging.contains g

/-- With no replacement the granule leaves its partition, whose quota falls by one, and what held it is damaged. -/
def loseGranule (s : State) (g : Nat) : State :=
  let e := granule s g
  let s := match e.bound with
    | none => s
    | some p => setPart s p (fun q => { q with quotas := { q.quotas with
        granules := q.quotas.granules.set (unitOf g) (q.quotas.granules.getD (unitOf g) 0 - 1) } })
  let s := match e.holder with
    | some (.region p i) =>
      setMemory s (fun m => { m with regions := Tbl.modify m.regions (p * 256 + i) ⟨[], false⟩ (fun r => { r with damaged := true }) })
    | some (.model p i) => damageModel s (p * 16 + i) 0x01
    | none => s
  setGranule s g (fun e => { e with bound := none, holder := none })

/-- The end of a retirement (R226): copied and replaced by a free unreserved granule of the unit, or lost. -/
def retirementEnd (s : State) (g : Nat) : State :=
  let s := s.fresh_
  match (granule s g).retiring with
  | none => s
  | some lost =>
    let e := granule s g
    let p := match e.holder with
      | some (.region p _) => p
      | some (.model p _) => p
      | none => e.bound.getD 0
    let spare := ((unitGranules (unitOf g)).filter (fun r => r != g && granuleUnreserved s r)).head?
    let s := match spare with
      | some r =>
        let s := replaceGranule (copyGranule s g r) g r
        let s := setGranule s r (fun _ => { e with retiring := none })
        setGranule s g (fun _ => Granule.init)
      | none => setGranule (loseGranule s g) g (fun e => { e with retiring := none, clearing := false })
    let s := if 320 ≤ counter s 0x0602 0 then s else bump s 0x0602 0 16
    let s := raiseAdmin s 0x0201 true p (g + 512 * spare.getD 0x1FF + 262144 * p + 8388608 * b2n lost)
    guard (fence s 0x03 g)

/-- A sweep sets each tag of its convoy and generation in its unit to confirmed or cancelled (R204). -/
def applySweep (tags : Tbl Tag) (w : Sweep) : Tbl Tag :=
  if w.cancelled then
    Tbl.mapAll tags (fun l t => if unitOfLine l == w.unit && t.convoy == w.convoy && t.generation == w.generation
      && t.state == 1 then { t with state := 2 } else t)
  else tags.filter (fun e => !(unitOfLine e.1 == w.unit && e.2.convoy == w.convoy && e.2.generation == w.generation
    && e.2.state == 1))

/-- A unit ends its oldest sweep. -/
def sweepEnd (s : State) (u : Nat) : State :=
  let s := s.fresh_
  match s.memory.sweeps.find? (fun w => w.unit == u) with
  | none => s
  | some w => setMemory s (fun m => { m with tags := applySweep m.tags w, sweeps := m.sweeps.erase w })

/-- SWEEP_END (R204). Unit 9 is the spill memory controller. -/
def execSweepEnd (unit : Fin 10) (s : State) : Host.Outcome State Fault Refusal :=
  .next (sweepEnd s unit)

end Sys2Proof.Machine
end

