-- ==== Sys2Proof/Machine/Slots.lean ====
section
/-! DEFINITION. Key slots as other units use them, and MACsec and ESP on frames (R286, R287, R334–R337). -/

namespace Sys2Proof.Machine

open Sys2Proof

/-! ### Key slots (R334) -/

/-- The slot a handle names, live and of its present generation; none for a handle with reserved bits set (log 45). -/
def slotAny (s : State) (handle : Nat) : Option KeySlot :=
  if handle / 65536 == generation s 3 (handle % 4096) && bits handle 15 12 == 0 then Tbl.get? s.keys (handle % 4096)
  else none

/-- The slot a handle names for a partition. -/
def keySlotOf (s : State) (p handle : Nat) : Option KeySlot :=
  match slotAny s handle with
  | some k => if k.owner == p then some k else none
  | none => none

/-- The key of a slot by handle; none once zeroised, emptied or lost. -/
def keyBytes (s : State) (handle : Nat) : Option (List Byte) :=
  ((slotAny s handle).filter (fun k => k.kind != 0)).map (fun k => k.key)

/-- The slot a handle names has failed (R353). -/
def slotLost (s : State) (handle : Nat) : Bool := (slotAny s handle).isSome && s.keysLost.contains (handle % 4096)

/-- Reserved slots of a partition in use. -/
def keysUsed (s : State) (p : Nat) : Nat := Tbl.count s.keys (fun _ k => k.owner == p)

/-- The engine of the next operation: with none queued, the lowest in service (R328). -/
def cipherEngine (s : State) : Option Nat := (List.range 16).find? (fun i => !isFenced s 0x0D i)

/-- Blocks an engine processed. -/
def countBlocks (s : State) (e blocks : Nat) : State :=
  { s with ctr := Tbl.modify s.ctr (counterKey 0x0A00 e) 0 (fun v => (v + blocks) % 2 ^ 64) }

/-! ### Network ports -/

def netAt (s : State) (j : Nat) : NetPort := Tbl.getD s.nets j NetPort.init

def setNet (s : State) (j : Nat) (f : NetPort → NetPort) : State := { s with nets := Tbl.modify s.nets j NetPort.init f }

/-- Bytes of a port's receive buffer (R285). -/
def receiveBuffer : Nat := 2097152

/-- A frame's priority: the PCP of its outermost tag under PFC, else 0. -/
def framePriority (n : NetPort) (f : List Byte) : Nat :=
  if n.flow == 2 && (field f 12 2 == 0x0081 || field f 12 2 == 0xA888) then field f 14 1 / 32 else 0

/-- XOFF at the high mark, XON at the low mark (R285); each frame is counted (R290). -/
def flowControl (s : State) (j priority : Nat) : State :=
  let n := netAt s j
  if n.flow = 0 then s
  else if decide (receiveBuffer * n.high ≤ 100 * n.used) && !n.xoff.contains priority then
    send (setNet (bump s 0x0805 (j * 256 + priority) 32) j (fun n => { n with xoff := n.xoff ++ [priority] }))
      [.flow j priority true]
  else if decide (100 * n.used ≤ receiveBuffer * n.low) then
    let s := n.xoff.foldl (fun s p => send (bump s 0x0805 (j * 256 + p) 32) [.flow j p false]) s
    setNet s j (fun n => { n with xoff := [] })
  else s

/-- Bytes leave the receive buffer. -/
def releaseBuffer (s : State) (j size : Nat) : State := flowControl (setNet s j (fun n => { n with used := n.used - size })) j 0

/-- A frame dropped before or at delivery: counted by cause, with one event each millisecond (R290, R294). Causes 0 buffer,
1 size, 2 FCS, 3 FEC, 4 MACsec, 5 ESP. -/
def dropFrame (s : State) (j cause : Nat) : State :=
  let s := bump s 0x0804 (j * 256 + cause) 32
  let ms := mainTime s / 1000000
  if Tbl.get? (netAt s j).dropTold cause == some ms then s
  else
    raiseAdmin (setNet s j (fun n => { n with dropTold := Tbl.set n.dropTold cause ms })) 0x03C6 false 0
      (j + 256 * cause + 4294967296)

/-! ### MACsec (R286, IEEE 802.1AE) -/

/-- The suite is an XPN suite: 64-bit packet numbers. -/
def isXpn (sa : MacsecSa) : Bool := decide (2 ≤ sa.suite)

/-- The 64-bit packet number an XPN association recovers from the 32 bits on the wire. -/
def recoverPn (sa : MacsecSa) (pn : Nat) : Nat :=
  if !isXpn sa then pn
  else
    let lowest := sa.nextPn - sa.window
    let c := lowest / 4294967296 * 4294967296 + pn
    if c < lowest then c + 4294967296 else c

/-- The GCM IV: SCI ‖ PN, or for XPN the salt XORed with SSCI ‖ PN. -/
def macsecIv (sa : MacsecSa) (sci pn : Nat) : List Byte :=
  if isXpn sa then xorBytes sa.salt (beBytes 4 sa.ssci ++ beBytes 8 pn) else beBytes 8 sci ++ beBytes 4 pn

/-- A frame opened by a secure association: the SecTAG's length, what it covers, and the ICV check. -/
def macsecOpenWith (s : State) (sa : MacsecSa) (f : List Byte) (tagLen sci : Nat) : Option (List Byte × Nat) :=
  match keyBytes s sa.keySlot with
  | none => none
  | some key =>
    let pn := recoverPn sa (beNat (slice f 16 4))
    let encrypted := bit (field f 14 1) 3
    let clear := if encrypted then sa.offset else f.length
    let body := slice f (12 + tagLen) (f.length - 16 - 12 - tagLen)
    let open_ := body.take clear
    let secret := body.drop clear
    let icv := slice f (f.length - 16) 16
    let iv := macsecIv sa sci pn
    if !sa.valid || decide (f.length < 28 + tagLen) || decide (pn + sa.window < sa.nextPn) || pn == 0 then none
    else if gcmTag key iv (slice f 0 (12 + tagLen) ++ open_) secret != icv then none
    else some (slice f 0 12 ++ open_ ++ gcmCrypt key iv secret, pn)

/-- A MACsec frame: its SecTAG, channel and association must be known, its replay check and ICV pass. -/
def macsecOpen (s : State) (j : Nat) (f : List Byte) : Option (List Byte × State) :=
  let tci := field f 14 1
  let hasSci := bit tci 5
  let tagLen := if hasSci then 16 else 8
  let sci := beNat (slice f 20 8)
  let an := tci % 4
  let found := (netAt s j).macRx.find? (fun e => e.1 % 4 == an && e.2.valid && (!hasSci || e.2.sci == sci))
  if bit tci 7 then none
  else match found with
    | none => none
    | some (i, sa) =>
      match macsecOpenWith s sa f tagLen sa.sci with
      | none => none
      | some (plain, pn) =>
        some (plain, setNet s j (fun n => { n with macRx := Tbl.set n.macRx i { sa with nextPn := max sa.nextPn (pn + 1) } }))

/-- A frame of port access control, which MACsec leaves alone. PRESUMED: IEEE 802.1X. Log 5. -/
def isEapol (f : List Byte) : Bool := field f 12 2 == 0x8E88

/-- A secure association of the port is valid (R352). -/
def macsecAny (n : NetPort) : Bool := n.macTx.any (fun e => e.2.valid) || n.macRx.any (fun e => e.2.valid)

/-- Packet numbers an association has: 32 bits, 64 for XPN. -/
def pnLimit (sa : MacsecSa) : Nat := if isXpn sa then 2 ^ 64 else 2 ^ 32

/-- The transmit association in use: of those valid and not exhausted, the one of lowest AN. -/
def macsecTxSa (n : NetPort) : Option (Nat × MacsecSa) :=
  n.macTx.find? (fun e => e.2.valid && decide (e.2.nextPn < pnLimit e.2))

/-- A frame made ready for sending: protected while the port's transmit channel is active, and not sent at all where it cannot
be protected (R286, R352). -/
def macsecSeal (s : State) (j : Nat) (f : List Byte) : Option (List Byte × State) :=
  if isEapol f || !(netAt s j).macTx.any (fun e => e.2.valid) then some (f, s)
  else match macsecTxSa (netAt s j) with
  | none => none
  | some (an, sa) =>
    match keyBytes s sa.keySlot with
    | none => none
    | some key =>
      let body := f.drop 12
      let sl := if f.length - 12 < 48 then f.length - 12 else 0
      let tag := beBytes 2 0x88E5 ++ leBytes 1 (0x2C + an) ++ leBytes 1 sl ++ beBytes 4 sa.nextPn ++ beBytes 8 sa.sci
      let iv := macsecIv sa sa.sci sa.nextPn
      let open_ := body.take sa.offset
      let secret := gcmCrypt key iv (body.drop sa.offset)
      let bytes := slice f 0 12 ++ tag ++ open_ ++ secret
      let icv := gcmTag key iv (slice f 0 12 ++ tag ++ open_) secret
      some (bytes ++ icv, setNet s j (fun n => { n with macTx := Tbl.set n.macTx an { sa with nextPn := sa.nextPn + 1 } }))

/-- Nanoseconds of a pause of `quanta` × 512 bit times at the port's speed. -/
def pauseNs (n : NetPort) (quanta : Nat) : Nat := ceilDiv (quanta * 512) (200 * 2 ^ (n.speed - 1))

/-- A priority of the port may send: no PAUSE or PFC frame of the peer holds it (R284). -/
def maySend (s : State) (j priority : Nat) : Bool :=
  match Tbl.get? (netAt s j).paused priority with
  | none => true
  | some t => decide (t ≤ s.now)

/-- A frame goes out, and the transmit command it belongs to ends with the time; 1,024 stands for no command. -/
def transmit_ (s : State) (j o : Nat) (f : List Byte) : State :=
  match macsecSeal s j f with
  | none => if 1023 < o then s else endSlot s (o / 32) (o % 32) { status := .lasting }
  | some (bytes, s) =>
    let s := send s [.frame j bytes]
    if 1023 < o then s else endSlot s (o / 32) (o % 32) { status := .ok, result := leBytes 8 (mainTime s) }

/-- A network link goes down: frames held at the gate are discarded and their commands end with ABSENT (R292). -/
def networkDown (s : State) (j : Nat) : State :=
  let n := netAt s j
  if !n.linkUp then s
  else
    let s := setNet s j (fun n => { n with linkUp := false, heldTx := [], paused := [] })
    let s := n.heldTx.foldl (fun s h => endSlot s (h.1 / 32) (h.1 % 32) { status := .absent }) s
    raiseAdmin s 0x03C5 true 0 j

/-- A MACsec datapath with a lasting fault is fenced, and takes its link down where an association is valid (R352). -/
def fenceMacsec (s : State) (j : Nat) : State :=
  if isFenced s 0x08 j then s
  else
    let s := raiseAdmin (lastingFault s 0x08 j) 0x0502 true 0 (16 + j)
    if macsecAny (netAt s j) then networkDown s j else s

/-- A mismatch of a MACsec datapath's copies (R352). -/
def macsecMismatch (s : State) (j : Nat) (again : Bool) : State :=
  let s := raiseAdmin s 0x0501 true 0 (16 + j + 256 * b2n (!again))
  if again then fenceMacsec s j else transient s 0x08 j

/-- Held frames whose priority may send go out in order. -/
def flushTx (s : State) (j : Nat) : State :=
  let n := netAt s j
  let due := n.heldTx.filter (fun h => maySend s j (framePriority n h.2))
  let s := setNet s j (fun x => { x with heldTx := n.heldTx.filter (fun h => !maySend s j (framePriority n h.2)) })
  due.foldl (fun s h => transmit_ s j h.1 h.2) s

/-- A frame at the network gate: it goes out, or waits while its priority is held. -/
def gateFrame (s : State) (j o : Nat) (f : List Byte) : State :=
  let n := netAt s j
  let p := framePriority n f
  if maySend s j p && !n.heldTx.any (fun h => framePriority n h.2 == p) then transmit_ s j o f
  else setNet s j (fun n => { n with heldTx := n.heldTx ++ [(o, f)] })

/-- One priority is held until a moment, or released; each such frame is counted (R284, R290). -/
def pausePriority (s : State) (j priority quanta : Nat) : State :=
  let s := bump s 0x0805 (j * 256 + priority) 32
  let held := fun (n : NetPort) =>
    if quanta = 0 then Tbl.erase n.paused priority else Tbl.set n.paused priority (s.now + pauseNs n quanta)
  flushTx (setNet s j (fun n => { n with paused := held n })) j

/-! ### ESP (R287, RFC 4303, RFC 4106) -/

/-- The high half of an extended sequence number (RFC 4303, appendix A). -/
def espHigh (sa : EspSa) (low : Nat) : Nat :=
  if !sa.esn then 0
  else
    let tl := sa.sequence % 4294967296
    let th := sa.sequence / 4294967296
    if sa.window - 1 ≤ tl then (if tl + 1 - sa.window ≤ low then th else th + 1)
    else if 4294967296 + tl + 1 - sa.window ≤ low then th - 1 else th

/-- The bytes ESP authenticates beside the ciphertext. -/
def espAad (sa : EspSa) (spi sequence : Nat) : List Byte :=
  if sa.esn then beBytes 4 spi ++ beBytes 8 sequence else beBytes 4 spi ++ beBytes 4 sequence

/-- The one's complement checksum of an IPv4 header whose checksum field is zero. -/
def ip4Checksum (h : List Byte) : Nat :=
  let sum := ((List.range (h.length / 2)).map (fun i => beNat (slice h (2 * i) 2))).sum
  65535 - (if sum != 0 && sum % 65535 == 0 then 65535 else sum % 65535)

/-- An IP header whose payload became `len` bytes of protocol `next`. -/
def refitIp (h : List Byte) (len next : Nat) : List Byte :=
  if field h 0 1 / 16 = 4 then
    let h' := slice h 0 2 ++ beBytes 2 (h.length + len) ++ slice h 4 5 ++ beBytes 1 next ++ [0, 0] ++ h.drop 12
    splice h' 10 (beBytes 2 (ip4Checksum h'))
  else slice h 0 4 ++ beBytes 2 (h.length - 40 + len) ++ beBytes 1 next ++ h.drop 7

/-- An inbound packet opened: the frame with the packet in clear, and the association after it. `ip` is where the IP header
before ESP starts and `at_` where ESP starts. -/
def espOpen (s : State) (sa : EspSa) (f : List Byte) (ip at_ : Nat) : Option (List Byte × EspSa) :=
  match keyBytes s sa.keySlot with
  | none => none
  | some key =>
    let spi := beNat (slice f at_ 4)
    let low := beNat (slice f (at_ + 4) 4)
    let seq := espHigh sa low * 4294967296 + low
    let secret := slice f (at_ + 16) (f.length - at_ - 32)
    let nonce := beBytes 4 sa.salt ++ slice f (at_ + 8) 8
    let icv := slice f (f.length - 16) 16
    if !sa.valid || spi != sa.spi || decide (f.length < at_ + 34) || decide (seq + sa.window ≤ sa.sequence)
        || sa.seen.contains seq || seq == 0 then none
    else if gcmTag key nonce (espAad sa spi seq) secret != icv then none
    else
      let plain := gcmCrypt key nonce secret
      let next := field plain (plain.length - 1) 1
      let data := plain.take (plain.length - 2 - field plain (plain.length - 2) 1)
      let high := max sa.sequence seq
      let sa' := { sa with sequence := high, seen := (sa.seen ++ [seq]).filter (fun x => decide (high < x + sa.window)) }
      if sa.tunnel then
        some (slice f 0 (ip - 2) ++ beBytes 2 (if next = 4 then 0x0800 else 0x86DD) ++ data, sa')
      else some (slice f 0 ip ++ refitIp (slice f ip (at_ - ip - (if sa.udp then 8 else 0))) data.length next ++ data, sa')

/-- Where the IP header of a plain Ethernet frame with at most two tags starts. -/
def ipStart (f : List Byte) : Nat :=
  let isTag := fun o => field f o 2 == 0x0081 || field f o 2 == 0xA888
  if isTag 12 then (if isTag 16 then 22 else 18) else 14

/-- An outbound packet sealed (R287): the IP payload, or in tunnel mode the IP packet, encrypted under the next sequence
number, which is also the IV (RFC 4106 asks only that it never repeat). The outer header of tunnel mode is the inner one's
copy with protocol 50. -/
def espSeal (s : State) (sa : EspSa) (f : List Byte) : Option (List Byte × EspSa) :=
  match keyBytes s sa.keySlot with
  | none => none
  | some key =>
    let ip := ipStart f
    let v4 := field f ip 1 / 16 == 4
    let hlen := if v4 then 4 * (field f ip 1 % 16) else 40
    let data := if sa.tunnel then f.drop ip else f.drop (ip + hlen)
    let next := if sa.tunnel then (if v4 then 4 else 41) else if v4 then field f (ip + 9) 1 else field f (ip + 6) 1
    let pad := (4 - (data.length + 2) % 4) % 4
    let plain := data ++ (List.range pad).map (fun i => BitVec.ofNat 8 (i + 1)) ++ beBytes 1 pad ++ beBytes 1 next
    let iv := beBytes 8 sa.sequence
    let nonce := beBytes 4 sa.salt ++ iv
    let secret := gcmCrypt key nonce plain
    let esp := beBytes 4 sa.spi ++ beBytes 4 sa.sequence ++ iv ++ secret ++ gcmTag key nonce (espAad sa sa.spi sa.sequence) secret
    let outer := if sa.udp then beBytes 2 4500 ++ beBytes 2 4500 ++ beBytes 2 (8 + esp.length) ++ [0, 0] ++ esp else esp
    let h := refitIp (slice f ip hlen) outer.length (if sa.udp then 17 else 50)
    some (slice f 0 ip ++ h ++ outer, { sa with sequence := sa.sequence + 1 })

end Sys2Proof.Machine
end

