-- ==== Sys2Proof/Machine/Keys.lean ====
section
/-! DEFINITION. Key slots, cipher operations, and the administrator and receipt keys (R326–R341, R352–R354). -/

namespace Sys2Proof.Machine

open Sys2Proof

/-! ### Types and usage (R334, R335) -/

/-- Key lengths a type admits. -/
def keyLengths (kind : Nat) : List Nat :=
  if kind = 1 then [16] else if kind = 2 then [24] else if kind = 3 then [32] else if kind = 4 then [32]
  else if kind = 5 then [64] else if kind = 6 then [16, 24, 32, 40, 48, 56, 64] else []

/-- Types a usage bit is listed against. -/
def usageTypes (b : Nat) : List Nat :=
  if b ≤ 1 then [1, 2, 3, 4, 5] else if b ≤ 3 then [1, 2, 3] else if b = 4 then [4, 5] else if b ≤ 6 then [1, 3]
  else if b = 7 then [6] else if b = 8 then [1, 2, 3, 4, 5, 6] else []

/-- A usage mask a request may ask for with a type; bit [9] is read only. -/
def usageOk (kind usage : Nat) : Bool :=
  (List.range 16).all (fun b => !bit usage b || (usageTypes b).contains kind)

/-- Key 1 equals key 2 in an XTS key (R336). -/
def xtsEqual (kind : Nat) (key : List Byte) : Bool :=
  (kind == 4 || kind == 5) && key.take (key.length / 2) == key.drop (key.length / 2)

/-- The key check value (R335). -/
def kcv (kind : Nat) (key : List Byte) : List Byte :=
  if kind = 0 then List.replicate 8 0
  else if kind = 6 then (hmacSha256 key []).take 8
  else (cmac (if kind = 4 ∨ kind = 5 then key.take (key.length / 2) else key) []).take 8

/-- A slot is bound to a storage extent, an ESP association or a MACsec association (R337). -/
def slotBound (s : State) (handle : Nat) : Bool :=
  s.extents.any (fun e => e.2.keySlot == handle)
    || s.nets.any (fun e => (e.2.espIn ++ e.2.espOut).any (fun a => a.2.valid && a.2.keySlot == handle)
        || (e.2.macTx ++ e.2.macRx).any (fun a => a.2.valid && a.2.keySlot == handle))

/-- A key enters the slot of an index, whose generation rises (R334). -/
def installKey (s : State) (index owner kind usage : Nat) (key : List Byte) : State :=
  let s := nextGeneration s 3 index
  { s with keys := Tbl.set s.keys index ⟨owner, kind, usage, key⟩ }

def slotHandle (s : State) (index : Nat) : Nat := index + 65536 * generation s 3 index

def slotResult (s : State) (index kind : Nat) (key : List Byte) : List Byte := leBytes 4 (slotHandle s index) ++ kcv kind key

/-- The lowest index that holds no slot and has not failed (R353). -/
def freeSlotIndex (s : State) : Option Nat :=
  firstIndex 4096 (fun i => (Tbl.get? s.keys i).isNone && !s.keysLost.contains i)

def keyQuota (s : State) (p : Nat) : Bool :=
  !quotaRoom s p 4096 (keysUsed s p) (fun q => q.keys) || (freeSlotIndex s).isNone

/-- Type, usage and wrapped length of a request that presents a wrapped key (R334, R336). -/
def wrappedFields (c : Ctx) (kind usage wl off : Nat) : Bool :=
  !usageOk kind usage || !((keyLengths kind).any (fun n => n + 8 == wl)) || c.len != off + wl

/-- The key a wrapped field holds under the AKEK. -/
def unwrapKey (s : State) (wrapped : List Byte) : Option (List Byte) :=
  match s.vault.akek with
  | none => none
  | some k => kwUnwrap k wrapped

/-- A wrapped key that fails its integrity check is counted; an XTS key with equal halves is BAD_PARAMETER (R336). -/
def withUnwrapped (s : State) (c : Ctx) (kind : Nat) (wrapped : List Byte) (f : State → List Byte → State) : State :=
  match unwrapKey s wrapped with
  | none => finish (bump s 0x0A03 0 16) c { status := .integrity }
  | some key => if xtsEqual kind key then finish s c { status := .badParameter } else f s key

/-! ### Installing, generating, replacing, destroying (R336, R337) -/

def keyInstallChecks (s : State) (c : Ctx) : Checks :=
  { badCommand := s.vault.akek.isNone
    badParameter := decide (31 < c.u 0 1) || (part s (c.u 0 1)).state == .free || c.dirty 5 3
      || wrappedFields c (c.u 1 1) (c.u 2 2) (c.u 4 1) 8
    quota := keyQuota s (c.u 0 1)
    busy := s.vault.tripped }

def installEffect (s : State) (c : Ctx) (p kind usage : Nat) (key : List Byte) : State :=
  match freeSlotIndex s with
  | none => finish s c { status := .quota }
  | some i =>
    let s := installKey s i p kind usage key
    finish s c { status := .ok, result := slotResult s i kind key }

/-- KEY_INSTALL (R336). -/
def execKeyInstall (o : Origin) (s : State) : Host.Outcome State Fault Refusal :=
  .next (runOp 0x0501 o s (fixed .control) keyInstallChecks (fun s c =>
    withUnwrapped s c (c.u 1 1) (slice c.body 8 (c.u 4 1)) (fun s key => installEffect s c (c.u 0 1) (c.u 1 1) (c.u 2 2) key)))

/-- A key of a type drawn inside the N48 (R336): its halves differ, as an XTS key's must. -/
def drawKey (s : State) (kind : Nat) : List Byte × State := drawBytes s ((keyLengths kind).headD 0)

/-- Types a key can be generated for: no field gives an HMAC length. -/
def generateFields (kind usage : Nat) : Bool := kind == 0 || decide (5 < kind) || !usageOk kind usage

/-- The checks of opcode 0x0502 beyond the common ones (R18). -/
def keyGenerateChecks : State → Ctx → Checks :=
                                           (fun s c =>
    { badParameter := c.dirty 1 1 || generateFields (c.u 0 1) (c.u 2 2), quota := keyQuota s c.p })

/-- KEY_GENERATE (R336). -/
def execKeyGenerate (o : Origin) (s : State) : Host.Outcome State Fault Refusal :=
  .next (runOp 0x0502 o s (fixed .control) keyGenerateChecks
    (fun s c =>
      let (key, s) := drawKey s (c.u 0 1)
      installEffect s c c.p (c.u 0 1) (c.u 2 2 + 512) key))

/-- A protected slot asks for its key check value; a mismatch is a refusal with reason 0x04 (R337). A handle or a value beyond the
request's length decides none (R18). -/
def protectedRefusal (c : Ctx) (k : Option KeySlot) : Option Nat :=
  match c.has 0 4, k with
  | false, _ => none
  | true, none => some 0x02
  | true, some k => if bit k.usage 8 && c.has 4 8 && slice c.body 4 8 != kcv k.kind k.key then some 0x04 else none

/-- Commands under way that use key slots: cipher operations and storage reads and writes. -/
def keyUsers (s : State) : List (Nat × Nat) :=
  (s.parts.map (fun e => (e.2.slots.filter (fun x => x.2.phase == .running
    && ([0x0510, 0x0403, 0x0404] : List Nat).contains (reqOpcode x.2.request))).map (fun x => (e.1, x.1)))).flatten

/-- An operation in flight uses a slot: a cipher operation, or the initialisation of an HMAC context (R337, R345). -/
def slotInUse (s : State) (handle : Nat) : Bool :=
  (keyUsers s).any (fun u => reqOpcode (slotAt s u.1 u.2).request == 0x0510 && field (reqBody (slotAt s u.1 u.2).request) 0 4 == handle)
    || s.parts.any (fun e => e.2.digests.any (fun d => d.2.busy && d.2.pendingWork == 2 && d.2.keySlot == handle))

def replaceBusy (s : State) (handle : Nat) : Bool := slotBound s handle || slotInUse s handle

/-- The slot takes a new key, under a new generation. -/
def replaceEffect (s : State) (c : Ctx) (owner kind usage : Nat) (key : List Byte) : State :=
  let i := c.u 0 4 % 4096
  let s := installKey s i owner kind usage key
  finish s c { status := .ok, result := slotResult s i kind key }

def keyReplaceChecks (s : State) (c : Ctx) : Checks :=
  let emptying := c.u 12 1 == 0
  { refused := protectedRefusal c (slotAny s (c.u 0 4))
    badCommand := !emptying && s.vault.akek.isNone
    badParameter := if emptying then c.dirty 13 1 || c.dirty 14 2 || c.len != 16
      else wrappedFields c (c.u 12 1) (c.u 14 2) (c.u 13 1) 16
    busy := replaceBusy s (c.u 0 4) || (!emptying && s.vault.tripped)
    execution := if slotLost s (c.u 0 4) then some .lasting else none }

def keyReplaceEffect (s : State) (c : Ctx) : State :=
  match slotAny s (c.u 0 4) with
  | none => s
  | some k =>
    if c.u 12 1 = 0 then
      let i := c.u 0 4 % 4096
      finish { s with keys := Tbl.set s.keys i ⟨k.owner, 0, 0, []⟩ } c { status := .ok, result := slotResult s i 0 [] }
    else withUnwrapped s c (c.u 12 1) (slice c.body 16 (c.u 13 1)) (fun s key =>
      replaceEffect s c k.owner (c.u 12 1) (c.u 14 2) key)

/-- KEY_REPLACE (R337): the administrator names any partition's slot. -/
def execKeyReplace (o : Origin) (s : State) : Host.Outcome State Fault Refusal :=
  .next (runOp 0x0503 o s (fixed .control) keyReplaceChecks keyReplaceEffect)

def ownSlotChecks (s : State) (c : Ctx) : Checks :=
  { refused := protectedRefusal c (keySlotOf s c.p (c.u 0 4))
    busy := replaceBusy s (c.u 0 4) }

/-- KEY_DESTROY (R337). -/
def execKeyDestroy (o : Origin) (s : State) : Host.Outcome State Fault Refusal :=
  .next (runOp 0x0504 o s (fixed .immediate) ownSlotChecks (fun s c =>
    finish { s with keys := Tbl.erase s.keys (c.u 0 4 % 4096) } c { status := .ok }))

/-- The checks of opcode 0x0505 beyond the common ones (R18). -/
def keyQueryChecks : State → Ctx → Checks :=
                                             (fun s c =>
    { refused := if c.has 0 4 && (keySlotOf s c.p (c.u 0 4)).isNone then some 0x02 else none })

/-- KEY_QUERY (R335). -/
def execKeyQuery (o : Origin) (s : State) : Host.Outcome State Fault Refusal :=
  .next (runOp 0x0505 o s (fixed .immediate) keyQueryChecks
    (fun s c => match keySlotOf s c.p (c.u 0 4) with
      | none => s
      | some k => finish s c { status := .ok, result := leBytes 1 k.kind ++ [0] ++ leBytes 2 k.usage ++ kcv k.kind k.key }))

def ownReplaceChecks (s : State) (c : Ctx) : Checks :=
  let drawn := c.u 13 1 == 0
  (ownSlotChecks s c).both
    { badCommand := !drawn && s.vault.akek.isNone
      badParameter := if drawn then generateFields (c.u 12 1) (c.u 14 2) || c.len != 16
        else wrappedFields c (c.u 12 1) (c.u 14 2) (c.u 13 1) 16
      busy := !drawn && s.vault.tripped
      execution := if slotLost s (c.u 0 4) then some .lasting else none }

/-- OWN_SLOT_KEY_REPLACE (R337). -/
def execOwnSlotKeyReplace (o : Origin) (s : State) : Host.Outcome State Fault Refusal :=
  .next (runOp 0x0506 o s (fixed .control) ownReplaceChecks (fun s c =>
    if c.u 13 1 = 0 then
      let (key, s) := drawKey s (c.u 12 1)
      replaceEffect s c c.p (c.u 12 1) (c.u 14 2 + 512) key
    else withUnwrapped s c (c.u 12 1) (slice c.body 16 (c.u 13 1)) (fun s key =>
      replaceEffect s c c.p (c.u 12 1) (c.u 14 2) key)))

/-! ### Cipher operations (R328, R330, R331) -/

/-- A descriptor of zeros names no bytes: a mode whose input may be empty takes it as the empty string. -/
def descEmpty (c : Ctx) (off : Nat) : Bool := allZero (slice c.body off 16)

/-- Bytes of a descriptor, none for an empty one. -/
def descLen (c : Ctx) (off : Nat) : Nat := if descEmpty c off then 0 else (c.desc off).len

def bufferChecks (s : State) (c : Ctx) (off : Nat) : Checks := if descEmpty c off then {} else descChecks s c off

/-- Whether a mode uses AAD, writes an output, makes or takes a tag. -/
def usesAad (mode : Nat) : Bool := mode == 1 || mode == 2
def hasOutput (mode : Nat) : Bool := decide (mode ≤ 7)

/-- The usage bit and the types a mode needs (R334). -/
def modeUsage (mode : Nat) : Nat :=
  if mode = 1 ∨ mode = 3 ∨ mode = 4 ∨ mode = 6 then 0 else if mode = 8 then 2 else if mode = 9 then 3 else 1

def modeTypes (mode : Nat) : List Nat := if mode = 4 ∨ mode = 5 then [4, 5] else [1, 2, 3]

/-- Bytes a mode writes for an input of `n`, at most. -/
def modeOutput (mode n : Nat) : Nat := if hasOutput mode then (if mode = 6 then 16 * (n / 16 + 1) else n) else 0

/-- Lengths, tag length and counter width a mode admits (R330). -/
def modeOk (c : Ctx) : Bool :=
  let mode := c.u 4 1
  let n := descLen c 0x28
  let tag := c.u 5 1
  let w := c.u 6 1
  if mode = 1 ∨ mode = 2 then decide (12 ≤ tag) && decide (tag ≤ 16) && decide (descLen c 0x18 ≤ 65536)
  else if mode = 3 then
    (w == 32 || w == 128) && decide (1 ≤ n) && decide (beNat (slice c.body 8 16) % 2 ^ w + ceilDiv n 16 ≤ 2 ^ w)
  else if mode = 4 ∨ mode = 5 then decide (16 ≤ n) && decide (n ≤ 16777216)
  else if mode = 6 then true
  else if mode = 7 then decide (16 ≤ n) && n % 16 == 0
  else if mode = 8 ∨ mode = 9 then decide (8 ≤ tag) && decide (tag ≤ 16)
  else false

def cipherChecks (s : State) (c : Ctx) : Checks :=
  let mode := c.u 4 1
  let k := keySlotOf s c.p (c.u 0 4)
  let own : Checks :=
    { refused := if c.has 0 4 && k.isNone then some 0x02 else none
      badParameter := c.dirty 7 1 || !modeOk c || (hasOutput mode && decide (descLen c 0x38 < modeOutput mode (descLen c 0x28)) && mode != 7)
        || (match k with
          | none => false
          | some k => !slotLost s (c.u 0 4) && (!(modeTypes mode).contains k.kind || !bit k.usage (modeUsage mode)))
      execution := if slotLost s (c.u 0 4) then some .lasting else none }
  ((own.both (bufferChecks s c 0x28)).both (if usesAad mode then bufferChecks s c 0x18 else {})).both
    (if hasOutput mode then bufferChecks s c 0x38 else {})

/-- What an operation gives: output and tag, or nothing when its tag or padding fails. -/
def cipherRun (c : Ctx) (key aad input : List Byte) : Option (List Byte × List Byte) :=
  let mode := c.u 4 1
  let iv := slice c.body 8 16
  let iv12 := iv.take 12
  let tagLen := c.u 5 1
  let given := (slice c.body 0x48 16).take tagLen
  if mode = 1 then
    let out := gcmCrypt key iv12 input
    some (out, (gcmTag key iv12 aad out).take tagLen)
  else if mode = 2 then
    if (gcmTag key iv12 aad input).take tagLen == given then some (gcmCrypt key iv12 input, []) else none
  else if mode = 3 then some (ctr key (c.u 6 1) iv input, [])
  else if mode = 4 then some (xts key true iv input, [])
  else if mode = 5 then some (xts key false iv input, [])
  else if mode = 6 then some (cbcEncrypt key iv input, [])
  else if mode = 7 then (cbcDecrypt key iv input).map (fun m => (m, []))
  else if mode = 8 then some ([], (cmac key input).take tagLen)
  else if (cmac key input).take tagLen == given then some ([], []) else none

/-- Extra blocks of an operation (R329). -/
def extraBlocks (mode : Nat) : Nat := if mode = 1 ∨ mode = 2 ∨ mode = 4 ∨ mode = 5 then 1 else 0

/-- A slot that fails SEC-DED twice is lost (R353): empty and failed, it stays its owner's until it is destroyed. -/
def loseKeySlot (s : State) (index : Nat) : State :=
  match Tbl.get? s.keys index with
  | none => s
  | some k =>
    raiseBoth { s with keys := Tbl.set s.keys index ⟨k.owner, 0, 0, []⟩, keysLost := s.keysLost ++ [index] } k.owner 0x0503 true index

/-- A mismatch of an engine's copies (R352). -/
def engineMismatch (s : State) (e : Nat) (again : Bool) : State :=
  let s := raiseAdmin (bump s 0x0A01 e 16) 0x0501 true 0 (e + 256 * b2n (!again))
  if again then raiseAdmin (lastingFault s 0x0D e) 0x0502 true 0 e else transient s 0x0D e

def cipherEffect (aadHost inputHost : List Byte) (fault : UnitFault) (s : State) (c : Ctx) : State :=
  let mode := c.u 4 1
  let src := c.desc 0x28
  let aadDesc := c.desc 0x18
  let out := c.desc 0x38
  let meets := if descEmpty c 0x28 then none else descReadMeets s c.p src
  let meetsAad := if usesAad mode && !descEmpty c 0x18 then descReadMeets s c.p aadDesc else none
  let meetsOut := if hasOutput mode && !descEmpty c 0x38 then descWriteMeets s c.p out else none
  match cipherEngine s, keySlotOf s c.p (c.u 0 4), fault with
  | none, _, _ => finish s c { status := .lasting }
  | _, none, _ => s
  | _, _, .slot true => finish (loseKeySlot s (c.u 0 4 % 4096)) c { status := .lasting }
  | some e, _, .mismatch true => finish (engineMismatch s e true) c { status := .lasting }
  | some e, some k, fault =>
    match meets.or meetsAad with
    | some none => s
    | some (some st) => finish s c { status := st }
    | none =>
      match meetsOut with
      | some none => s
      | some (some st) => finish s c { status := st }
      | none =>
        let s := match fault with
          | .mismatch _ => engineMismatch s e false
          | .slot _ => transient s 0x0D e
          | .none => s
        let input := if descEmpty c 0x28 then [] else readDesc s c.p src inputHost
        let aad := if usesAad mode && !descEmpty c 0x18 then readDesc s c.p aadDesc aadHost else []
        let blocks := ceilDiv input.length 16 + extraBlocks mode
        let s := countBlocks s e blocks
        let s := match fault with
          | .none => s
          | .slot _ => setSlot s c.p c.k (fun sl => { sl with lower := true })
          | .mismatch _ => setSlot s c.p c.k (fun sl => { sl with retried := true })
        let reads := if usesAad mode then [aad, input] else [input]
        match cipherRun c k.key aad input with
        | none => finish (bump s 0x0A02 (c.p * 256 + mode) 32) c { status := .integrity, reads := reads }
        | some (bytes, tag) =>
          let s := if bytes.isEmpty then s else writeDesc s c.p out bytes
          let shown := if mode = 1 ∨ mode = 8 then slice tag 0 16 else []
          let written := if hasOutput mode then [bytes] else []
          finish s c { status := .ok, result := shown, reads := reads, writes := written }

/-- The recovery budget of opcode 0x0510 (R112, R480). -/
def cipherOperationBudget : State → Ctx → Nat :=
                          (fun s c => dataBudgetNs s c.p (descLen c 0x28))

/-- CIPHER_OPERATION (R330, R331, R352, R353). -/
def execCipherOperation (o : Origin) (aad : List Byte) (input : Fetched) (fault : UnitFault) (s : State) :
    Host.Outcome State Fault Refusal :=
  .next (runOp 0x0510 o s cipherOperationBudget cipherChecks
    (inConvoy (onWord (fun s c w => descHolds s c.p (c.desc 0x28) w || descHolds s c.p (c.desc 0x18) w || descMerges s c.p (c.desc 0x38) w)
      input.word (cipherEffect aad input.bytes fault))))

/-! ### Administrator and receipt keys (R339–R341) -/

/-- A transport pair exists: the island generates one whenever the store holds none and is not Tripped. -/
def withTransport (s : State) : State :=
  if s.vault.transport.isSome || s.vault.tripped then s
  else { s with vault := { s.vault with transport := some s.fresh }, fresh := s.fresh + 1 }

/-- Q_d. -/
def transportKey (s : State) : List Byte := slice (transportPublic (s.vault.transport.getD 0)) 0 97

/-- A signature under the SPDM leaf key, its nonce drawn afresh. -/
def leafSignature (s : State) (msg : List Byte) : List Byte × State :=
  (slice (leafSign msg s.fresh) 0 96, { s with fresh := s.fresh + 1 })

/-- The checks of opcode 0x0520 beyond the common ones (R18). -/
def transportKeyGetChecks : State → Ctx → Checks :=
                                              (fun s c => (hostDescChecks s c 0 193).both { busy := s.vault.tripped })

/-- TRANSPORT_KEY_GET (R340). -/
def execTransportKeyGet (o : Origin) (s : State) : Host.Outcome State Fault Refusal :=
  .next (runOp 0x0520 o s (fixed .management) transportKeyGetChecks
    (fun s c =>
      let s := withTransport s
      let q := transportKey s
      let (sig, s) := leafSignature s q
      finish (writeDesc s c.p (c.desc 0) (q ++ sig)) c { status := .ok, result := leBytes 2 193, writes := [q ++ sig] }))

/-- What is checked before the point is read (R18). -/
def akekStartChecks (s : State) (c : Ctx) : Checks :=
  (descChecks s c 0).both
    { refused := match s.vault.akek with
        | none => none
        | some k => if c.has 0x10 8 && slice c.body 0x10 8 != kcv 3 k then some 0x04 else none
      badParameter := (c.desc 0).len != 97
      busy := s.vault.tripped }

def akekChecks (host : List Byte) (s : State) (c : Ctx) : Checks :=
  (akekStartChecks s c).both { badParameter := (pointOf (readDesc s c.p (c.desc 0) host)).isNone }

def akekEffect (host : List Byte) (s : State) (c : Ctx) : State :=
  let s := withTransport s
  let q := readDesc s c.p (c.desc 0) host
  let z := ecdhSecret (s.vault.transport.getD 0) q
  let key := (sha384 (z ++ [0x41, 0x4B, 0x45, 0x4B, 0x31] ++ q ++ transportKey s)).take 32
  let replaced := s.vault.akek.isSome
  let s := { s with vault := { s.vault with akek := some key } }
  finish (raiseAdmin s 0x0505 false 0 (b2n replaced)) c { status := .ok, result := kcv 3 key, reads := [q] }

/-- AKEK_ESTABLISH (R340). -/
def execAkekEstablish (o : Origin) (qe : List Byte) (s : State) : Host.Outcome State Fault Refusal :=
  .next (runOp 0x0521 o s (fixed .management) (akekChecks qe) (akekEffect qe))

/-- The epoch above a last one, counting from 255 on to 1 (R88). -/
def nextEpoch (last : Nat) : Nat := last % 255 + 1

/-- A receipt key takes effect for a partition, with the next epoch (R88, R341). -/
def installReceiptKey (s : State) (p : Nat) (key : List Byte) : State :=
  if p = 0 then
    let e := nextEpoch s.vault.lastAdminEpoch
    { s with vault := { s.vault with adminKey := some key, adminEpoch := e, lastAdminEpoch := e } }
  else
    let e := nextEpoch (part s p).lastEpoch
    setPart s p (fun q => { q with receiptKey := some key, epoch := e, lastEpoch := e })

def receiptKeyChecks (s : State) (c : Ctx) : Checks :=
  { badCommand := s.vault.akek.isNone
    badParameter := decide (31 < c.u 0 1) || c.dirty 1 3 || (part s (c.u 0 1)).state == .free
    busy := c.u 0 1 == 0 && s.vault.tripped }

/-- The changing command's own receipt uses the old key (R341). -/
def receiptKeyEffect (s : State) (c : Ctx) : State :=
  let p := c.u 0 1
  match unwrapKey s (slice c.body 4 40) with
  | none => finish (bump s 0x0A03 0 16) c { status := .integrity }
  | some key =>
    let epoch := nextEpoch (if p = 0 then s.vault.lastAdminEpoch else (part s p).lastEpoch)
    let s := finish s c { status := .ok, result := leBytes 1 epoch }
    raiseBoth (installReceiptKey s p key) p 0x0506 false (p + 256 * epoch)

/-- RECEIPT_KEY_CHANGE (R341). -/
def execReceiptKeyChange (o : Origin) (s : State) : Host.Outcome State Fault Refusal :=
  .next (runOp 0x0522 o s (fixed .control) receiptKeyChecks receiptKeyEffect)

/-- The cipher block zeroises every key slot, tenant receipt key, context-wrap key and digest context; commands under way that
use slots end with CANCELLED (R354). -/
def cipherZeroise (s : State) : State :=
  let n := s.keys.length
  let users := keyUsers s
  let s := users.foldl (fun s u => endSlot s u.1 u.2 { status := .cancelled }) s
  let s := { s with
    keys := []
    driveCmds := s.driveCmds.filter (fun e => !users.contains (e.1 / 32, e.1 % 32))
    parts := Tbl.mapAll s.parts (fun _ q => { q with receiptKey := none, epoch := 0, wrapKey := [], digests := [] }) }
  raiseAdmin s 0x0504 false 0 (n % 65536)

end Sys2Proof.Machine
end

