-- ==== Sys2Proof/Machine/Vault.lean ====
section
/-! DEFINITION. The vault's supplies, its time, alarms and time-stamp channels, and the main timebase (R357–R366, R382, R387–R390). -/

namespace Sys2Proof.Machine

open Sys2Proof

/-! ### Validity and captures -/

/-- Event 0x0609 for a change of valid, untrusted or disciplined (R389). -/
def tellValidity (before s : State) : State :=
  let f := fun (s : State) => b2n (timeValid s) + 2 * b2n s.vault.untrusted + 4 * b2n s.timebase.disciplined
  if f before = f s then s else raiseVault s 0x0609 false (f s)

/-- A capture of the present tick, with a direction bit (R365). -/
def captureValue (s : State) (dir : Bool) : Nat :=
  s.vault.seconds % 281474976710656 + 281474976710656 * rtcTicks s + 9223372036854775808 * b2n dir

/-- A channel captures: the first holds until the channel is cleared, the count saturates (R365). -/
def capture (s : State) (ch : Nat) (dir : Bool) : State :=
  let v := captureValue s dir
  setVault s (fun x => { x with channels := Tbl.modify x.channels ch Channel.init (fun c =>
    ⟨if c.count = 0 then v else c.first, v, satAdd 16 c.count 1⟩) })

/-- The vault has a supply. -/
def vaultOn (s : State) : Bool := s.vault.supply != .off

/-! ### Supplies (R357, R358, R382) -/

/-- A source's arming as non-volatile memory and its fuse give it (R5, R369). -/
def restoredArming (s : State) (i : Nat) : Arming :=
  if bit s.boot.fuses i then .fused else if s.vault.nvArming.getD i 1 % 4 == 2 then .armed else .disarmed

/-- The arming configuration of a source restored from non-volatile memory (R369, R382), or that of a blown fuse (R4). -/
def restoredSource (s : State) (i : Nat) : Source :=
  if bit s.boot.fuses i then Source.init.fuse
  else { Source.init with
    arming := restoredArming s i
    dynamic := bit (s.vault.nvArming.getD i 1) 2
    level := bit (s.vault.nvArming.getD i 1) 3 }

/-- The vault's power-on reset (R358, R374, R382). -/
def vaultReset (s : State) (vaonValid : Bool) : State :=
  let s := s.fresh_
  if vaultOn s then s
  else
    let armed := [0, 1, 2, 3].any (fun i => restoredArming s i == .armed)
    let trip := s.vault.nvTripped || armed
    let s := { s with domains := Tbl.set s.domains 4 ⟨true, true, false, false⟩ }
    let s := setVault s (fun v => { v with
      supply := if vaonValid then .returning else .backup
      returnFrom := if vaonValid then some s.now else none
      tickAt := s.now
      low := v.nvLow, high := v.nvHigh, trim := v.nvTrim, trimNext := v.nvTrim
      sources := (List.range 6).map (fun i => (i, restoredSource s i))
      tripped := trip, tamperOut := trip })
    stage (raiseVault s 0x060C false 0) 0x0A 0 0 none

/-- VAULT_POWER_ON_RESET (R358). -/
def execVaultPowerOnReset (vaonValid : Bool) (s : State) : Host.Outcome State Fault Refusal := .next (vaultReset s vaonValid)

/-- Event 0x0603 and channel 7 at a switch of the supply. -/
def supplySwitched (s : State) (toVbat : Bool) : State :=
  raiseVault (capture s 7 toVbat) 0x0603 false (b2n toVbat + 65536 * s.vault.seconds)

/-- VAULT_SWITCH_TO_VBAT (R357, R358): VAON is then below the recommended 1.71 V (R533). -/
def execVaultSwitchToVbat (s : State) : Host.Outcome State Fault Refusal :=
  let s := s.fresh_
  .next (if s.vault.supply == .main then
      let s := supplySwitched (setVault s (fun v => { v with supply := .backup, returnFrom := none })) true
      if s.boot.mainOn then operatingCondition s 3 0 true else s
    else s)

/-- VAON_RETURN (R358): VAON above 1.70 V starts the 10 ms, below it stops them. -/
def execVaonReturn (above : Bool) (s : State) : Host.Outcome State Fault Refusal :=
  let s := s.fresh_
  .next (match s.vault.supply, above with
    | .backup, true => setVault s (fun v => { v with supply := .returning, returnFrom := some s.now })
    | .returning, false => setVault s (fun v => { v with supply := .backup, returnFrom := none })
    | _, _ => s)

/-- VAULT_RETURN_TO_MAIN (R358). -/
def execVaultReturnToMain (s : State) : Host.Outcome State Fault Refusal :=
  let s := s.fresh_
  .next (match s.vault.supply, s.vault.returnFrom with
    | .returning, some t =>
      operatingCondition
        (supplySwitched (setVault (advanceTo s (t + 10000000)) (fun v => { v with supply := .main, returnFrom := none })) false)
        3 0 false
    | _, _ => s)

/-- VAON falls below 1.58 V (R537): the always-on domain is reset. The main domain is off with it, and no queue has both
its ends (R22, R24). The vault keeps its own memory: the fence map, the snapshot
and its counters (R110, R408). -/
def alwaysOnReset (s : State) : State :=
  if !s.boot.vaon then s
  else
    let s := stopMain s
    let q := s.aon.seq
    { s with
      boot := Boot.init s.boot.product s.boot.fuses
      aon := { AlwaysOn.init with seq := { Sequencer.init with snapshot := q.snapshot, stored := q.stored, unread := q.unread } }
      twt := Twt.init
      buses := []
      domains := Tbl.erase s.domains 3
      queues := []
      ctr := s.ctr.filter (fun e => e.1 / 16777216 == 0x0B)
      faults := { Faults.init with fenceMap := s.faults.fenceMap }
      tensor := { s.tensor with ceiling := 1, allowed := 1 } }

/-- The battery-backed contents are lost, the snapshot and the fence map among them (R110, R382, R408). The always-on and main
domains cannot stay powered without the vault (R22). -/
def vaultOff (s : State) : State :=
  let s := alwaysOnReset s
  let v := s.vault
  let s := setVault s (fun _ => Vault.off v.ledger v.summary v.summaryRecord v.nearFullTold v.fullTold v.powerUps v.nvTripped
    v.nvArming v.nvLow v.nvHigh v.nvTrim)
  let s := setAon s (fun a => { a with seq := { a.seq with snapshot := [], stored := false, unread := false } })
  { s with domains := Tbl.erase s.domains 4, faults := { s.faults with fenceMap := [] }, tensor := { s.tensor with tileMap := [] } }

/-- VAULT_OFF (R358): VBAT below 2.0 V in Backup, or VAON lost with it in Main or Returning. -/
def execVaultOff (s : State) : Host.Outcome State Fault Refusal := .next (vaultOff s.fresh_)

/-- VBAT_MEASUREMENT (R389), in mV, while the main domain runs. -/
def execVbatMeasurement (mv : BitVec 16) (s : State) : Host.Outcome State Fault Refusal :=
  let s := s.fresh_
  .next (if s.boot.mainOn && decide (mv.toNat < 2500) then raiseVault s 0x0608 false mv.toNat else s)

/-- CRYSTAL_AMPLITUDE_REACHED (R58, R390). -/
def execCrystalAmplitudeReached (s : State) : Host.Outcome State Fault Refusal :=
  let s := s.fresh_
  .next (if vaultOn s then tellValidity s (setVault s (fun v => { v with crystalOk := true })) else s)

/-- EVT_CAPTURE (R365): an edge of a configured direction. -/
def execEvtCapture (input : Fin 2) (rising : Bool) (s : State) : Host.Outcome State Fault Refusal :=
  let s := s.fresh_
  let e := s.vault.evtEdges.getD input.val 0
  .next (if vaultOn s && bit e (if rising then 0 else 1) then capture s (4 + input.val) false else s)

/-! ### Time (R360–R366) -/

/-- The last second of the calendar (R361). -/
def calendarEnd : Nat := 6311433599

/-- An alarm fires (R364). -/
def fireAlarm (s : State) (i : Nat) : State :=
  let s := setVault s (fun v => { v with alarms := Tbl.modify v.alarms i Alarm.init (fun a =>
    { a with flag := true, enable := a.period != 0, match_ := (a.match_ + a.period) % 281474976710656 }) })
  raiseVault s 0x0604 false (i + 4 * b2n (s.vault.supply != .main))

def alarm (s : State) (i : Nat) : Alarm := Tbl.getD s.vault.alarms i Alarm.init

/-- Enabled alarms whose match value lies after `from_` and at or before `upTo` fire (R364). -/
def fireAlarms (s : State) (from_ upTo : Nat) : State :=
  [0, 1, 2, 3].foldl (fun s i =>
    if (alarm s i).enable && decide (from_ < (alarm s i).match_) && decide ((alarm s i).match_ ≤ upTo) then fireAlarm s i else s) s

/-- WAKE_OUT is driven low: a wake alarm's flag stands (R364). -/
def wakeOut (s : State) : Bool := [0, 1, 2, 3].any (fun i => (alarm s i).wake && (alarm s i).flag)

/-- The seconds counter advances by one; the end of the calendar marks time invalid (R361). -/
def countSecond (s : State) : State :=
  let n := s.vault.seconds + 1
  let s := setVault s (fun v => { v with seconds := n })
  let s := if n = calendarEnd + 1 ∧ !s.vault.overflow then
      stage (setVault s (fun v => { v with overflow := true })) 0x0E 0 0 none
    else s
  fireAlarms s (n - 1) n

/-- The rate correction in ppm that would cancel an error in ns over the next second, within ±200 ppm (R366). -/
def rateFor (error : Int) : Int := max (-200) (min 200 (-(error / 1000)))

/-- The main timebase at a boundary: `gain` is what its clock gained over the crystal's second, in ns (R366). -/
def discipline (s : State) (gain : Int) : State :=
  if !s.boot.mainOn then s
  else
    let value : Int := (mainTime s : Int) + gain
    let error := value - rtcNs s
    let step := s.timebase.stepNext
    let good := !step && decide (error.natAbs ≤ 1000)
    let count := if good then min 2 (s.timebase.goodBoundaries + 1) else 0
    { s with timebase := {
      value := if step then rtcNs s else max (mainTime s) value.toNat
      at_ := s.now
      ppm := if step then 0 else rateFor error
      goodBoundaries := count
      disciplined := timeValid s && (decide (2 ≤ count) || (s.timebase.disciplined && decide (error.natAbs ≤ 5000)))
      stepNext := false } }

/-- RTC_SECOND (R360, R366). -/
def execRtcSecond (gain : Int) (s : State) : Host.Outcome State Fault Refusal :=
  let s := s.fresh_
  .next (if vaultOn s then
      let t := advanceTo s (s.vault.tickAt + ceilDiv ((32768 - s.vault.tickBase) * 1000000000) 32768)
      let t := setVault t (fun v => { v with tickBase := 0, tickAt := t.now })
      tellValidity s (discipline (countSecond t) gain)
    else s)

/-- The prescaler advances by the trim or holds for it (R363). -/
def trimInterval (s : State) : State :=
  let t := s.vault.trim
  let n := rtcTicks s + t.toNat
  let s :=
    if 0 < t then
      let s := setVault s (fun v => { v with tickBase := n % 32768, tickAt := s.now })
      if 32768 ≤ n then countSecond s else s
    else if t < 0 then setVault s (fun v => { v with
      tickBase := rtcTicks s, tickAt := s.now + t.natAbs * 1000000000 / 32768 })
    else s
  setVault s (fun v => { v with trim := v.trimNext })

/-- TRIM_INTERVAL (R363). -/
def execTrimInterval (s : State) : Host.Outcome State Fault Refusal :=
  .next (if vaultOn s then trimInterval s.fresh_ else s.fresh_)

/-! ### Calendar (R360) -/

def leapYear (y : Nat) : Bool := (y % 4 == 0 && y % 100 != 0) || y % 400 == 0

def daysInMonth (y m : Nat) : Nat :=
  if m == 2 then (if leapYear y then 29 else 28) else if [4, 6, 9, 11].contains m then 30 else 31

/-- Year offset and day of the year of a day count from 2000-01-01. -/
def yearOf : Nat → Nat → Nat → Nat × Nat
  | 0, y, d => (y, d)
  | f + 1, y, d =>
    let n := if leapYear (2000 + y) then 366 else 365
    if d < n then (y, d) else yearOf f (y + 1) (d - n)

/-- Month and day of a day of the year. -/
def monthOf (y : Nat) : Nat → Nat → Nat → Nat × Nat
  | 0, m, d => (m, d + 1)
  | f + 1, m, d => if d < daysInMonth y m then (m, d + 1) else monthOf y f (m + 1) (d - daysInMonth y m)

/-- The seven calendar bytes: year offset, month, day, weekday, hour, minute, second; the calendar holds its last value
(R360, R361). -/
def calendar (seconds : Nat) : List Byte :=
  let t := min seconds calendarEnd
  let days := t / 86400
  let (y, d) := yearOf 200 0 days
  let (m, day) := monthOf (2000 + y) 11 1 d
  [y, m, day, (days + 5) % 7, t % 86400 / 3600, t % 3600 / 60, t % 60].map (BitVec.ofNat 8)

/-! ### Commands 0x0601–0x0605, 0x0607 -/

def timeRecord (s : State) : List Byte :=
  leBytes 6 s.vault.seconds ++ leBytes 2 (rtcTicks s) ++ calendar s.vault.seconds
    ++ leBytes 1 (b2n (timeValid s) + 2 * b2n s.vault.untrusted + 4 * b2n s.timebase.disciplined + 8 * b2n s.vault.overflow)
    ++ leBytes 8 (mainTime s)

/-- TIME_READ (R360). -/
def execTimeRead (o : Origin) (s : State) : Host.Outcome State Fault Refusal :=
  .next (runOp 0x0601 o s (fixed .management) noChecks (fun s c => finish s c { status := .ok, result := timeRecord s }))

/-- A signed change saturated at ±32,767. -/
def saturated16 (d : Int) : Nat := ofSigned (max (-32767) (min 32767 d)) 16

def setTime (s : State) (seconds ticks : Nat) : State :=
  let old := s.vault.seconds
  let t := setVault s (fun v => { v with
    seconds := seconds, tickBase := ticks, tickAt := s.now, timeSet := true, overflow := false, untrusted := false })
  let t := stage t 0x06 0 (saturated16 ((seconds : Int) - old)) none
  let t := { t with timebase := { t.timebase with stepNext := true } }
  tellValidity s (fireAlarms t old seconds)

/-- The checks of opcode 0x0602 beyond the common ones (R18). -/
def timeSetChecks : State → Ctx → Checks :=
    (fun _ c => { badParameter := decide (calendarEnd < c.u 0 8) || decide (32767 < c.u 8 2) })

/-- TIME_SET (R361). -/
def execTimeSet (o : Origin) (s : State) : Host.Outcome State Fault Refusal :=
  .next (runOp 0x0602 o s (fixed .management)
    timeSetChecks
    (fun s c => finish (setTime s (c.u 0 8) (c.u 8 2)) c { status := .ok }))

/-- The checks of opcode 0x0603 beyond the common ones (R18). -/
def trimSetChecks : State → Ctx → Checks :=
    (fun _ c => { badParameter := decide (255 < (toSigned (c.u 0 2) 16).natAbs) })

/-- TRIM_SET (R363). -/
def execTrimSet (o : Origin) (s : State) : Host.Outcome State Fault Refusal :=
  .next (runOp 0x0603 o s (fixed .management)
    trimSetChecks
    (fun s c =>
      let t := toSigned (c.u 0 2) 16
      finish (stage (setVault s (fun v => { v with trimNext := t, nvTrim := t })) 0x07 0 (ofSigned t 9) none) c { status := .ok }))

/-- The checks of opcode 0x0604 beyond the common ones (R18). -/
def alarmSetChecks : State → Ctx → Checks :=
    (fun _ c => { badParameter := decide (3 < c.u 0 1) || decide (7 < c.u 1 1) || c.dirty 2 2 || c.dirty 14 2 })

/-- ALARM_SET (R364). -/
def execAlarmSet (o : Origin) (s : State) : Host.Outcome State Fault Refusal :=
  .next (runOp 0x0604 o s (fixed .management)
    alarmSetChecks
    (fun s c =>
      let f := c.u 1 1
      let s := setVault s (fun v => { v with alarms := Tbl.modify v.alarms (c.u 0 1) Alarm.init (fun a =>
        ⟨c.u 8 6, c.u 4 4, bit f 0, bit f 1, a.flag && !bit f 2⟩) })
      finish s c { status := .ok }))

def channel (s : State) (i : Nat) : Channel := Tbl.getD s.vault.channels i Channel.init

/-- The checks of opcode 0x0605 beyond the common ones (R18). -/
def timeStampReadChecks : State → Ctx → Checks :=
    (fun _ c => { badParameter := decide (7 < c.u 0 1) || decide (1 < c.u 1 1) })

/-- The four pin pairs are fused off, as on AGN48-C: their channels read zero (R2, R6, R365). -/
def pinPairsFused (s : State) : Bool := (List.range 4).all (fun i => bit s.boot.fuses i)

/-- A channel as it reads. While one pair is left, the captures of a blown one stay readable. DESIGN CHOICE, log 58. -/
def channelRead (s : State) (i : Nat) : Channel := if i < 4 && pinPairsFused s then Channel.init else channel s i

/-- TIME_STAMP_READ (R365). -/
def execTimeStampRead (o : Origin) (s : State) : Host.Outcome State Fault Refusal :=
  .next (runOp 0x0605 o s (fixed .management)
    timeStampReadChecks
    (fun s c =>
      let h := channelRead s (c.u 0 1)
      let s := if bit (c.u 1 1) 0 then setVault s (fun v => { v with channels := Tbl.erase v.channels (c.u 0 1) }) else s
      finish s c { status := .ok, result := leBytes 8 h.first ++ leBytes 8 h.latest ++ leBytes 2 h.count }))

/-- The checks of opcode 0x0607 beyond the common ones (R18). -/
def backupRateSetChecks : State → Ctx → Checks :=
                                              (fun _ c => { badParameter := decide (6 < c.u 0 1) })

/-- BACKUP_RATE_SET (R370). -/
def execBackupRateSet (o : Origin) (s : State) : Host.Outcome State Fault Refusal :=
  .next (runOp 0x0607 o s (fixed .management) backupRateSetChecks
    (fun s c => finish (setVault s (fun v => { v with backupRate := c.u 0 1 })) c { status := .ok }))

end Sys2Proof.Machine
end

