-- ==== Sys2Proof/Machine/Tamper.lean ====
section
/-! DEFINITION. Tamper sources, their samples and exercises, the tamper response and state (R5, R102, R367–R376, R385, R386). -/

namespace Sys2Proof.Machine

open Sys2Proof

def source (s : State) (i : Nat) : Source := Tbl.getD s.vault.sources i Source.init

def setSource (s : State) (i : Nat) (f : Source → Source) : State :=
  setVault s (fun v => { v with sources := Tbl.modify v.sources i Source.init f })

def sourceFused (s : State) (i : Nat) : Bool := bit s.boot.fuses i

/-! ### Detectors (R385, R386) -/

/-- A detector (0 TD-A, 1 TD-B) failed its exercise twice: lasting, fenced and reported, with its ledger entry. -/
def fenceDetector (s : State) (d : Nat) : State :=
  if isFenced s 0x05 d then s
  else stage (raiseVault (lastingFault s 0x05 d) 0x0607 true (d + 2)) 0x08 (4 + d) 1 none

/-- An exercise's result: 0 passed, 1 passed at the second attempt, 2 failed twice; either failure is reported (R20). A pin pair has no
fault state of its own (R386). -/
def exerciseResult (s : State) (i result : Nat) : State :=
  if i < 4 ∨ result = 0 then s
  else if result = 1 then transient (raiseVault s 0x0607 true (i - 4)) 0x05 (i - 4)
  else fenceDetector s (i - 4)

/-- INSERTED_SAMPLE (R371, R385). -/
def execInsertedSample (source : Fin 6) (result : Fin 3) (s : State) : Host.Outcome State Fault Refusal :=
  let s := s.fresh_
  .next (if vaultOn s && !sourceFused s source then exerciseResult s source result else s)

/-! ### The response (R373, R374, R376) -/

/-- A firmware update under way is stopped, its copy can never be selected (R376). -/
def abortUpdate (s : State) : State :=
  match s.boot.update with
  | none => s
  | some k =>
    let copy := s.boot.updateCopy
    let s := send (setBoot s (fun b => { b with update := none })) [.flash copy 0 (List.replicate 4096 0xFF)]
    let s := stage (raiseAon s 0x0A28 true (copy + 256 * 0x01)) 0x0B copy 0 none
    endSlot s 0 k { status := .cancelled }

/-- The key store is zeroised (R372, R373). -/
def zeroiseKeyStore (s : State) : State :=
  setVault s (fun v => { v with akek := none, adminKey := none, adminEpoch := 0, transport := none, leaf := false })

/-- A tamper of a source (R373, R374), with the fields of its ledger entry. -/
def tamper (s : State) (i kind src detail : Nat) : State :=
  let isNew := !s.vault.tripped || !(source s i).recorded
  let first := !s.vault.tripped
  let s := setVault s (fun v => { v with tamperOut := true, tripped := true, nvTripped := v.nvTripped || s.boot.mainOn })
  let s := if first then setVault (zeroiseKeyStore s) (fun v => { v with
      sources := Tbl.mapAll v.sources (fun _ x => { x with recorded := false }) }) else s
  let s := capture s (if i < 4 then i else 6) false
  let s := setSource s i (fun x => { x with recorded := true, trips := satAdd 16 x.trips 1 })
  let s := if isNew then raiseVault (stage s kind src detail none) 0x0601 true (i + 256) else s
  if first && s.boot.mainOn then abortUpdate (cipherZeroise s) else s

/-! ### Samples (R367, R368, R373, R385) -/

/-- One step of the LFSR x¹⁶ + x¹⁴ + x¹³ + x¹¹ + 1 (R368). -/
def lfsrStep (v : Nat) : Nat :=
  v / 2 + 32768 * ((v + v / 4 + v / 8 + v / 32) % 2)

def lfsrSteps : Nat → Nat → Nat
  | 0, v => v
  | n + 1, v => lfsrSteps n (lfsrStep v)

/-- The lowest set bit of a 16-bit mask. -/
def firstBit (m : Nat) : Nat := ((List.range 16).find? (fun i => bit m i)).getD 0

/-- Which limit a TD-B reading (0.5 °C) is past: 0 none, 1 low, 2 high. -/
def sideB (s : State) (t : Int) : Nat :=
  if t < 2 * s.vault.low then 1 else if 2 * s.vault.high < t then 2 else 0

/-- TD-A and TD-B disagree (R385). `a`: 0 in range, 1 below low, 2 above high. -/
def disagree (s : State) (a : Nat) (t : Int) : Bool :=
  (a == 1 && decide (2 * s.vault.low + 20 < t)) || (a == 2 && decide (t < 2 * s.vault.high - 20))
    || (a == 0 && (decide (t < 2 * s.vault.low - 20) || decide (2 * s.vault.high + 20 < t)))

/-- A pin pair's regular sample: the differing bits; in static mode both reads differing is bit 0 (R368). A disabled receiver senses
nothing (R4). -/
def samplePair (s : State) (i diff : Nat) : State :=
  if (source s i).arming != .armed || (source s i).receiverOff then s
  else
    let s := setSource s i (fun x => { x with beyond := diff != 0, lfsr := if x.dynamic then lfsrSteps 16 x.lfsr else x.lfsr })
    if diff = 0 then s else tamper s i 0x01 i (b2n (source s i).dynamic + 2 * firstBit diff)

/-- A detector's regular sample: the side it finds, and the other's (R373, R377). -/
def sampleDetector (s : State) (d side other : Nat) (t : Int) : State :=
  if (source s (4 + d)).arming != .armed || isFenced s 0x05 d then s
  else
    let s := setSource s (4 + d) (fun x => { x with beyond := side != 0 })
    if side = 0 then s
    else tamper s (4 + d) 0x02 (4 + d) (b2n (side == 2) + 2 * b2n (side == other) + 256 * ofSigned (t / 2) 8)

/-- A regular sample (R373). A disagreement exercises both detectors at once: `failA` and `failB` are their results (R385). -/
def sample (s : State) (a : Nat) (t : Int) (diffs : List Nat) (failA failB : Nat) : State :=
  let s := setVault s (fun v => { v with tdB := t })
  let s := [0, 1, 2, 3].foldl (fun s i => samplePair s i (diffs.getD i 0)) s
  let b := sideB s t
  let fused := sourceFused s 4 || sourceFused s 5 || isFenced s 0x05 0 || isFenced s 0x05 1
  let differ := !fused && disagree s a t
  let s := sampleDetector (sampleDetector s 0 a b t) 1 b a t
  if !differ then s
  else
    let s := exerciseResult (exerciseResult s 4 failA) 5 failB
    if failA < 2 ∧ failB < 2 then bump (bump s 0x0B05 0 16) 0x0B05 1 16 else s

/-- TAMPER_SAMPLE (R373): TD-A's result (0 in range, 1 below low, 2 above high), TD-B's reading in 0.5 °C, the differing bits
of the pin pairs, and the exercises that a disagreement brings. -/
def execTamperSample (tdA : Fin 3) (tdB : Int) (diffs : List (BitVec 16)) (failA failB : Fin 3) (s : State) :
    Host.Outcome State Fault Refusal :=
  .next (if vaultOn s then sample s.fresh_ tdA tdB (diffs.map (fun d => d.toNat)) failA failB else s.fresh_)

/-! ### Commands 0x0608–0x060C -/

def armingCode : Arming → Nat
  | .fused => 0 | .disarmed => 1 | .armed => 2

/-- The arming configuration is copied to non-volatile memory (R369): the state in [1:0], dynamic mode in [2], the level in
[3]. -/
def storeArming (s : State) : State :=
  setVault s (fun v => { v with nvArming := (List.range 6).map (fun i =>
    armingCode (source s i).arming + 4 * b2n (source s i).dynamic + 8 * b2n (source s i).level) })

def fusedRefusal (s : State) (c : Ctx) (i : Nat) : Option Nat :=
  if c.has 0 1 && decide (i < 6) && sourceFused s i then some 0x03 else none

def armingChecks (firstSamplePassed : Bool) (s : State) (c : Ctx) : Checks :=
  let i := c.u 0 1
  { refused := fusedRefusal s c i
    badParameter := decide (5 < i) || (c.u 1 1 != 1 && c.u 1 1 != 2) || decide (1 < c.u 2 1) || decide (1 < c.u 3 1)
    execution := if decide (i < 4) && c.u 1 1 == 2 && !firstSamplePassed then some .integrity else none }

def armingEffect (s : State) (c : Ctx) : State :=
  let i := c.u 0 1
  let arm := c.u 1 1 == 2
  let (seed, s) := drawBytes s 2
  let s := setSource s i (fun x => { x with
    arming := if arm then .armed else .disarmed
    dynamic := decide (i < 4) && c.u 2 1 == 1
    level := decide (i < 4) && c.u 3 1 == 1
    lfsr := if arm && decide (i < 4) && c.u 2 1 == 1 then leNat seed % 65535 + 1 else x.lfsr
    beyond := false })
  finish (stage (storeArming s) 0x04 i (c.u 1 1) none) c { status := .ok }

/-- SOURCE_ARMING_SET (R369): whether the first sample after arming a pin pair passes. -/
def execSourceArmingSet (o : Origin) (firstSamplePassed : Bool) (s : State) : Host.Outcome State Fault Refusal :=
  .next (runOp 0x0608 o s (fixed .management) (armingChecks firstSamplePassed) armingEffect)

/-- The checks of opcode 0x0609 beyond the common ones (R18). -/
def fuseBlowChecks : State → Ctx → Checks :=
    (fun s c => { refused := fusedRefusal s c (c.u 0 1)
                  badParameter := decide (5 < c.u 0 1) || (c.u 0 1 ^^^ 0xA5) != c.u 1 1 })

/-- FUSE_BLOW (R5, R369). -/
def execFuseBlow (o : Origin) (s : State) : Host.Outcome State Fault Refusal :=
  .next (runOp 0x0609 o s (fixed .management)
    fuseBlowChecks
    (fun s c =>
      let i := c.u 0 1
      let s := setBoot s (fun b => { b with fuses := setBit b.fuses i })
      let s := storeArming (setSource s i Source.fuse)
      let s := if pinPairsFused s then setVault s (fun v => { v with channels := v.channels.filter (fun e => decide (4 ≤ e.1)) }) else s
      finish (stage s 0x05 i s.boot.fuses none) c { status := .ok, result := leBytes 2 s.boot.fuses }))

/-- Every source named by a mask, from its result bits. -/
def selfTest (s : State) (mask passed : Nat) : State :=
  (List.range 6).foldl (fun s i => if bit mask i && !bit passed i then exerciseResult s i 2 else s) s

/-- The checks of opcode 0x060A beyond the common ones (R18). -/
def tamperSelfTestChecks : State → Ctx → Checks :=
    (fun s c => { refused := if (List.range 6).any (fun i => bit (c.u 0 1) i && sourceFused s i) then some 0x03 else none
                  badParameter := decide (63 < c.u 0 1) })

/-- TAMPER_SELF_TEST (R371): the sources whose inserted samples reported. -/
def execTamperSelfTest (o : Origin) (passed : BitVec 6) (s : State) : Host.Outcome State Fault Refusal :=
  .next (runOp 0x060A o s (fixed .management)
    tamperSelfTestChecks
    (fun s c =>
      let m := c.u 0 1
      finish (selfTest s m passed.toNat) c
        { status := .ok, result := leBytes 1 (m &&& passed.toNat) ++ leBytes 1 (m &&& (63 - passed.toNat)) }))

/-- The sources recorded in the trip. -/
def recordedMask (s : State) : Nat :=
  ((List.range 6).map (fun i => if (source s i).recorded then 2 ^ i else 0)).sum

/-- An Armed source was past its limit or mismatched at its latest regular sample (R374). -/
def anyBeyond (s : State) : Bool :=
  (List.range 6).any (fun i => (source s i).arming == .armed && (source s i).beyond && !(decide (4 ≤ i) && isFenced s 0x05 (i - 4)))

/-- Back to Clear (R374): the SPDM leaf key is derived again. -/
def acknowledge (s : State) : State :=
  let m := recordedMask s
  let s := setVault s (fun v => { v with
    tripped := false, tamperOut := false, nvTripped := false, leaf := true
    sources := Tbl.mapAll v.sources (fun _ x => { x with recorded := false }) })
  stage (raiseVault s 0x0602 false 0) 0x03 0 m none

/-- The checks of opcode 0x060B beyond the common ones (R18). -/
def tamperAcknowledgeChecks : State → Ctx → Checks :=
    (fun s _ => { badCommand := !s.vault.tripped, busy := s.vault.tripped && anyBeyond s })

/-- TAMPER_ACKNOWLEDGE (R374). -/
def execTamperAcknowledge (o : Origin) (s : State) : Host.Outcome State Fault Refusal :=
  .next (runOp 0x060B o s (fixed .management)
    tamperAcknowledgeChecks
    (fun s c => finish (acknowledge s) c { status := .ok }))

def tamperRecord (s : State) : List Byte :=
  leBytes 1 (b2n s.vault.tripped) ++ leBytes 1 (if s.vault.tripped then recordedMask s else 0)
    ++ ((List.range 6).map (fun i => leBytes 1 (armingCode (source s i).arming))).flatten
    ++ ((List.range 6).map (fun i => leBytes 2 (source s i).trips)).flatten
    ++ leBytes 1 s.vault.backupRate ++ leBytes 1 (ofSigned s.vault.low 8) ++ leBytes 1 (ofSigned s.vault.high 8)

/-- TAMPER_STATUS (R374). -/
def execTamperStatus (o : Origin) (s : State) : Host.Outcome State Fault Refusal :=
  .next (runOp 0x060C o s (fixed .management) noChecks (fun s c => finish s c { status := .ok, result := tamperRecord s }))

end Sys2Proof.Machine
end

