-- ==== Sys2Proof/Machine/Thermal.lean ====
section
/-! DEFINITION. The thermal plan (R418–R422, R435, R533). -/

namespace Sys2Proof.Machine

open Sys2Proof

/-- BOARD_SENSOR_READ (R418, R420, R439): a reading in 0.5 °C, or an absent target. -/
def execBoardSensorRead (sensor : Fin 16) (reading : Option Int) (s : State) : Host.Outcome State Fault Refusal :=
  let s := s.fresh_
  let i := sensor.val
  let was := s.aon.thermal.boardAbsent.contains i
  .next (if s.aon.tables.boardAddresses.length ≤ i then s
    else
    let (answered, s) := ownTraffic s 1 (s.aon.tables.boardAddresses.getD i 0) reading.isSome
    match (if answered then reading else none) with
      | none =>
        if was then s
        else raiseAon (setAon s (fun a => { a with thermal := { a.thermal with boardAbsent := a.thermal.boardAbsent ++ [i] } }))
          0x074C false (i + 256)
      | some r =>
        let s := setAon s (fun a => { a with thermal := { a.thermal with
          board := Tbl.set a.thermal.board i r, boardAbsent := a.thermal.boardAbsent.erase i } })
        if was then raiseAon s 0x074C false i else s)

/-- The highest row whose threshold a temperature has reached (R420). -/
def rowReached (rows : List PlanRow) (t : Int) : Nat :=
  ((List.range rows.length).filter (fun i => match rows[i]? with
    | some r => decide (2 * r.threshold ≤ t)
    | none => false)).foldl max 0

/-- A row is left downward only below its threshold by the hysteresis (R420). -/
def selectRow (s : State) (present : Nat) (t : Int) : Nat :=
  let rows := s.aon.tables.rows
  let r := rowReached rows t
  if present ≤ r then r
  else if t < 2 * (rows.getD present ⟨0, [], 1, []⟩).threshold - 2 * s.aon.tables.hysteresis then r
  else present

/-- The die temperature (R418). -/
def dieTemperature (s : State) : Int := ((List.range 8).map (dieReading s)).foldl max (dieReading s 0)

/-- The readings assigned to a zone (R418). -/
def zoneReadings (s : State) (z : Nat) : List Int :=
  ((List.range 8).filter (fun i => bit (s.aon.tables.dieZones.getD i 0) z)).map (dieReading s)
    ++ ((List.range 16).filter (fun i => bit (s.aon.tables.boardZones.getD i 0) z)).filterMap
      (fun i => if s.aon.thermal.boardAbsent.contains i then none else Tbl.get? s.aon.thermal.board i)

/-- A zone's temperature: its highest reading; −40 °C, the threshold of row 0, for a zone with none. -/
def zoneTemperature (s : State) (z : Nat) : Int :=
  match zoneReadings s z with
  | [] => -80
  | t :: ts => ts.foldl max t

/-- A zone with an absent board sensor takes the duty of the highest row (R420). -/
def zoneAbsent (s : State) (z : Nat) : Bool :=
  s.aon.thermal.boardAbsent.any (fun i => bit (s.aon.tables.boardZones.getD i 0) z)

/-- A zone selects its row; while the main domain is off it takes the main-off row. A change is counted (R436 row 2). -/
def evaluateZone (s : State) (z : Nat) : State :=
  let t := zoneTemperature s z
  let s := setAon s (fun a => { a with thermal := { a.thermal with zoneTemps := a.thermal.zoneTemps.set z t } })
  if !s.boot.mainOn then s
  else
    let old := s.aon.thermal.zoneRows.getD z 0
    let new := if zoneAbsent s z then s.aon.tables.rows.length - 1 else selectRow s old t
    if new = old then s
    else setAon (bump s 0x0D02 z 32) (fun a => { a with thermal := { a.thermal with zoneRows := a.thermal.zoneRows.set z new } })

/-- Airflow loss of the fans in Tach lost (R421). -/
def evaluateAirflow (s : State) : State :=
  (List.range 12).foldl (fun s i =>
    let f := fan s i
    let z := (fanCfg s i).zone
    if f.state = 6 ∧ !f.airflow ∧ (f.zoneTemp + 10 ≤ s.aon.thermal.zoneTemps.getD z 0 ∨ f.zoneRow < s.aon.thermal.zoneRows.getD z 0) then
      raiseAon (setFan s i (fun f => { f with airflow := true })) 0x0745 true (i + 16 * z)
    else s) s

/-- The critical temperature is entered and left with the hysteresis (R422), counted with the throttles (R436 row 3). -/
def evaluateCritical (s : State) : State :=
  let t := dieTemperature s
  let at_ := 2 * s.aon.tables.critical
  let set := fun (s : State) (b : Bool) => setAon s (fun a => { a with thermal := { a.thermal with critical := b } })
  if s.aon.thermal.critical then
    if t < at_ - 2 * s.aon.tables.hysteresis then set s false else s
  else if at_ ≤ t then raiseAon (bump (set s true) 0x0D03 0 32) 0x0747 true (ofSigned t 16)
  else s

/-- The shutdown temperature: power-down, then Held off (R422). -/
def evaluateShutdown (s : State) : State :=
  let t := dieTemperature s
  let q := s.aon.seq
  if t < 2 * s.aon.tables.shutdown then s
  else if q.state == .heldOff || q.down == some .heldOff then s
  else
    let s := raiseAon s 0x0748 true (ofSigned t 16)
    if q.down.isSome then setSeq s (fun q => { q with down := some .heldOff }) else powerDown s .heldOff

/-- The plan is evaluated (R420–R422, R435, R533), with the readings of both channels of D0–D7. -/
def evaluatePlan (s : State) (dieA dieB : List Int) : State :=
  let s := setAon s.fresh_ (fun a => { a with thermal := { a.thermal with dieA := dieA, dieB := dieB } })
  let t := dieTemperature s
  let s := operatingCondition s 1 0 (decide (t < 0) || decide (210 < t))
  if s.aon.tables.rows.isEmpty || s.faults.safeState then s
  else
    let s := [0, 1, 2, 3].foldl evaluateZone s
    let s := setAon s (fun a => { a with thermal := { a.thermal with ktRow := selectRow s a.thermal.ktRow t } })
    let s := evaluateCritical (evaluateAirflow s)
    let s := [0, 1, 2, 3].foldl planRetarget s
    evaluateShutdown (updateFans (updateCeiling s))

/-- THERMAL_PLAN_EVALUATION (R420). -/
def execThermalPlanEvaluation (dieA dieB : List Int) (s : State) : Host.Outcome State Fault Refusal :=
  .next (evaluatePlan s dieA dieB)

/-- The 16 bytes of the thermal status. -/
def thermalRecord (s : State) : List Byte :=
  ((List.range 4).map (fun z => leBytes 2 (ofSigned (s.aon.thermal.zoneTemps.getD z 0) 16))).flatten
    ++ leBytes 2 (ofSigned (dieTemperature s) 16) ++ ((List.range 4).map (fun z => leBytes 1 (s.aon.thermal.zoneRows.getD z 0))).flatten
    ++ leBytes 1 s.aon.thermal.ceiling
    ++ leBytes 1 (b2n (throttling s) + 2 * b2n s.aon.thermal.critical + 4 * b2n (homingHold s))

/-- THERMAL_STATUS (R420). -/
def execThermalStatus (o : Origin) (s : State) : Host.Outcome State Fault Refusal :=
  .next (runOp 0x0730 o s (fixed .management) noChecks (fun s c => finish s c { status := .ok, result := thermalRecord s }))

end Sys2Proof.Machine
end

