-- ==== Sys2Proof/Machine/Calibration.lean ====
section
/-! DEFINITION. Calibration (R464–R475), and the change of the tamper limits, which starts a run (R367, R468). -/

namespace Sys2Proof.Machine

open Sys2Proof

def setCal (s : State) (f : Calibration → Calibration) : State := setAon s (fun a => { a with cal := f a.cal })

/-- The lowest item of a mask. -/
def firstItem (m : Nat) : Nat := ((List.range 9).find? (fun i => bit m i)).getD 9

/-- What becomes of an axis item now (R470): 0 runs at once, 1 deferred, 2 failed, 3 done, 4 already running. -/
def axisItem (s : State) (i : Nat) : Nat :=
  let x := axis s i
  if !(axisCfg s i).used then 3
  else if x.state = 7 then 2
  else if x.state = 3 then 4
  else if x.state = 0 then 0
  else if x.state = 2 ∧ x.velocity = 0 ∧ x.restAt + 100000000 ≤ s.now then 0
  else 1

def setCalRun (s : State) (f : CalRun → CalRun) : State := setCal s (fun c => { c with run := c.run.map f })

/-- An axis front end starts: in Holding the axis enters Calibrating, in Unhomed AnENABLE stays low (R433, R470). -/
def startFrontEnd (s : State) (i : Nat) : State :=
  setAxis s i (fun x => { x with calibrate := true, frontEndTries := 0, state := if x.state = 2 then 3 else x.state })

/-- The run ends (R471): the count, the time, event 0x0A01 and the answer; a waiting run follows. -/
def runAnswer (r : CalRun) : Answer :=
  { status := if r.failed != 0 then .lasting else if r.retried then .recovered else .ok
    result := leBytes 2 r.passed ++ leBytes 2 r.deferred ++ leBytes 2 r.failed }

def closeRun (s : State) (r : CalRun) : State :=
  let s := setCal s (fun c => { c with run := none })
  let s := if r.passed = 0 then s else setCal s (fun c => { c with
    count := satAdd 32 c.count 1, lastSeconds := s.vault.seconds, lastTicks := rtcTicks s })
  let s := raiseAon s 0x0A01 false (r.passed + 65536 * r.failed + 4294967296 * b2n r.automatic)
  match r.origin with
  | none => s
  | some o => finishOrigin s o (runAnswer r)

/-- The axis items at the front of a run are settled until one runs or the run has none left (R470). Item [4] of a fused TD-A is left
out: it never reports a pass (R5). DEDUCED, log 59. -/
def settleAxes : Nat → State → State
  | 0, s => s
  | f + 1, s =>
    match s.aon.cal.run with
    | none => s
    | some r =>
      let n := firstItem r.left
      if (n < 5 ∧ !(n = 4 && sourceFused s 4)) ∨ 9 ≤ n then s
      else if n = 4 then settleAxes f (setCalRun s (fun r => { r with left := clearBit r.left n, attempt := 1 }))
      else
        let drop := fun (g : CalRun → CalRun) (s : State) => settleAxes f (setCalRun s (fun r => g { r with left := clearBit r.left n, attempt := 1 }))
        match axisItem s (n - 5) with
        | 0 => startFrontEnd s (n - 5)
        | 2 => drop (fun r => { r with failed := setBit r.failed n }) s
        | 3 => drop (fun r => { r with passed := setBit r.passed n }) s
        | 4 => drop (fun r => { r with deferred := setBit r.deferred n }) s
        | _ =>
          let s := raiseAon (setAxis s (n - 5) (fun x => { x with calibrate := true, frontEndTries := 0 })) 0x0A02 false (2 ^ n)
          drop (fun r => { r with deferred := setBit r.deferred n }) s

/-- Axis items that must wait are deferred when the run starts (R470). -/
def deferAxes (s : State) (mask : Nat) : State × Nat :=
  let d := ((List.range 4).map (fun i => if bit mask (5 + i) && axisItem s i == 1 then 2 ^ (5 + i) else 0)).sum
  if d = 0 then (s, 0)
  else
    let s := raiseAon s 0x0A02 false d
    ((List.range 4).foldl (fun s i =>
      if bit d (5 + i) then setAxis s i (fun x => { x with calibrate := true, frontEndTries := 0 }) else s) s, d)

def beginRun (s : State) (mask : Nat) (automatic : Bool) (o : Option Origin) : State :=
  let (s, d) := deferAxes s mask
  setCal s (fun c => { c with run := some ⟨mask, mask - d, 1, 0, d, 0, false, automatic, o⟩ })

/-- Runs end and waiting ones start until an item is under way. -/
def pursueRuns : Nat → State → State
  | 0, s => s
  | f + 1, s =>
    let s := settleAxes 6 s
    match s.aon.cal.run with
    | some r => if r.left = 0 then pursueRuns f (closeRun s r) else s
    | none =>
      match s.aon.cal.waiting with
      | [] => s
      | m :: rest => pursueRuns f (beginRun (setCal s (fun c => { c with waiting := rest })) m true none)

def pursue (s : State) : State := pursueRuns (2 * s.aon.cal.waiting.length + 4) s

/-- A run starts; an automatic one waits for the one in progress (R468). -/
def startRun (s : State) (mask : Nat) (automatic : Bool) (o : Option Origin) : State :=
  if s.aon.cal.run.isSome then setCal s (fun c => { c with waiting := c.waiting ++ [mask] })
  else pursue (beginRun s mask automatic o)

/-! ### Items (R465, R466, R472) -/

def inTrimRange (c : Int) : Bool := decide (-128 ≤ c) && decide (c ≤ 127)

/-- TD-A's codes from the limits and the offset δ in 0.01 °C: the low one rounded up, the high one down (R466). -/
def tdaLow (s : State) (delta : Int) : Int := -((-(100 * (s.vault.low + 60) - delta)) / 75)
def tdaHigh (s : State) (delta : Int) : Int := (100 * (s.vault.high + 60) - delta) / 75

/-- Whether an item passes with what was measured: [0] the bandgaps' difference in 0.001 % and R_CAL in ohms by each
converter; [1], [2] the code and the residual in 0.001 %; [3] the 16 codes; [4] δ. -/
def itemPasses (s : State) (n : Nat) (m : List Int) : Bool :=
  match n with
  | 0 => decide ((m.getD 0 0).natAbs ≤ 200) && [1, 2].all (fun i => decide (9800 ≤ m.getD i 0) && decide (m.getD i 0 ≤ 10200))
  | 1 => inTrimRange (m.getD 0 0) && decide ((m.getD 1 0).natAbs ≤ 20)
  | 2 => inTrimRange (m.getD 0 0) && decide ((m.getD 1 0).natAbs ≤ 20)
  | 3 => (List.range 16).all (fun i => inTrimRange (m.getD i 0))
  | 4 =>
    let lo := tdaLow s (m.getD 0 0)
    let hi := tdaHigh s (m.getD 0 0)
    decide (0 ≤ lo) && decide (hi ≤ 255) && decide (lo + 27 ≤ hi)
  | _ => false

/-- The codes of a passed item are written (R465): 0, 1 the converters, 2–17 the die sensor channels. -/
def writeCodes (s : State) (n : Nat) (m : List Int) : State :=
  match n with
  | 1 => setCal s (fun c => { c with codes := Tbl.set c.codes 0 (m.getD 0 0) })
  | 2 => setCal s (fun c => { c with codes := Tbl.set c.codes 1 (m.getD 0 0) })
  | 3 => setCal s (fun c => { c with
      codes := (List.range 16).foldl (fun t i => Tbl.set t (2 + i) (m.getD i 0)) c.codes, item3Temp := dieTemperature s })
  | 4 => setVault s (fun v => { v with tdaCodes := some ((tdaLow s (m.getD 0 0)).toNat, (tdaHigh s (m.getD 0 0)).toNat) })
  | _ => s

/-- The RTC seconds of an item's last pass, flagged when time was invalid (R471). -/
def notePass (s : State) (n : Nat) : State :=
  setCal s (fun c => { c with itemSeconds := Tbl.set c.itemSeconds n (s.vault.seconds, !timeValid s) })

/-- What a lasting failure of an item brings (R472). -/
def itemFenced (s : State) (n : Nat) (m : List Int) : State :=
  match n with
  | 0 => operatingCondition s 4 0 true
  | 3 => (List.range 16).foldl (fun s i =>
      if inTrimRange (m.getD i 0) || isFenced s 0x04 i then s else fenceChannel s (i / 2) (i % 2)) s
  | 4 => fenceDetector s 0
  | k => (List.range 25).foldl (fun s i =>
      let used := i == 24 || ((railCfg s i).nominal != 0 && (k == 1 || (railCfg s i).pmbus.isNone))
      if !used || isFenced s 0x04 ((8 + i) * 2 + (k - 1)) then s else fenceChannel s (8 + i) (k - 1)) s

/-- A failed attempt of an item is reported; the second is lasting (R472, R474). -/
def itemFailed (s : State) (n : Nat) (lasting : Bool) : State :=
  let s := raiseAon s 0x0A03 true (n + 256 * b2n lasting)
  if lasting then bump s 0x0301 0x16 16 else s

/-- The item at the front of the run ends (R466, R472). -/
def itemEnd (s : State) (n : Nat) (m : List Int) : State :=
  let s := s.fresh_
  match s.aon.cal.run with
  | none => s
  | some r =>
    if firstItem r.left ≠ n ∨ 5 ≤ n then s
    else if itemPasses s n m then
      let s := notePass (writeCodes s n m) n
      let s := if n = 0 then operatingCondition s 4 0 false else s
      let s := if r.attempt = 2 then transient s 0x16 n else s
      pursue (setCalRun s (fun r => { r with
        left := clearBit r.left n, passed := setBit r.passed n, retried := r.retried || r.attempt == 2, attempt := 1 }))
    else if r.attempt = 1 then setCalRun (itemFailed s n false) (fun r => { r with attempt := 2 })
    else
      let s := itemFenced (itemFailed s n true) n m
      pursue (setCalRun s (fun r => { r with
        left := if n = 0 then 0 else clearBit r.left n, failed := setBit r.failed n, attempt := 1 }))

/-- CALIBRATION_ITEM_END (R466): items [0]–[4] with what was measured. -/
def execCalibrationItemEnd (item : Fin 9) (measured : List Int) (s : State) : Host.Outcome State Fault Refusal :=
  .next (itemEnd s item measured)

/-! ### Axis front ends (R433, R470) -/

/-- AXIS_CALIBRATION_START (R433): at rest for 100 ms in Holding with a calibration pending. -/
def execAxisCalibrationStart (axis : Fin 4) (s : State) : Host.Outcome State Fault Refusal :=
  let s := s.fresh_
  let x := Machine.axis s axis
  .next (if x.state = 2 ∧ x.velocity = 0 ∧ x.calibrate then
      startFrontEnd (advanceTo s (x.restAt + 100000000)) axis
    else s)

/-- The axis leaves Calibrating: a queued target starts (R432, R433). -/
def endCalibrating (s : State) (i : Nat) : State :=
  let x := axis s i
  if x.state = 3 then
    let s := setAxis s i (fun x => { x with state := 2, restAt := s.now, calibrate := false, queued := none })
    match x.queued with
    | some t => retarget s i t
    | none => s
  else homeIfReady (setAxis s i (fun x => { x with calibrate := false })) i

/-- The run's item of an axis, where the run waits for it. -/
def inRunItem (s : State) (i : Nat) : Bool :=
  match s.aon.cal.run with
  | some r => firstItem r.left == 5 + i
  | none => false

/-- A front-end item ends with its codes and the amplitude at rest (R466, R470, R472). -/
def frontEndDone (s : State) (i : Nat) (sin cos : Int) (amplitude : Nat) : State :=
  let s := s.fresh_
  let x := axis s i
  if !(x.state == 3 || (x.state == 0 && x.calibrate)) then s
  else
    let expected := (axisCfg s i).amplitude
    let pass := inTrimRange sin && inTrimRange cos && decide (expected ≤ 2 * amplitude) && decide (amplitude ≤ 2 * expected)
    let n := 5 + i
    let again := decide (0 < x.frontEndTries)
    if pass then
      let s := setCal s (fun c => { c with codes := Tbl.set (Tbl.set c.codes (18 + 2 * i) sin) (19 + 2 * i) cos })
      let s := notePass (setAxis s i (fun x => { x with amplitude := amplitude })) n
      let s := if again then transient s 0x16 n else s
      let run := inRunItem s i
      let s := endCalibrating s i
      if run then pursue (setCalRun s (fun r => { r with
        left := clearBit r.left n, passed := setBit r.passed n, retried := r.retried || again, attempt := 1 }))
      else raiseAon s 0x0A01 false (2 ^ n + 4294967296)
    else if again then
      let run := inRunItem s i
      let s := setAxis (itemFailed s n true) i (fun x => { x with calibrate := false, queued := none })
      let s := fenceAxis s i 0
      if run then pursue (setCalRun s (fun r => { r with left := clearBit r.left n, failed := setBit r.failed n, attempt := 1 }))
      else raiseAon s 0x0A01 false (65536 * 2 ^ n + 4294967296)
    else setAxis (itemFailed s n false) i (fun x => { x with frontEndTries := 1 })

/-- AXIS_CALIBRATION_END (R433, R470). -/
def execAxisCalibrationEnd (axis : Fin 4) (sin cos : Int) (amplitude : Nat) (s : State) : Host.Outcome State Fault Refusal :=
  .next (frontEndDone s axis sin cos amplitude)

/-! ### Starts of a run (R468) -/

/-- The always-on domain works: VAON, and the management core not in its safe state. -/
def managementRuns (s : State) : Bool := s.boot.vaon && !s.faults.safeState

/-- CALIBRATION_PERIODIC (R468): 24 h of VAON time. -/
def execCalibrationPeriodic (s : State) : Host.Outcome State Fault Refusal :=
  let s := s.fresh_
  .next (if managementRuns s then
      let s := advanceTo s (s.aon.cal.periodicAt + day)
      startRun (setCal s (fun c => { c with periodicAt := s.now })) 0x1FF true none
    else s)

/-- CALIBRATION_DRIFT (R468): more than 15 °C from the last pass of item [3]. -/
def execCalibrationDrift (s : State) : Host.Outcome State Fault Refusal :=
  let s := s.fresh_
  .next (if managementRuns s && decide (30 < (dieTemperature s - s.aon.cal.item3Temp).natAbs) then startRun s 0x1F true none else s)

/-- The recovery budget of opcode 0x0A01 (R112, R480). -/
def calibrationRunBudget : State → Ctx → Nat :=
                            (fun _ _ => 250000000)

/-- The checks of opcode 0x0A01 beyond the common ones (R18). -/
def calibrationRunChecks : State → Ctx → Checks :=
    (fun s c => { badParameter := c.u 0 2 == 0 || decide (511 < c.u 0 2)
                  busy := s.aon.cal.run.isSome })

/-- CALIBRATION_RUN (R468): every requested run includes item [0]. -/
def execCalibrationRun (o : Origin) (s : State) : Host.Outcome State Fault Refusal :=
  .next (runOnce 0x0A01 o s calibrationRunBudget
    calibrationRunChecks
    (fun s c => startRun s (setBit (c.u 0 2) 0) false (some o)))

/-- The checks of opcode 0x0606 beyond the common ones (R18). The limits configure both detectors: it is a request to configure a
fused source once both are fused (R5). A fused TD-B gives no present reading. DEDUCED, log 59. -/
def tamperLimitsSetChecks : State → Ctx → Checks :=
    (fun s c =>
      let lo := toSigned (c.u 0 1) 8
      let hi := toSigned (c.u 1 1) 8
      { refused := if sourceFused s 4 && sourceFused s 5 then some 0x03 else none
        badParameter := decide (lo < -45) || decide (130 < hi) || decide (hi < lo + 20)
          || (!sourceFused s 5 && (decide (s.vault.tdB < 2 * lo) || decide (2 * hi < s.vault.tdB))) })

/-- TAMPER_LIMITS_SET (R367): TD-B applies the limits at once, TD-A's codes follow with items [0] and [4]. -/
def execTamperLimitsSet (o : Origin) (s : State) : Host.Outcome State Fault Refusal :=
  .next (runOp 0x0606 o s (fixed .management)
    tamperLimitsSetChecks
    (fun s c =>
      let lo := toSigned (c.u 0 1) 8
      let hi := toSigned (c.u 1 1) 8
      let s := setVault s (fun v => { v with low := lo, high := hi, nvLow := lo, nvHigh := hi })
      startRun (finish s c { status := .ok }) 0x11 true none))

end Sys2Proof.Machine
end

