-- ==== Sys2Proof/Machine/Parse.lean ====
section
/-! DEFINITION. The parser of the classifier: headers, parse failures, payload patterns and keys (R298–R302). -/

namespace Sys2Proof.Machine

open Sys2Proof

/-- A header found in a frame: type code, offset and length. -/
structure Header where
  kind : Nat
  off : Nat
  len : Nat
  deriving DecidableEq, Repr

/-- What stands next in a frame. -/
inductive Next where
  | ethernet | etherType (t : Nat) | label | nibble
  /-- A protocol or next-header value, over IPv6 or not, in a first fragment or not. -/
  | proto (v6 : Bool) (p : Nat) (fragment : Bool)
  | vxlan | geneve | stop
  deriving DecidableEq, Repr

/-- The outcome of parsing: headers outermost first, where payload starts, and the cause of a parse failure, or 0. -/
structure Parsed where
  headers : List Header
  payload : Nat
  cause : Nat
  deriving DecidableEq, Repr

def be16 (f : List Byte) (o : Nat) : Nat := beNat (slice f o 2)

/-- Why a header of `len` bytes, of which `least` carry its length, cannot be taken, or 0 (R300). -/
def headerFault (c : ClsPort) (f : List Byte) (count off least len : Nat) : Nat :=
  if c.headerLimit ≤ count then 2
  else if f.length < off + least then 1
  else if f.length < off + len then 1
  else if c.byteLimit < off + len then 2
  else 0

/-- The one's complement sum of an IPv4 header is all ones. -/
def ip4SumOk (f : List Byte) (off len : Nat) : Bool :=
  let sum := ((List.range (len / 2)).map (fun i => be16 f (off + 2 * i))).sum
  sum != 0 && sum % 65535 == 0

/-- IPv4: IHL, checksum, total length (R300 cause 0x03), and what follows. -/
def ip4Header (c : ClsPort) (f : List Byte) (count off : Nat) : Nat × Nat × Next :=
  let len := 4 * (field f off 1 % 16)
  let early := headerFault c f count off 20 20
  let flags := be16 f (off + 6)
  let offset := flags % 8192
  let more := bit flags 13
  let p := field f (off + 9) 1
  if early != 0 then (early, 0, .stop)
  else if len < 20 then (3, 0, .stop)
  else
    let late := headerFault c f count off 20 len
    if late != 0 then (late, 0, .stop)
    else if !ip4SumOk f off len || decide (f.length < off + be16 f (off + 2)) then (3, 0, .stop)
    else if (offset != 0 || more) && p == 50 then (5, 0, .stop)
    else if offset != 0 then (0, len, .stop)
    else (0, len, .proto false p more)

/-- An IPv6 extension header (R298): a non-first fragment ends parsing. -/
def ip6Extension (c : ClsPort) (f : List Byte) (count off kind : Nat) (fragment : Bool) : Nat × Nat × Next :=
  let len := if kind = 44 then 8 else 8 * (field f (off + 1) 1 + 1)
  let fault := headerFault c f count off 8 len
  let nh := field f off 1
  let frag := be16 f (off + 2)
  if fault != 0 then (fault, 0, .stop)
  else if kind == 44 then
    if (frag / 8 != 0 || bit frag 0) && nh == 50 then (5, 0, .stop)
    else if frag / 8 != 0 then (0, len, .stop)
    else (0, len, .proto true nh (fragment || bit frag 0))
  else (0, len, .proto true nh fragment)

/-- A header of fixed or given length. -/
def plainHeader (c : ClsPort) (f : List Byte) (count off least len : Nat) (next : Next) : Nat × Nat × Next :=
  let fault := headerFault c f count off least len
  if fault != 0 then (fault, 0, .stop) else (0, len, next)

/-- The header that stands next, if its type is recognised (R298): its code, and fault, length and what follows it. -/
def nextHeader (c : ClsPort) (f : List Byte) (count off : Nat) : Next → Option (Nat × Nat × Nat × Next)
  | .ethernet => some (0x01, plainHeader c f count off 14 14 (.etherType (be16 f (off + 12))))
  | .etherType t =>
    if t == 0x8100 || t == 0x88A8 || t == c.tpid then
      some (0x02, plainHeader c f count off 4 4 (.etherType (be16 f (off + 2))))
    else if t == 0x8847 || t == 0x8848 then
      some (0x03, plainHeader c f count off 4 4 (if bit (field f (off + 2) 1) 0 then .nibble else .label))
    else if t == 0x0800 then some (0x04, ip4Header c f count off)
    else if t == 0x86DD then some (0x05, plainHeader c f count off 40 40 (.proto true (field f (off + 6) 1) false))
    else none
  | .label => some (0x03, plainHeader c f count off 4 4 (if bit (field f (off + 2) 1) 0 then .nibble else .label))
  | .nibble =>
    if f.length ≤ off then none
    else if field f off 1 / 16 == 4 then some (0x04, ip4Header c f count off)
    else if field f off 1 / 16 == 6 then
      some (0x05, plainHeader c f count off 40 40 (.proto true (field f (off + 6) 1) false))
    else none
  | .proto v6 p fragment =>
    if v6 && (p == 0 || p == 43 || p == 44 || p == 60) then some (0x06, ip6Extension c f count off p fragment)
    else if p == 17 then
      let port := be16 f (off + 2)
      some (0x07, plainHeader c f count off 8 8 (if port == c.vxlan then .vxlan else if port == c.geneve then .geneve else .stop))
    else if p == 6 then some (0x08, plainHeader c f count off 20 (max 20 (4 * (field f (off + 12) 1 / 16))) .stop)
    else if p == 50 then
      if fragment then some (0x0B, 5, 0, .stop) else some (0x0B, plainHeader c f count off 8 8 .stop)
    else none
  | .vxlan => some (0x09, plainHeader c f count off 8 8 .ethernet)
  | .geneve =>
    some (0x0A, plainHeader c f count off 8 (8 + 4 * (field f off 1 % 64))
      (if be16 f (off + 2) == 0x6558 then .ethernet else .stop))
  | .stop => none

/-- The IPv6 payload length reaches beyond the frame (R300 cause 0x04). -/
def ip6Short (f : List Byte) (kind off : Nat) : Bool :=
  kind == 0x05 && decide (f.length < off + 40 + be16 f (off + 4))

/-- Headers one after another; at most 16 fit the header limit. -/
def parseFuel (c : ClsPort) (f : List Byte) : Nat → List Header → Nat → Next → Parsed
  | 0, hs, off, _ => ⟨hs.reverse, off, 0⟩
  | n + 1, hs, off, next =>
    match nextHeader c f hs.length off next with
    | none => ⟨hs.reverse, off, 0⟩
    | some (kind, fault, len, rest) =>
      if fault != 0 then ⟨hs.reverse, off, fault⟩
      else if ip6Short f kind off then ⟨hs.reverse, off, 4⟩
      else parseFuel c f n (⟨kind, off, len⟩ :: hs) (off + len) rest

def parse (c : ClsPort) (f : List Byte) : Parsed := parseFuel c f 17 [] 0 .ethernet

/-- A pattern matches at a start offset of the payload (R301). -/
def patternAt (p : Pattern) (payload : List Byte) (o : Nat) : Bool :=
  decide (o + p.length ≤ min 1024 payload.length)
    && (List.range p.length).all (fun i => (payload.getD (o + i) 0 &&& p.mask.getD i 0) == (p.value.getD i 0 &&& p.mask.getD i 0))

def patternMatches (p : Pattern) (payload : List Byte) : Bool :=
  p.enabled && (List.range (p.last + 1 - p.first)).any (fun i => patternAt p payload (p.first + i))

/-- The pattern index (R301): the lowest matching pattern, or 0xFF. -/
def patternIndex (c : ClsPort) (payload : List Byte) : Nat :=
  ((c.patterns.find? (fun e => patternMatches e.2 payload)).map (fun e => e.1)).getD 0xFF

/-- The mask of header types present. -/
def presentMask (hs : List Header) : Nat := (List.range 32).foldl (fun m i => if hs.any (fun h => h.kind == i) then setBit m i else m) 0

/-- A profile needs the extension stage (R316). -/
def needsStage (p : Profile) : Bool :=
  p.required / 65536 != 0 || p.absent / 65536 != 0
    || p.extracts.any (fun e => e.1 == 0xFF || (decide (0x10 ≤ e.1) && decide (e.1 ≤ 0x1F)))

/-- A profile fits the headers present (R302). -/
def profileFits (p : Profile) (mask : Nat) (stage : Bool) : Bool :=
  let top := if stage then 4294967296 else 65536
  p.enabled && (p.required % top) &&& mask == p.required % top && (p.absent % top) &&& mask == 0

def selectProfile (c : ClsPort) (mask : Nat) (stage : Bool) : Option (Nat × Profile) :=
  c.profiles.find? (fun e => profileFits e.2 mask stage)

/-- One extract (R302): absent or out of reach, it contributes zeros. -/
def extract (f : List Byte) (hs : List Header) (pattern : Nat) (fields : List Byte) (e : Nat × Nat × Nat × Nat) : List Byte :=
  if e.1 = 0xFE then leBytes 1 pattern
  else if e.1 = 0xFF then slice fields e.2.2.1 e.2.2.2
  else
    let same := hs.filter (fun h => h.kind == e.1)
    let h := if e.2.1 = 15 then same.getLast? else same[e.2.1]?
    match h with
    | none => List.replicate e.2.2.2 0
    | some h => if h.len < e.2.2.1 + e.2.2.2 then List.replicate e.2.2.2 0 else slice f (h.off + e.2.2.1) e.2.2.2

/-- Bytes an extract contributes to the key. -/
def extractLength (e : Nat × Nat × Nat × Nat) : Nat := if e.1 = 0xFE then 1 else e.2.2.2

def keyLength (p : Profile) : Nat := (p.extracts.map extractLength).sum

def buildKey (p : Profile) (f : List Byte) (hs : List Header) (pattern : Nat) (fields : List Byte) : List Byte :=
  (p.extracts.map (extract f hs pattern fields)).flatten

/-- The innermost Ethernet header, where there is an inner one (R308). -/
def innerEthernet (hs : List Header) : Option Nat :=
  match (hs.filter (fun h => h.kind == 0x01)).reverse with
  | h :: _ :: _ => some h.off
  | _ => none

end Sys2Proof.Machine
end

