-- ==== Sys2Proof/Machine/Classify.lean ====
section
/-! DEFINITION. The exact-match tables, classification, reorder and delivery of received frames, and the classifier's
commands (R296–R325, R483). -/

namespace Sys2Proof.Machine

open Sys2Proof

def setCls (s : State) (f : Classifier → Classifier) : State := { s with cls := f s.cls }

def clsPort (s : State) (j : Nat) : ClsPort := Tbl.getD s.cls.ports j ClsPort.init

def setClsPort (s : State) (j : Nat) (f : ClsPort → ClsPort) : State :=
  setCls s (fun c => { c with ports := Tbl.modify c.ports j ClsPort.init f })

/-! ### Exact-match tables (R303–R307) -/

def slotNo (table choice bucket slot : Nat) : Nat := (table * 4 + choice) * 65536 + bucket * 4 + slot

/-- Candidate bucket `choice` of a key (R303). -/
def candidate (s : State) (table profile : Nat) (key : List Byte) (choice : Nat) : Nat :=
  let seed := match s.cls.seeds[table]? with
    | some i => Config.freeNat i
    | none => 0
  ((crc32c (leBytes 1 choice ++ leBytes 1 profile ++ leBytes 1 key.length ++ key)).toNat ^^^ (seed % 4294967296)) % 16384

/-- The 16 slots a key may stand in, in choice and slot order. -/
def candidateSlots (s : State) (table profile : Nat) (key : List Byte) : List Nat :=
  ((List.range 4).map (fun c =>
    let b := candidate s table profile key c
    (List.range 4).map (fun i => slotNo table c b i))).flatten

/-- The slot and action of a key among some entries; the lower choice first (R305). -/
def lookup (s : State) (es : Tbl Entry) (table profile : Nat) (key : List Byte) : Option (Nat × List Byte) :=
  ((candidateSlots s table profile key).filterMap (fun n => match Tbl.get? es n with
    | some e => if e.profile == profile && e.key == key then some (n, e.action) else none
    | none => none)).head?

/-- Where the shadow holds a key: it also holds the entries being reinserted (R307, R322). -/
def shadowAt (s : State) (table profile : Nat) (key : List Byte) : Option Nat :=
  (s.cls.shadow.find? (fun e => e.1 / 262144 == table && e.2.profile == profile && e.2.key == key)).map (fun e => e.1)

def slotFree (s : State) (n : Nat) : Bool := (Tbl.get? s.cls.entries n).isNone && !s.cls.retired.contains n

/-- The other slots an entry at a slot may move to. -/
def otherSlots (s : State) (n : Nat) : List Nat :=
  match Tbl.get? s.cls.entries n with
  | none => []
  | some e => (candidateSlots s (n / 262144) e.profile e.key).filter (fun m => m / 65536 != n / 65536)

/-- Breadth-first search for a chain of moves (R306): paths lead from a candidate slot of the new key to a free slot, last
slot first. -/
def chainFuel (s : State) : Nat → List (List Nat) → Option (List Nat)
  | 0, _ => none
  | f + 1, paths =>
    let next := (paths.map (fun p => match p with
      | [] => []
      | n :: _ => ((otherSlots s n).filter (fun m => !p.contains m)).map (fun m => m :: p))).flatten
    match next.find? (fun p => match p with
      | [] => false
      | n :: _ => slotFree s n) with
    | some p => some p
    | none => chainFuel s f next

/-- Each move writes the new copy before it invalidates the old one. -/
def moveChain (es : Tbl Entry) : List Nat → Tbl Entry
  | n :: m :: rest =>
    match Tbl.get? es m with
    | none => moveChain es (m :: rest)
    | some e => moveChain (Tbl.erase (Tbl.set es n e) m) (m :: rest)
  | _ => es

/-- An insert (R306): the slot taken and the tables after it, or none when no chain of at most 4 moves exists. -/
def insertEntry (s : State) (table : Nat) (e : Entry) : Option (Nat × State) :=
  let cs := candidateSlots s table e.profile e.key
  let put := fun (s : State) (n : Nat) => setCls s (fun c => { c with
    entries := Tbl.set c.entries n e, shadow := Tbl.set c.shadow n e })
  match cs.find? (slotFree s) with
  | some n => some (n, put s n)
  | none =>
    match chainFuel s 4 ((cs.filter (fun n => (Tbl.get? s.cls.entries n).isSome)).map (fun n => [n])) with
    | none => none
    | some p =>
      let n := p.getLast?.getD 0
      let s := setCls s (fun c => { c with entries := moveChain c.entries p, shadow := moveChain c.shadow p })
      some (n, put s n)

/-- The 16 bytes of an action are one the layout allows (R308). -/
def actionOk (a : List Byte) : Bool :=
  let kind := field a 0 1
  let dest := field a 2 1
  let ring := field a 3 1
  decide (kind ≤ 4) && decide (field a 1 1 ≤ 3)
    && decide (dest < (if kind = 1 then 32 else if kind = 2 then 8 else if kind = 3 then 2 else 1))
    && decide (ring < (if kind = 1 ∨ kind = 4 then 8 else 1))
    && decide (field a 4 2 < 4096) && decide (field a 6 1 ≤ 2) && field a 7 1 == 0 && decide (field a 8 4 < 8192)

/-- A key of an entry request. -/
def entryKey (c : Ctx) (off : Nat) : List Byte := slice c.body off (c.u 2 1)

/-- Table, profile and key length of an entry request (R476). -/
def entryFields (c : Ctx) (off : Nat) : Bool :=
  decide (3 < c.u 0 1) || decide (15 < c.u 1 1) || c.dirty 3 1 || c.u 2 1 == 0 || decide (64 < c.u 2 1)
    || c.len != off + c.u 2 1

def entryInsertChecks (s : State) (c : Ctx) : Checks :=
  { badParameter := entryFields c 20 || !actionOk (slice c.body 4 16)
      || (shadowAt s (c.u 0 1) (c.u 1 1) (entryKey c 20)).isSome
    busy := (insertEntry s (c.u 0 1) ⟨c.u 1 1, entryKey c 20, slice c.body 4 16⟩).isNone }

def entryInsertEffect (s : State) (c : Ctx) : State :=
  match insertEntry s (c.u 0 1) ⟨c.u 1 1, entryKey c 20, slice c.body 4 16⟩ with
  | none => finish s c { status := .busy }
  | some (n, s) => finish s c { status := .ok, result := leBytes 1 (n / 65536 % 4) }

/-- ENTRY_INSERT (R306). -/
def execEntryInsert (o : Origin) (s : State) : Host.Outcome State Fault Refusal :=
  .next (runOp 0x0301 o s (fixed .immediate) entryInsertChecks entryInsertEffect)

def entryUpdateEffect (s : State) (c : Ctx) : State :=
  match shadowAt s (c.u 0 1) (c.u 1 1) (entryKey c 20) with
  | none => s
  | some n =>
    let f := fun (e : Entry) => { e with action := slice c.body 4 16 }
    let s := setCls s (fun x => { x with
      entries := Tbl.mapAll x.entries (fun k e => if k = n then f e else e)
      shadow := Tbl.mapAll x.shadow (fun k e => if k = n then f e else e) })
    finish s c { status := .ok }

/-- The checks of opcode 0x0302 beyond the common ones (R18). -/
def entryUpdateChecks : State → Ctx → Checks :=
                                             (fun s c =>
    { badParameter := entryFields c 20 || !actionOk (slice c.body 4 16)
        || (shadowAt s (c.u 0 1) (c.u 1 1) (entryKey c 20)).isNone })

/-- ENTRY_UPDATE (R306). -/
def execEntryUpdate (o : Origin) (s : State) : Host.Outcome State Fault Refusal :=
  .next (runOp 0x0302 o s (fixed .immediate) entryUpdateChecks entryUpdateEffect)

def entryDeleteEffect (s : State) (c : Ctx) : State :=
  match shadowAt s (c.u 0 1) (c.u 1 1) (entryKey c 4) with
  | none => s
  | some n => finish (setCls s (fun x => { x with entries := Tbl.erase x.entries n, shadow := Tbl.erase x.shadow n })) c
      { status := .ok }

def entryAbsent (s : State) (c : Ctx) : Checks :=
  { badParameter := entryFields c 4 || (shadowAt s (c.u 0 1) (c.u 1 1) (entryKey c 4)).isNone }

/-- ENTRY_DELETE (R306). -/
def execEntryDelete (o : Origin) (s : State) : Host.Outcome State Fault Refusal :=
  .next (runOp 0x0303 o s (fixed .immediate) entryAbsent entryDeleteEffect)

def entryLookupEffect (s : State) (c : Ctx) : State :=
  match shadowAt s (c.u 0 1) (c.u 1 1) (entryKey c 4) with
  | none => s
  | some n =>
    let a := ((Tbl.get? s.cls.shadow n).map (fun e => e.action)).getD []
    finish s c { status := .ok, result := slice a 0 16 ++ leBytes 1 (n / 65536 % 4) }

/-- ENTRY_LOOKUP (R305). -/
def execEntryLookup (o : Origin) (s : State) : Host.Outcome State Fault Refusal :=
  .next (runOp 0x0304 o s (fixed .immediate) entryAbsent entryLookupEffect)

/-! ### Port settings (R299, R301, R302, R309) -/

def extractAt (c : Ctx) (i : Nat) : Nat × Nat × Nat × Nat :=
  (c.u (16 + 4 * i) 1, c.u (17 + 4 * i) 1, c.u (18 + 4 * i) 1, c.u (19 + 4 * i) 1)

/-- An extract is one R302 allows. -/
def extractOk (e : Nat × Nat × Nat × Nat) : Bool :=
  if e.1 = 0xFE then true
  else decide (1 ≤ e.2.2.2) && decide (e.2.2.2 ≤ 16)
    && (e.1 == 0xFF || (decide (1 ≤ e.1) && decide (e.1 ≤ 0x1F) && decide (e.2.1 ≤ 15)))

def profileOf (c : Ctx) : Profile :=
  ⟨bit (c.u 2 1) 0, c.u 3 1, c.u 4 4, c.u 8 4, (List.range (c.u 12 1)).map (extractAt c)⟩

/-- The stage a port's profiles may need is loaded (R325). -/
def stageLoaded (s : State) (j : Nat) : Bool := bit s.boot.stages j

def profileOk (p : Profile) : Bool :=
  decide (p.table ≤ 3) && decide (1 ≤ p.extracts.length) && decide (p.extracts.length ≤ 16) && p.extracts.all extractOk
    && decide (1 ≤ keyLength p) && decide (keyLength p ≤ 64)

def profileSetChecks (s : State) (c : Ctx) : Checks :=
  { badParameter := decide (1 < c.u 0 1) || decide (15 < c.u 1 1) || decide (1 < c.u 2 1) || c.dirty 13 3
      || !profileOk (profileOf c) || (needsStage (profileOf c) && !stageLoaded s (c.u 0 1)) }

def profileSetEffect (s : State) (c : Ctx) : State :=
  finish (setClsPort s (c.u 0 1) (fun q => { q with profiles := Tbl.set q.profiles (c.u 1 1) (profileOf c) })) c { status := .ok }

/-- PROFILE_SET (R302). -/
def execProfileSet (o : Origin) (s : State) : Host.Outcome State Fault Refusal :=
  .next (runOp 0x0305 o s (fixed .immediate) profileSetChecks profileSetEffect)

def patternSetChecks (_ : State) (c : Ctx) : Checks :=
  { badParameter := decide (1 < c.u 0 1) || decide (127 < c.u 1 1) || c.u 2 1 == 0 || decide (32 < c.u 2 1)
      || decide (1 < c.u 3 1) || decide (c.u 6 2 < c.u 4 2) || decide (1023 < c.u 6 2)
      || decide (1024 < c.u 6 2 + c.u 2 1) }

def patternSetEffect (s : State) (c : Ctx) : State :=
  let p : Pattern := ⟨bit (c.u 3 1) 0, c.u 2 1, c.u 4 2, c.u 6 2, slice c.body 8 32, slice c.body 40 32⟩
  finish (setClsPort s (c.u 0 1) (fun q => { q with patterns := Tbl.set q.patterns (c.u 1 1) p })) c { status := .ok }

/-- PATTERN_SET (R301). -/
def execPatternSet (o : Origin) (s : State) : Host.Outcome State Fault Refusal :=
  .next (runOp 0x0306 o s (fixed .immediate) patternSetChecks patternSetEffect)

def parseLimitsChecks (_ : State) (c : Ctx) : Checks :=
  { badParameter := decide (1 < c.u 0 1) || c.u 1 1 == 0 || decide (16 < c.u 1 1) || decide (c.u 2 2 < 64)
      || decide (512 < c.u 2 2) }

def parseLimitsEffect (s : State) (c : Ctx) : State :=
  finish (setClsPort s (c.u 0 1) (fun q => { q with
    headerLimit := c.u 1 1, byteLimit := c.u 2 2, tpid := c.u 4 2, vxlan := c.u 6 2, geneve := c.u 8 2 })) c
    { status := .ok }

/-- PARSE_LIMITS_SET (R299). -/
def execParseLimitsSet (o : Origin) (s : State) : Host.Outcome State Fault Refusal :=
  .next (runOp 0x0307 o s (fixed .immediate) parseLimitsChecks parseLimitsEffect)

def defaultActionChecks (_ : State) (c : Ctx) : Checks :=
  { badParameter := decide (1 < c.u 0 1) || decide (1 < c.u 1 1) || c.dirty 2 2 || !actionOk (slice c.body 4 16) }

def defaultActionEffect (s : State) (c : Ctx) : State :=
  finish (setClsPort s (c.u 0 1) (fun q =>
    if c.u 1 1 = 0 then { q with miss := slice c.body 4 16 } else { q with failure := slice c.body 4 16 })) c
    { status := .ok }

/-- DEFAULT_ACTION_SET (R309). -/
def execDefaultActionSet (o : Origin) (s : State) : Host.Outcome State Fault Refusal :=
  .next (runOp 0x0308 o s (fixed .immediate) defaultActionChecks defaultActionEffect)

/-! ### Receive rings (R483) -/

def rxRing (s : State) (p r : Nat) : RxRing := Tbl.getD (part s p).rings r ⟨0, 0, 0, 0, []⟩

def setRing (s : State) (p r : Nat) (x : Option RxRing) : State :=
  setPart s p (fun q => match x with
    | none => { q with rings := Tbl.erase q.rings r }
    | some x => { q with rings := Tbl.set q.rings r x })

def receiveRingSetChecks (s : State) (c : Ctx) : Checks :=
  { badParameter := decide (7 < c.u 0 1) || c.dirty 2 6
      || (c.u 1 1 != 0 && (decide (c.u 1 1 < 6) || decide (16 < c.u 1 1) || c.u 8 8 % 4096 != 0))
    busy := (rxRing s c.p (c.u 0 1)).log2 != 0 && c.u 1 1 != 0 }

/-- RECEIVE_RING_SET (R483). -/
def execReceiveRingSet (o : Origin) (s : State) : Host.Outcome State Fault Refusal :=
  .next (runOp 0x0309 o s (fixed .control) receiveRingSetChecks (fun s c =>
    finish (setRing s c.p (c.u 0 1) (if c.u 1 1 = 0 then none else some ⟨c.u 1 1, c.u 8 8, 0, 0, []⟩)) c
      { status := .ok }))

/-- Descriptors newly posted by a tail index. -/
def posting (r : RxRing) (tail : Nat) : Nat := (tail + 2 ^ r.log2 - r.tail) % 2 ^ r.log2

/-- The tail is an index of the ring and does not overtake the N48's own: at most one less than the entries stay posted. -/
def receiveRingPostChecks (s : State) (c : Ctx) : Checks :=
  let r := rxRing s c.p (c.u 0 1)
  { badParameter := decide (7 < c.u 0 1) || c.dirty 1 3 || r.log2 == 0 || decide (2 ^ r.log2 ≤ c.u 4 4)
      || decide (2 ^ r.log2 ≤ r.posted.length + posting r (c.u 4 4)) }

/-- Each posted descriptor's buffer address and length, as the host's memory holds them. -/
def receiveRingPostEffect (descs : List (List Byte)) (s : State) (c : Ctx) : State :=
  let r := rxRing s c.p (c.u 0 1)
  let new := (List.range (posting r (c.u 4 4))).map (fun i => (field (descs.getD i []) 0 8, field (descs.getD i []) 8 4))
  finish (setRing s c.p (c.u 0 1) (some { r with tail := c.u 4 4, posted := r.posted ++ new })) c { status := .ok }

/-- RECEIVE_RING_POST (R483). -/
def execReceiveRingPost (o : Origin) (descs : List (List Byte)) (s : State) : Host.Outcome State Fault Refusal :=
  .next (runOp 0x030A o s (fixed .immediate) receiveRingPostChecks (receiveRingPostEffect descs))

/-! ### Classification (R297–R302, R305, R309, R320) -/

/-- The action of a failed parse or a miss. -/
def defaultVerdict (q : ClsPort) (failed : Bool) (cause profile pattern payload extra : Nat) (inner esp : Option Nat) :
    Verdict :=
  ⟨if failed then q.failure else q.miss, false, (if failed then 4 else 8) + extra, profile, pattern, cause, payload, inner, esp⟩

/-- The extension stage serves its port: loaded and not fenced. -/
def stageServes (s : State) (j : Nat) : Bool := stageLoaded s j && !isFenced s 0x0E (16 + j)

/-- What a frame's classification finds: a verdict, or the slot under repair its lookup must wait for (R322). -/
inductive Found where
  | verdict (v : Verdict)
  | parked (slot : Nat)
  deriving DecidableEq, Repr

def classify (s : State) (j : Nat) (f : List Byte) (ext : Extension) : Found :=
  let q := clsPort s j
  let r := parse q f
  let stage := stageServes s j
  let hs := r.headers ++ (if stage then ext.headers.map (fun h => ⟨h.1, h.2.1, h.2.2⟩) else [])
  let payload := f.drop r.payload
  let pattern := patternIndex q payload
  let esp := (r.headers.find? (fun h => h.kind == 0x0B)).map (fun h => h.off)
  let inner := innerEthernet r.headers
  let matched := if pattern = 0xFF then 0 else 16
  if r.cause != 0 then .verdict (defaultVerdict q true r.cause 0xFF pattern r.payload matched inner esp)
  else
    match selectProfile q (presentMask hs) stage with
    | none => .verdict (defaultVerdict q false 0 0xFF pattern r.payload matched inner esp)
    | some (i, p) =>
      let needs := needsStage p
      let used := matched + (if needs && stage then 32 else 0)
      if needs && isFenced s 0x0E (16 + j) then .verdict (defaultVerdict q true 7 i pattern r.payload used inner esp)
      else if needs && stage && ext.malformed then .verdict (defaultVerdict q true 6 i pattern r.payload used inner esp)
      else
        let key := buildKey p f hs pattern (if stage then ext.fields else [])
        let cs := candidateSlots s p.table i key
        match s.cls.repairing.find? (fun n => cs.any (fun m => m / 4 == n / 4)) with
        | some n => .parked n
        | none =>
          match lookup s s.cls.entries p.table i key with
          | none => .verdict (defaultVerdict q false 0 i pattern r.payload used inner esp)
          | some (_, a) => .verdict ⟨a, true, used, i, pattern, 0, r.payload, inner, esp⟩

/-- The slot a frame's lookup hits. -/
def hitSlot (s : State) (j : Nat) (f : List Byte) (ext : Extension) : Option Nat :=
  let q := clsPort s j
  let r := parse q f
  let stage := stageServes s j
  let hs := r.headers ++ (if stage then ext.headers.map (fun h => ⟨h.1, h.2.1, h.2.2⟩) else [])
  match selectProfile q (presentMask hs) stage with
  | none => none
  | some (i, p) =>
    (lookup s s.cls.entries p.table i (buildKey p f hs (patternIndex q (f.drop r.payload)) (if stage then ext.fields else []))).map
      (fun x => x.1)

/-! ### Delivery (R308–R312, R315) -/

/-- The frame record (R310). -/
def frameRecord (j sequence gap flags len time : Nat) (v : Verdict) : List Byte :=
  [1] ++ leBytes 1 j ++ leBytes 2 flags ++ leBytes 2 len ++ leBytes 2 (min 65535 gap) ++ leBytes 4 sequence
    ++ leBytes 1 v.profile ++ leBytes 1 v.pattern ++ leBytes 1 v.cause ++ [0] ++ leBytes 8 time ++ slice v.action 12 4
    ++ [0, 0, 0, 0]

/-- A frame dropped at release, by cause (R312, R319, R324): 0 partner port out of Run, 1 network link down, 2 partition not
Active, 3 ring full. -/
def dropAtRelease (s : State) (j cause : Nat) : State :=
  let s := bump s 0x0907 (j * 256 + cause) 32
  let ms := mainTime s / 1000000
  if Tbl.get? (clsPort s j).dropTold cause == some ms then s
  else
    raiseAdmin (setClsPort s j (fun q => { q with dropTold := Tbl.set q.dropTold cause ms })) 0x0306 false 0
      (j + 256 * cause + 4294967296)

/-- Record and frame written into the next posted descriptor's buffer, then its completion (R483), which
keeps its place behind the data (R276). -/
def deliverRing (s : State) (j p r : Nat) (bytes : List Byte) : State :=
  let q := part s p
  let ring := rxRing s p r
  if q.state != .active then dropAtRelease s j 2
  else match ring.posted with
    | [] => dropAtRelease s j 3
    | (addr, len) :: rest =>
      let bs := bytes.take len
      let s := send s [.hostWrite q.port q.fn (relaxedFor s p) addr bs,
        .hostWrite q.port q.fn false (ring.base + 16 * ring.head + 12) (leBytes 4 (bs.length % 65536 + 2147483648))]
      setRing s p r (some { ring with head := (ring.head + 1) % 2 ^ ring.log2, posted := rest })

/-- The parcels of a frame that network port `j` received for a partner, in a frame convoy or outside one; their source is that port
(R61). The spec names no partition for them: the model writes partition 0. DESIGN CHOICE, log 48. -/
def sendParcels (s : State) (j n tag : Nat) (convoy : Option Nat) (bytes : List Byte) : State :=
  let parts := chunks 256 bytes
  (List.range parts.length).foldl (fun s i =>
    sendBulkFrom (0x3B + j) s n 0x06 0 convoy 0 (4294967296 * tag + 256 * i) (i + 1 == parts.length) (parts.getD i [])) s

/-- A free frame convoy number of a port (R74, R81). -/
def freeFrameConvoy (s : State) (j : Nat) : Option Nat :=
  ((List.range 32).map (fun i => 192 + 32 * j + i)).find? (fun n =>
    (convoy s n).state == .free && !s.memory.sweeps.any (fun w => w.convoy == n && w.generation == !(convoy s n).generation))

/-- A frame forwarded to a partner port (R81, R311): an entry hit, a span-capable partner, not late, and a free number give
it a frame convoy; the rest is store-and-forward. -/
def deliverPartner (s : State) (j n tag size : Nat) (hit late : Bool) (body : Nat → List Byte) : State :=
  if !inRun s n then releaseBuffer (dropAtRelease s j 0) j size
  else if hit && spanCapable s n && !late then
    match freeFrameConvoy s j with
    | some m =>
      let s := openConvoy s m 0 none
      let s := sendParcels s j n tag (some m) (body 0)
      let s := setClsPort s j (fun q => { q with riding := Tbl.set q.riding m ⟨n, body 0, tag, size⟩ })
      sealConvoy s m
    | none => releaseBuffer (sendParcels (bump s 0x0203 j 32) j n tag none (body 128)) j size
  else releaseBuffer (sendParcels s j n tag none (body 128)) j size

/-- The frame in clear where its action asks for ESP decryption (R287, R308). -/
def decryptFrame (s : State) (j : Nat) (f : List Byte) (v : Verdict) : Option (List Byte × State) :=
  let i := field v.action 8 4 % 8192
  match Tbl.get? (netAt s j).espIn i, cipherEngine s with
  | some sa, some e =>
    match espOpen s sa f (ipStart f) (v.esp.getD v.payload) with
    | none => none
    | some (g, sa') =>
      let s := countBlocks s e (ceilDiv (f.length - v.payload) 16 + 1)
      some (g, setNet s j (fun n => { n with espIn := Tbl.set n.espIn i sa' }))
  | _, _ => none

/-- A frame leaves reorder and takes its action. -/
def deliverFrame (s : State) (j key : Nat) (fr : RxFrame) (v : Verdict) (late : Bool) (gap : Nat) : State :=
  let a := v.action
  let kind := field a 0 1
  let s := if bit (field a 1 1) 1 then
      bumpBy (bump s 0x0900 (j * 4096 + field a 4 2 % 4096) 48) 0x0901 (j * 4096 + field a 4 2 % 4096) 64 fr.bytes.length
    else s
  let esp := bit (field a 1 1) 0
  let size := fr.bytes.length
  match (if esp then decryptFrame s j fr.bytes v else some (fr.bytes, s)) with
  | none => releaseBuffer (dropFrame s j 5) j size
  | some (f, s) =>
    let start := if field a 6 1 = 1 then v.payload else if field a 6 1 = 2 then v.inner.getD 0 else 0
    let cut := f.drop start
    let flags := v.flags + b2n (gap != 0) + 2 * b2n late + 64 * b2n esp
    let body := fun extra => frameRecord j (key % 4294967296) gap (flags + extra) cut.length fr.time v ++ cut
    if kind = 1 then releaseBuffer (deliverRing s j (field a 2 1 % 32) (field a 3 1 % 8) (body 128)) j size
    else if kind = 4 then releaseBuffer (deliverRing s j 0 (field a 3 1 % 8) (body 128)) j size
    else if kind = 2 then deliverPartner s j (field a 2 1 % 8) (field a 12 4) size v.hit late body
    else if kind = 3 then
      let k := field a 2 1 % 2
      releaseBuffer (if (netAt s k).linkUp then gateFrame s k 1024 cut else dropAtRelease s j 1) j size
    else releaseBuffer s j size

/-! ### Reorder (R313–R315) -/

/-- A frame takes an entry of its port's reorder buffer, and leaves it (R45, R48). -/
def takeReorder (s : State) (j : Nat) : State := if (queueAt s 7 j).granted then takeCredit s 7 j else s

def leaveReorder (s : State) (j k : Nat) : State :=
  let s := setClsPort s j (fun q => { q with frames := Tbl.erase q.frames k })
  if (queueAt s 7 j).granted then freeEntries s 7 j 1 else s

/-- The parcels of a received frame cross from KN into KC (R41, R45, R48). -/
def crossFrame (s : State) (j len : Nat) : State := (List.range (ceilDiv len 256)).foldl (fun s _ => crossQueue s 6 j) s

/-- Frames are released in port order up to the first that is unresolved. -/
def releaseFuel : Nat → State → Nat → State
  | 0, s, _ => s
  | f + 1, s, j =>
    let q := clsPort s j
    match q.frames.find? (fun e => !e.2.skipped) with
    | none => s
    | some (k, fr) =>
      match fr.verdict with
      | none => s
      | some v =>
        let s := setClsPort (leaveReorder s j k) j (fun q => { q with gap := 0 })
        releaseFuel f (deliverFrame s j k fr v false q.gap) j

/-- The frame the release timer waits for: the oldest unresolved one, with a resolved one behind it. -/
def blocked (q : ClsPort) : Option Nat :=
  match q.frames.find? (fun e => !e.2.skipped) with
  | none => none
  | some (k, fr) => if fr.verdict.isNone && q.frames.any (fun e => !e.2.skipped && e.2.verdict.isSome) then some k else none

/-- Release, and the release timer after it (R314). -/
def release (s : State) (j : Nat) : State :=
  let before := blocked (clsPort s j)
  let s := releaseFuel ((clsPort s j).frames.length + 1) s j
  let after := blocked (clsPort s j)
  let timer := if after.isNone then none
    else if before == after && (clsPort s j).timer.isSome then (clsPort s j).timer else some s.now
  setClsPort s j (fun q => { q with timer := timer })

/-- A frame resolves (R313, R315). -/
def resolve (s : State) (j k : Nat) (fr : RxFrame) (v : Verdict) : State :=
  let s := if bit v.flags 2 then bump s 0x0902 (j * 256 + v.cause) 32 else s
  let s := if bit v.flags 3 then bump s 0x0903 j 32 else s
  if fr.skipped then
    let s := bump s 0x0906 j 32
    deliverFrame (leaveReorder s j k) j k fr v true 0
  else
    let old := blocked (clsPort s j)
    let s := setClsPort s j (fun q => { q with
      frames := Tbl.set q.frames k { fr with verdict := some v, parked := none }
      timer := if old == some k then none else q.timer })
    release s j

/-- A frame dropped leaves nothing. -/
def dropUnresolved (s : State) (j k : Nat) (fr : RxFrame) : State :=
  release (releaseBuffer (leaveReorder s j k) j fr.bytes.length) j

/-- A classification ends for the oldest frame of a port that its pipeline holds and has not parked. -/
def settle (s : State) (j k : Nat) (fr : RxFrame) (ext : Extension) : State :=
  match classify s j fr.bytes ext with
  | .verdict v => resolve s j k fr v
  | .parked n =>
    let parked := (((List.range 2).map (fun i => ((clsPort s i).frames.filter (fun e =>
      e.2.parked.isSome && e.2.pipeline == fr.pipeline)).length)).sum)
    if parked < 16 then
      setClsPort s j (fun q => { q with frames := Tbl.set q.frames k { fr with parked := some n } })
    else s

/-- A compare mismatch (R320, R321, R323): once more on the same pipeline; a second one fences it, and the frame is dropped,
or fences the extension stage. -/
def compareFault (s : State) (j k : Nat) (fr : RxFrame) (ext : Extension) (stage again : Bool) : State :=
  let index := if stage then 16 + j else fr.pipeline
  let s := bump s 0x0909 fr.pipeline 16
  let s := raiseAdmin s 0x0301 true 0 (fr.pipeline + 16 * b2n (!again) + 32 * b2n stage)
  if !again then settle (transient s 0x0E index) j k fr ext
  else if stage then
    settle (raiseAdmin (lastingFault s 0x0E index) 0x0305 true 0 j) j k fr ext
  else dropUnresolved (raiseAdmin (lastingFault s 0x0E index) 0x0302 true 0 fr.pipeline) j k fr

/-- A slot that fails SEC-DED or its CRC-16 (R321, R322): read again; a second failure retires it, and its bucket is under
repair. -/
def slotFault (s : State) (j k : Nat) (fr : RxFrame) (ext : Extension) (again : Bool) : State :=
  match hitSlot s j fr.bytes ext with
  | none => settle s j k fr ext
  | some n =>
    if !again then settle (transient s 0x0E (18 + n / 262144)) j k fr ext
    else
      let s := bump s 0x0301 0x0E 16
      let s := raiseAdmin s 0x0304 true 0 (n / 262144 + 4 * (n / 65536 % 4) + 16 * (n / 4 % 16384) + 262144 * (n % 4))
      let s := setCls s (fun c => { c with
        entries := Tbl.erase c.entries n, retired := c.retired ++ [n], repairing := c.repairing ++ [n] })
      settle s j k fr ext

def classificationComplete (s : State) (j pipeline : Nat) (ext : Extension) (fault : ClassFault) : State :=
  let s := s.fresh_
  match (clsPort s j).frames.find? (fun e => e.2.pipeline == pipeline && e.2.verdict.isNone && e.2.parked.isNone) with
  | none => s
  | some (k, fr) =>
    match fault with
    | .none => settle s j k fr ext
    | .compare stage again => compareFault s j k fr ext stage again
    | .slot again => slotFault s j k fr ext again

/-- CLASSIFICATION_COMPLETE (R297, R313, R320–R323): the oldest frame of a port that a pipeline works on resolves. -/
def execClassificationComplete (port : Fin 2) (pipeline : Fin 16) (ext : Extension) (fault : ClassFault) (s : State) :
    Host.Outcome State Fault Refusal :=
  .next (classificationComplete s port pipeline ext fault)

/-- Every unresolved frame ahead of the oldest resolved one is skipped (R314). -/
def releaseTimeout (s : State) (j : Nat) : State :=
  let s := s.fresh_
  let q := clsPort s j
  match q.timer, q.frames.find? (fun e => !e.2.skipped && e.2.verdict.isSome) with
  | some t, some (r, _) =>
    let s := advanceTo s (t + 50000)
    let ahead := q.frames.filter (fun e => !e.2.skipped && e.2.verdict.isNone && decide (e.1 < r))
    let first := ((ahead.map (fun e => e.1)).head?).getD r
    let s := bumpBy (bump s 0x0904 j 32) 0x0905 j 32 ahead.length
    let ms := mainTime s / 1000000
    let s := if q.gapTold == some ms then s
      else raiseAdmin s 0x0303 false 0 (j + 65536 + 4294967296 * (first % 4294967296))
    let s := setClsPort s j (fun q => { q with
      frames := Tbl.mapAll q.frames (fun k fr => if fr.verdict.isNone && decide (k < r) then { fr with skipped := true } else fr)
      gap := q.gap + ahead.length
      gapTold := some ms
      timer := none })
    release s j
  | _, _ => s

/-- REORDER_RELEASE_TIMEOUT (R314). -/
def execReorderReleaseTimeout (port : Fin 2) (s : State) : Host.Outcome State Fault Refusal :=
  .next (releaseTimeout s port)

/-- The miss action of a parked frame whose entry is lost (R322). -/
def lostVerdict (q : ClsPort) (f : List Byte) : Verdict :=
  let r := parse q f
  defaultVerdict q false 0 0xFF (patternIndex q (f.drop r.payload)) r.payload 0 (innerEthernet r.headers) none

/-- Parked frames of a repaired slot go on. -/
def resumeParked (s : State) (n : Nat) (ext : Extension) (lost : Bool) : State :=
  [0, 1].foldl (fun s j =>
    ((clsPort s j).frames.filter (fun e => e.2.parked == some n)).foldl (fun s e =>
      if lost then resolve s j e.1 e.2 (lostVerdict (clsPort s j) e.2.bytes)
      else settle s j e.1 { e.2 with parked := none } ext) s) s

/-- The oldest repair ends: the entry is reinserted from the shadow, or lost (R322). -/
def slotRepairEnd (s : State) (ext : Extension) : State :=
  let s := s.fresh_
  match s.cls.repairing with
  | [] => s
  | n :: rest =>
    let lostEntry := Tbl.get? s.cls.shadow n
    let s := setCls s (fun c => { c with repairing := rest, shadow := Tbl.erase c.shadow n })
    match lostEntry with
    | none => resumeParked s n ext false
    | some e =>
      match insertEntry s (n / 262144) e with
      | some (_, s) => resumeParked s n ext false
      | none =>
        let s := raiseAdmin s 0x0304 true 0
          (n / 262144 + 4 * (n / 65536 % 4) + 16 * (n / 4 % 16384) + 262144 * (n % 4) + 1048576)
        resumeParked s n ext true

/-- SLOT_REPAIR_END (R322). -/
def execSlotRepairEnd (ext : Extension) (s : State) : Host.Outcome State Fault Refusal :=
  .next (slotRepairEnd s ext)

/-! ### Received frames (R285, R286, R296) -/

/-- The next pipeline in service from a given one on (R296). -/
def nextPipeline (s : State) (from_ : Nat) : Nat :=
  (((List.range 16).map (fun i => (from_ + i) % 16)).find? (fun i => !isFenced s 0x0E i)).getD 16

/-- A frame that passes the checks of R285 is numbered and dealt to a pipeline. -/
def numberFrame (s : State) (j : Nat) (f : List Byte) : State :=
  let q := clsPort s j
  let pipe := nextPipeline s q.nextPipeline
  let s := flowControl (setNet s j (fun n => { n with used := n.used + f.length })) j (framePriority (netAt s j) f)
  setClsPort (takeReorder (crossFrame s j f.length) j) j (fun q => { q with
    nextSequence := q.nextSequence + 1
    nextPipeline := (pipe + 1) % 16
    frames := Tbl.set q.frames q.nextSequence ⟨pipe, f, mainTime s, false, none, false, none⟩ })

/-- A PAUSE frame (Annex 31B) or a PFC frame (802.1Qbb), under the mode of the port (R284); each is counted (R290). -/
def flowReceive (s : State) (j : Nat) (f : List Byte) : State :=
  let n := netAt s j
  let opcode := beNat (slice f 14 2)
  if n.flow = 1 ∧ opcode = 0x0001 then pausePriority s j 0 (beNat (slice f 16 2))
  else if n.flow = 2 ∧ opcode = 0x0101 then
    ((List.range 8).filter (bit (beNat (slice f 16 2)))).foldl (fun s p => pausePriority s j p (beNat (slice f (18 + 2 * p) 2))) s
  else s

/-- A frame arrives, without its FCS. -/
def frameReceive (s : State) (j : Nat) (f : List Byte) (fcsOk fecOk : Bool) (fault : Option Bool) : State :=
  let s := s.fresh_
  let n := netAt s j
  if !n.linkUp || !n.enabled then s
  else if !fecOk then dropFrame s j 3
  else if f.length < 60 ∨ 9212 < f.length then dropFrame s j 1
  else if !fcsOk then dropFrame s j 2
  else if field f 12 2 == 0x0888 then flowReceive s j f
  else if decide (receiveBuffer < n.used + f.length) then dropFrame s j 0
  else if field f 12 2 == 0xE588 then
    match macsecOpen s j f, fault with
    | none, _ => dropFrame s j 4
    | some _, some true => dropFrame (macsecMismatch s j true) j 4
    | some (g, s), some false => numberFrame (macsecMismatch s j false) j g
    | some (g, s), none => numberFrame s j g
  else if n.macRx.any (fun e => e.2.valid) && !isEapol f then dropFrame s j 4
  else numberFrame s j f

/-- FRAME_RECEIVE (R285, R286, R296, R352): `fault` is a mismatch of the MACsec datapath, on one attempt or on both. -/
def execFrameReceive (port : Fin 2) (frame : List Byte) (fcsOk fecOk : Bool) (fault : Option Bool) (s : State) :
    Host.Outcome State Fault Refusal :=
  .next (frameReceive s port frame fcsOk fecOk fault)

end Sys2Proof.Machine
end

