-- ==== Sys2Proof/Machine/Fabric.lean ====
section
/-! DEFINITION. Queues, their credit and the waybill check (R45–R54, R57, R61–R68). -/

namespace Sys2Proof.Machine

open Sys2Proof

/-- The consumer's unit is ready to accept (R59): a network port is enabled, a host port has trained, and the storage port
trains once Synfy is ready (R500). -/
def unitReady (s : State) (cls n : Nat) : Bool :=
  match cls with
  | 8 => (Tbl.getD s.nets n NetPort.init).enabled
  | 9 => (hostPort s n).ready
  | 11 => s.boot.synfyReady
  | _ => true

/-- Whether a convoy has a parcel held with an entry of a queue, or among units named. -/
def loses (key n : Nat) (units : List (List Byte)) (c : Convoy) : Bool :=
  c.held.any (fun e => e.1 == key)
    || units.any (fun u => bit (field u 3 1) 1 && field u 5 1 == n && bit (field u 3 1) 2 == c.generation)

/-- A convoy that lost parcels with a queue: a member of it can no longer pass, so it ends by its deadline (R52). -/
def loseParcels (key n : Nat) (units : List (List Byte)) (c : Convoy) : Convoy :=
  if (c.state == .opened || c.state == .sealed) && loses key n units c then
    { c with held := c.held.filter (fun e => e.1 != key), checksOwed := c.checksOwed + 1 }
  else c

/-- A queue is emptied: what it held, at a gate or unread, is discarded (R52, R54). -/
def emptyQueue (s : State) (cls n : Nat) : State :=
  let units := (queueAt s cls n).units
  { s with convoys := Tbl.mapAll s.convoys (fun m c => loseParcels (queueKey cls n) m units c) }

/-- A queue is emptied, both counts and pointers are zero, and the consumer grants the full credit once both its ends are up
and its unit is ready (R54, R59). -/
def initQueue (s : State) (cls n : Nat) : State :=
  let up := endUp s (producerDomain cls n) && endUp s (consumerDomain cls n) && unitReady s cls n
  setQueue (emptyQueue s cls n) cls n (fun q => { q with
    granted := up, credit := if up then classCredit s cls n else 0, sent := 0, freed := 0, sampled := 0, occupied := q.unusable
    units := [], stallFrom := none
    writeWord := pointerWord (queueDepth cls) 0, readWord := pointerWord (queueDepth cls) 0 })

/-- A queue whose consumer's unit has become ready is granted (R59). -/
def grantReady (s : State) (cls n : Nat) : State := if (queueAt s cls n).granted then s else initQueue s cls n

/-- The clock domain of a unit that stands in waybills (R37, R62). -/
def unitDomain (u : Nat) : Option Nat :=
  if u = 0x01 ∨ u = 0x02 then some 2
  else if u = 0x05 then some 3
  else if u = 0x03 ∨ u = 0x04 ∨ (0x18 ≤ u ∧ u ≤ 0x20) ∨ u = 0x3D ∨ (0x40 ≤ u ∧ u ≤ 0x51) then some 0
  else if 0x10 ≤ u ∧ u ≤ 0x17 then some 1
  else if 0x21 ≤ u ∧ u ≤ 0x24 then some 18
  else if 0x30 ≤ u ∧ u ≤ 0x37 then some (10 + (u - 0x30))
  else if u = 0x38 ∨ u = 0x39 then some (5 + (u - 0x38))
  else if u = 0x3A then some 7
  else if u = 0x3B ∨ u = 0x3C then some (8 + (u - 0x3B))
  else none

/-- A stream with an end in a domain (R64). -/
def streamTouches (key d : Nat) : Bool := unitDomain (key / 65536) == some d || unitDomain (key / 256 % 256) == some d

/-- The credit between the port and its partner is re-initialised while the port is in Run (R54, R59): the receive side of KP
counts from zero under its full grant, the transmit side of KC takes the partner's advertisement afresh. -/
def initPartnerCredit (s : State) (n : Nat) (receive : Bool) : State :=
  if !inRun s n then s
  else if receive then setPort s n (fun q => { q with received := [0, 0, 0, 0], freed := [0, 0, 0, 0] })
  else
    let cap := capability s n
    setPort s n (fun q => { q with
      freedSeen := [0, 0, 0, 0], credit := [field cap 8 2, field cap 10 2, field cap 12 2, field cap 14 2] })

/-- The pointers and counts of a queue whose credit the port keeps start at zero. -/
def zeroCounts (s : State) (cls n : Nat) : State :=
  setQueue (emptyQueue s cls n) cls n (fun q => { q with
    sent := 0, freed := 0, sampled := 0, occupied := 0, units := [], stallFrom := none
    writeWord := pointerWord (queueDepth cls) 0, readWord := pointerWord (queueDepth cls) 0 })

/-- One queue of a domain that leaves reset; the partner's classes through the port's own counts (R54). -/
def initClass (s : State) (cls n : Nat) : State :=
  if cls < 4 then zeroCounts (initPartnerCredit s n true) cls n
  else if cls = 4 then zeroCounts (initPartnerCredit s n false) cls n
  else initQueue s cls n

/-- Every queue between a domain and its neighbours is re-initialised; their streams start again at zero (R54, R64). -/
def initNeighbours (s : State) (d : Nat) : State :=
  let s := { s with streams := s.streams.filter (fun e => !streamTouches e.1 d) }
  (List.range 24).foldl (fun s cls =>
    (List.range (classInstances.getD cls 0)).foldl (fun s n =>
      if producerDomain cls n == some d || consumerDomain cls n == some d then initClass s cls n else s) s) s

/-- A domain leaves reset (R54). -/
def leaveReset (s : State) (d : Nat) : State :=
  if !(domain s d).clock || (domain s d).fenced then s
  else initNeighbours (setDomain s d (fun x => { x with inReset := false, restarting := false })) d

/-- DOMAIN_LEAVE_RESET (R54). -/
def execDomainLeaveReset (d : Fin 19) (s : State) : Host.Outcome State Fault Refusal :=
  let s := s.fresh_
  .next (if (domain s d).inReset && !(domain s d).restarting then leaveReset s d else s)

/-- CREDIT_STALL (R50): a producer without credit for 1 ms; `cycles` are those of the stall up to now. -/
def creditStall (s : State) (cls n cycles : Nat) : State :=
  let q := queueAt s cls n
  if !producerStalled s cls n then s
  else
    let s := bumpBy s 0x0100 cls 32 cycles
    let s := setQueue s cls n (fun q => { q with stallFrom := some s.now })
    if q.stallReported then s
    else
      let held := match consumerDomain cls n with
        | none => false
        | some d => (domain s d).inReset
      let s := setQueue s cls n (fun q => { q with stallReported := true })
      raiseAdmin s 0x0901 false 0 (cls + 256 * n + 65536 * b2n held + 4294967296 * counter s 0x0100 cls)

/-- CREDIT_STALL (R50). -/
def execCreditStall (cls : Fin 24) (number : Fin 16) (cycles : Nat) (s : State) : Host.Outcome State Fault Refusal :=
  let s := s.fresh_
  .next (if number.val < classInstances.getD cls 0 then creditStall s cls number cycles else s)

/-! ### The waybill check (R61–R65) -/

/-- Assigned unit codes (R62). -/
def unitAssigned (u : Nat) : Bool :=
  (decide (0x01 ≤ u) && decide (u ≤ 0x05)) || (decide (0x10 ≤ u) && decide (u ≤ 0x24)) || (decide (0x30 ≤ u) && decide (u ≤ 0x3D))
    || (decide (0x40 ≤ u) && decide (u ≤ 0x51))

/-- Destinations a queue reaches: a queue toward one unit reaches that unit, a queue into the fabric queues every assigned
one (R48, R62). DEDUCED. -/
def reachable (cls n dst : Nat) : Bool :=
  match cls with
  | 4 => dst == 0x30 + n
  | 8 => dst == 0x3B + n
  | 9 => dst == 0x38 + n
  | 11 => dst == 0x3A
  | 13 => dst == 0x10 + n
  | 15 => dst == 0x21 + n
  | 17 => dst == 0x40 + n
  | _ => unitAssigned dst

/-- The streams a queue carries: those toward its unit, or those from its unit into the fabric queues (R48, R62, R64). -/
def queueCarries (cls n key : Nat) : Bool :=
  let src := key / 65536
  match cls with
  | 5 => src == 0x30 + n
  | 6 => src == 0x3B + n
  | 10 => src == 0x38 + n
  | 12 => src == 0x3A
  | 14 => src == 0x10 + n
  | 16 => src == 0x21 + n
  | 8 | 9 | 11 | 13 | 15 | 17 => reachable cls n (key / 256 % 256)
  | _ => false

/-- One queue is re-initialised, and the streams it carries start again at zero (R57, R64). -/
def reinitQueue (s : State) (cls n : Nat) : State :=
  initClass { s with streams := s.streams.filter (fun e => !queueCarries cls n e.1) } cls n

/-- A source unit may act for a partition that exists; a host port only for one bound to it (R33, R65). DEDUCED. -/
def mayActFor (s : State) (src p : Nat) : Bool :=
  unitAssigned src && (part s p).state != .free && (if src = 0x38 ∨ src = 0x39 then (part s p).port == src - 0x38 else true)

/-- Reserved fields of a waybill that are not zero (R61). -/
def reservedSet (w : List Byte) : Bool :=
  let flags := field w 3 1
  bits flags 7 5 != 0 || bits (field w 4 1) 7 5 != 0 || bits (field w 6 2) 15 9 != 0 || field w 0x0B 1 != 0
    || field w 0x1C 2 != 0 || (!bit flags 1 && field w 5 1 != 0)

/-- The convoy a parcel is in, where that convoy is open or sealed in the parcel's generation. -/
def parcelConvoy (s : State) (w : List Byte) : Option Nat :=
  let flags := field w 3 1
  let n := field w 5 1
  let c := convoy s n
  if bit flags 1 && (c.state == .opened || c.state == .sealed) && c.generation == bit flags 2 then some n else none

/-- Destinations that hold a provisional parcel at a confirmation gate: host, storage and network ports, the sync unit, the
digest units, the security island, and a partner that is not span-capable (R28). -/
def gated (s : State) (dst : Nat) : Bool :=
  (decide (0x38 ≤ dst) && decide (dst ≤ 0x3C)) || dst == 0x03 || dst == 0x04 || dst == 0x05 || dst == 0x01
    || (decide (0x30 ≤ dst) && decide (dst ≤ 0x37) && !spanCapable s (dst - 0x30))

/-- Node memory and spill memory, which hold the provisional lines of every convoy's members (R72). -/
def lineMemory (dst : Nat) : Bool := decide (0x18 ≤ dst) && decide (dst ≤ 0x24)

/-- A provisional parcel is in a convoy that lives, and is headed for a member of that convoy, a span-capable partner or a gate
(R65, R70), or for a memory that keeps its lines provisional (R72). -/
def provisionalAllowed (s : State) (w : List Byte) : Bool :=
  let dst := field w 2 1
  match parcelConvoy s w with
  | none => false
  | some m => gated s dst || (convoy s m).units.contains dst || lineMemory dst
      || (decide (0x30 ≤ dst) && decide (dst ≤ 0x37) && spanCapable s (dst - 0x30))

/-- The first condition of R65 that fails, 9 for a provisional parcel headed for a reader it may not reach (R127). -/
def failedCondition (s : State) (cls n : Nat) (w payload : List Byte) : Option Nat :=
  let src := field w 1 1
  let dst := field w 2 1
  let p := field w 4 1 % 32
  let len := field w 6 2 % 512
  if field w 0x1E 2 != (crc16 (slice w 0 30)).toNat then some 1
  else if field w 0 1 != 1 then some 2
  else if reservedSet w then some 3
  else if !reachable cls n dst then some 4
  else if !mayActFor s src p then some 5
  else if len = 0 ∨ 256 < len then some 6
  else if field w 8 3 != Tbl.getD s.streams (streamKey src dst p) 0 then some 7
  else if field w 0x18 4 != (crc32c (slice payload 0 len)).toNat then some 8
  else if !bit (field w 3 1) 0 && !provisionalAllowed s w then some 9
  else none

/-- The next parcel of a stream follows this one (R64). -/
def followStream (s : State) (w : List Byte) : State :=
  { s with streams := Tbl.set s.streams (streamKey (field w 1 1) (field w 2 1) (field w 4 1 % 32)) ((field w 8 3 + 1) % 16777216) }

/-- The slot a parcel works for. -/
def slotOfParcel (s : State) (p seq : Nat) : Option Nat :=
  (List.range 32).find? (fun k => (slotAt s p k).phase == .running && reqSeq (slotAt s p k).request == seq)

/-- A parcel outside a convoy is lost: the work of its operation is done once more. A second loss on the same hop is a lasting
fault of it, and the hop is fenced; one on another hop leaves each a transient, and the operation ends with CANCELLED (R68,
R80, R106, R109). A hop whose re-execution passes is counted when the command is decided. A parcel that works for no running
command has nothing to re-execute, and its loss is transient. -/
def parcelLost (s : State) (cls n p seq : Nat) : State :=
  let hop := queueKey cls n
  match slotOfParcel s p seq with
  | none => transient s 0x0C hop
  | some k =>
    match (slotAt s p k).lostHop with
    | none => setSlot s p k (fun sl => { sl with retried := true, lostHop := some hop, begun := false, inRepair := true, layer := 3 })
    | some first =>
      if first = hop then
        let s := endSlot (setSlot s p k (fun sl => { sl with lostHop := none })) p k { status := .lasting }
        setQueue (lastingFault s 0x0C hop) cls n (fun q => { q with fenced := true })
      else
        let s := transient (transient s 0x0C first) 0x0C hop
        endSlot (setSlot s p k (fun sl => { sl with lostHop := none })) p k { status := .cancelled }

/-- Parcel corruption: discarded, reported and counted, its credit returned, its operation failed (R68, R92 row 0, R127). -/
def corrupted (s : State) (cls n cond : Nat) (w : List Byte) : State :=
  let p := field w 4 1 % 32
  let s := bump s 0x0200 (cls * 256 + cond) 32
  let s := raiseAdmin s 0x0904 true p (cls + 256 * field w 1 1 + 65536 * field w 2 1 + 16777216 * p + 4294967296 * cond
    + 1099511627776 * field w 8 3)
  match parcelConvoy s w with
  | some m => cancelConvoy s m .ownCheck (0x0C * 1024 + queueKey cls n)
  | none => parcelLost s cls n p (field w 12 4)

/-- The node memory address a destination unit's offset names: cluster-local and shared memories (R62, R196). -/
def unitAddress (dst off : Nat) : Option Nat :=
  if 0x18 ≤ dst ∧ dst ≤ 0x1F ∧ off < 36 * granuleBytes then some ((dst - 0x18) * 36 * granuleBytes + off)
  else if dst = 0x20 ∧ off < 32 * granuleBytes then some (288 * granuleBytes + off)
  else none

/-- The tag of a line replaced, or removed. -/
def retag (tag : Option Tag) (t : Tbl Tag) (l : Nat) : Tbl Tag :=
  match tag with
  | some g => Tbl.set t l g
  | none => Tbl.erase t l

/-- Lines of an address range are tagged by a provisional write, or lose their tag by a confirmed one (R72, R203). -/
def tagLines (s : State) (first len : Nat) (tag : Option Tag) : State :=
  let lines := (List.range (ceilDiv (first % 256 + len) 256)).map (fun i => first / 256 + i)
  setMemory s (fun m => { m with tags := lines.foldl (retag tag) m.tags })

/-- Spill memory of 144 GiB: bytes of one stack. -/
def stackBytes : Nat := 36 * 1073741824

/-- A spill page a model of the partition holds (R206). -/
def pageHeld (s : State) (p page : Nat) : Bool :=
  s.memory.models.any (fun e => e.1 / 16 == p && (e.2.areaPlaces ++ (e.2.layers.map (fun l => l.places)).flatten).any (fun x =>
    match x with
    | .spill _ d => d == page
    | _ => false))

/-- A write of less than a line meets a cancelled or poisoned line (R203). -/
def partialBlocked (s : State) (lineBase a len : Nat) : Bool :=
  let first := if a % 256 = 0 then [] else [a / 256]
  let last := if (a + len) % 256 = 0 then [] else [(a + len - 1) / 256]
  (first ++ last).any (fun l => decide (2 ≤ (lineTag s (lineBase + l)).state))

/-- A parcel comes to rest in node or spill memory, in a granule or page its partition holds (R32, R206), with its lines tagged
(R67, R72). A write of less than a line to a cancelled or poisoned one changes nothing, and its command ends with INTEGRITY
(R203). -/
def parcelToMemory (s : State) (w payload : List Byte) : State :=
  let dst := field w 2 1
  let p := field w 4 1 % 32
  let bs := slice payload 0 (field w 6 2 % 512)
  let off := field w 16 8
  let tag := if bit (field w 3 1) 0 then none else some ⟨field w 5 1, bit (field w 3 1) 2, 1⟩
  let blocked := fun (s : State) => match slotOfParcel s p (field w 12 4) with
    | none => s
    | some k => endSlot s p k { status := .integrity }
  match unitAddress dst off with
  | some a =>
    if heldByPartition s p (a / granuleBytes) && heldByPartition s p ((a + bs.length - 1) / granuleBytes) then
      if partialBlocked s 0 a bs.length then blocked s
      else tagLines (setMemory s (fun m => { m with bytes := Mem.writeBytes m.bytes a bs })) a bs.length tag
    else s
  | none =>
    let a := (dst - 0x21) * stackBytes + off
    if 0x21 ≤ dst ∧ dst ≤ 0x24 ∧ off + bs.length ≤ stackBytes ∧ pageHeld s p (a / granuleBytes)
        ∧ pageHeld s p ((a + bs.length - 1) / granuleBytes) then
      if partialBlocked s (320 * granuleBytes / 256) a bs.length then blocked s
      else tagLines (setMemory s (fun m => { m with spill := Mem.writeBytes m.spill a bs })) (320 * granuleBytes + a) bs.length tag
    else s

/-- A parcel that has passed its check is released: held at a gate with its entry (R47), passed on with zeros beyond its length
(R60), or come to rest. A provisional one that a span-capable partner's port passes on is counted in its convoy (R29, R76). -/
def releaseChecked (s : State) (cls n : Nat) (w payload : List Byte) : State :=
  let dst := field w 2 1
  let bs := slice payload 0 (field w 6 2 % 512)
  if !bit (field w 3 1) 0 && gated s dst then
    match parcelConvoy s w with
    | some m => setConvoy s m (fun c => { c with held := c.held ++ [(queueKey cls n, w ++ bs)] })
    | none => s
  else
    let s := freeEntries s cls n 1
    if 0x18 ≤ dst ∧ dst ≤ 0x24 then parcelToMemory s w bs
    else if 0x30 ≤ dst ∧ dst ≤ 0x37 then
      let s := match parcelConvoy s w with
        | some m => countCarried s m (dst - 0x30)
        | none => s
      sendLink s (dst - 0x30) 0x06 w bs
    else if bit (field w 3 1) 0 then parcelOut (crossTo s (queueKey cls n) dst) (w ++ bs)
    else s

/-- A parcel written into a queue (R65): 32 bytes of waybill, then the payload. A domain in reset writes nothing (R51). Without
credit the producer keeps the parcel and stalls (R45, R50). A consumer in reset reads nothing: the unit waits in the queue,
to be discarded when that domain leaves reset (R52). -/
def parcelCheck (s : State) (cls n : Nat) (parcel : List Byte) : State :=
  let q := queueAt s cls n
  let w := slice parcel 0 32
  let payload := parcel.drop 32
  if !q.granted || q.fenced || !endUp s (producerDomain cls n) then s
  else if q.credit = 0 then noteStall s cls n
  else
    let s := takeCredit (endStall s cls n) cls n
    if !endUp s (consumerDomain cls n) then setQueue s cls n (fun q => { q with units := q.units ++ [parcel] })
    else match failedCondition s cls n w payload with
    | none => releaseChecked (followStream s w) cls n w payload
    | some cond =>
      let s := freeEntries s cls n 1
      corrupted (if 7 ≤ cond then followStream s w else s) cls n cond w

end Sys2Proof.Machine
end

