-- ==== Sys2Proof/Machine/Counters.lean ====
section
/-! DEFINITION. The counters of every chapter as the telemetry commands read them (R50, R90, R122, R145, R290, R486, R541). -/

namespace Sys2Proof.Machine

open Sys2Proof

/-- The instances of a counter row (R486): below a count; first × 256 + second with the first below a count and the second in
a range; a range; a resource of R541; a queue class and a waybill condition. -/
inductive Span where
  | below (n : Nat)
  | pairs (first low high : Nat)
  | range (low high : Nat)
  | resources
  deriving DecidableEq, Repr

/-- A counter row: identifier, width in bits, whether it wraps, its instances. -/
structure CounterRow where
  ident : Nat
  width : Nat
  wraps : Bool
  span : Span
  deriving DecidableEq, Repr

/-- Resources of a group (R541). -/
def groupSize (g : Nat) : Nat :=
  [0, 136, 64, 320, 66, 2, 8, 16, 2, 2, 2, 19, 384, 18, 22, 1024, 8, 24, 12, 4, 384, 144, 9].getD g 0

/-- A resource exists (R541); of queues, those whose class has the instance (R48). -/
def resourceExists (g i : Nat) : Bool :=
  decide (i < groupSize g) && (g != 0x0C || decide (i % 16 < classInstances.getD (i / 16) 0))

def Span.has : Span → Nat → Bool
  | .below n, i => decide (i < n)
  | .pairs f lo hi, i => decide (i / 256 < f) && decide (lo ≤ i % 256) && decide (i % 256 ≤ hi)
  | .range lo hi, i => decide (lo ≤ i) && decide (i ≤ hi)
  | .resources, i => resourceExists (i / 1024) (i % 1024)

def counters02 : List CounterRow :=
  [⟨0x0100, 32, false, .below 24⟩, ⟨0x0101, 16, false, .below 19⟩, ⟨0x0200, 32, false, .pairs 24 1 9⟩,
   ⟨0x0201, 32, false, .below 6⟩, ⟨0x0202, 32, false, .below 6⟩, ⟨0x0203, 32, false, .below 2⟩,
   ⟨0x0204, 16, false, .below 8⟩, ⟨0x0205, 32, true, .below 32⟩]

def counters04 : List CounterRow :=
  [⟨0x0300, 16, false, .resources⟩, ⟨0x0301, 16, false, .range 0x01 0x16⟩, ⟨0x0302, 32, false, .range 1 5⟩,
   ⟨0x0303, 32, false, .below 32⟩, ⟨0x0304, 16, false, .range 1 10⟩, ⟨0x0305, 16, false, .below 1⟩,
   ⟨0x0400, 16, false, .below 32⟩, ⟨0x0401, 32, false, .below 32⟩, ⟨0x0402, 32, true, .below 32⟩,
   ⟨0x0403, 32, false, .pairs 32 1 5⟩]

def counters06 : List CounterRow :=
  [⟨0x0500, 16, false, .below 136⟩, ⟨0x0501, 16, false, .below 136⟩, ⟨0x0502, 32, false, .below 32⟩,
   ⟨0x0503, 32, false, .below 32⟩, ⟨0x0504, 32, false, .below 32⟩, ⟨0x0505, 32, false, .below 8⟩,
   ⟨0x0506, 32, false, .below 8⟩, ⟨0x0507, 16, false, .below 8⟩, ⟨0x0600, 32, false, .below 9⟩,
   ⟨0x0601, 16, false, .below 9⟩, ⟨0x0602, 16, false, .below 1⟩, ⟨0x0603, 32, false, .below 4⟩,
   ⟨0x0604, 16, false, .below 4⟩, ⟨0x0605, 32, false, .below 32⟩, ⟨0x0606, 32, false, .below 8⟩,
   ⟨0x0607, 16, false, .below 8⟩]

def counters08 : List CounterRow :=
  [⟨0x0700, 32, false, .below 64⟩, ⟨0x0701, 32, false, .below 8⟩, ⟨0x0702, 32, false, .below 8⟩,
   ⟨0x0703, 16, false, .pairs 8 1 8⟩, ⟨0x0704, 16, false, .pairs 8 0 1⟩, ⟨0x0705, 16, false, .below 64⟩,
   ⟨0x0706, 32, false, .below 8⟩, ⟨0x0707, 32, false, .below 8⟩, ⟨0x0708, 16, true, .below 8⟩,
   ⟨0x0800, 32, false, .below 2⟩, ⟨0x0801, 16, false, .below 64⟩, ⟨0x0802, 32, false, .below 4⟩,
   ⟨0x0803, 16, false, .below 4⟩, ⟨0x0804, 32, false, .pairs 2 0 5⟩, ⟨0x0805, 32, false, .pairs 2 0 7⟩,
   ⟨0x0806, 32, false, .below 2⟩]

def counters10 : List CounterRow :=
  [⟨0x0900, 48, false, .below 8192⟩, ⟨0x0901, 64, false, .below 8192⟩, ⟨0x0902, 32, false, .pairs 2 1 7⟩,
   ⟨0x0903, 32, false, .below 2⟩, ⟨0x0904, 32, false, .below 2⟩, ⟨0x0905, 32, false, .below 2⟩,
   ⟨0x0906, 32, false, .below 2⟩, ⟨0x0907, 32, false, .pairs 2 0 3⟩, ⟨0x0908, 19, false, .below 4⟩,
   ⟨0x0909, 16, false, .below 16⟩, ⟨0x0A00, 64, true, .below 16⟩, ⟨0x0A01, 16, false, .below 16⟩,
   ⟨0x0A02, 32, false, .pairs 32 1 9⟩, ⟨0x0A03, 16, false, .below 1⟩, ⟨0x0A04, 16, false, .below 64⟩,
   ⟨0x0A05, 16, false, .below 2⟩, ⟨0x0A06, 64, false, .below 32⟩]

def counters12 : List CounterRow :=
  [⟨0x0B00, 16, false, .below 6⟩, ⟨0x0B01, 16, false, .below 8⟩, ⟨0x0B02, 16, false, .below 1⟩,
   ⟨0x0B03, 32, false, .below 1⟩, ⟨0x0B04, 32, false, .below 1⟩, ⟨0x0B05, 16, false, .below 2⟩,
   ⟨0x0C00, 16, false, .below 1⟩, ⟨0x0C01, 16, false, .pairs 24 1 3⟩, ⟨0x0C02, 16, false, .below 48⟩,
   ⟨0x0C03, 16, false, .below 1⟩, ⟨0x0C04, 16, false, .below 25⟩]

def counters14 : List CounterRow :=
  [⟨0x0D00, 16, false, .below 12⟩, ⟨0x0D01, 16, false, .below 12⟩, ⟨0x0D02, 32, false, .below 4⟩,
   ⟨0x0D03, 32, false, .below 1⟩, ⟨0x0D04, 16, false, .below 4⟩, ⟨0x0D05, 16, false, .below 4⟩,
   ⟨0x0D06, 16, false, .below 4⟩, ⟨0x0D07, 32, false, .below 4⟩, ⟨0x0E00, 32, false, .below 3⟩,
   ⟨0x0E01, 16, false, .below 3⟩, ⟨0x0E02, 32, false, .below 3⟩, ⟨0x0E03, 32, false, .below 3⟩,
   ⟨0x0E04, 16, false, .below 3⟩, ⟨0x0E05, 16, false, .below 1⟩, ⟨0x0E06, 16, false, .below 1⟩,
   ⟨0x0F00, 32, false, .below 1⟩]

/-- Every counter row (R486). -/
def counterRows : List CounterRow :=
  counters02 ++ counters04 ++ counters06 ++ counters08 ++ counters10 ++ counters12 ++ counters14

/-- The row of a counter that exists. -/
def counterRow (ident inst : Nat) : Option CounterRow := counterRows.find? (fun r => r.ident == ident && r.span.has inst)

/-- The value of a counter; those the state holds in a register of their own are read there. -/
def counterValue (s : State) (ident inst : Nat) : Nat :=
  match ident with
  | 0x0205 => ((part s inst).receiptNo + 4294967295) % 4294967296
  | 0x0400 => (part s inst).discards
  | 0x0401 => (part s inst).events.lost
  | 0x0402 => ((part s inst).events.number + 4294967295) % 4294967296
  | 0x0708 => (Tbl.getD s.ports inst Port.init).txSeq
  | 0x0908 => Tbl.count s.cls.entries (fun n _ => n / 262144 == inst)
  | 0x0A06 => (part s inst).exports
  | 0x0B00 => (Tbl.getD s.vault.sources inst Source.init).trips
  | 0x0B01 => (Tbl.getD s.vault.channels inst Channel.init).count
  | 0x0B02 => s.vault.stagingLost
  | 0x0B03 => s.vault.summary
  | 0x0B04 => s.vault.powerUps
  | 0x0F00 => s.aon.cal.count
  | _ => counter s ident inst

/-- Only the stall counter is cleared by a read (R50). -/
def clearsOnRead (ident : Nat) : Bool := ident == 0x0100

/-- A counter read: value and what the read leaves. -/
def readCounter (s : State) (ident inst : Nat) : Nat × State :=
  (counterValue s ident inst, if clearsOnRead ident then clearCounter s ident inst else s)

def counterReadChecks (_ : State) (c : Ctx) : Checks :=
  { refused := if c.p != 0 && c.has 0 4 && !(c.u 0 2 == 0x0605 && c.u 2 2 == c.p) then some 0x02 else none
    badParameter := (counterRow (c.u 0 2) (c.u 2 2)).isNone }

def counterReadEffect (s : State) (c : Ctx) : State :=
  match counterRow (c.u 0 2) (c.u 2 2) with
  | none => s
  | some r =>
    let (v, s) := readCounter s (c.u 0 2) (c.u 2 2)
    let full := !r.wraps && v == 2 ^ r.width - 1
    let flags := b2n full + 2 * b2n (clearsOnRead r.ident)
    finish s c { status := .ok, result := leBytes 8 v ++ leBytes 1 r.width ++ leBytes 1 flags }

/-- The recovery budget of a counter read: class M for the always-on counters (R480, R486). -/
def counterReadBudget (_ : State) (c : Ctx) : Nat :=
  if alwaysOnCounter (c.u 0 2) then Latency.management.budgetNs else Latency.immediate.budgetNs

/-- COUNTER_READ (R486). -/
def execCounterRead (o : Origin) (s : State) : Host.Outcome State Fault Refusal :=
  .next (runOp 0x0901 o s counterReadBudget counterReadChecks counterReadEffect)

end Sys2Proof.Machine
end

