-- ==== Sys2Proof/Machine/DigestRegs.lean ====
section
/-! DEFINITION. Digest contexts driven through their window registers (R342–R349, R352). -/

namespace Sys2Proof.Machine

open Sys2Proof

def digestAt (s : State) (p c : Nat) : DigestCtx := Tbl.getD (part s p).digests c DigestCtx.init

def setDigest (s : State) (p c : Nat) (d : DigestCtx) : State :=
  setPart s p (fun q => { q with digests := Tbl.set q.digests c d })

/-- Hash of an algorithm code: 1 SHA-256, 2 SHA-384, 3 SHA-512, 4 SHA3-256, 5 SHA3-512 (R342). -/
def baseHash (alg : Nat) : Nat := if 6 ≤ alg then alg - 5 else alg

def keyedAlg (alg : Nat) : Bool := decide (6 ≤ alg) && decide (alg ≤ 8)

/-- Block or rate size, and digest size (R342). -/
def blockSize (alg : Nat) : Nat :=
  let h := baseHash alg
  if h = 1 then 64 else if h = 4 then 136 else if h = 5 then 72 else 128

def digestSize (alg : Nat) : Nat :=
  let h := baseHash alg
  if h = 1 ∨ h = 4 then 32 else if h = 2 then 48 else 64

def initialChain (alg : Nat) : List Byte :=
  let h := baseHash alg
  if h = 1 then unwords sha256Init else if h = 2 then unwords sha384Init else if h = 3 then unwords sha512Init
  else List.replicate 200 0

/-- Whole blocks compressed into a chaining state. -/
def compressBlocks (alg : Nat) (chain bs : List Byte) : List Byte :=
  let h := baseHash alg
  if h = 1 then unwords (sha256Blocks (words 32 chain) bs)
  else if h = 2 ∨ h = 3 then unwords (sha512Blocks (words 64 chain) bs)
  else (chunks (blockSize alg) bs).foldl keccakAbsorb chain

/-- A hash finished from a chaining state, its last bytes and the total length hashed. -/
def finishHash (alg : Nat) (chain last : List Byte) (total : Nat) : List Byte :=
  let h := baseHash alg
  let padded := if h = 1 then shaPad 64 8 total last else if h = 2 ∨ h = 3 then shaPad 128 16 total last
    else sha3Pad (blockSize alg) last
  (compressBlocks alg chain padded).take (digestSize alg)

/-- The digest of a context's message with a tail: final compression, and the outer one of an HMAC. -/
def contextDigest (d : DigestCtx) (tail : List Byte) : List Byte :=
  let last := d.buffer ++ tail
  if keyedAlg d.alg then
    let b := blockSize d.alg
    let inner := finishHash d.alg d.chain last (b + d.length + tail.length)
    finishHash d.alg d.outer inner (b + inner.length)
  else finishHash d.alg d.chain last (d.length + tail.length)

/-- Both digest engines are fenced (R352). -/
def noDigestEngine (s : State) : Bool := isFenced s 0x0D 16 && isFenced s 0x0D 17

/-- Contexts answer while their partition is Active. -/
def digestLive (s : State) (p : Nat) : Bool := (part s p).state == .active && !s.faults.mailboxFenced

/-- A write to a busy context (R344): discarded, Overrun. -/
def digestOverrun (s : State) (p c : Nat) : State :=
  let d := digestAt s p c
  let s := if d.state == .overrun then s else bump s 0x0A04 (p * 2 + c) 16
  setDigest s p c { d with state := .overrun, result := Status.busy.code }

/-- A write that its state discards (R346). -/
def digestDiscard (s : State) (p c : Nat) (st : Status) : State :=
  setDigest s p c { digestAt s p c with result := st.code }

/-- A control write (R345, R346). -/
def digestControl (s : State) (p c value : Nat) : State :=
  let d := digestAt s p c
  let keep : DigestCtx := { DigestCtx.init with keySlot := d.keySlot, saved := d.saved, tail := d.tail }
  if d.busy then digestOverrun s p c
  else if decide (8 < value) then setDigest s p c { keep with result := Status.badParameter.code }
  else if value = 0 then setDigest s p c keep
  else if noDigestEngine s then setDigest s p c { keep with result := Status.lasting.code }
  else if keyedAlg value then
    setDigest s p c { keep with alg := value, busy := true, pendingWork := 2, since := s.now }
  else setDigest s p c { keep with alg := value, state := .absorbing, chain := initialChain value }

def digestWrite (s : State) (p : Nat) (f : State → State) : State :=
  let s := s.fresh_
  if digestLive s p then f s else s

/-- DIGEST_INITIALISE (R346): the value written to the control register. -/
def execDigestInitialise (p : Fin 32) (ctx : Fin 2) (value : Word32) (s : State) : Host.Outcome State Fault Refusal :=
  .next (digestWrite s p (fun s => digestControl s p ctx value.toNat))

/-- DIGEST_HMAC_INITIALISE (R345): codes 0x6–0x8. -/
def execDigestHmacInitialise (p : Fin 32) (ctx : Fin 2) (alg : Fin 3) (s : State) : Host.Outcome State Fault Refusal :=
  .next (digestWrite s p (fun s => digestControl s p ctx (6 + alg.val)))

/-- DIGEST_CLEAR (R346). -/
def execDigestClear (p : Fin 32) (ctx : Fin 2) (s : State) : Host.Outcome State Fault Refusal :=
  .next (digestWrite s p (fun s => digestControl s p ctx 0))

/-- A write that only Absorbing takes (R344, R346). -/
def whileAbsorbing (s : State) (p c : Nat) (f : DigestCtx → State) : State :=
  let d := digestAt s p c
  if d.busy then digestOverrun s p c
  else match d.state with
    | .absorbing => f d
    | .overrun => digestDiscard s p c .busy
    | _ => digestDiscard s p c .badParameter

/-- A data write appends 8 bytes, the byte at the lowest address first (R342, R343). -/
def digestData (s : State) (p c value : Nat) : State :=
  whileAbsorbing s p c (fun d =>
    let buffer := d.buffer ++ leBytes 8 value
    let full := decide (blockSize d.alg ≤ buffer.length)
    setDigest s p c { d with
      buffer := buffer
      length := (d.length + 8) % 2 ^ 128
      busy := full
      pendingWork := if full then 1 else 0
      since := s.now })

/-- DIGEST_DATA (R343). -/
def execDigestData (p : Fin 32) (ctx : Fin 2) (value : Word64) (s : State) : Host.Outcome State Fault Refusal :=
  .next (digestWrite s p (fun s => digestData s p ctx value.toNat))

/-- DIGEST_TAIL_DATA (R342). -/
def execDigestTailData (p : Fin 32) (ctx : Fin 2) (value : Word64) (s : State) : Host.Outcome State Fault Refusal :=
  .next (digestWrite s p (fun s => whileAbsorbing s p ctx (fun d => setDigest s p ctx { d with tail := leBytes 8 value.toNat })))

/-- A finish write holds busy until the digest is ready (R343); reserved bits make it BAD_PARAMETER. -/
def digestFinish (s : State) (p c value : Nat) : State :=
  whileAbsorbing s p c (fun d =>
    if 7 < value then digestDiscard s p c .badParameter
    else setDigest s p c { d with tail := d.tail.take value, busy := true, pendingWork := 5, since := s.now })

/-- DIGEST_FINISH (R346). -/
def execDigestFinish (p : Fin 32) (ctx : Fin 2) (value : Word32) (s : State) : Host.Outcome State Fault Refusal :=
  .next (digestWrite s p (fun s => digestFinish s p ctx value.toNat))

/-- A save write (R346): exactly one of the two bits. -/
def digestSave (s : State) (p c value : Nat) : State :=
  let d := digestAt s p c
  if d.busy then digestOverrun s p c
  else if d.state == .overrun then digestDiscard s p c .busy
  else if value = 1 then
    if d.state == .absorbing then setDigest s p c { d with busy := true, pendingWork := 3, since := s.now }
    else digestDiscard s p c .badParameter
  else if value = 2 then setDigest s p c { d with busy := true, pendingWork := 4, since := s.now }
  else digestDiscard s p c .badParameter

/-- DIGEST_EXPORT (R348): the value written to the save register, whose export bit is set. -/
def execDigestExport (p : Fin 32) (ctx : Fin 2) (value : Word32) (s : State) : Host.Outcome State Fault Refusal :=
  .next (digestWrite s p (fun s => digestSave s p ctx value.toNat))

/-- DIGEST_IMPORT (R348): the save register written with the import bit alone. -/
def execDigestImport (p : Fin 32) (ctx : Fin 2) (s : State) : Host.Outcome State Fault Refusal :=
  .next (digestWrite s p (fun s => digestSave s p ctx 2))

/-- The first digest engine in service. -/
def digestEngine (s : State) : Nat := if isFenced s 0x0D 16 then 1 else 0

/-- A mismatch of a digest engine's copies (R352). -/
def digestMismatch (s : State) (again : Bool) : State :=
  let e := digestEngine s
  let s := raiseAdmin (bump s 0x0A05 e 16) 0x0501 true 0 (18 + e + 256 * b2n (!again))
  if again then raiseAdmin (lastingFault s 0x0D (16 + e)) 0x0502 true 0 (18 + e) else transient s 0x0D (16 + e)

/-- A context's block or finish ends; `fault` is a mismatch, and whether it came twice. -/
def digestBlockComplete (s : State) (p c : Nat) (fault : Option Bool) : State :=
  let d := digestAt s p c
  if !d.busy || (d.pendingWork != 1 && d.pendingWork != 5) then s
  else
    let s := match fault with
      | none => s
      | some again => digestMismatch s again
    let kept := decide (d.state == .overrun)
    if fault == some true then
      setDigest s p c { d with busy := false, pendingWork := 0, state := if kept then .overrun else .idle, result := Status.lasting.code }
    else if kept then setDigest s p c { d with busy := false, pendingWork := 0 }
    else if d.pendingWork = 1 then
      let b := blockSize d.alg
      setDigest s p c { d with
        chain := compressBlocks d.alg d.chain (d.buffer.take b), buffer := d.buffer.drop b, busy := false, pendingWork := 0 }
    else
      setDigest s p c { d with
        digest := contextDigest d d.tail, length := d.length + d.tail.length, buffer := [], tail := [], state := .done,
        result := Status.ok.code, busy := false, pendingWork := 0 }

/-- DIGEST_BLOCK_COMPLETE (R343, R352). -/
def execDigestBlockComplete (p : Fin 32) (ctx : Fin 2) (fault : Option Bool) (s : State) : Host.Outcome State Fault Refusal :=
  .next (digestBlockComplete s.fresh_ p ctx fault)

/-- What the 20 µs of an HMAC initialisation end with (R345). -/
def hmacInitEnd (s : State) (p c : Nat) : State :=
  let d := digestAt s p c
  if !d.busy || d.pendingWork != 2 then s
  else
    let s := advanceTo s (d.since + 20000)
    let d := { d with busy := false, pendingWork := 0 }
    if d.state == .overrun then setDigest s p c d
    else match keySlotOf s p d.keySlot with
      | none => setDigest s p c { d with state := .idle, result := Status.refused.code }
      | some k =>
        if k.kind != 6 || !bit k.usage 7 then
          let st : Status := if slotLost s d.keySlot then .lasting else .badParameter
          setDigest s p c { d with state := .idle, result := st.code }
        else
          let pad := fun (mask : Byte) => (slice k.key 0 (blockSize d.alg)).map (fun b => b ^^^ mask)
          setDigest s p c { d with
            state := .absorbing, result := Status.ok.code
            chain := compressBlocks d.alg (initialChain d.alg) (pad 0x36)
            outer := compressBlocks d.alg (initialChain d.alg) (pad 0x5C) }

/-- DIGEST_HMAC_INIT_END (R345). -/
def execDigestHmacInitEnd (p : Fin 32) (ctx : Fin 2) (s : State) : Host.Outcome State Fault Refusal :=
  .next (hmacInitEnd s.fresh_ p ctx)

/-- Chaining state as saved (R347): inner, then outer at 0x060. -/
def chainBytes (d : DigestCtx) : List Byte :=
  if keyedAlg d.alg then slice d.chain 0 64 ++ slice d.outer 0 136 else slice d.chain 0 200

/-- Saved state (R347, R348), wrapped for a keyed context. -/
def savedState (d : DigestCtx) (p c counter : Nat) (key : List Byte) : List Byte :=
  let keyed := keyedAlg d.alg
  let h := [1] ++ leBytes 1 d.alg ++ leBytes 1 (if keyed then 3 else 0) ++ leBytes 1 d.buffer.length ++ leBytes 1 p
    ++ leBytes 1 c ++ [0, 0] ++ leBytes 8 (if keyed then counter else 0)
  let body := leBytes 16 d.length ++ chainBytes d ++ slice d.buffer 0 144
  if keyed then
    let iv := leBytes 1 p ++ leBytes 1 c ++ [0, 0] ++ leBytes 8 counter
    let enc := gcmCrypt key iv body
    h ++ enc ++ gcmTag key iv h enc
  else h ++ body ++ List.replicate 16 0

/-- Check 1 of an import (R348). -/
def savedFieldsOk (b : List Byte) : Bool :=
  let alg := field b 1 1
  field b 0 1 == 1 && decide (1 ≤ alg) && decide (alg ≤ 8) && field b 2 1 == (if keyedAlg alg then 3 else 0)
    && decide (field b 3 1 < blockSize alg) && decide (field b 4 1 < 32) && decide (field b 5 1 < 2) && field b 6 2 == 0

/-- Saved state checked and restored (R348). -/
def importState (b key : List Byte) (d : DigestCtx) : DigestCtx :=
  let alg := field b 1 1
  let keyed := keyedAlg alg
  let iv := slice b 4 2 ++ [0, 0] ++ slice b 8 8
  let idle := { DigestCtx.init with keySlot := d.keySlot, saved := d.saved, tail := d.tail }
  if !savedFieldsOk b then { idle with result := Status.badParameter.code }
  else if keyed && gcmTag key iv (slice b 0 16) (slice b 16 360) != slice b 0x178 16 then
    { idle with result := Status.integrity.code }
  else
    let body := if keyed then gcmCrypt key iv (slice b 16 360) else slice b 16 360
    let chain := if keyed then slice body 16 (if baseHash alg = 1 then 32 else 64)
      else slice body 16 (if baseHash alg = 1 then 32 else if baseHash alg ≤ 3 then 64 else 200)
    { idle with
      state := .absorbing
      alg := alg
      length := leNat (slice body 0 16)
      chain := chain
      outer := if keyed then slice body 80 (if baseHash alg = 1 then 32 else 64) else []
      buffer := slice body 216 (field b 3 1)
      result := Status.ok.code }

/-- The 5 µs of an export or import end. The export counter rises before each wrapped export (R348). -/
def digestSaveEnd (s : State) (p c : Nat) : State :=
  let d := digestAt s p c
  if !d.busy || (d.pendingWork != 3 && d.pendingWork != 4) then s
  else
    let s := advanceTo s (d.since + 5000)
    let was := d.pendingWork
    let d := { d with busy := false, pendingWork := 0 }
    if d.state == .overrun then setDigest s p c d
    else if was = 3 then
      let s := if keyedAlg d.alg then setPart s p (fun q => { q with exports := q.exports + 1 }) else s
      setDigest s p c { d with
        saved := savedState d p c (part s p).exports (part s p).wrapKey, result := Status.ok.code }
    else setDigest s p c (importState d.saved (part s p).wrapKey d)

/-- DIGEST_SAVE_END (R346, R348). -/
def execDigestSaveEnd (p : Fin 32) (ctx : Fin 2) (s : State) : Host.Outcome State Fault Refusal :=
  .next (digestSaveEnd s.fresh_ p ctx)

end Sys2Proof.Machine
end

