-- ==== Sys2Proof/Machine/Models.lean ====
section
/-! DEFINITION. Model images: manifest checks, footprint, placement and the spill slowdown model (R206–R216). -/

namespace Sys2Proof.Machine

open Sys2Proof

def mib2 : Nat := 2097152

/-- A manifest header's layer count and a layer entry's bytes (R206a). -/
def manifestLayers (img : List Byte) : Nat := field img 6 2
def layerEntry (img : List Byte) (l : Nat) : List Byte := slice img (64 + 96 * l) 96
def manifestBytes (img : List Byte) : List Byte := slice img 0 (64 + 96 * manifestLayers img)

def entryWeights (e : List Byte) : Nat := field e 8 8
def entryOffset (e : List Byte) : Nat := field e 16 8
def entryArea (e : List Byte) : Nat := field e 24 8 + field e 32 8

def entries (img : List Byte) : List (List Byte) := (List.range (manifestLayers img)).map (layerEntry img)

/-- Weight ranges overlap pairwise. -/
def rangesOverlap : List (Nat × Nat) → Bool
  | [] => false
  | (o, n) :: rest =>
    rest.any (fun r => n != 0 && r.2 != 0 && decide (o < r.1 + r.2) && decide (r.1 < o + n)) || rangesOverlap rest

/-- Check 1 of R210: magic, format, reserved fields, layer indices, format codes, offsets and weight ranges. -/
def manifestWellFormed (img : List Byte) (len : Nat) : Bool :=
  let n := manifestLayers img
  let image := field img 0x10 8
  let es := entries img
  slice img 0 4 == [0x4E, 0x56, 0x4D, 0x46] && field img 4 1 == 1 && field img 5 1 == 0
    && decide (1 ≤ n) && decide (n ≤ 1024) && allZero (slice img 0x2C 20) && decide (image ≤ len)
    && decide (64 + 96 * n ≤ image)
    && ((List.range n).all (fun l => field (layerEntry img l) 0 4 == l))
    && es.all (fun e => decide (field e 4 1 ≤ 0x0C) && decide (field e 5 1 ≤ 8) && field e 6 2 == 0
        && (field e 5 1 != 0 || field e 4 1 == 0 || field e 4 1 == 3)
        && allZero (slice e 0x50 16) && decide (entryWeights e ≤ 1099511627776) && entryOffset e % 4096 == 0
        && decide (64 + 96 * n ≤ entryOffset e ∨ entryWeights e = 0)
        && decide (entryOffset e + entryWeights e ≤ image))
    && !rangesOverlap (es.map (fun e => (entryOffset e, entryWeights e)))

def maxList (xs : List Nat) : Nat := xs.foldl max 0

/-- W: the granules of all weights (R208). -/
def weightGranules (img : List Byte) : Nat := ((entries img).map (fun e => ceilDiv (entryWeights e) mib2)).sum

def areaGranules (e : List Byte) : Nat := ceilDiv (entryArea e) mib2

/-- Check 2 of R210: the header's totals agree with the layer entries. -/
def manifestTotals (img : List Byte) : Bool :=
  let es := entries img
  field img 0x18 8 == (es.map entryWeights).sum && field img 0x20 4 == weightGranules img
    && field img 0x24 4 == maxList (es.map areaGranules) && field img 0x28 4 == (es.map (fun e => field e 0x28 4)).sum

/-- G_l of each layer (R208). -/
def workingSets (img : List Byte) : List Nat := (entries img).map (fun e => weightGranules img + areaGranules e)

/-- Available granules of a load, in order: free to the partition, and in a cluster-local memory only of a cluster of
its mask (R209). -/
def availableGranules (s : State) (p : Nat) : List Nat :=
  (List.range 320).filter (fun g => granuleFor s p g && (decide (288 ≤ g) || bit (part s p).clusterMask (g / 36)))

/-- The pages of spill memory a model lies in, as the device counts them: 18,432 in each stack of 36 GiB. -/
def modelPages (m : Model) : List Nat :=
  (m.areaPlaces ++ (m.layers.map (fun l => l.places)).flatten).filterMap (fun x => match x with
    | .spill _ g => some g
    | _ => none)

/-- The spill pages of its partition that a model takes, by their numbers (R206). -/
def modelPageNumbers (m : Model) : List Nat :=
  (m.areaPlaces ++ (m.layers.map (fun l => l.places)).flatten).filterMap (fun x => match x with
    | .spill n _ => some n
    | _ => none)

/-- Spill pages in use: a partition's, and the device's (R206, R213). -/
def spillUsed (s : State) (p : Nat) : List Nat :=
  (s.memory.models.map (fun e => if e.1 / 16 == p then modelPages e.2 else [])).flatten

/-- The numbers of a partition's spill pages in use. -/
def spillNumbers (s : State) (p : Nat) : List Nat :=
  (s.memory.models.map (fun e => if e.1 / 16 == p then modelPageNumbers e.2 else [])).flatten

def spillTaken (s : State) : List Nat := (s.memory.models.map (fun e => modelPages e.2)).flatten

/-- Spill GiB a partition may fill: its quota, or for partition 0 what tenants have not reserved (R150). -/
def spillQuota (s : State) (p : Nat) : Nat :=
  if p = 0 then 144 - reservedSum s (fun q => q.spill) - s.memory.spillRetired.length else (part s p).quotas.spill

/-- Up to `n` pages of a stack that nothing has taken and that lie in no retired unit of 1 GiB, which has 512 (R228). -/
def stackFree (s : State) (n stack : Nat) : List Nat :=
  let taken := spillTaken s
  let gone := s.memory.spillRetired
  (((List.range (min 18432 (taken.length + n + 512 * gone.length))).map (fun i => 18432 * stack + i)).filter (fun g =>
    !taken.contains g && !gone.contains (g / 512))).take n

/-- Page numbers of a partition each take the next free page of their stack, p mod 4; one whose stack is full is passed
over (R206). -/
def assignPages : List Nat → (Nat → List Nat) → List (Nat × Nat)
  | [], _ => []
  | p :: ps, free => match free (p % 4) with
    | [] => assignPages ps free
    | g :: gs => (p, g) :: assignPages ps (fun k => if k = p % 4 then gs else free k)

/-- Up to `n` free pages a partition may take, by ascending number, each with the page that holds it (R206). -/
def spillFree (s : State) (p n : Nat) : List (Nat × Nat) :=
  let used := spillNumbers s p
  let want := min n (512 * spillQuota s p - used.length)
  if want = 0 then []
  else (assignPages ((List.range (min (512 * spillQuota s p) (4 * (used.length + want)))).filter (fun i => !used.contains i))
    (stackFree s want)).take want

/-- Pages a partner offers, and those in use (R207). -/
def partnerOffer (s : State) (n : Nat) : Nat := if capFlag s n 4 then field (capability s n) 4 4 else 0

def partnerUsed (s : State) (n : Nat) : List Nat :=
  (s.memory.models.map (fun e =>
    (e.2.areaPlaces ++ (e.2.layers.map (fun l => l.places)).flatten).filterMap (fun x => match x with
      | .partner m g => if m = n then some g else none
      | _ => none))).flatten

def partnerFree (s : State) (n want : Nat) : List Nat :=
  let used := partnerUsed s n
  ((List.range (min (partnerOffer s n) (used.length + want))).filter (fun g => !used.contains g)).take want

/-- The places overflow takes, in order: spill pages, then partner memory by port (R213). -/
def overflowPlaces (s : State) (p n : Nat) : List Place2 :=
  ((spillFree s p n).map (fun e => Place2.spill e.1 e.2)
    ++ ((List.range 8).map (fun m => (partnerFree s m n).map (Place2.partner m))).flatten).take n

/-- Overflow O of a Spill load (R213). -/
def overflow (img : List Byte) (avail : Nat) : Nat := maxList (workingSets img) - (avail - 2)

/-- The placement of R213: for each layer's weights and for the area, a place per granule. -/
structure Placement where
  layers : List (List Place2)
  area : List Place2
  staging : List Nat
  deriving DecidableEq, Repr

/-- Cuts a list of places into the layers' shares. -/
def cutPlaces : List Nat → List Place2 → List (List Place2)
  | [], _ => []
  | n :: ns, ps => ps.take n :: cutPlaces ns (ps.drop n)

/-- Weights stay in node memory from the first layer on; the last ones, and then the last of the area, overflow. -/
def place (img : List Byte) (avail : List Nat) (spill : Bool) (above : List Place2) : Placement :=
  let w := weightGranules img
  let a := maxList ((entries img).map areaGranules)
  let sizes := (entries img).map (fun e => ceilDiv (entryWeights e) mib2)
  let o := if spill then overflow img avail.length else 0
  let staged := if spill && decide (0 < o) then 2 else 0
  let wOut := min w o
  let aOut := o - wOut
  let nodes := (avail.drop staged).map Place2.node
  let weights := nodes.take (w - wOut) ++ (above.take wOut).reverse
  let area := (nodes.drop (w - wOut)).take (a - aOut) ++ ((above.drop wOut).take aOut).reverse
  ⟨cutPlaces sizes weights, area, avail.take staged⟩

/-- Bytes of a content of `total` bytes that lie in the granules whose place a test accepts. -/
def bytesIn (total : Nat) (ps : List Place2) (f : Place2 → Bool) : Nat :=
  ((List.range ps.length).map (fun i => if f (ps.getD i (.node 0)) then min mib2 (total - i * mib2) else 0)).sum

def isSpill : Place2 → Bool
  | .spill _ _ => true
  | _ => false

def onPartner (n : Nat) : Place2 → Bool
  | .partner m _ => m == n
  | _ => false

/-- Lanes in service of a port. -/
def laneCount (mask : Nat) : Nat := ((List.range 8).filter (fun i => bit mask i)).length

/-- E′ of a layer in µs (R214): E + S / (0.9 TB/s × stacks) + Σ P / (142 GB/s × lanes / 8), rounded up. Fractions of
a nanosecond are kept exact over a common denominator. -/
def spillTime (s : State) (eNs weights area : Nat) (wp ap : List Place2) : Nat :=
  let sB := bytesIn weights wp isSpill + 4 * bytesIn area ap isSpill
  let spillStacks := ((List.range 4).filter (fun k => (wp ++ ap.take (ceilDiv area mib2)).any (fun x => match x with
    | .spill n _ => n % 4 == k
    | _ => false))).length
  let start := if sB = 0 then (eNs, 1) else (eNs * (900 * spillStacks) + sB, 900 * spillStacks)
  let t := (List.range 8).foldl (fun acc n =>
    let pB := bytesIn weights wp (onPartner n) + 2 * bytesIn area ap (onPartner n)
    let lanes := max 1 (laneCount (portAt s n).lanes)
    if pB = 0 then acc else (acc.1 * (142 * lanes) + 8 * pB * acc.2, acc.2 * (142 * lanes))) start
  ceilDiv t.1 (1000 * t.2)

/-- The layers of an image with their places and times. -/
def buildLayers (s : State) (img : List Byte) (pl : Placement) : List Layer :=
  (List.range (manifestLayers img)).map (fun l =>
    let e := layerEntry img l
    let wp := pl.layers.getD l []
    ⟨field e 4 1, field e 5 1, entryWeights e, entryArea e, field e 0x28 4, field e 0x2C 4,
      spillTime s (field e 0x2C 4) (entryWeights e) (entryArea e) wp pl.area, wp⟩)

/-- Largest declared spill time of some layers, in µs. -/
def largestTime (ls : List Layer) : Nat := maxList (ls.map (fun l => l.spillUs))

/-- B_op of a run of some layers (R111, R480). -/
def runBudgetNs (s : State) (p : Nat) (ls : List Layer) : Nat :=
  1000 * largestTime ls + 1000 * (part s p).deadlineUs + 12000

/-- Models a partition has loaded. -/
def modelCount (s : State) (p : Nat) : Nat := Tbl.count s.memory.models (fun k _ => k / 16 == p)

/-- A layer's weights match the manifest's digest. -/
def layerMatches (img : List Byte) (l : Nat) : Bool :=
  sha256 (slice img (entryOffset (layerEntry img l)) (entryWeights (layerEntry img l))) == slice (layerEntry img l) 0x30 32

/-- The weights of a layer, from the first read or from the one re-read (R210). -/
def layerSource (img : List Byte) (reread : Option (List Byte)) (l : Nat) : Option (List Byte) :=
  let w := fun (i : List Byte) => slice i (entryOffset (layerEntry img l)) (entryWeights (layerEntry img l))
  if layerMatches img l then some (w img)
  else match reread with
    | none => none
    | some r => if sha256 (w r) == slice (layerEntry img l) 0x30 32 then some (w r) else none

/-- Weights go to their granules and pages. -/
def storePlace (m : Memory) (pl : Place2) (bs : List Byte) : Memory :=
  match pl with
  | .node g =>
    { m with
      bytes := Mem.writeBytes (Mem.clear m.bytes (g * granuleBytes) granuleBytes) (g * granuleBytes) bs
      tags := m.tags.filter (fun e => e.1 / 8192 != g) }
  | .spill _ g =>
    { m with
      spill := Mem.writeBytes (Mem.clear m.spill (g * mib2) mib2) (g * mib2) bs
      tags := m.tags.filter (fun e => e.1 / 8192 != 320 + g) }
  | .partner n g =>
    let a := 281474976710656 * (n + 1) + g * mib2
    { m with spill := Mem.writeBytes (Mem.clear m.spill a mib2) a bs }

def storeLayer (m : Memory) (ps : List Place2) (bs : List Byte) : Memory :=
  (List.range ps.length).foldl (fun m i => storePlace m (ps.getD i (.node 0)) ((bs.drop (i * mib2)).take mib2)) m

/-- Weights that lie in partner memory go out as memory writes, each at its byte offset in the offer (R213, R256); their source is
the host port the image comes in by (R61). -/
def writePartner (s : State) (c : Ctx) (ps : List Place2) (bs : List Byte) : State :=
  (List.range ps.length).foldl (fun s i => match ps.getD i (.node 0) with
    | .partner n g =>
      let page := (bs.drop (i * mib2)).take mib2
      let count := ceilDiv page.length 256
      (List.range count).foldl (fun s j =>
        sendBulkFrom (0x38 + (part s c.p).port) s n 0x06 c.p none c.seq (g * mib2 + 256 * j) (j + 1 == count) ((page.drop (256 * j)).take 256)) s
    | _ => s) s

def modelNodes (m : Model) : List Nat :=
  ((m.areaPlaces ++ (m.layers.map (fun l => l.places)).flatten).filterMap (fun x => match x with
    | .node g => some g
    | _ => none)) ++ m.staging

/-- Spill memory is fenced: KB lost for good (R56). -/
def spillFenced (s : State) : Bool := (domain s 18).fenced

/-- The load checks of R210, in order, with the result bytes of a FOOTPRINT (R211). -/
def loadVerdict (s : State) (c : Ctx) (img : List Byte) : Option (Status × List Byte) :=
  let avail := (availableGranules s c.p).length
  let spill := (part s c.p).spillMode
  let o := overflow img avail
  let pages := (spillFree s c.p o).length
  let offered := ((List.range 8).map (partnerOffer s)).sum
  let above := overflowPlaces s c.p o
  let pl := place img (availableGranules s c.p) spill above
  let first := (List.range (manifestLayers img)).find? (fun l => decide (avail < (workingSets img).getD l 0))
  if !manifestWellFormed img (c.desc 0).len then some (.badParameter, [])
  else if !manifestTotals img then some (.badParameter, [])
  else if decide (16 ≤ modelCount s c.p) then some (.quota, [])
  else if spill && (decide (avail < 2) || decide (pages + offered < o)) then some (.quota, [])
  else if !spill && first.isSome then
    let l := first.getD 0
    some (.footprint, leBytes 4 l ++ leBytes 4 ((workingSets img).getD l 0) ++ leBytes 4 avail)
  else if decide (maxTimeout < tMin (runBudgetNs s c.p (buildLayers s img pl))) then some (.budget, [])
  else if spill && decide (above.length < o) then some (.busy, [])
  else none

/-- A load whose overflow needs spill memory that is fenced (R56, R228). -/
def loadBarred (s : State) (p : Nat) (img : List Byte) : Bool :=
  let avail := (availableGranules s p).length
  spillFenced s && (part s p).spillMode && (overflowPlaces s p (overflow img avail)).any isSpill

def modelLoadEffect (image : List Byte) (reread : Option (List Byte)) (s : State) (c : Ctx) : State :=
  let img := slice image 0 (c.desc 0).len
  match (loadVerdict s c img).or (if loadBarred s c.p img then some (.lasting, []) else none) with
  | some (st, result) => finish s c { status := st, result := result, reads := [manifestBytes img] }
  | none =>
    let s := accept s c.p c.k
    let sources := (List.range (manifestLayers img)).map (layerSource img reread)
    if sources.any (fun x => x.isNone) then finish s c { status := .integrity, reads := [img] }
    else
      let avail := availableGranules s c.p
      let spill := (part s c.p).spillMode
      let pl := place img avail spill (overflowPlaces s c.p (overflow img avail.length))
      let ls := buildLayers s img pl
      match firstIndex 16 (fun i => (Tbl.get? s.memory.models (c.p * 16 + i)).isNone) with
      | none => finish s c { status := .quota }
      | some i =>
        let key := c.p * 16 + i
        let m : Model := ⟨ls, pl.area, pl.staging, spill, 0, digestT (manifestBytes img)⟩
        let s := nextGeneration s 1 key
        let s := setMemory s (fun mm => (List.range ls.length).foldl (fun mm l =>
          storeLayer mm (pl.layers.getD l []) ((sources.getD l none).getD [])) mm)
        let s := setMemory s (fun mm => { mm with models := Tbl.set mm.models key m })
        let s := (modelNodes m).foldl (fun s g => setGranule s g (fun e => { e with holder := some (.model c.p i) })) s
        let s := (List.range ls.length).foldl (fun s l =>
          writePartner s c (pl.layers.getD l []) ((sources.getD l none).getD [])) s
        let handle := leBytes 2 (i + 256 * generation s 1 key)
        finish s c { status := .ok, result := handle, reads := [img] }

/-- The recovery budget of opcode 0x0101 (R112, R480). -/
def modelLoadBudget : State → Ctx → Nat :=
                          (fun _ c => 1000000 + 20000 * ceilDiv (c.desc 0).len 1048576)

/-- The checks of opcode 0x0101 beyond the common ones (R18). -/
def modelLoadChecks : State → Ctx → Checks :=
    (fun s c => hostDescChecks s c 0 1)

/-- The loaded model a handle names for a partition (R210). -/
def modelOf (s : State) (p handle : Nat) : Option Model :=
  let i := handle % 256
  if decide (i < 16) && handle / 256 == generation s 1 (p * 16 + i) then Tbl.get? s.memory.models (p * 16 + i) else none

def modelHandleCheck (s : State) (c : Ctx) : Checks :=
  { refused := if c.has 0 2 && (modelOf s c.p (c.u 0 2)).isNone then some 0x02 else none }

/-- A model's granules and pages are free again (R208); what returns to the pool, the granules of partition 0, is cleared
first (R157). -/
def unloadModel (s : State) (key : Nat) : State :=
  match Tbl.get? s.memory.models key with
  | none => s
  | some m =>
    let s := setMemory s (fun mm => { mm with models := Tbl.erase mm.models key })
    let s := (modelNodes m).foldl (fun s g => setGranule s g (fun e => { e with holder := none })) s
    if key / 16 = 0 then startClearing s ((modelNodes m).filter (fun g => !isFenced s 0x03 g)) else s

/-- A run of the model is in flight (R208). -/
def runInFlight (s : State) (p handle : Nat) : Bool :=
  (List.range 32).any (fun k =>
    let sl := slotAt s p k
    sl.phase == .running && reqOpcode sl.request == 0x0110 && field (reqBody sl.request) 0 2 == handle)

def modelUnloadEffect (s : State) (c : Ctx) : State :=
  finish (unloadModel s (c.p * 16 + c.u 0 2 % 256)) c { status := .ok }

/-- The checks of opcode 0x0102 beyond the common ones (R18). -/
def modelUnloadChecks : State → Ctx → Checks :=
                                           (fun s c => (modelHandleCheck s c).both
    { busy := runInFlight s c.p (c.u 0 2) })

/-- MODEL_UNLOAD (R208): BUSY while a run is in flight. -/
def execModelUnload (o : Origin) (s : State) : Host.Outcome State Fault Refusal :=
  .next (runOp 0x0102 o s (fixed .control) modelUnloadChecks modelUnloadEffect)

def modelQueryEffect (s : State) (c : Ctx) : State :=
  match modelOf s c.p (c.u 0 2) with
  | none => s
  | some m =>
    let ps := m.areaPlaces ++ (m.layers.map (fun l => l.places)).flatten
    let r := leBytes 2 m.layers.length ++ leBytes 2 (b2n (m.damaged != 0) + 2 * b2n m.spill)
      ++ leBytes 4 (modelNodes m).length ++ leBytes 4 (ps.filter isSpill).length
      ++ leBytes 4 (ps.filter (fun x => (List.range 8).any (fun n => onPartner n x))).length
      ++ leBytes 4 (m.layers.map (fun l => l.passes)).sum ++ leBytes 4 (m.layers.map (fun l => l.spillUs)).sum
      ++ leBytes 4 (largestTime m.layers)
    finish s c { status := .ok, result := r }

/-- MODEL_QUERY (R214). -/
def execModelQuery (o : Origin) (s : State) : Host.Outcome State Fault Refusal :=
  .next (runOp 0x0103 o s (fixed .immediate) modelHandleCheck modelQueryEffect)

end Sys2Proof.Machine
end

