-- ==== Sys2Proof/Machine/Numbers.lean ====
section
/-! DEFINITION. Exact arithmetic of the tensor fabric: operand formats, bobbins, FP32 accumulation, readout rounding,
picot rows and columns (R103, R169–R179). Element values are integers in units of 2⁻¹⁶⁰, products and sums in units of
2⁻³²⁰: every finite value of every format is a whole number of them. -/

namespace Sys2Proof.Machine

open Sys2Proof

/-- A value with its class (R176). -/
inductive Value where
  | nan
  | inf (negative : Bool)
  | fin (v : Int)
  deriving DecidableEq, Repr

def pow2 (n : Nat) : Int := (2 : Int) ^ n

def signed (negative : Bool) (v : Int) : Int := if negative then -v else v

/-- A binary floating-point code: exponent and mantissa widths, bias; `ieee` formats keep the top exponent for infinity
and NaN (R169). -/
def decodeFloat (eb mb bias : Nat) (ieee : Bool) (code : Nat) : Value :=
  let neg := bit code (eb + mb)
  let e := bits code (eb + mb - 1) mb
  let m := code % 2 ^ mb
  if ieee && e == 2 ^ eb - 1 then (if m = 0 then .inf neg else .nan)
  else if e = 0 then .fin (signed neg ((m : Int) * pow2 (161 - bias - mb)))
  else .fin (signed neg (((2 ^ mb + m : Nat) : Int) * pow2 (160 + e - bias - mb)))

def decodeE4M3 (code : Nat) : Value :=
  if code % 128 = 127 then .nan else decodeFloat 4 3 7 false code

/-- An operand element of a format: `second` picks the operand B where the two differ (R169). -/
def decodeElement (format : Nat) (second : Bool) (code : Nat) : Value :=
  match format with
  | 0 => .fin (toSigned code 4 * pow2 160)
  | 1 => decodeFloat 2 1 1 false code
  | 2 => decodeFloat 2 1 1 false code
  | 3 => .fin (toSigned code 8 * pow2 160)
  | 4 => .fin (toSigned code 8 * pow2 154)
  | 5 => decodeE4M3 code
  | 6 => decodeFloat 5 2 15 true code
  | 7 => if second then decodeFloat 5 2 15 true code else decodeE4M3 code
  | 8 => decodeE4M3 code
  | 9 => decodeFloat 5 2 15 true code
  | 10 => if second then decodeFloat 5 2 15 true code else decodeE4M3 code
  | 11 => decodeFloat 8 7 127 true code
  | _ => decodeFloat 5 10 15 true code

/-- Block-scaled formats and their band width h (R169, R173). -/
def bandWidth (format : Nat) : Option Nat :=
  match format with
  | 2 => some 44 | 4 => some 41 | 8 => some 30 | 9 => some 16 | 10 => some 23
  | _ => none

/-- Bits of an operand element. -/
def elementBits (format : Nat) : Nat := if format < 3 then 4 else if format < 11 then 8 else 16

/-- An element under its block's E8M0 scale; 0xFF makes it NaN (R170). -/
def scaled (v : Value) (scale : Nat) : Value :=
  if scale = 255 then .nan
  else match v with
    | .fin x => .fin (if 127 ≤ scale then x * pow2 (scale - 127) else x / pow2 (127 - scale))
    | w => w

/-- The product of two elements (R172, R176). -/
def mulValue (x y : Value) : Value :=
  match x, y with
  | .nan, _ => .nan
  | _, .nan => .nan
  | .inf s, .inf t => .inf (s != t)
  | .inf s, .fin v => if v = 0 then .nan else .inf (s != decide (v < 0))
  | .fin v, .inf s => if v = 0 then .nan else .inf (s != decide (v < 0))
  | .fin v, .fin w => .fin (v * w)

/-- The exact sum (R172, R176). -/
def addValue (x y : Value) : Value :=
  match x, y with
  | .nan, _ => .nan
  | _, .nan => .nan
  | .inf s, .inf t => if s == t then .inf s else .nan
  | .inf s, .fin _ => .inf s
  | .fin _, .inf s => .inf s
  | .fin v, .fin w => .fin (v + w)

/-- Rounds a magnitude to a multiple of 2^q, to nearest even or upward. -/
def roundNat (up : Bool) (a q : Nat) : Nat :=
  let lo := a / 2 ^ q
  let r := a % 2 ^ q
  let more := if up then decide (0 < r)
    else decide (2 ^ q < 2 * r) || (2 * r == 2 ^ q && r != 0 && lo % 2 == 1)
  (if more then lo + 1 else lo) * 2 ^ q

/-- A finite value rounded to a float format with mantissa bits, least and greatest exponent; values in units of
2⁻³²⁰. Subnormals are kept; overflow gives an infinity (R175). -/
def roundFloat (up : Bool) (mb : Nat) (emin emax : Int) (v : Int) : Value :=
  let a := v.natAbs
  if a = 0 then .fin 0
  else
    let e : Int := (Nat.log2 a : Int) - 320
    let q := ((if e < emin then emin else e) - (mb : Int) + 320).toNat
    let r := roundNat up a q
    if (2 : Int) ^ (emax + 321).toNat ≤ (r : Int) then .inf (decide (v < 0))
    else .fin (signed (decide (v < 0)) (r : Int))

def roundValue (up : Bool) (mb : Nat) (emin emax : Int) : Value → Value
  | .fin v => roundFloat up mb emin emax v
  | w => w

def toF32 (x : Value) : Value := roundValue false 23 (-126) 127 x
def toF32Up (x : Value) : Value := roundValue true 23 (-126) 127 x

/-- FP32 addition to nearest even (R178). -/
def addF32 (x y : Value) : Value := toF32 (addValue x y)

/-- The bits of a rounded value in a float format: NaN is the canonical quiet NaN (R176). -/
def encodeFloat (eb mb bias : Nat) (x : Value) : Nat :=
  let top := 2 ^ (eb + mb)
  match x with
  | .nan => (2 ^ eb - 1) * 2 ^ mb + 2 ^ (mb - 1)
  | .inf neg => (if neg then top else 0) + (2 ^ eb - 1) * 2 ^ mb
  | .fin v =>
    let a := v.natAbs
    let s := if v < 0 then top else 0
    if a = 0 then 0
    else
      let e : Int := (Nat.log2 a : Int) - 320
      let emin : Int := 1 - (bias : Int)
      if e < emin then s + a / 2 ^ (emin - (mb : Int) + 320).toNat
      else s + (e + (bias : Int)).toNat * 2 ^ mb + (a / 2 ^ (e - (mb : Int) + 320).toNat) % 2 ^ mb

/-- INT32 readout: rounds to nearest even and saturates (R175). -/
def toInt32 (x : Value) : Int × Bool :=
  match x with
  | .fin v =>
    let r : Int := signed (decide (v < 0)) ((roundNat false v.natAbs 320 / 2 ^ 320 : Nat) : Int)
    if r < -2147483648 then (-2147483648, true) else if 2147483647 < r then (2147483647, true) else (r, false)
  | .inf neg => (if neg then -2147483648 else 2147483647, true)
  | .nan => (0, true)

/-! ### One pass -/

/-- Operand A's element (i, k) and operand B's element (k, j) under their scales. -/
def elemA (t : TilePass) (i k : Nat) : Value :=
  let v := decodeElement t.format false (t.a.getD (i * t.k + k) 0)
  match bandWidth t.format with
  | none => v
  | some _ => scaled v (t.sa.getD (i * (t.k / 32) + k / 32) 127)

def elemB (t : TilePass) (k j : Nat) : Value :=
  let v := decodeElement t.format true (t.b.getD (k * t.cols + j) 0)
  match bandWidth t.format with
  | none => v
  | some _ => scaled v (t.sb.getD ((k / 32) * t.cols + j) 127)

def sumValues (xs : List Value) : Value := xs.foldl addValue (.fin 0)

/-- The distinct scales of the A blocks, and of the B blocks, whose block number along the reduction a test accepts;
0xFF holds no scale. -/
def scalesA (t : TilePass) (f : Nat → Bool) : List Nat :=
  (((List.range t.rows).map (fun i => ((List.range (t.k / 32)).filter f).map
    (fun b => t.sa.getD (i * (t.k / 32) + b) 127))).flatten.filter (fun x => x != 255)).eraseDups

def scalesB (t : TilePass) (f : Nat → Bool) : List Nat :=
  ((((List.range (t.k / 32)).filter f).map (fun b => (List.range t.cols).map
    (fun j => t.sb.getD (b * t.cols + j) 127))).flatten.filter (fun x => x != 255)).eraseDups

/-- The lowest scales of the bands that hold scales, highest band first: bands of h values from the smallest scale (R173). -/
def bands (h : Nat) (scales : List Nat) : List Nat :=
  let least := scales.foldl min 255
  ((List.range 16).reverse.map (fun i => least + h * i)).filter (fun low =>
    scales.any (fun x => decide (low ≤ x) && decide (x < low + h)))

/-- Sub-passes of the blocks a test accepts (R173). -/
def subPasses (t : TilePass) (f : Nat → Bool) : Nat :=
  match bandWidth t.format with
  | none => 1
  | some h => max 1 ((bands h (scalesA t f)).length * (bands h (scalesB t f)).length)

/-- Greedy segments from block 0: each extended while it needs at most two sub-passes (R174). A segment is its first
block and the block after its last. A block that needs more than two by itself is a segment of its own, with as many
sub-passes as it needs: the spec is silent on it. DESIGN CHOICE, log 46. -/
def segmentsFuel (t : TilePass) : Nat → Nat → Nat → List (Nat × Nat)
  | 0, _, _ => []
  | f + 1, start, stop =>
    let n := t.k / 32
    if stop < n then
      if start = stop || decide (subPasses t (fun b => decide (start ≤ b) && decide (b ≤ stop)) ≤ 2) then
        segmentsFuel t f start (stop + 1)
      else (start, stop) :: segmentsFuel t f stop stop
    else if start < stop then [(start, stop)] else []

/-- The ranges of the reduction that are each read out once: the whole, or the segments (R173, R174). -/
def passRanges (t : TilePass) : List (Nat × Nat) :=
  if (bandWidth t.format).isSome && decide (2 < subPasses t (fun _ => true)) then
    (segmentsFuel t (2 * (t.k / 32) + 2) 0 0).map (fun r => (32 * r.1, 32 * r.2))
  else [(0, t.k)]

def rangeList (r : Nat × Nat) : List Nat := (List.range (r.2 - r.1)).map (fun i => r.1 + i)

/-- 16-bit formats accumulate in FP32 (R178). -/
def sixteenBit (format : Nat) : Bool := decide (11 ≤ format)

/-- Element (i, j) over a range: exact in the bobbin formats (R172), in FP32 in ascending k otherwise (R178). A BF16 product above
the FP32 range becomes an infinity: the spec is silent on it. DESIGN CHOICE, log 46. -/
def cell (t : TilePass) (r : Nat × Nat) (i j : Nat) : Value :=
  if sixteenBit t.format then
    (rangeList r).foldl (fun acc k => addF32 acc (toF32 (mulValue (elemA t i k) (elemB t k j)))) (.fin 0)
  else sumValues ((rangeList r).map (fun k => mulValue (elemA t i k) (elemB t k j)))

/-! ### Sub-passes and what the cells hold (R172, R173, R176) -/

/-- One sub-pass: its range of the reduction, and the lowest scale of its band of A and of B (R173). -/
structure SubPass where
  start : Nat
  stop : Nat
  lowA : Nat
  lowB : Nat
  deriving DecidableEq, Repr

/-- The sub-passes of a range. -/
def rangeSubPasses (t : TilePass) (r : Nat × Nat) : List SubPass :=
  match bandWidth t.format with
  | none => [⟨r.1, r.2, 0, 0⟩]
  | some h =>
    let f := fun b => decide (r.1 ≤ 32 * b) && decide (32 * b < r.2)
    let some1 := fun (xs : List Nat) => if xs.isEmpty then [0] else xs
    ((some1 (bands h (scalesA t f))).map (fun a => (some1 (bands h (scalesB t f))).map (fun b => ⟨r.1, r.2, a, b⟩))).flatten

/-- The sub-passes of a pass, in the order they run. -/
def subPassList (t : TilePass) : List SubPass := ((passRanges t).map (rangeSubPasses t)).flatten

/-- An element's scale lies in a band. -/
def inBand (format low scale : Nat) : Bool :=
  match bandWidth format with
  | none => true
  | some h => decide (low ≤ scale) && decide (scale < low + h)

def finPart : Value → Int
  | .fin v => v
  | _ => 0

/-- Elements as a sub-pass streams them: zero outside its bands (R173). What is not finite adds nothing to a bobbin or to a picot
cell; it sets the cell's class (R176). -/
def maskA (t : TilePass) (q : SubPass) (i k : Nat) : Int :=
  if inBand t.format q.lowA (t.sa.getD (i * (t.k / 32) + k / 32) 127) then finPart (elemA t i k) else 0

def maskB (t : TilePass) (q : SubPass) (k j : Nat) : Int :=
  if inBand t.format q.lowB (t.sb.getD ((k / 32) * t.cols + j) 127) then finPart (elemB t k j) else 0

/-- The smallest scale sum of a sub-pass, of blocks that both operands stream; 254 is the sum of two scales of 1 (R172). -/
def leastScaleSum (t : TilePass) (q : SubPass) : Nat :=
  let least := fun (low : Nat) (xs : List Nat) => (xs.filter (fun x => x != 255 && inBand t.format low x)).foldl min 255
  let sums := ((List.range (t.k / 32)).filter (fun b => decide (q.start ≤ 32 * b) && decide (32 * b < q.stop))).filterMap (fun b =>
    let a := least q.lowA ((List.range t.rows).map (fun i => t.sa.getD (i * (t.k / 32) + b) 127))
    let c := least q.lowB ((List.range t.cols).map (fun j => t.sb.getD (b * t.cols + j) 127))
    if a = 255 ∨ c = 255 then none else some (a + c))
  if sums.isEmpty then 254 else sums.foldl min 510

/-- The weight 2^L of the bobbin's least significant bit in a sub-pass, as a power in units of 2⁻³²⁰ (R172): the least
significant bit of the smallest product, and for block-scaled formats the smallest scale sum of the sub-pass. -/
def anchor (t : TilePass) (q : SubPass) : Nat :=
  let least := fun (second : Bool) => match t.format with
    | 0 => 160 | 3 => 160 | 4 => 154
    | 1 => 159 | 2 => 159
    | 5 => 151 | 8 => 151
    | 6 => 144 | 9 => 144
    | 7 => if second then 144 else 151
    | 10 => if second then 144 else 151
    | _ => 160
  let base := least false + least true
  match bandWidth t.format with
  | none => base
  | some _ => base + leastScaleSum t q - 254

/-- 112 bits in two's complement (R172). -/
def wrap112 (x : Int) : Int := (x + pow2 111) % pow2 112 - pow2 111

/-- The change that faults make of element (i, j) in sub-pass n. -/
def faultAt (t : TilePass) (n i j : Nat) : Int :=
  ((t.errors.cells.filter (fun f => f.sub == n && f.row == i && f.col == j)).map (fun f => f.change)).sum

/-- What the cell (i, j) holds at the end of sub-pass n: the bobbin's 112 bits, or the FP32 accumulator in units of 2⁻³²⁰, each
with its faults. -/
def heldCell (t : TilePass) (n : Nat) (q : SubPass) (i j : Nat) : Int :=
  if sixteenBit t.format then finPart (cell t (q.start, q.stop) i j) + faultAt t n i j * pow2 171
  else
    let sum := ((rangeList (q.start, q.stop)).map (fun k => maskA t q i k * maskB t q k j)).sum
    wrap112 (sum / pow2 (anchor t q) + faultAt t n i j)

/-- The cells of every sub-pass, row-major. -/
def heldCells (t : TilePass) : List (List Int) :=
  let qs := subPassList t
  (List.range qs.length).map (fun n =>
    ((List.range t.rows).map (fun i => (List.range t.cols).map (heldCell t n (qs.getD n ⟨0, 0, 0, 0⟩) i))).flatten)

/-- What a list of held cells gives for sub-pass n. -/
def heldAt (t : TilePass) (cells : List (List Int)) (n i j : Nat) : Int := (cells.getD n []).getD (i * t.cols + j) 0

/-- An element of a range at its readout (R173, R175, R176): the exact sum of the range's bobbins, or the class that overrides
them. -/
def rangeValue (t : TilePass) (cells : List (List Int)) (r : Nat × Nat) (i j : Nat) : Value :=
  let qs := subPassList t
  match cell t r i j with
  | .fin _ => .fin ((List.range qs.length).map (fun n =>
      let q := qs.getD n ⟨0, 0, 0, 0⟩
      if q.start != r.1 then 0
      else heldAt t cells n i j * (if sixteenBit t.format then 1 else pow2 (anchor t q)))).sum
  | w => w

/-- |x| of a value; infinities and NaN keep their class. -/
def absValue : Value → Value
  | .fin v => .fin (if v < 0 then -v else v)
  | .inf _ => .inf false
  | .nan => .nan

/-- Values in units of 2⁻¹⁶⁰ as values in units of 2⁻³²⁰. -/
def widen : Value → Value
  | .fin v => .fin (v * pow2 160)
  | w => w

def narrow : Value → Value
  | .fin v => .fin (v / pow2 160)
  | w => w

/-- The FP32 sum, to nearest even or upward, in list order. -/
def sumF32 (up : Bool) (xs : List Value) : Value :=
  xs.foldl (fun acc x => if up then toF32Up (addValue acc x) else addF32 acc x) (.fin 0)

/-- A 16-bit residual, formed exactly and rounded upward (R179), against τ (R103): |Σ c − r| ≤ (n + 257) 2⁻²³ S + 256 n 2⁻¹⁴⁹;
non-finite sums by class. A magnitude sum above the FP32 range leaves no bound, and the line passes: the spec is silent on it.
DESIGN CHOICE, log 46. -/
def withinTau (n : Nat) (sum check mag : Value) : Bool :=
  match sum, check, mag with
  | .fin c, .fin r, .fin m =>
    (match toF32Up (.fin ((c - r).natAbs : Int)) with
      | .fin x => decide (x * pow2 23 ≤ ((n : Int) + 257) * m + 256 * (n : Int) * pow2 194)
      | _ => false)
  | .fin _, .fin _, _ => true
  | .inf s, .inf t, _ => s == t
  | .nan, .nan, _ => true
  | _, _, _ => false

/-- The class that a 16-bit cell keeps overrides what its accumulator holds (R176). -/
def cellValue (t : TilePass) (cells : List (List Int)) (n : Nat) (q : SubPass) (i j : Nat) : Value :=
  match cell t (q.start, q.stop) i j with
  | .fin _ => .fin (heldAt t cells n i j)
  | w => w

/-- The picot row check of row i in a sub-pass (R179): exact modulo 2¹¹² in the bobbin formats; in the 16-bit formats FP32 sums
within τ. -/
def rowPasses (t : TilePass) (cells : List (List Int)) (n : Nat) (q : SubPass) (i : Nat) : Bool :=
  let ks := rangeList (q.start, q.stop)
  if sixteenBit t.format then
    let beta := fun k => narrow (sumF32 false ((List.range t.cols).map (fun j => widen (elemB t k j))))
    let absB := fun k => narrow (sumF32 true ((List.range t.cols).map (fun j => absValue (widen (elemB t k j)))))
    let check := sumF32 false (ks.map (fun k => toF32 (mulValue (elemA t i k) (beta k))))
    let mag := sumF32 true (ks.map (fun k => toF32Up (mulValue (absValue (elemA t i k)) (absB k))))
    withinTau (q.stop - q.start) (sumValues ((List.range t.cols).map (cellValue t cells n q i))) check mag
  else
    let r := (ks.map (fun k => maskA t q i k * ((List.range t.cols).map (maskB t q k)).sum)).sum
    (((List.range t.cols).map (heldAt t cells n i)).sum - r / pow2 (anchor t q)) % pow2 112 == 0

/-- The picot column check of column j in a sub-pass. -/
def columnPasses (t : TilePass) (cells : List (List Int)) (n : Nat) (q : SubPass) (j : Nat) : Bool :=
  let ks := rangeList (q.start, q.stop)
  if sixteenBit t.format then
    let alpha := fun k => narrow (sumF32 false ((List.range t.rows).map (fun i => widen (elemA t i k))))
    let absA := fun k => narrow (sumF32 true ((List.range t.rows).map (fun i => absValue (widen (elemA t i k)))))
    let check := sumF32 false (ks.map (fun k => toF32 (mulValue (alpha k) (elemB t k j))))
    let mag := sumF32 true (ks.map (fun k => toF32Up (mulValue (absA k) (absValue (elemB t k j)))))
    withinTau (q.stop - q.start) (sumValues ((List.range t.rows).map (fun i => cellValue t cells n q i j))) check mag
  else
    let r := (ks.map (fun k => ((List.range t.rows).map (fun i => maskA t q i k)).sum * maskB t q k j)).sum
    (((List.range t.rows).map (fun i => heldAt t cells n i j)).sum - r / pow2 (anchor t q)) % pow2 112 == 0

/-- The first failing row and column of a pass over the cells its tile holds, where some check of some sub-pass fails (R181).
Where only rows or only columns fail, the other number is 0. -/
def cellFailure (t : TilePass) (cells : List (List Int)) : Option (Nat × Nat) :=
  let qs := subPassList t
  let fails := fun (f : TilePass → List (List Int) → Nat → SubPass → Nat → Bool) (x : Nat) =>
    (List.range qs.length).any (fun n => !f t cells n (qs.getD n ⟨0, 0, 0, 0⟩) x)
  let row := (List.range t.rows).find? (fails rowPasses)
  let col := (List.range t.cols).find? (fails columnPasses)
  if row.isSome || col.isSome then some (row.getD 0, col.getD 0) else none

/-- The first failing row and column of a pass. -/
def picotFailure (t : TilePass) : Option (Nat × Nat) := cellFailure t (heldCells t)

/-! ### Vector lanes (R174, R175, R183) -/

/-- 1 in units of 2⁻³²⁰. -/
def oneValue : Value := .fin (pow2 320)

/-- The vector lanes' fused multiply-add: x · y + z in binary32, rounded once to nearest even, subnormals kept (R183). -/
def fmaF32 (x y z : Value) : Value := toF32 (addValue (mulValue (narrow x) (narrow y)) z)

/-- An output element before its last rounding: the exact bobbin value, the FP32 sum, or the FP32 sum of the segments
in order, which the vector lanes add (R174, R175, R178). -/
def rawOutput (t : TilePass) (cells : List (List Int)) (i j : Nat) : Value :=
  match passRanges t with
  | [r] => rangeValue t cells r i j
  | rs => (rs.map (fun r => toF32 (rangeValue t cells r i j))).foldl (fun acc x => fmaF32 acc oneValue x) (.fin 0)

/-- The bits of a value rounded to a float format; a negative value that rounds to zero keeps its sign (R175). -/
def encodeRounded (eb mb bias : Nat) (exact rounded : Value) : Nat :=
  match exact, rounded with
  | .fin v, .fin r => if r = 0 ∧ v < 0 then 2 ^ (eb + mb) else encodeFloat eb mb bias rounded
  | _, _ => encodeFloat eb mb bias rounded

/-- An output element in an output format of the readout (R175): 0 INT32, 1 FP32, 2 BF16, 3 FP16. -/
def readout (out : Nat) (x : Value) : Nat :=
  match out with
  | 0 => ofSigned (toInt32 x).1 32
  | 1 => encodeRounded 8 23 127 x (toF32 x)
  | 2 => encodeRounded 8 7 127 x (roundValue false 7 (-126) 127 x)
  | _ => encodeRounded 5 10 15 x (roundValue false 10 (-14) 15 x)

/-- An FP8 output from an FP32 value: format 4 E4M3, 5 E5M2 (R175). A value above the format's largest is open (log 47). -/
def encodeFp8 (out : Nat) (x : Value) : Nat :=
  match out, x with
  | 4, .nan => 0x7F
  | 4, .inf neg => Config.fp8Overflow 4 neg
  | 4, .fin v => match roundFloat false 3 (-6) 8 v with
    | .fin r => if pow2 320 * 448 < (r.natAbs : Int) then Config.fp8Overflow 4 (decide (v < 0)) else encodeRounded 4 3 7 x (.fin r)
    | _ => Config.fp8Overflow 4 (decide (v < 0))
  | _, .fin v => match roundFloat false 2 (-14) 15 v with
    | .fin r => encodeRounded 5 2 15 x (.fin r)
    | _ => Config.fp8Overflow 5 (decide (v < 0))
  | _, w => encodeFloat 5 2 15 w

/-- Element shape of a block-scaled output (R175): mantissa bits, exponent bits, bias, exponent of the largest value, and that
value in units of 2⁻³²⁰. -/
def mxShape (out : Nat) : Nat × Nat × Nat × Nat × Int :=
  match out with
  | 6 => (3, 4, 7, 8, pow2 320 * 448)
  | 7 => (2, 5, 15, 15, pow2 320 * 57344)
  | _ => (1, 2, 1, 2, pow2 320 * 6)

/-- A block of a block-scaled output: its shared scale and its elements (R175). As the OCP specification has it, the scale is the
power of two that brings the block's largest value to the element format's largest exponent, and elements are rounded to nearest
even and clamped to the largest value. PRESUMED, log 47. -/
def mxBlock (out : Nat) (xs : List Value) : Nat × List Nat :=
  let codes := xs.map (fun x => encodeFloat 8 23 127 x)
  let top := xs.foldl (fun m x => max m (finPart x).natAbs) 0
  let (mb, eb, bias, emax, largest) := mxShape out
  if top = 0 ∨ xs.any (fun x => x != .fin (finPart x)) then
    (Config.mxScale out codes, (List.range xs.length).map (fun i =>
      if xs.getD i .nan == .fin 0 ∧ top = 0 ∧ xs.all (fun x => x == .fin 0) then 0 else Config.mxCode out codes i))
  else
    let scale : Int := max (-127) ((Nat.log2 top : Int) - 320 - (emax : Int))
    let shift := fun (v : Int) => if 0 ≤ scale then v / pow2 scale.toNat else v * pow2 (-scale).toNat
    ((scale + 127).toNat, xs.map (fun x =>
      let v := shift (finPart x)
      match roundFloat false mb (1 - (bias : Int)) (emax : Int) v with
      | .fin r =>
        let r := if largest < (r.natAbs : Int) then signed (decide (r < 0)) largest else r
        encodeRounded eb mb bias (.fin v) (.fin r)
      | _ => encodeFloat eb mb bias (.fin (signed (decide (v < 0)) largest))))

/-- Runs of at most 32 values. -/
def runsOf32 (xs : List Value) : List (List Value) :=
  (List.range ((xs.length + 31) / 32)).map (fun i => (xs.drop (32 * i)).take 32)

/-- The outputs of a pass as its tile reads them out, row-major (R175): FP8 and block-scaled outputs go through FP32 and the
vector lanes, and a block is 32 consecutive elements of a row (log 47). -/
def readoutOf (t : TilePass) (cells : List (List Int)) : TileOutput :=
  let rows := (List.range t.rows).map (fun i => (List.range t.cols).map (rawOutput t cells i))
  if t.out < 4 then ⟨rows.flatten.map (readout t.out), []⟩
  else if t.out < 6 then ⟨rows.flatten.map (fun x => encodeFp8 t.out (toF32 x)), []⟩
  else
    let blocks := (rows.map runsOf32).flatten.map (fun b => mxBlock t.out (b.map toF32))
    ⟨(blocks.map (fun b => b.2)).flatten, blocks.map (fun b => b.1)⟩

/-- The output codes of a pass. -/
def passOutputs (t : TilePass) : List Nat := (readoutOf t (heldCells t)).codes

/-- INT32 readouts that saturated (R175, R188). -/
def overflows (t : TilePass) : Nat :=
  if t.out = 0 then
    ((List.range t.rows).map (fun i =>
      ((List.range t.cols).filter (fun j => (toInt32 (rawOutput t (heldCells t) i j)).2)).length)).sum
  else 0

/-- Cycles per multiply-add (R169). -/
def cyclesPer (format : Nat) : Nat := if format < 3 then 1 else if format < 11 then 2 else 8

/-- KT cycles of a pass (R171, R173): plain, split, or the sum over its segments. -/
def passCycles (t : TilePass) : Nat :=
  ((passRanges t).map (fun r =>
    let n := subPasses t (fun b => decide (r.1 ≤ 32 * b) && decide (32 * b < r.2))
    if (bandWidth t.format).isSome && n = 2 then 2 * (cyclesPer t.format * (r.2 - r.1) + 512) + 256
    else cyclesPer t.format * (r.2 - r.1) + 512)).sum

end Sys2Proof.Machine
end

