-- ==== Sys2Proof/Machine/Spares.lean ====
section
/-! DEFINITION. The map of a cluster's tiles, its spare, and the sampled recomputations that run (R163, R186, R187, R190, R191). -/

namespace Sys2Proof.Machine

open Sys2Proof

/-- The physical tile of a logical number; 17 for a tile removed. -/
def tileOf (s : State) (cluster logical : Nat) : Nat := Tbl.getD s.tensor.tileMap (cluster * 16 + logical) logical

/-- The logical number a physical tile serves, where it is in service. -/
def logicalOf (s : State) (cluster tile : Nat) : Option Nat := (List.range 16).find? (fun l => tileOf s cluster l == tile)

/-- Tiles of a cluster in service. -/
def activeTiles (s : State) (cluster : Nat) : Nat := ((List.range 16).filter (fun l => tileOf s cluster l != 17)).length

/-- The cluster's spare: a tile without a logical number, not fenced. -/
def spareOf (s : State) (cluster : Nat) : Option Nat :=
  (List.range 17).find? (fun t => (logicalOf s cluster t).isNone && !isFenced s 0x01 (cluster * 17 + t))

/-- A cluster whose input or output hop is fenced is out of service (R109). -/
def clusterOut (s : State) (cluster : Nat) : Bool := isFenced s 0x0C (13 * 16 + cluster) || isFenced s 0x0C (14 * 16 + cluster)

def setOffload (s : State) (key : Nat) (f : Offload → Offload) : State :=
  match Tbl.get? s.tensor.offloads key with
  | none => s
  | some o => { s with tensor := { s.tensor with offloads := Tbl.set s.tensor.offloads key (f o) } }

/-! ### Sampled recomputation (R187) -/

/-- The tile runs no recomputation. -/
def tileIdle (s : State) (inst : Nat) : Bool := s.tensor.offloads.all (fun e => (Tbl.get? e.2.running inst).isNone)

/-- The idle spares of the clusters in a partition's mask (R187). -/
def idleSpares (s : State) (p : Nat) : List Nat :=
  (List.range 8).filterMap (fun c =>
    if !bit (part s p).clusterMask c || clusterOut s c then none
    else match spareOf s c with
      | none => none
      | some t => if tileIdle s (c * 17 + t) then some (c * 17 + t) else none)

/-- Drawn blocks of an offload whose recomputation does not run. -/
def unassigned (x : Offload) : List Nat := x.drawn.filter (fun b => !x.running.any (fun e => e.2 == b))

/-- The blocks drawn and not yet running start on idle spares, in order (R187). -/
def assignSpares (s : State) : State :=
  s.tensor.offloads.foldl (fun s e =>
    (unassigned e.2).foldl (fun s b => match idleSpares s (e.1 / 32) with
      | [] => s
      | t :: _ => setOffload s e.1 (fun x => { x with running := Tbl.set x.running t b })) s) s

/-- The recomputation on a tile is abandoned; its block waits for another tile, where its retry starts afresh (R191). -/
def abandon (s : State) (inst : Nat) : State :=
  setTensor s (fun t => { t with offloads := Tbl.mapAll t.offloads (fun _ x =>
    { x with running := Tbl.erase x.running inst, retried := x.retried.erase inst }) })

/-- The block that a recomputation on a tile has recomputed: the one that runs there, or, where no idle spare is left, the
next drawn one on an active tile of the mask (R187). -/
def recomputedBlock (s : State) (o : Nat) (x : Offload) (cluster tile : Nat) : Option Nat :=
  match Tbl.get? x.running (cluster * 17 + tile) with
  | some b => some b
  | none =>
    if (logicalOf s cluster tile).isSome && (idleSpares s (o / 32)).isEmpty && tileIdle s (cluster * 17 + tile) then
      (unassigned x).head?
    else none

end Sys2Proof.Machine
end

