-- ==== Sys2Proof/Machine/Partner.lean ====
section
/-! DEFINITION. Partner ports: link parcels, control parcels, replay, lanes, link states and link faults (R235–R270). -/

namespace Sys2Proof.Machine

open Sys2Proof

/-! ### Lanes -/

/-- A lane change starts: the notice with the new mask in three control parcels, and Degrade (R260). -/
def changeLanes (s : State) (n mask : Nat) : State :=
  let s := setPort s n (fun q => { q with state := .degrade, newLanes := some mask })
  sendControl (sendControl (sendControl s n 2) n 2) n 2

/-! ### Leaving and entering Run -/

/-- A convoy with traffic on a port. -/
def touchedOn (n : Nat) (c : Convoy) : Bool :=
  (c.state == .opened || c.state == .sealed || c.state == .confirmed)
    && (c.resultsOwed.contains n || (Tbl.get? c.acksOwed n).isSome || (Tbl.get? c.carried n).isSome)

/-- The operations whose parcels are replayed on a port are in repair, or no longer; a replay that passed makes them end
with RECOVERED (R114, R244, R106). -/
def repairOnPort (s : State) (n : Nat) (on passed : Bool) : State :=
  let ns := Tbl.keysWhere s.convoys (fun _ c => touchedOn n c && (on || c.inRepair))
  ns.foldl (fun s m =>
    let c := convoy s m
    let s := setConvoy s m (fun c => { c with inRepair := on })
    match c.owner with
    | none => s
    | some o => setSlot s (o / 32) (o % 32) (fun sl => { sl with
        inRepair := on || decide (2 ≤ c.attempt), layer := if on then 1 else 3, lower := sl.lower || passed })) s

/-- The replay of a link ended in a lasting fault of a lane: the convoys it was in repair for are cancelled with that cause, and
re-run under R80 (R116). -/
def cancelReplayed (s : State) (n lane : Nat) : State :=
  (cancelWhere s (fun _ c => touchedOn n c && c.inRepair) .ownCheck (0x02 * 1024 + n * 8 + lane)).2

/-- Models with pages on a port (R229). -/
def modelsOnPort (s : State) (n : Nat) : List Nat :=
  Tbl.keysWhere s.memory.models (fun _ m =>
    (m.areaPlaces ++ (m.layers.map (fun l => l.places)).flatten).any (onPartner n))

/-- A link parcel of an operation outside a convoy whose command it works for (R61): content, waybill and payload. -/
def ofCommand (x : Nat × List Byte) : Bool :=
  contentClass x.1 == 0 && !bit (field x.2 3 1) 1 && field x.2 12 4 != 0

/-- What a link that fails takes with it: the parcels in its replay buffer and those that wait (R265). -/
def linkLosses (q : Port) : List (Nat × List Byte) :=
  (q.replay.map (fun e => (field e.2 2 1, slice e.2 8 288)) ++ q.waiting.map (fun w => (w.2.1, w.2.2))).filter ofCommand

/-- A port in Run or Degrade leaves it (R265): convoys that carried parcels on it or await a result from it are cancelled
(R83), KP is held in reset, what waits on it is discarded, and models on its partner's memory are damaged (R229). -/
def leavePort (s : State) (n cause : Nat) : State :=
  if !inRun s n then s
  else
    let s := repairOnPort s n false false
    let s := setPort s n (fun q => { q with
      state := if cause = 7 then .disabled else .retrain
      retrainFrom := if cause = 7 then none else some s.now
      stateFrom := s.now
      lost := (linkLosses q).filter (fun x => !q.resent.contains x)
      resent := []
      replay := [], waiting := [], credit := [0, 0, 0, 0], newLanes := none, granted := false
      asked := none, failures := 0, laneErrors := [], answered := none
      capability := none, txSeq := 0, rxExpected := 0 })
    let s := setDomain s (10 + n) (fun d => { d with inReset := true })
    let r := cancelWhere s (fun _ c => (Tbl.get? c.carried n).isSome || c.resultsOwed.contains n) .portLeftRun (0x10 * 1024 + n)
    let s := forgetPortAcks r.2 n
    let s := (modelsOnPort s n).foldl (fun s k => damageModel s k 0x03) s
    let s := bump s 0x0703 (n * 256 + cause) 16
    raiseAdmin s 0x0382 (cause != 7) 0 (n + 256 * cause + 65536 * r.1)

/-- A port enters Seek: its first window starts with a training burst (R257, R262). `seen` says the window is not empty
(R253). -/
def enterSeek (s : State) (n : Nat) (seen : Bool) : State :=
  setPort s n (fun q => { q with
    state := .seek, stateFrom := s.now, seen := seen, bursting := true, retrainFrom := none, capability := none, granted := false })

/-- The 64 bytes of the N48's own declaration (R251). -/
def ownCapability (s : State) (n : Nat) : List Byte :=
  [0x01, 0x07] ++ leBytes 2 0x1FFF ++ leBytes 4 0 ++ leBytes 2 768 ++ leBytes 2 64 ++ leBytes 2 32 ++ leBytes 2 32
    ++ leBytes 2 s.vault.powerUps ++ leBytes 1 (usableLanes s n) ++ [0] ++ (List.range 16).map Config.deviceIdentifier
    ++ List.replicate 28 0

/-- The lowest lane of a mask: KP is recovered from it (R40). -/
def lowestLane (mask : Nat) : Nat := ((List.range 8).find? (fun l => bit mask l)).getD 0

/-- Exchange begins: the recovery lane is chosen (R40), sequences start at 0 and the capability parcel goes out (R242, R250). -/
def startExchange (s : State) (n lanes : Nat) : State :=
  let s := setPort s n (fun q => { q with
    lanes := lanes, recovery := lowestLane lanes, relocking := 0, txSeq := 0, rxExpected := 0, replay := [], capability := none
    stateFrom := if q.state == .retrain then q.stateFrom else s.now, lastGood := s.now, slots := 0
    asked := none, failures := 0, laneErrors := [], answered := none
    received := [0, 0, 0, 0], freed := [0, 0, 0, 0], freedSeen := [0, 0, 0, 0], credit := [0, 0, 0, 0] })
  let s := leaveReset (setDomain s (10 + n) (fun d => { d with clock := true, inReset := true })) (10 + n)
  let payload := ownCapability s n ++ List.replicate 192 0
  let (seq, s) := nextStream s 0x01 (0x30 + n) 0
  transmit s n 0x0B (waybill 0x01 (0x30 + n) 1 0 0 seq 0 0 payload) payload

/-- The partner of a port takes an offload's operand format (R252). -/
def takesOffload (s : State) (n : Nat) (x : Offload) : Bool := capFlag s n 3 && bit (field (capability s n) 2 2) x.format

/-- Convoys whose offload the partner of a port, by its new declaration, no longer takes are cancelled; their parcels are not
sent (R252). DEDUCED, log 51. -/
def dropUnwanted (s : State) (n : Nat) : State :=
  (cancelWhere s (fun _ c => c.resultsOwed.contains n && (match c.owner with
    | none => false
    | some o => match Tbl.get? s.tensor.offloads o with
      | none => false
      | some x => x.port == n && !takesOffload s n x)) .deadline 0).2

/-- A parcel lost with the link is sent once more, in its stream's new count (R64, R265). -/
def sendAgain (s : State) (n : Nat) (x : Nat × List Byte) : State :=
  let w := x.2
  let payload := (w.drop 32).take (field w 6 2 % 512)
  let (seq, s) := nextStream s (field w 1 1) (0x30 + n) (field w 4 1 % 32)
  let wb := waybill (field w 1 1) (0x30 + n) (field w 3 1) (field w 4 1 % 32) 0 seq (field w 12 4) (field w 16 8) payload
  sendLink (setPort s n (fun q => { q with resent := q.resent ++ [(x.1, wb ++ payload ++ List.replicate (256 - payload.length) 0)] }))
    n x.1 wb payload

/-- Operations outside convoys whose parcels were lost with the link are retried once on the port's return (R265). -/
def sendLost (s : State) (n : Nat) : State :=
  (portAt s n).lost.foldl (fun s x => sendAgain s n x) (setPort s n (fun q => { q with lost := [] }))

/-- The port enters Run with the partner's advertisement as its transmit credit (R257, R265); a retrain that succeeded is a
transient fault (R266). -/
def enterRun (s : State) (n : Nat) : State :=
  let q := portAt s n
  let cap := capability s n
  let s := setPort s n (fun q => { q with
    state := .run, stateFrom := s.now, empty := 0, absent := false, granted := true, retrainFrom := none
    credit := [field cap 8 2, field cap 10 2, field cap 12 2, field cap 14 2] })
  let s := clearAbsent s n
  let flags := field cap 1 1
  let s := raiseAdmin s 0x0381 false 0 (n + 256 * q.lanes + 65536 * b2n (bit flags 0) + 131072 * b2n (bit flags 1)
    + 262144 * b2n (bit flags 2) + 524288 * b2n (bit flags 4) + 4294967296 * field cap 16 2)
  let s := if q.state == .retrain then
      raiseAdmin (transient (bump s 0x0704 (n * 256) 16) 0x10 n) 0x0386 false 0 n
    else s
  sendLost (flushWaiting (dropUnwanted s n) n) n

/-! ### Lane faults -/

/-- A lane in service fails (R260, R261): it is dropped, or with the last one the port has a link fault. -/
def dropLane (s : State) (n lane : Nat) (lasting : Bool) (cause : Nat) : State :=
  let q := portAt s n
  let mask := clearBit (q.newLanes.getD q.lanes) lane
  let s := bump s 0x0705 (n * 8 + lane) 16
  let s := raiseAdmin s 0x0384 true 0 (n + 256 * lane + 2048 * b2n lasting + 65536 * mask)
  if mask = 0 then leavePort s n cause else changeLanes s n mask

/-! ### Received data link parcels (R239–R248) -/

/-- The lane that carried more than half of the symbol errors (R245). -/
def worstLane (errors : List Nat) : Option Nat :=
  (List.range 8).find? (fun l => decide (errors.sum < 2 * errors.getD l 0))

/-- The first failure of the expected parcel: replay is requested, counted and told once a millisecond (R244, R269). -/
def askReplay (s : State) (n : Nat) (symbols : List Nat) : State :=
  let ms := s.now / 1000000
  let told := (portAt s n).replayMs == some ms
  let s := setPort s n (fun q => { q with
    asked := some q.rxExpected, failures := 1, laneErrors := symbols, replayMs := some ms, replayFrom := s.now })
  let s := repairOnPort (bump s 0x0702 n 32) n true false
  let s := sendControl s n 0
  if told then s else raiseAdmin s 0x0388 false 0 (n + 65536)

/-- The same sequence fails on its replay: a lasting fault of the lane that carried most errors, or a link fault (R245).
In Exchange the replay is asked for until the exchange ends or runs out of time (R253). -/
def replayFailed (s : State) (n : Nat) (symbols : List Nat) : State :=
  let q := portAt s n
  let errors := (List.range 8).map (fun l => q.laneErrors.getD l 0 + symbols.getD l 0)
  if !inRun s n then sendControl s n 0
  else match (if q.failures = 1 then worstLane errors else none) with
  | some l =>
    let s := setPort s n (fun q => { q with failures := 2 })
    dropLane (cancelReplayed (lastingFault s 0x02 (n * 8 + l)) n l) n l true 0x08
  | none => leavePort s n 0x03

/-- A reserved field of a capability payload that is not zero (R250). -/
def capabilityReserved (p : List Byte) : Bool :=
  bits (field p 1 1) 7 5 != 0 || bits (field p 2 2) 15 13 != 0 || field p 0x13 1 != 0 || !allZero (slice p 0x24 220)

/-- A partner's advertisement lies within R247. -/
def creditAllowed (p : List Byte) : Bool :=
  let a := field p 8 2
  let b := field p 10 2
  let c := field p 12 2
  let d := field p 14 2
  decide (64 ≤ a) && decide (a ≤ 4000) && decide (16 ≤ b) && decide (b ≤ 512) && decide (c ≤ 512) && decide (4 ≤ d)
    && decide (d ≤ 64) && decide (a + b + c + d ≤ 4096)

/-- What is wrong with a capability parcel: reasons of event 0x0387 (R253, R269). -/
def capabilityFault (p : List Byte) : Option Nat :=
  if field p 0 1 != 1 then some 2
  else if capabilityReserved p then some 4
  else if !creditAllowed p then some 3
  else none

/-- The partner's capability parcel (R250, R253). A retrain that meets a bad one goes on until its 5 ms end. -/
def capabilityParcel (s : State) (n : Nat) (payload : List Byte) : State :=
  let q := portAt s n
  if q.state != .exchange && q.state != .retrain then s
  else match capabilityFault payload with
    | none => setPort s n (fun q => { q with capability := some (slice payload 0 64) })
    | some r =>
      let s := raiseAdmin s 0x0387 true 0 (n + 256 * r)
      if q.state == .exchange then enterSeek s n true else s

/-- Bytes of an element of a readout format (R175). -/
def outBytes (out : Nat) : Nat := if out < 2 then 4 else 2

/-- The offload a returned parcel belongs to: its command's, on that port, in a convoy that lives. -/
def offloadOf (s : State) (n : Nat) (w : List Byte) : Option Nat :=
  match parcelConvoy s w with
  | none => none
  | some m =>
    match (convoy s m).owner with
    | none => none
    | some o =>
      match Tbl.get? s.tensor.offloads o with
      | none => none
      | some x => if x.port == n && (convoy s m).resultsOwed.contains n then some o else none

/-- A block is complete when its last checksum parcel arrives in Inline mode, or its last element parcel (R255). -/
def blockComplete (o : Offload) (b : Nat) : Bool :=
  decide (65536 * outBytes o.out ≤ Tbl.getD o.arrived b 0)
    && (o.sampled || decide (512 ≤ Tbl.count o.sums (fun k _ => k / 1024 == b))
        && (!bit o.flags 1 || decide (512 ≤ Tbl.count o.mags (fun k _ => k / 1024 == b))))

/-- The convoy that carries the offload under a key. -/
def offloadConvoy (s : State) (key : Nat) : Option Nat := convoyOf s (key / 32) (key % 32)

def owe (s : State) (key checks : Nat) : State :=
  match offloadConvoy s key with
  | none => s
  | some m => setConvoy s m (fun c => { c with checksOwed := c.checksOwed + checks })

/-- Blocks drawn from what is complete (R186): one of each full run of N, and, once all blocks are in and no run was full,
one of them all. The draw comes from the internal random source. -/
def drawBlock (s : State) (key : Nat) : State :=
  match Tbl.get? s.tensor.offloads key with
  | none => s
  | some o =>
    let done := o.complete.length
    let run := if o.ratio = 0 then [] else
      if done % o.ratio = 0 then (o.complete.drop (done - o.ratio))
      else if done = o.blocks && decide (done < o.ratio) then o.complete else []
    if run.isEmpty then s
    else
      let (r, s) := drawNat s
      owe (requestPoint (assignSpares (setOffload s key (fun o => { o with drawn := o.drawn ++ [run.getD (r % run.length) 0] }))) 4) key 1

/-- A block that has just become complete awaits its inline check, and may close a run of the sampling. -/
def settleBlock (s : State) (key b : Nat) : State :=
  match Tbl.get? s.tensor.offloads key with
  | none => s
  | some o =>
    if o.complete.contains b || !blockComplete o b then s
    else
      let s := setOffload s key (fun o => { o with
        complete := o.complete ++ [b], ready := if o.sampled then o.ready else o.ready ++ [b] })
      let s := if o.sampled then s else owe s key 1
      let s := drawBlock s key
      match offloadConvoy s key with
      | none => s
      | some m => setConvoy s m (fun c => { c with
          inputsOwed := c.inputsOwed - 1
          resultsOwed := if o.complete.length + 1 = o.blocks then c.resultsOwed.erase o.port else c.resultsOwed })

/-- Result elements, checksums and magnitude sums (R255). -/
def resultParcel (s : State) (n content : Nat) (w payload : List Byte) : State :=
  match offloadOf s n w with
  | none => s
  | some key =>
    match Tbl.get? s.tensor.offloads key with
    | none => s
    | some o =>
      let off := field w 16 8
      let bs := slice payload 0 (field w 6 2 % 512)
      let size := 65536 * outBytes o.out
      if content = 3 then
        let at_ := off % 4294967296
        if off / 4294967296 != o.tag || decide (o.blocks * size < at_ + bs.length) then s
        else
          let b := at_ / size
          settleBlock (setOffload s key (fun o => { o with
            results := Mem.writeBytes o.results at_ bs
            arrived := Tbl.modify o.arrived b 0 (fun v => v + bs.length) })) key b
      else
        let b := off % 4294967296
        let first := b * 1024 + 512 * b2n (bit off 32) + 32 * bits off 35 33
        let put := fun (t : Tbl Nat) => (List.range 32).foldl (fun t i => Tbl.set t (first + i) (field bs (8 * i) 8)) t
        if decide (o.blocks ≤ b) then s
        else settleBlock (setOffload s key (fun o =>
          if content = 4 then { o with sums := put o.sums } else { o with mags := put o.mags })) key b

/-- Contents a partner may send (R241). -/
def inboundContent (content : Nat) : Bool := [0x03, 0x04, 0x05, 0x08, 0x09, 0x0A, 0x0B].contains content

/-- The credit this side advertises in a class (R246). -/
def advertised (cls : Nat) : Nat := [768, 64, 32, 32].getD cls 0

/-- A response parcel belongs to a read: its port, partition and command, within the bytes asked for (R256). -/
def PartnerRead.takes (r : PartnerRead) (n : Nat) (w : List Byte) : Bool :=
  r.port == n && r.space.isSome && r.partition == field w 4 1 % 32 && r.cmd == field w 12 4
    && decide (r.offset ≤ field w 16 8) && decide (field w 16 8 < r.offset + 256 * r.parcels)

/-- The request of a read goes out only once buffer space for its whole response is held (R249, R256). -/
def issueReads (s : State) (m : Nat) : State :=
  (convoy s m).reads.foldl (fun s r =>
    match r.space, (convoy s m).spaces with
    | none, a :: rest =>
      let s := setConvoy s m (fun c => { c with
        reads := c.reads.map (fun x => if x = r then { x with space := some a } else x), spaces := rest })
      sendBulk s r.port 0x07 r.partition (some m) r.cmd r.offset true
        (leBytes 8 r.offset ++ leBytes 4 r.parcels ++ leBytes 4 r.tag)
    | _, _ => s) s

/-- A memory read response is consumed into the buffer held for it; a read that is complete gives its buffer back (R249, R256). -/
def readResponse (s : State) (n : Nat) (w payload : List Byte) : State :=
  match s.convoys.find? (fun e => e.2.state == .opened && e.2.reads.any (fun r => r.takes n w)) with
  | none => s
  | some (m, c) =>
    match c.reads.find? (fun r => r.takes n w) with
    | none => s
    | some r =>
      let a := r.space.getD 0
      let bs := slice payload 0 (field w 6 2 % 512)
      let s := setMemory s (fun x => { x with bytes := Mem.writeBytes x.bytes (a + (field w 16 8 - r.offset)) bs })
      let s := if r.got + 1 < r.parcels then
          setConvoy s m (fun c => { c with reads := c.reads.map (fun x => if x = r then { x with got := x.got + 1 } else x) })
        else setConvoy s m (fun c => { c with reads := c.reads.erase r, spaces := c.spaces ++ [a] })
      issueReads s m

/-- A parcel that passed its waybill check takes effect: a capability, a result block, a read response. Convoy control and sync
signals take effect in steps of their own. -/
def takeParcel (s : State) (n content : Nat) (w payload : List Byte) : State :=
  if content = 0x0B then capabilityParcel s n payload
  else if 3 ≤ content ∧ content ≤ 5 then resultParcel s n content w payload
  else if content = 0x08 then readResponse s n w payload
  else s

/-- A parcel that passed the link checks: its waybill is checked as it enters the KP → KC queue, and it takes that queue's
credit (R41, R45, R239). While KC is held in reset it waits there unread (R52). -/
def deliverParcel (s : State) (n content : Nat) (w payload : List Byte) : State :=
  let q := queueAt s 5 n
  if q.granted && !endUp s (consumerDomain 5 n) then
    if q.credit = 0 then noteStall s 5 n
    else setQueue (takeCredit (endStall s 5 n) 5 n) 5 n (fun q => { q with units := q.units ++ [w ++ payload] })
  else
    let s := crossQueue s 5 n
    match failedCondition s 5 n w payload with
    | some cond => corrupted (if 7 ≤ cond then followStream s w else s) 5 n cond w
    | none => takeParcel (followStream s w) n content w payload

/-- Content codes that R241 reserves; they have no credit class. -/
def reservedContent (content : Nat) : Bool := decide (0x0C ≤ content)

/-- A parcel in sequence: a replay is over; a parcel beyond the credit granted is a violation (R248); contents that are
reserved or travel the wrong way are discarded and counted, and one without a credit class uses none (R241). Its entry is freed
at once in Run, and after the lane change in Degrade (R259). -/
def acceptParcel (s : State) (n : Nat) (parcel : List Byte) : State :=
  let q := portAt s n
  let content := field parcel 2 1
  let cls := contentClass content
  let again := q.asked.isSome
  let s := setPort s n (fun q => { q with
    rxExpected := (q.rxExpected + 1) % 65536, asked := none, failures := 0, laneErrors := [] })
  let s := if again then repairOnPort (transient s 0x10 n) n false true else s
  let discarded := fun (s : State) => raiseAdmin (bump s 0x0707 n 32) 0x0389 false 0 (n + 256 * content)
  if reservedContent content then discarded s
  else if inRun s n && decide (advertised cls ≤ (q.received.getD cls 0 + 65536 - q.freed.getD cls 0) % 65536) then
    leavePort s n 0x06
  else
    let taken := inRun s n
    let s := setPort s n (fun q =>
      let received := q.received.set cls ((q.received.getD cls 0 + 1) % 65536)
      { q with
        received := if taken then received else q.received
        freed := if q.state == .run then received else q.freed })
    if !inboundContent content then discarded s
    else deliverParcel s n content (slice parcel 8 32) (slice parcel 40 256)

/-- A codeword of RS(544,514) that carried a slot has more than 15 symbol errors (R236). The 2,400 bits of a slot lie in one
codeword or in two neighbours (R237), so up to 15 errors in all are corrected and more than 30 are not; in between the report
of forward error correction says whether one codeword has too many. -/
def fecFails (fec : Fec) : Bool :=
  let errors := ((List.range 8).map (fun l => fec.symbols.getD l 0)).sum
  if errors ≤ 15 then false else if 30 < errors then true else fec.uncorrectable

/-- Corrected symbols counted by lane, and uncorrectable codewords (R263). -/
def countSymbols (s : State) (n : Nat) (fec : Fec) : State :=
  if fecFails fec then bump s 0x0701 n 32
  else (List.range 8).foldl (fun s l =>
    if fec.symbols.getD l 0 = 0 then s else bumpBy s 0x0700 (n * 8 + l) 32 (fec.symbols.getD l 0)) s

/-- A link parcel passed its checks: the silence timer starts again (R262). -/
def passedAt (s : State) (n : Nat) : State := setPort s n (fun q => { q with lastGood := s.now })

/-- After a data parcel that was taken in, the next control slot acknowledges it and gives the freed counts (R237, R240, R246). -/
def acknowledge_ (s : State) (n : Nat) : State :=
  if inRun s n || (portAt s n).state == .exchange || (portAt s n).state == .retrain then sendControl s n 0 else s

/-- A data link parcel is checked in the order of R239: FEC, link CRC, link sequence (R242, R244, R245). -/
def linkReceive (s : State) (n : Nat) (parcel : List Byte) (fec : Fec) : State :=
  let q := portAt s n
  if !(inRun s n || q.state == .exchange || q.state == .retrain) then s
  else
    let s := countSymbols s n fec
    let bad := fecFails fec || field parcel 0x128 4 != (crc32c (slice parcel 0 0x128)).toNat
    let seq := field parcel 0 2
    if !bad && field parcel 2 1 = 0 then passedAt s n
    else if !bad && seq == q.rxExpected then acknowledge_ (acceptParcel (passedAt s n) n parcel) n
    else match q.asked with
      | none => askReplay s n fec.symbols
      | some e => if bad && seq == e then replayFailed s n fec.symbols else s

/-! ### Received control parcels (R240) -/

/-- Entries of the replay buffer after an acknowledged sequence. -/
def afterAck (replay : List (Nat × List Byte)) (ack : Nat) : List (Nat × List Byte) :=
  if replay.any (fun e => e.1 == ack) then (replay.dropWhile (fun e => e.1 != ack)).drop 1 else replay

/-- The parcels of the replay buffer go out again from a sequence on (R244, R245). -/
def resendFrom (s : State) (n from_ : Nat) : State :=
  send s (((portAt s n).replay.dropWhile (fun e => e.1 != from_)).map (fun e => Output.parcel n (field e.2 2 1) e.2))

/-- A new replay request is answered, counted and told once a millisecond (R244, R269). -/
def resend (s : State) (n from_ : Nat) : State :=
  let ms := s.now / 1000000
  let told := (portAt s n).replayMs == some ms
  let s := resendFrom s n from_
  let s := setPort s n (fun q => { q with answered := some from_, replayMs := some ms })
  let s := repairOnPort (bump s 0x0702 n 32) n true false
  if told then s else raiseAdmin s 0x0388 false 0 (n + 65536)

/-- The partner's freed counts only advance (R45, R247); one that moves backwards is a violation (R248). -/
def freedCounts (parcel : List Byte) : List Nat := (List.range 4).map (fun c => field parcel (8 + 2 * c) 2)

/-- What the partner's freed counts have gained since they were last seen, by class. -/
def gainedCredit (q : Port) (counts : List Nat) (c : Nat) : Nat := (counts.getD c 0 + 65536 - q.freedSeen.getD c 0) % 65536

/-- A freed count has moved backwards (R248). -/
def freedBackwards (q : Port) (counts : List Nat) : Bool := (List.range 4).any (fun c => decide (32768 ≤ gainedCredit q counts c))

/-- The credit of the freed counts is added, and what waits for it goes out. -/
def takeFreed (s : State) (n : Nat) (counts : List Nat) : State :=
  flushWaiting (setPort s n (fun q => { q with
    credit := (List.range 4).map (fun c => q.credit.getD c 0 + gainedCredit q counts c)
    freedSeen := counts })) n

/-- Lanes that a partner's notice takes out of service are dropped lanes too (R260, R263). -/
def countDropped (s : State) (n mask : Nat) : State :=
  (List.range 8).foldl (fun s l => if bit (portAt s n).lanes l && !bit mask l then bump s 0x0705 (n * 8 + l) 16 else s) s

/-- A lane change that the partner started or answered (R260): the side that did not start it answers with the same mask and
notice and enters Degrade; a mask that differs from the one this side sent is answered too. -/
def laneNotice (s : State) (n proposed : Nat) : State :=
  let q := portAt s n
  let mask := bothLanes (ownLanes s n) proposed
  if mask = 0 then leavePort s n 0x08
  else if q.state == .run then changeLanes (countDropped s n mask) n mask
  else if q.state == .degrade && q.newLanes != some mask then changeLanes s n mask
  else s

/-- What a control parcel that passed its checks brings in Run: a replay asked for or over, then credit (R244, R247). -/
def controlReplay (s : State) (n : Nat) (parcel : List Byte) : State :=
  if bit (field parcel 6 1) 0 then
    if (portAt s n).answered == some (field parcel 4 2) then s else resend s n (field parcel 4 2)
  else if (portAt s n).answered.isSome then
    repairOnPort (transient (setPort s n (fun q => { q with answered := none })) 0x10 n) n false true
  else s

/-- A control parcel is received (R240). A sender state other than Run or Degrade is a link fault (R264); a freed count that moves
backwards is one too, and the parcel is discarded (R248). -/
def controlReceive (s : State) (n : Nat) (parcel : List Byte) (fec : Fec) : State :=
  let q := portAt s n
  if !(inRun s n || q.state == .exchange || q.state == .retrain) then s
  else
    let s := countSymbols s n fec
    if fecFails fec || field parcel 0x128 4 != (crc32c (slice parcel 0 0x128)).toNat || field parcel 0 1 != 0x80 then s
    else
      let s := passedAt s n
      let sender := field parcel 1 1
      if inRun s n && sender != 4 && sender != 5 then leavePort s n 0x04
      else if inRun s n && freedBackwards q (freedCounts parcel) then leavePort s n 0x06
      else
        let s := setPort s n (fun q => { q with replay := afterAck q.replay (field parcel 2 2) })
        let s := if inRun s n && bit (field parcel 6 1) 1 then laneNotice s n (field parcel 7 1) else s
        let left := (q.state == .run || q.state == .degrade) && !inRun s n
        let s := if left then s else controlReplay s n parcel
        if inRun s n then takeFreed s n (freedCounts parcel) else s

/-- CONTROL_PARCEL_RECEIVE (R240). -/
def execControlParcelReceive (port : Fin 8) (parcel : List Byte) (fec : Fec) (s : State) : Host.Outcome State Fault Refusal :=
  .next (controlReceive s.fresh_ port parcel fec)

/-! ### Timers of a port (R262) -/

/-- REPLAY_TIMEOUT (R245): the timer stops at a lasting lane classification and runs afresh from the return to Run. -/
def execReplayTimeout (port : Fin 8) (s : State) : Host.Outcome State Fault Refusal :=
  let s := s.fresh_
  let q := portAt s port
  .next (if q.asked.isSome && inRun s port && !(q.state == .degrade && q.failures == 2) then
      leavePort (advanceTo s (q.replayFrom + 2000)) port 0x03
    else s)

/-- LINK_SILENCE (R262, R264): 8 µs without a link parcel that passes its checks. -/
def execLinkSilence (port : Fin 8) (s : State) : Host.Outcome State Fault Refusal :=
  .next (if inRun s port then leavePort (advanceTo s.fresh_ ((portAt s port).lastGood + 8000)) port 0x01 else s.fresh_)

/-- LANE_LOSS_OF_LOCK (R261): dropped at once and relocked once in the background. -/
def execLaneLossOfLock (port lane : Fin 8) (s : State) : Host.Outcome State Fault Refusal :=
  let s := s.fresh_
  let q := portAt s port
  .next (if !inRun s port || !bit q.lanes lane || bit q.relocking lane then s
    else dropLane (setPort s port (fun q => { q with relocking := setBit q.relocking lane })) port lane false 0x01)

/-- The relock ends (R261): 1 ms of clean pattern within 10 ms restores the lane, otherwise it is fenced. -/
def relockEnd (s : State) (n lane : Nat) (passed : Bool) : State :=
  let q := portAt s n
  if !bit q.relocking lane then s
  else
    let s := setPort s n (fun q => { q with relocking := clearBit q.relocking lane })
    if passed then
      let s := transient s 0x02 (n * 8 + lane)
      if !inRun s n then s
      else
        let mask := setBit (q.newLanes.getD q.lanes) lane
        raiseAdmin (changeLanes s n mask) 0x0385 false 0 (n + 256 * lane + 65536 * mask)
    else
      let s := lastingFault s 0x02 (n * 8 + lane)
      raiseAdmin s 0x0384 true 0 (n + 256 * lane + 2048 + 65536 * q.newLanes.getD q.lanes)

/-- LANE_RELOCK_END (R261). -/
def execLaneRelockEnd (port lane : Fin 8) (passed : Bool) (s : State) : Host.Outcome State Fault Refusal :=
  .next (relockEnd s.fresh_ port lane passed)

/-- Restriping is complete (R260): Run on the new lanes, KP recovered from the lowest of them (R40); credit returns resume (R257,
R259). What the partner asked to be replayed is sent again, and a replay this side awaits has a fresh timer (R245). -/
def restripe (s : State) (n : Nat) : State :=
  let q := portAt s n
  match q.state, q.newLanes with
  | .degrade, some m =>
    let s := setPort s n (fun q => { q with
      state := .run, stateFrom := s.now, lanes := m, recovery := lowestLane m, newLanes := none, freed := q.received
      replayFrom := s.now })
    let s := match q.answered with
      | none => s
      | some from_ => resendFrom s n from_
    flushWaiting s n
  | _, _ => s

/-- RESTRIPE_COMPLETE (R260). -/
def execRestripeComplete (port : Fin 8) (s : State) : Host.Outcome State Fault Refusal := .next (restripe s.fresh_ port)

/-- 1 s: a Seek window (R262). -/
def seekWindow : Nat := 1000000000

/-- A Seek window ends after 1 s, and the next begins (R257, R258, R262): at the third empty one in a row the port reports
ABSENT. -/
def seekWindowEnd (s : State) (n : Nat) : State :=
  let q := portAt s n
  if q.state != .seek then s
  else if q.seen then
    let s := advanceTo s (q.stateFrom + seekWindow)
    setPort s n (fun q => { q with stateFrom := s.now, empty := 0, seen := false, bursting := true })
  else
    let s := bump (advanceTo s (q.stateFrom + seekWindow)) 0x0706 n 32
    let s := setPort s n (fun q => { q with stateFrom := s.now, empty := q.empty + 1, bursting := true })
    if q.empty + 1 = 3 then
      markAbsent (raiseAdmin (setPort s n (fun q => { q with absent := true })) 0x0383 true 0 n) n
    else s

/-- SEEK_WINDOW_END (R258). -/
def execSeekWindowEnd (port : Fin 8) (s : State) : Host.Outcome State Fault Refusal := .next (seekWindowEnd s.fresh_ port)

/-- TRAINING_BURST_END (R262): 100 ms after the window began. -/
def execTrainingBurstEnd (port : Fin 8) (s : State) : Host.Outcome State Fault Refusal :=
  let s := s.fresh_
  let q := portAt s port
  .next (if q.bursting then setPort (advanceTo s (q.stateFrom + 100000000)) port (fun q => { q with bursting := false }) else s)

/-- PARTNER_TRAINING_SIGNAL (R257, R258): before NODE_DONE is high a port does not leave Seek. -/
def execPartnerTrainingSignal (port lane : Fin 8) (s : State) : Host.Outcome State Fault Refusal :=
  let s := s.fresh_
  .next (if (portAt s port).state != .seek || !bit (usableLanes s port) lane then s
    else if s.boot.nodeDoneHigh then setPort s port (fun q => { q with state := .train, stateFrom := s.now, empty := 0, seen := false, bursting := false })
    else setPort s port (fun q => { q with seen := true }))

/-- Training ends with the lanes it trained (R257), at once where they are all the usable ones, else after its 20 ms (R262):
Exchange, with the untrained lanes counted as lane faults, or Seek with an event. The table of R257 names that event and gives it
no code: the model writes 0x0387 with reason 0x01. DESIGN CHOICE, log 27. A retrain uses the stored settings of the lanes trained
before (R266). -/
def trainEnd (s : State) (n trained : Nat) : State :=
  let q := portAt s n
  if q.state == .train then
    let lanes := bothLanes trained (usableLanes s n)
    let s := if lanes = usableLanes s n ∧ lanes ≠ 0 then s else advanceTo s (q.stateFrom + 20000000)
    if lanes = 0 then enterSeek (raiseAdmin s 0x0387 true 0 (n + 256)) n false
    else
      let s := (List.range 8).foldl (fun s l =>
        if bit (usableLanes s n) l && !bit lanes l then transient s 0x02 (n * 8 + l) else s) s
      startExchange (setPort s n (fun q => { q with state := .exchange, trained := lanes })) n lanes
  else if q.state == .retrain then
    let lanes := bothLanes trained (bothLanes q.trained (usableLanes s n))
    if lanes = 0 then s else startExchange s n lanes
  else s

/-- TRAIN_END (R257). -/
def execTrainEnd (port : Fin 8) (trained : BitVec 8) (s : State) : Host.Outcome State Fault Refusal :=
  .next (trainEnd s.fresh_ port trained.toNat)

/-- EXCHANGE_COMPLETE (R257): a valid capability parcel and the initial grants have arrived both ways. -/
def execExchangeComplete (port : Fin 8) (s : State) : Host.Outcome State Fault Refusal :=
  let s := s.fresh_
  let q := portAt s port
  .next (if (q.state == .exchange || q.state == .retrain) && q.capability.isSome then enterRun s port else s)

/-- EXCHANGE_TIMEOUT (R253, R262): 10 ms. -/
def execExchangeTimeout (port : Fin 8) (s : State) : Host.Outcome State Fault Refusal :=
  let s := s.fresh_
  .next (if (portAt s port).state == .exchange then
      enterSeek (raiseAdmin (advanceTo s ((portAt s port).stateFrom + 10000000)) 0x0387 true 0 (port + 256)) port true else s)

/-- RETRAIN_TIMEOUT (R262, R266): 5 ms without Run is a lasting link fault; the port seeks. -/
def execRetrainTimeout (port : Fin 8) (s : State) : Host.Outcome State Fault Refusal :=
  let s := s.fresh_
  .next (if (portAt s port).state == .retrain then
      let s := advanceTo s ((portAt s port).retrainFrom.getD s.now + 5000000)
      let s := raiseAdmin (bump (bump s 0x0704 (port * 256 + 1) 16) 0x0301 0x10 16) 0x0386 true 0 (port + 256)
      enterSeek (setPort s port (fun q => { q with empty := 0 })) port false
    else s)

/-! ### Acknowledgements (R76, R84) -/

/-- The acknowledgement timer of a port, 12 µs from the transmission of the convoy's control parcel, expires (R84): extended once
by the 2 µs of a replay that runs on the port (R114), otherwise a link fault. A control parcel that still waits has not been
sent. -/
def ackTimeout (s : State) (n m : Nat) : State :=
  let c := convoy s m
  let behind := (portAt s n).waiting.any (controlOf m c.generation)
  match Tbl.get? c.acksOwed n with
  | none => s
  | some t =>
  if behind || !inRun s n then s
  else
  let s := advanceTo s (t + 12000 + if c.ackExtended.contains n then 2000 else 0)
  if ((portAt s n).asked.isSome || (portAt s n).answered.isSome) && !c.ackExtended.contains n then
    bump (setConvoy s m (fun c => { c with ackExtended := c.ackExtended ++ [n] })) 0x0302 3 32
  else leavePort (bump s 0x0204 n 16) n 0x02

/-- ACK_TIMEOUT (R84): 12 µs. -/
def execAckTimeout (port : Fin 8) (convoy : Fin 256) (s : State) : Host.Outcome State Fault Refusal :=
  .next (ackTimeout s.fresh_ port convoy)

/-- A convoy control parcel from a partner (R76): a seal, confirm or cancel acknowledgement of the present generation. -/
def convoyControl (s : State) (n : Nat) (payload : List Byte) : State :=
  let kind := field payload 0 1
  let m := field payload 1 1
  let c := convoy s m
  if !inRun s n || (Tbl.get? c.acksOwed n).isNone || bit (field payload 2 1) 0 != c.generation then s
  else
    let got := fun (s : State) => setConvoy s m (fun c => { c with acksOwed := Tbl.erase c.acksOwed n })
    if kind = 0x81 && c.state == .sealed then
      if field payload 3 1 = 0 && field payload 4 4 = Tbl.getD c.carried n 0 then got s
      else cancelConvoy (got s) m .ownCheck (0x10 * 1024 + n)
    else if (kind = 0x82 && c.state == .confirmed) || (kind = 0x83 && c.state == .cancelling) then got s
    else s

/-- CONVOY_CONTROL_RECEIVED (R76). -/
def execConvoyControlReceived (port : Fin 8) (payload : List Byte) (s : State) : Host.Outcome State Fault Refusal :=
  .next (convoyControl s.fresh_ port payload)

/-! ### Commands (R257) -/

def portNamed (c : Ctx) : Bool := decide (c.u 0 1 < 8)

/-- A port is enabled: lanes powered, empty count 0, the first window starts (R257). -/
def enablePort (s : State) (n : Nat) : State := enterSeek (setPort s n (fun q => { q with empty := 0, absent := false })) n false

/-- A queue hop of the port is fenced: the port is out of service until the main domain restarts (R109). -/
def portFenced (s : State) (n : Nat) : Bool := (List.range 6).any (fun c => isFenced s 0x0C (c * 16 + n))

/-- The checks of opcode 0x0381 beyond the common ones (R18). -/
def partnerPortEnableChecks : State → Ctx → Checks :=
    (fun s c => { badParameter := !portNamed c, badCommand := c.has 0 1 && portNamed c && (portAt s (c.u 0 1)).state != .disabled,
                  execution := if portFenced s (c.u 0 1) then some .lasting else none })

/-- PARTNER_PORT_ENABLE (R257). -/
def execPartnerPortEnable (o : Origin) (s : State) : Host.Outcome State Fault Refusal :=
  .next (runOp 0x0381 o s (fixed .immediate)
    partnerPortEnableChecks
    (fun s c => finish (enablePort s (c.u 0 1)) c { status := .ok }))

/-- A port is disabled: transmitters off, as a link fault in Run or Degrade (R257, R264). -/
def disablePort (s : State) (n : Nat) : State :=
  setPort (leavePort s n 0x07) n (fun q => { q with
    state := .disabled, bursting := false, seen := false, retrainFrom := none, capability := none })

/-- The checks of opcode 0x0382 beyond the common ones (R18). -/
def partnerPortDisableChecks : State → Ctx → Checks :=
                                             (fun _ c => { badParameter := !portNamed c })

/-- PARTNER_PORT_DISABLE (R257). -/
def execPartnerPortDisable (o : Origin) (s : State) : Host.Outcome State Fault Refusal :=
  .next (runOp 0x0382 o s (fixed .immediate) partnerPortDisableChecks
    (fun s c => finish (disablePort s (c.u 0 1)) c { status := .ok }))

/-- The 36 bytes of a port's status (command 0x0383). -/
def portRecord (s : State) (n : Nat) : List Byte :=
  let q := portAt s n
  let cap := capability s n
  leBytes 1 q.state.code ++ leBytes 1 (if inRun s n then q.lanes else 0) ++ slice cap 1 1 ++ leBytes 1 (min 255 q.empty)
    ++ slice cap 16 2 ++ slice cap 2 2 ++ slice cap 8 8 ++ slice cap 4 4 ++ slice cap 0x14 16

/-- The checks of opcode 0x0383 beyond the common ones (R18). -/
def partnerPortStatusChecks : State → Ctx → Checks :=
                                             (fun _ c => { badParameter := !portNamed c })

/-- PARTNER_PORT_STATUS (R250). -/
def execPartnerPortStatus (o : Origin) (s : State) : Host.Outcome State Fault Refusal :=
  .next (runOp 0x0383 o s (fixed .immediate) partnerPortStatusChecks
    (fun s c => finish s c { status := .ok, result := portRecord s (c.u 0 1) }))

end Sys2Proof.Machine
end

