-- ==== Sys2Proof/Machine/Blocks.lean ====
section
/-! DEFINITION. The arithmetic of partner result checks: inline verification and recomputation of a result block
(R103, R104, R185, R186, R254). Values that arrive are integers in units of 2⁻¹²⁰⁰. -/

namespace Sys2Proof.Machine

open Sys2Proof

/-- A floating-point code in units of 2⁻¹²⁰⁰. -/
def wideFloat (eb mb bias code : Nat) : Value :=
  let neg := bit code (eb + mb)
  let e := bits code (eb + mb - 1) mb
  let m := code % 2 ^ mb
  if e = 2 ^ eb - 1 then (if m = 0 then .inf neg else .nan)
  else if e = 0 then .fin (signed neg ((m : Int) * pow2 (1201 - bias - mb)))
  else .fin (signed neg (((2 ^ mb + m : Nat) : Int) * pow2 (1200 + e - bias - mb)))

/-- The weight of a code's last place in units of 2⁻¹²⁰⁰. -/
def wideUlp (eb mb bias code : Nat) : Int := pow2 (1200 + max 1 (bits code (eb + mb - 1) mb) - bias - mb)

/-- IEEE 754 binary64 (R255). -/
def binary64 (code : Nat) : Value := wideFloat 11 52 1023 code

/-- An element of a readout format: 0 INT32, 1 FP32, 2 BF16, 3 FP16 (R175). -/
def wideOut (out code : Nat) : Value :=
  match out with
  | 0 => .fin (toSigned code 32 * pow2 1200)
  | 1 => wideFloat 8 23 127 code
  | 2 => wideFloat 8 7 127 code
  | _ => wideFloat 5 10 15 code

def outUlp (out code : Nat) : Int :=
  match out with
  | 0 => pow2 1200
  | 1 => wideUlp 8 23 127 code
  | 2 => wideUlp 8 7 127 code
  | _ => wideUlp 5 10 15 code

/-- The code of element (i, j) of a returned block. -/
def returned (o : Offload) (b i j : Nat) : Nat :=
  let n := outBytes o.out
  leNat (Mem.readBytes o.results (b * 65536 * n + (i * 256 + j) * n) n)

/-- One inline check (R185): |Σ ĉ − r| ≤ Σ ½ ulp(ĉ) + ½ ulp(r), and for 16-bit operands τ of the magnitude sum besides; a
sum that is not finite is checked by class (R103). A magnitude sum that is infinite or NaN leaves no bound, and the line passes: the
spec is silent on it. DESIGN CHOICE, log 46. -/
def lineVerified (o : Offload) (codes : List Nat) (check mag : Nat) : Bool :=
  let sum := sumValues (codes.map (wideOut o.out))
  match sum, binary64 check with
  | .fin c, .fin r =>
    let ulps := (codes.map (outUlp o.out)).sum + wideUlp 11 52 1023 check
    let slack := ulps * pow2 22
    let gap := ((c - r).natAbs : Int) * pow2 23
    if sixteenBit o.format then
      match binary64 mag with
      | .fin m => decide (gap ≤ slack + ((o.k : Int) + 257) * m + 256 * (o.k : Int) * pow2 1074)
      | _ => true
    else decide (gap ≤ slack)
  | .inf a, .inf b => a == b
  | .nan, .nan => true
  | _, _ => false

/-- Inline verification of a block: every row and every column (R185). -/
def blockVerified (o : Offload) (b : Nat) : Bool :=
  (List.range 256).all (fun i =>
    lineVerified o ((List.range 256).map (fun j => returned o b i j)) (Tbl.getD o.sums (b * 1024 + i) 0)
      (Tbl.getD o.mags (b * 1024 + i) 0))
  && (List.range 256).all (fun j =>
    lineVerified o ((List.range 256).map (fun i => returned o b i j)) (Tbl.getD o.sums (b * 1024 + 512 + j) 0)
      (Tbl.getD o.mags (b * 1024 + 512 + j) 0))

/-! ### Recomputation (R186, R187) -/

/-- Scale bytes of one operand of a block (R173, R254). -/
def scaleBytes (format k : Nat) : Nat := if (bandWidth format).isSome then 8 * k else 0

/-- Bytes of one operand's elements, and of a block's share of the operand stream. -/
def elementBytes (format k : Nat) : Nat := 32 * k * elementBits format
def blockBytes (format k : Nat) : Nat := 2 * (scaleBytes format k + elementBytes format k)

/-- Element codes of a byte string, low nibble first in the 4-bit formats. -/
def elementCodes (format n : Nat) (bs : List Byte) : List Nat :=
  match elementBits format with
  | 4 => (List.range n).map (fun i => bits ((bs.getD (i / 2) 0).toNat) (4 * (i % 2) + 3) (4 * (i % 2)))
  | 8 => (List.range n).map (fun i => (bs.getD i 0).toNat)
  | _ => (List.range n).map (fun i => field bs (2 * i) 2)

/-- The tile pass that recomputes a block from the N48's own copy of its inputs. -/
def recomputation (o : Offload) (b : Nat) (errors : TileErrors) : TilePass :=
  let st := slice o.operands (b * blockBytes o.format o.k) (blockBytes o.format o.k)
  let sc := scaleBytes o.format o.k
  let el := elementBytes o.format o.k
  let nats := fun (bs : List Byte) => bs.map (fun x => x.toNat)
  { format := o.format, out := o.out, rows := 256, cols := 256, k := o.k
    a := elementCodes o.format (256 * o.k) (slice st sc el)
    b := elementCodes o.format (256 * o.k) (slice st (2 * sc + el) el)
    sa := nats (slice st 0 sc), sb := nats (slice st (sc + el) sc)
    errors := errors }

/-- The magnitude sums Σⱼ S_ij of a row and Σᵢ S_ij of a column, rounding upward (R103). -/
def rowMagnitude (t : TilePass) (i : Nat) : Value :=
  sumF32 true ((List.range t.cols).map (fun j => sumF32 true ((List.range t.k).map (fun k =>
    absValue (mulValue (elemA t i k) (elemB t k j))))))

def columnMagnitude (t : TilePass) (j : Nat) : Value :=
  sumF32 true ((List.range t.rows).map (fun i => sumF32 true ((List.range t.k).map (fun k =>
    absValue (mulValue (elemA t i k) (elemB t k j))))))

/-- 2²³ × τ of a magnitude sum (R103) in units of 2⁻¹²⁰⁰; none where the sum is not finite. -/
def tau (n : Nat) (mag : Value) : Option Int :=
  match mag with
  | .fin m => some (((n : Int) + 257) * m * pow2 880 + 256 * (n : Int) * pow2 1074)
  | _ => none

/-- An element of a partner that accumulates in FP32 lies within B_ij and one ulp of the recomputed one (R104, R186). -/
def elementNear (out r c : Nat) (ti tj : Option Int) : Bool :=
  match wideOut out r, wideOut out c with
  | .fin x, .fin y =>
    match ti, tj with
    | some a, some b => decide (((x - y).natAbs : Int) * pow2 23 ≤ 2 * min a b + outUlp out c * pow2 23)
    | some a, none => decide (((x - y).natAbs : Int) * pow2 23 ≤ 2 * a + outUlp out c * pow2 23)
    | none, some b => decide (((x - y).natAbs : Int) * pow2 23 ≤ 2 * b + outUlp out c * pow2 23)
    | none, none => true
  | .inf a, .inf b => a == b
  | .nan, .nan => true
  | _, _ => false

/-- A returned block agrees with its recomputation: bit for bit for a partner of exact accumulation (R186). -/
def blockAgrees (o : Offload) (b : Nat) (t : TilePass) (exact : Bool) : Bool :=
  let outs := passOutputs t
  if exact then
    (List.range 65536).all (fun e => returned o b (e / 256) (e % 256) == outs.getD e 0)
  else
    (List.range 256).all (fun i =>
      let ti := tau t.k (rowMagnitude t i)
      (List.range 256).all (fun j =>
        elementNear o.out (returned o b i j) (outs.getD (i * 256 + j) 0) ti (tau t.k (columnMagnitude t j))))

end Sys2Proof.Machine
end

