-- ==== Sys2Proof/Machine/Tiles.lean ====
section
/-! DEFINITION. Tiles and their spares, and what a run of a model and an offload leave behind (R163, R190, R193, R216). -/

namespace Sys2Proof.Machine

open Sys2Proof

/-! ### Tiles (R163, R190) -/

def setTile (s : State) (cluster logical tile : Nat) : State :=
  setTensor s (fun t => { t with tileMap := Tbl.set t.tileMap (cluster * 16 + logical) tile })

/-- A tile has a lasting fault (R109, R190): fenced; the spare takes its logical number, or the tile is removed. A recomputation
on either tile is abandoned and restarts elsewhere (R191). -/
def repairTile (s : State) (cluster tile : Nat) : State :=
  if isFenced s 0x01 (cluster * 17 + tile) then s
  else
    let s := abandon (lastingFault s 0x01 (cluster * 17 + tile)) (cluster * 17 + tile)
    assignSpares (match logicalOf s cluster tile with
      | none => s
      | some l =>
        match spareOf s cluster with
        | some r => raiseAdmin (setTile (abandon s (cluster * 17 + r)) cluster l r) 0x0103 true 0 (cluster + 8 * tile + 256 * r)
        | none =>
          let s := setTile s cluster l 17
          raiseAdmin s 0x0104 true 0 (cluster + 8 * tile + 256 * activeTiles s cluster))

/-- A tile's fence is released (R110): it takes an empty logical number of its cluster, or is the spare. -/
def returnTile (s : State) (cluster tile : Nat) : State :=
  let s := unfence s 0x01 (cluster * 17 + tile)
  match (List.range 16).find? (fun l => tileOf s cluster l == 17) with
  | some l => setTile s cluster l tile
  | none => assignSpares s

/-! ### Runs and offloads -/

/-- A running command's request. -/
def runCtx (s : State) (o : Nat) : Ctx := slotCtx (o / 32) (o % 32) (slotAt s (o / 32) (o % 32))

/-- The job of a model run: first layer, layers to run, layers done, tile passes, overruns, the number of its run among the
open values, and the passes of the present layer that earlier convoys confirmed (R91). -/
def jobAt (s : State) (o i : Nat) : Nat := (slotAt s (o / 32) (o % 32)).job.getD i 0

def setJob (s : State) (o i v : Nat) : State := setSlot s (o / 32) (o % 32) (fun sl => { sl with job := sl.job.set i v })

/-- The model a running run names. -/
def runModel (s : State) (o : Nat) : Option Model := modelOf s (o / 32) ((runCtx s o).u 0 2)

/-- The layer a run is at. -/
def runLayer (s : State) (o : Nat) : Option Layer :=
  match runModel s o with
  | none => none
  | some m => m.layers[jobAt s o 0 + jobAt s o 2]?

/-- Output bytes of a run: what a layer computes is open (log 4). -/
def runOutput (s : State) (o : Nat) : List Byte :=
  (List.range ((runCtx s o).desc 0x18).len).map (Config.layerOutput (jobAt s o 5))

/-- The answer of a run: tile passes, layers run, spill overruns, with its digests (R86, R87). -/
def runAnswer_ (s : State) (o : Nat) (st : Status) : Answer :=
  { status := st
    result := leBytes 4 (jobAt s o 3) ++ leBytes 4 (jobAt s o 2) ++ leBytes 4 (jobAt s o 4)
    writes := if st.usable then [runOutput s o] else []
    manifest := match runModel s o with
      | some m => m.digest
      | none => [] }

/-- The bytes a finished offload writes: its result blocks. -/
def offloadResult (x : Offload) : List Byte := Mem.readBytes x.results 0 (x.blocks * 65536 * outBytes x.out)

def dropOffload (s : State) (o : Nat) : State :=
  setTensor s (fun t => { t with offloads := Tbl.erase t.offloads o })

/-- A command that used convoys ends with a status. -/
def endConvoyCommand (s : State) (o : Nat) (st : Status) : State :=
  let a := if reqOpcode (slotAt s (o / 32) (o % 32)).request = 0x0110 then runAnswer_ s o st
    else match Tbl.get? s.tensor.offloads o with
      | none => { status := st }
      | some x =>
        { status := st, result := leBytes 4 x.verified.length, writes := if st.usable then [offloadResult x] else [] }
  dropOffload (endSlot s (o / 32) (o % 32) a) o

/-- A partner whose block failed on both attempts is fenced for offload; offloads queued for it end with LASTING (R193). -/
def fencePartner (s : State) (n : Nat) : State :=
  if isFenced s 0x06 n then s
  else
    let s := raiseAdmin (lastingFault s 0x06 n) 0x0106 true 0 n
    let queued := Tbl.keysWhere s.tensor.offloads (fun o x => x.port == n && (convoyOf s (o / 32) (o % 32)).isNone)
    queued.foldl (fun s o => endConvoyCommand s o .lasting) s

end Sys2Proof.Machine
end

