-- ==== Sys2Proof/WellFormed.lean ====
section
/-! DEFINITION. Which command terms the world can bring: operands of the sizes the spec gives them. -/

namespace Sys2Proof

/-- The second read of a request returns its 128 bytes (R131, R159). -/
def storeReadOk : StoreRead → Bool
  | .good => true
  | .mistagged => true
  | .once => true
  | .twice bytes _ => decide (bytes.length = 128)

/-- A drive's serial number has 20 bytes (R478). -/
def driveInfoOk : Option DriveInfo → Bool
  | none => true
  | some d => decide (d.serial.length = 20)

/-- Operand formats whose elements share a scale by blocks of 32 (R169). -/
def blockScaled (format : Nat) : Bool := [2, 4, 8, 9, 10].contains format

/-- Changes of cells lie in the array (R164). -/
def tileErrorsOk (rows cols : Nat) (e : TileErrors) : Bool := e.cells.all (fun f => decide (f.row < rows) && decide (f.col < cols))

/-- A pass the fabric runs: formats of R169 and R175, an array of 256 × 256 cells and a depth of 1 to 65,536, whole blocks of 32
in the block-scaled formats, and operand elements and scales for its extents (R164, R170, R171). -/
def tilePassOk (p : TilePass) : Bool :=
  decide (p.format ≤ 12) && decide (p.out ≤ 8) && (p.out != 0 || p.format == 0 || p.format == 3)
    && decide (1 ≤ p.rows ∧ p.rows ≤ 256) && decide (1 ≤ p.cols ∧ p.cols ≤ 256) && decide (1 ≤ p.k ∧ p.k ≤ 65536)
    && decide (p.a.length = p.rows * p.k) && decide (p.b.length = p.k * p.cols)
    && (if blockScaled p.format then p.k % 32 == 0 && decide (p.sa.length = p.rows * (p.k / 32))
          && decide (p.sb.length = p.k / 32 * p.cols) && p.sa.all (fun x => decide (x < 256)) && p.sb.all (fun x => decide (x < 256))
        else p.sa.isEmpty && p.sb.isEmpty)
    && tileErrorsOk p.rows p.cols p.errors

/-- A term the world can bring. What it excludes has no counterpart at a pin, a link or a memory of the N48. -/
def Instr.wf : Instr → Bool
  | .deviceIdentity _ => true
  | .partitionCreate _ => true
  | .partitionTeardown _ => true
  | .quotaSet _ => true
  | .grantMaskSet _ => true
  | .convoyDeadlineSet _ => true
  | .loadingModeSet _ => true
  | .commandCancel _ => true
  | .partitionStatus _ => true
  | .modelLoad _ _ _ => true
  | .modelUnload _ => true
  | .modelQuery _ => true
  | .modelRun _ _ _ => true
  | .blockOffload _ _ => true
  | .clusterMaskSet _ => true
  | .ktLimitSet _ => true
  | .partnerCheckingSet _ => true
  | .regionAllocate _ => true
  | .regionFree _ => true
  | .memoryTransfer _ _ => true
  | .syncCreate _ => true
  | .syncDestroy _ => true
  | .syncSignal _ => true
  | .syncWait _ => true
  | .syncRead _ => true
  | .syncBind _ => true
  | .entryInsert _ => true
  | .entryUpdate _ => true
  | .entryDelete _ => true
  | .entryLookup _ => true
  | .profileSet _ => true
  | .patternSet _ => true
  | .parseLimitsSet _ => true
  | .defaultActionSet _ => true
  | .receiveRingSet _ => true
  | .receiveRingPost _ descs => descs.all (fun d => decide (d.length = 16))
  | .frameTransmit _ _ _ => true
  | .espSaSet _ => true
  | .macsecSaSet _ => true
  | .partnerPortEnable _ => true
  | .partnerPortDisable _ => true
  | .partnerPortStatus _ => true
  | .networkPortConfigure _ => true
  | .networkPortEnable _ => true
  | .networkPortDisable _ => true
  | .extentCreate _ => true
  | .extentDestroy _ => true
  | .storageRead _ => true
  | .storageWrite _ _ _ => true
  | .flush _ => true
  | .deallocate _ => true
  | .driveQuery _ => true
  | .keyInstall _ => true
  | .keyGenerate _ => true
  | .keyReplace _ => true
  | .keyDestroy _ => true
  | .keyQuery _ => true
  | .ownSlotKeyReplace _ => true
  | .cipherOperation _ _ _ _ => true
  | .transportKeyGet _ => true
  | .akekEstablish _ _ => true
  | .receiptKeyChange _ => true
  | .timeRead _ => true
  | .timeSet _ => true
  | .trimSet _ => true
  | .alarmSet _ => true
  | .timeStampRead _ => true
  | .tamperLimitsSet _ => true
  | .backupRateSet _ => true
  | .sourceArmingSet _ _ => true
  | .fuseBlow _ => true
  | .tamperSelfTest _ _ => true
  | .tamperAcknowledge _ => true
  | .tamperStatus _ => true
  | .ledgerStatus _ => true
  | .ledgerRead _ => true
  | .ledgerAttest _ => true
  | .recordAppend _ => true
  | .railSwitch _ => true
  | .railFenceRelease _ => true
  | .powerDown _ => true
  | .deviceRestart _ => true
  | .restartFromHeldOff _ => true
  | .snapshotRead _ => true
  | .fanFloorSet _ => true
  | .fanRestart _ => true
  | .fanStatus _ => true
  | .axisTarget _ => true
  | .axisLimitsSet _ => true
  | .axisModeSet _ => true
  | .axisHome _ => true
  | .axisRelease _ => true
  | .axisStatus _ => true
  | .thermalStatus _ => true
  | .transaction _ => true
  | .busConfigure _ => true
  | .busStatus _ => true
  | .counterRead _ => true
  | .guaranteeStatusRead _ => true
  | .telemetryExportSet _ _ => true
  | .calibrationRun _ => true
  | .scrubSet _ => true
  | .fenceResource _ => true
  | .fenceRelease _ _ => true
  | .firmwareUpdate _ _ _ _ => true
  | .doorbell _ size _ _ => decide (1 ≤ size) && decide (size ≤ 4096)
  | .partitionControlEnable _ => true
  | .receiptRingConsumerWrite _ _ => true
  | .eventRingConsumerWrite _ _ => true
  | .registerWrite _ offset data _ => decide (1 ≤ data.length) && decide (offset.val % 16384 + data.length ≤ 16384)
  | .digestInitialise _ _ _ => true
  | .digestHmacInitialise _ _ _ => true
  | .digestClear _ _ => true
  | .digestData _ _ _ => true
  | .digestTailData _ _ _ => true
  | .digestFinish _ _ _ => true
  | .digestExport _ _ _ => true
  | .digestImport _ _ => true
  | .digestBlockComplete _ _ _ => true
  | .digestHmacInitEnd _ _ => true
  | .digestSaveEnd _ _ => true
  | .msixUnmask _ _ => true
  | .msixHoldoffExpiry _ => true
  | .commandStart _ _ read => storeReadOk read
  | .refusalCompletion _ _ => true
  | .completion _ _ _ _ => true
  | .commandTimeout _ _ => true
  | .teardownDiscardExpiry _ => true
  | .functionLevelReset _ _ => true
  | .perstAssert _ => true
  | .perstRelease _ => true
  | .hostLinkDown _ _ => true
  | .functionDisabled _ _ _ => true
  | .hostPortReady _ _ _ => true
  | .aerUncorrectable _ _ _ => true
  | .hostDmaReadFailure _ _ _ _ => true
  | .parcelCheck _ _ parcel => decide (parcel.length ≤ 288)
  | .creditStall _ _ _ => true
  | .crossingFault _ _ _ => true
  | .domainLeaveReset _ => true
  | .clockLoss _ => true
  | .clockRestartEnd _ _ => true
  | .convoyOpen _ _ _ => true
  | .convoySeal _ => true
  | .convoyConfirm _ => true
  | .convoyCancel _ _ _ _ => true
  | .convoyDeadlineExpiry _ => true
  | .convoyResolved _ _ => true
  | .convoyControlReceived _ payload => decide (payload.length ≤ 256)
  | .ackTimeout _ _ => true
  | .convoyTableMismatch => true
  | .sweepEnd _ => true
  | .lockstepMismatch _ _ _ => true
  | .managementCoreMismatch _ => true
  | .checkerExercise _ _ _ _ _ _ => true
  | .scrubRead _ _ => true
  | .granuleRetirementEnd _ => true
  | .tilePassComplete _ _ _ pass => tilePassOk pass
  | .picotCheck _ => true
  | .partnerBlockCheck _ => true
  | .recomputationComplete _ _ _ errors => tileErrorsOk 256 256 errors
  | .ktSwitch => true
  | .ktIdleExpiry => true
  | .syncSignalParcel _ payload _ => decide (payload.length ≤ 256)
  | .linkParcelReceive _ parcel fec => decide (parcel.length = 300) && decide (fec.symbols.length ≤ 8)
  | .controlParcelReceive _ parcel fec => decide (parcel.length = 300) && decide (fec.symbols.length ≤ 8)
  | .replayTimeout _ => true
  | .linkSilence _ => true
  | .laneLossOfLock _ _ => true
  | .laneRelockEnd _ _ _ => true
  | .restripeComplete _ => true
  | .seekWindowEnd _ => true
  | .trainingBurstEnd _ => true
  | .partnerTrainingSignal _ _ => true
  | .trainEnd _ _ => true
  | .exchangeComplete _ => true
  | .exchangeTimeout _ => true
  | .retrainTimeout _ => true
  | .nodeDoneHigh => true
  | .soloMode => true
  | .frameReceive _ _ _ _ _ => true
  | .classificationComplete _ _ _ _ => true
  | .reorderReleaseTimeout _ => true
  | .slotRepairEnd _ => true
  | .networkLinkUp _ => true
  | .networkLinkDown _ => true
  | .telemetryPeriod _ => true
  | .driveCompletion _ _ _ _ _ => true
  | .driveCommandTimeout _ _ _ => true
  | .driveProbe _ found => driveInfoOk found
  | .driveReady _ found => driveInfoOk found
  | .vaonValid _ => true
  | .alwaysOnReset => true
  | .imageSelection a b => decide (a.header.length = 4096) && decide (b.header.length = 4096)
  | .sectionReadComplete _ _ => true
  | .selfTestEnd _ _ => true
  | .synfyReady => true
  | .classifierLoadComplete content => content.all (fun e => decide (e.1 ≤ 0x0308))
  | .boundaryScanInstruction _ => true
  | .vaultPowerOnReset _ => true
  | .vaultSwitchToVbat => true
  | .vaonReturn _ => true
  | .vaultReturnToMain => true
  | .vaultOff => true
  | .tamperSample _ _ diffs _ _ => decide (diffs.length = 4)
  | .insertedSample _ _ => true
  | .evtCapture _ _ => true
  | .rtcSecond _ => true
  | .trimInterval => true
  | .stagedEntryCommit => true
  | .vbatMeasurement _ => true
  | .sequenceStepAct _ _ => true
  | .sequenceStepPowerGood _ _ => true
  | .powerGoodTimeout _ => true
  | .powerDownDelayExpiry _ => true
  | .retryOffTimeExpiry _ => true
  | .railProvingExpiry _ => true
  | .railFault _ => true
  | .railWindowScan a b _ _ => decide (a.length = 24) && decide (b.length = 24)
  | .pmbusReadPoll _ _ _ => true
  | .sensorDisagreement _ _ _ => true
  | .collapse => true
  | .restartQualified => true
  | .collapseWindowExpiry => true
  | .spinUpCheck _ _ => true
  | .fanPauseExpiry _ => true
  | .tachLost _ => true
  | .tachRestored _ => true
  | .tachLostLasting _ => true
  | .boardSensorRead _ _ => true
  | .thermalPlanEvaluation dieA dieB => decide (dieA.length = 8) && decide (dieB.length = 8)
  | .axisFeedbackSample _ _ _ _ => true
  | .trajectoryUpdate _ _ _ _ => true
  | .referenceMark _ _ _ _ => true
  | .homingAttemptFailed _ => true
  | .homingRetryExpiry _ => true
  | .axisFaultRecovery _ => true
  | .axisCalibrationStart _ => true
  | .axisCalibrationEnd _ _ _ _ => true
  | .busFreeStart _ _ => true
  | .arbitrationLost _ => true
  | .absentPoll _ _ _ => true
  | .alertResponse _ _ => true
  | .busHung _ _ => true
  | .twtRequest _ _ => true
  | .twtResponseRead => true
  | .twtEventRead => true
  | .twtTargetTimeout => true
  | .calibrationPeriodic => true
  | .calibrationDrift => true
  | .calibrationItemEnd _ _ => true
  | .nodeDoneFall => true
  | .fanTachPulse _ _ => true
  | .setpointPowerGood _ => true
  | .spdmRequest _ _ => true
  | .configurationWrite _ _ _ => true
  | .granuleCleared _ => true
  | .managementCoreResumed => true
  | .pllALock => true
  | .crystalAmplitudeReached => true
  | .flrComplete _ _ => true
  | .testLogicReset => true

end Sys2Proof
end

