-- ==== Sys2Proof/Machine/Tensor.lean ====
section
/-! DEFINITION. Model runs, tile passes, picot checks, offloads and partner result checks (R163–R195, R216, R254). -/

namespace Sys2Proof.Machine

open Sys2Proof

/-! ### MODEL_RUN -/

/-- Layers a run names: a count of 0 means all that follow. -/
def runCount (c : Ctx) (m : Model) : Nat := if c.u 4 2 = 0 then m.layers.length - c.u 2 2 else c.u 4 2

def runLayers (c : Ctx) (m : Model) : List Layer := (m.layers.drop (c.u 2 2)).take (runCount c m)

def modelRunBudget (s : State) (c : Ctx) : Nat :=
  match modelOf s c.p (c.u 0 2) with
  | none => runBudgetNs s c.p []
  | some m => runBudgetNs s c.p (runLayers c m)

def modelRunChecks (s : State) (c : Ctx) : Checks :=
  let signals := c.u 0x28 4 != 0
  (((modelHandleCheck s c).both (if signals then syncHandleCheck s c 0x28 else {})).both
    ((descChecks s c 0x08).both (descChecks s c 0x18))).both
    { badParameter := c.dirty 6 2 || c.dirty 0x2C 4 || (match modelOf s c.p (c.u 0 2) with
        | none => false
        | some m => decide (m.layers.length ≤ c.u 2 2) || decide (m.layers.length < c.u 2 2 + c.u 4 2))
        || (signals && (c.u 0x30 8 == 0 || (match syncOf s c.p (c.u 0x28 4) with
          | some o => decide (syncTop < o.counter + c.u 0x30 8)
          | none => false)))
      quota := (part s c.p).clusterMask == 0 }

/-- The tensor fabric is fenced: KT lost for good (R56). -/
def tensorFenced (s : State) : Bool := (domain s 1).fenced

/-- A layer needs spill memory. -/
def needsSpill (m : Model) (ls : List Layer) : Bool := m.areaPlaces.any isSpill || ls.any (fun l => l.places.any isSpill)

/-- A 1 GiB unit of spill memory is retired, and every model with pages in it is damaged (R228, R231). -/
def retireSpill (s : State) (u : Nat) : State :=
  if s.memory.spillRetired.contains u then s
  else
    let s := lastingFault (setMemory s (fun m => { m with spillRetired := m.spillRetired ++ [u] })) 0x15 u
    let s := raiseAdmin s 0x0203 true 0 (u / 36 + 4 + 8 * u)
    let hurt := Tbl.keysWhere s.memory.models (fun _ m => (modelPages m).any (fun g => g / 512 == u))
    hurt.foldl (fun s k => damageModel s k 0x02) s

/-- What reading a line of spill memory showed (R228): 0 corrected, 1 uncorrectable and good at the second read, 2 bad twice
with its row remapped, 3 bad twice with no repair left. `line` counts over spill memory. -/
def spillRead (s : State) (line kind : Nat) : State :=
  let u := line / 4194304
  let stack := u / 36
  match kind with
  | 0 => bump s 0x0603 stack 32
  | 1 => transient (bump s 0x0604 stack 16) 0x15 u
  | 2 =>
    let s := guard (bump (bump s 0x0604 stack 16) 0x0301 0x15 16)
    let s := setMemory s (fun m => { m with tags := Tbl.set m.tags (320 * 8192 + line) ⟨0, false, 3⟩ })
    raiseAdmin s 0x0203 true 0 (stack + 8 * u)
  | _ => retireSpill (bump s 0x0604 stack 16) u

/-- The spill read that a run of a model met, where the line is the model's. -/
def runSpillRead (s : State) (c : Ctx) (m : Model) : Option (Nat × Fin 4) → State
  | none => s
  | some (line, kind) =>
    if (modelPages m).contains (line / 8192) then
      let s := spillRead s line kind
      if kind.val = 1 then setSlot s c.p c.k (fun sl => { sl with lower := true }) else s
    else s

/-- A line of the model is poisoned: reading it ends with LASTING (R203, R225, R228). -/
def modelPoisoned (s : State) (m : Model) : Bool :=
  s.memory.tags.any (fun e => e.2.state == 3 && (if e.1 < 320 * 8192 then (modelNodes m).contains (e.1 / 8192)
    else (modelPages m).contains ((e.1 - 320 * 8192) / 8192)))

/-- The model of a run is damaged, or a line of it poisoned: the run ends with LASTING (R225, R227). -/
def runDamaged (s : State) (o : Nat) : Bool :=
  match runModel s o with
  | none => false
  | some m => m.damaged != 0

def runHurt (s : State) (o : Nat) : Bool :=
  runDamaged s o || match runModel s o with
    | none => false
    | some m => modelPoisoned s m

/-- A granule of the model that a run uses is retiring: its accesses wait (R226). -/
def runRetiring (s : State) (o : Nat) : Bool :=
  match runModel s o with
  | none => false
  | some m => (modelNodes m).any (fun g => (granule s g).retiring.isSome)

def modelRunEffect (input : List Byte) (spillFault : Option (Nat × Fin 4)) (s : State) (c : Ctx) : State :=
  match modelOf s c.p (c.u 0 2) with
  | none => s
  | some m =>
    let s := runSpillRead s c m spillFault
    if m.damaged != 0 || modelPoisoned s m || s.memory.models.any (fun e => e.1 == c.p * 16 + c.u 0 2 % 256 && e.2.damaged != 0) || tensorFenced s || (spillFenced s && needsSpill m (runLayers c m)) then
      finish s c { status := .lasting, manifest := m.digest }
    else match descReadMeets s c.p (c.desc 0x08), descWriteMeets s c.p (c.desc 0x18) with
      | some none, _ => s
      | some (some st), _ => finish s c { status := st, manifest := m.digest }
      | none, some none => s
      | none, some (some st) => finish s c { status := st, manifest := m.digest }
      | none, none =>
        let bs := readDesc s c.p (c.desc 0x08) input
        let (run, s) := ((s.fresh, { s with fresh := s.fresh + 1 }) : Nat × State)
        let s := setSlot s c.p c.k (fun sl => { sl with
          begun := true, job := [c.u 2 2, runCount c m, 0, 0, 0, run, 0], inputs := [bs] })
        requestPoint s 4

/-- A word of node memory that a run reads: of its input, or of its model. -/
def runReads (s : State) (c : Ctx) (w : Nat) : Bool :=
  descHolds s c.p (c.desc 0x08) w || match modelOf s c.p (c.u 0 2) with
    | none => false
    | some m => (modelNodes m).contains (w / 131072)

/-- MODEL_RUN (R216): its layers run in convoys of their own, one after another; Synfy asks for the highest KT point (R167).
A read that meets a provisional line waits (R72). `spillFault` is what a read of spill memory showed, by line (R228). -/
def execModelRun (o : Origin) (input : Fetched) (spillFault : Option (Nat × Fin 4)) (s : State) :
    Host.Outcome State Fault Refusal :=
  .next (if begun s o then s.fresh_
    else runOp 0x0110 o s modelRunBudget modelRunChecks (onWord runReads input.word (modelRunEffect input.bytes spillFault)))

/-! ### BLOCK_OFFLOAD -/

def offloadBudget (s : State) (c : Ctx) : Nat :=
  dataBudgetNs s c.p ((c.desc 0x10).len + (c.desc 0x20).len) + 4000 * c.u 8 4

def offloadChecks (s : State) (c : Ctx) : Checks :=
  let n := c.u 0 1
  let format := c.u 1 1
  let out := c.u 2 1
  let k := c.u 4 4
  let ready := decide (n < 8) && inRun s n
  ((descChecks s c 0x10).both (descChecks s c 0x20)).both
    { badParameter := decide (7 < n) || decide (12 < format) || decide (3 < out) || bits (c.u 3 1) 7 2 != 0
        || (out == 0 && format != 0 && format != 3)
        || k == 0 || decide (65536 < k) || ((bandWidth format).isSome && k % 32 != 0) || c.u 8 4 == 0 || c.dirty 0x0C 4
        || (c.desc 0x10).len != c.u 8 4 * blockBytes format k || (c.desc 0x20).len != c.u 8 4 * 65536 * outBytes out
        || (ready && (!capFlag s n 3 || !bit (field (capability s n) 2 2) format))
      execution := if decide (7 < n) then none else if isFenced s 0x06 n then some .lasting
        else if !ready then some .absent else none }

/-- How an offload ends that its port does not take at its issue: its partner is fenced for offload (R193), the port has left Run
(R83), or the partner no longer takes such an offload (R252; log 51). -/
def offloadBarred (s : State) (x : Offload) : Option Status :=
  if isFenced s 0x06 x.port then some .lasting
  else if !inRun s x.port then some .absent
  else if !takesOffload s x.port x then some .badParameter
  else none

/-- The checking mode in force of a port (R184): as the administrator set it; Inline only for a partner that declares picot;
Sampled at 1/16 by default. -/
def checkingMode (s : State) (n : Nat) : Bool × Nat :=
  let picot := capFlag s n 1
  match (portAt s n).checking with
  | some (true, r) => (true, r)
  | some (false, r) => if picot then (false, r) else (true, 16)
  | none => if picot then (false, 0) else (true, 16)

/-- What is sent is asked back in the form the check needs (R184, R185, R254). -/
def offloadFlags (s : State) (n format asked : Nat) : Nat :=
  if (checkingMode s n).1 then asked
  else setBit (if sixteenBit format then setBit asked 1 else asked) 0

def blockOffloadEffect (hostData : List Byte) (s : State) (c : Ctx) : State :=
  match descReadMeets s c.p (c.desc 0x10), descWriteMeets s c.p (c.desc 0x20) with
  | some none, _ => s
  | some (some st), _ => finish s c { status := st }
  | none, some none => s
  | none, some (some st) => finish s c { status := st }
  | none, none =>
    let bs := readDesc s c.p (c.desc 0x10) hostData
    let n := c.u 0 1
    let mode := checkingMode s n
    let x : Offload := {
      port := n, tag := s.tensor.nextTag, format := c.u 1 1, out := c.u 2 1
      flags := offloadFlags s n (c.u 1 1) (c.u 3 1)
      k := c.u 4 4, blocks := c.u 8 4, operands := bs, sampled := mode.1, ratio := mode.2
      results := [], sums := [], mags := [], arrived := [], complete := [], ready := [], verified := [], drawn := []
      running := [], retried := [] }
    let s := setTensor s (fun t => { t with
      nextTag := (t.nextTag + 1) % 4294967296, offloads := Tbl.set t.offloads (c.p * 32 + c.k) x })
    setSlot s c.p c.k (fun sl => { sl with begun := true, inputs := [bs] })

/-- BLOCK_OFFLOAD (R254): it runs in a convoy, which sends descriptor and operands. -/
def execBlockOffload (o : Origin) (hostData : Fetched) (s : State) :
    Host.Outcome State Fault Refusal :=
  .next (if begun s o then s.fresh_
    else runOp 0x0111 o s offloadBudget offloadChecks
      (onWord (fun s c w => descHolds s c.p (c.desc 0x10) w) hostData.word (blockOffloadEffect hostData.bytes)))

/-- The 64 bytes of an offload descriptor (R254). -/
def descriptorBytes (x : Offload) : List Byte :=
  [0x01] ++ leBytes 1 x.format ++ leBytes 1 x.out ++ leBytes 1 x.flags ++ leBytes 4 x.k ++ leBytes 4 x.blocks
    ++ leBytes 4 x.tag ++ leBytes 8 x.operands.length ++ leBytes 8 (x.blocks * 65536 * outBytes x.out)
    ++ List.replicate 32 0

/-- The unit that produces a buffer's bytes (R61, R62): the memory unit of a region, or the partition's host port. -/
def sourceUnit (s : State) (p : Nat) (d : Desc) : Nat :=
  match (if d.kind == 2 then regionOf s p (d.loc % 4294967296) else none) with
  | some r => 0x18 + unitOf (r.granules.headD 0)
  | none => 0x38 + (part s p).port

/-- The operand stream in parcels of 256 bytes, each at its byte offset (R254). -/
def sendOperands (s : State) (src n p cv cmd : Nat) (bs : List Byte) : State :=
  let count := ceilDiv bs.length 256
  (List.range count).foldl (fun s i =>
    sendBulkFrom src s n 0x02 p (some cv) cmd (256 * i) (i + 1 == count) ((bs.drop (256 * i)).take 256)) s

/-- The convoy of an offload has opened: descriptor and operands go out and its blocks are awaited (R83, R254, R255). -/
def issueOffload (s : State) (cv o : Nat) : State :=
  match Tbl.get? s.tensor.offloads o with
  | none => s
  | some x =>
    let cmd := (runCtx s o).seq
    let mode := if (convoy s cv).attempt < 2 then checkingMode s x.port else (x.sampled, x.ratio)
    let x' := { x with
      sampled := mode.1, ratio := mode.2
      flags := if (convoy s cv).attempt < 2 then offloadFlags s x.port x.format x.flags else x.flags
      results := [], sums := [], mags := [], arrived := [], complete := [], ready := [], verified := [], drawn := []
      running := [], retried := [] }
    let s := setTensor s (fun t => { t with offloads := Tbl.set t.offloads o x' })
    let s := setConvoy s cv (fun c => { c with inputsOwed := x.blocks, resultsOwed := [x.port] })
    let s := sendBulk s x.port 0x01 (o / 32) (some cv) cmd 0 false (descriptorBytes x' ++ List.replicate 192 0)
    sendOperands s (sourceUnit s (o / 32) ((runCtx s o).desc 0x10)) x.port (o / 32) cv cmd x.operands

/-! ### Tile passes and picot checks -/

/-- A convoy that carries a model run. -/
def runOf (s : State) (cv : Nat) : Option Nat :=
  match (convoy s cv).owner with
  | none => none
  | some o => if reqOpcode (slotAt s (o / 32) (o % 32)).request == 0x0110 then some o else none

/-- A cluster's passes can read a layer's weights (R209): from its own local memory or shared memory, or through the staging pair
there. -/
def clusterReads (m : Model) (l : Layer) (cluster : Nat) : Bool :=
  let near := fun (g : Nat) => g / 36 == cluster || decide (288 ≤ g)
  l.places.isEmpty || l.places.any (fun x => match x with
    | .node g => near g
    | _ => m.staging.any near)

/-- When a pass that has just ended began, in ns: its KT cycles at the present point (R166, R171, R173). -/
def passStart (s : State) (t : TilePass) : Nat := s.now - passCycles t * 1000 / (300 * (s.tensor.point + 1))

/-- No new tile pass is issued while KT heads for a lower point (R26). -/
def issuedLate (s : State) (t : TilePass) : Bool :=
  match s.tensor.lowerFrom with
  | none => false
  | some f => decide (f < passStart s t)

/-- A convoy's second attempt runs on the tiles of the first (R190): a pass on another tile is one that the first attempt did not
come to, or whose tile has been fenced since. -/
def tilePlanned (s : State) (c : Convoy) (l : Layer) (inst : Nat) : Bool :=
  let left := c.planned.filter (fun i => !isFenced s 0x01 i)
  left.contains inst || decide (left.length < l.passes - c.members)

/-- A pass that a tile can have run for a layer (R163, R165, R169, R190, R209): in the layer's formats, on a tile in service of a
cluster in the mask that reads its weights. -/
def passAdmitted (s : State) (c : Convoy) (m : Model) (l : Layer) (cluster tile : Nat) (t : TilePass) : Bool :=
  tilePassOk t && t.format == l.format && t.out == l.outFormat && tile != 17 && bit (part s c.partition).clusterMask cluster
    && domainUp s 1 && !clusterOut s cluster && clusterReads m l cluster && tilePlanned s c l (cluster * 17 + tile)
    && !issuedLate s t

/-- A tile pass has run in its convoy (R171–R175, R188), one of the layer's passes. While a granule of its model is retiring it
waits (R226); a pass that meets a damaged model or a poisoned line ends its convoy (R225, R227). -/
def tilePassComplete (s : State) (cv cluster logical : Nat) (t : TilePass) : State :=
  let s := s.fresh_
  let c := convoy s cv
  let tile := tileOf s cluster logical
  match runOf s cv with
  | none => s
  | some o =>
    match runModel s o, runLayer s o with
    | some m, some l =>
      if c.state != .opened || decide (l.passes ≤ c.members) || !passAdmitted s c m l cluster tile t || runRetiring s o then s
      else if runHurt s o then cancelConvoy s cv .ownCheck 0
      else
        let ranges := (passRanges t).length
        let split := ranges == 1 && (bandWidth t.format).isSome && subPasses t (fun _ => true) == 2
        let s := if split then bump s 0x0502 c.partition 32 else s
        let s := if 1 < ranges then bump s 0x0503 c.partition 32 else s
        let s := if overflows t = 0 then s else bumpBy s 0x0504 c.partition 32 (overflows t)
        let s := setTensor s (fun x => { x with passes := x.passes ++ [⟨cluster, tile, cv, c.generation, t, heldCells t⟩] })
        setConvoy s cv (fun c => { c with
          members := c.members + 1, checksOwed := c.checksOwed + 1
          tiles := c.tiles ++ [cluster * 17 + tile], planned := c.planned.erase (cluster * 17 + tile) })
    | _, _ => s

/-- TILE_PASS_COMPLETE (R171). -/
def execTilePassComplete (convoy : Fin 256) (cluster : Fin 8) (tile : Fin 16) (pass : TilePass) (s : State) :
    Host.Outcome State Fault Refusal :=
  .next (tilePassComplete s convoy cluster tile pass)

/-- Kind of a failed check in event 0x0101: pass, sub-pass or segment (R189). -/
def passKind (t : TilePass) : Nat :=
  if 1 < (passRanges t).length then 2
  else if (bandWidth t.format).isSome && subPasses t (fun _ => true) == 2 then 1 else 0

/-- A resource failed in the second attempt of a convoy as in the first: its fault is lasting (R80, R106). -/
def failedTwice (c : Convoy) (resource : Nat) : Bool :=
  decide (2 ≤ c.attempt) && c.firstCause == some .ownCheck && c.firstResource == resource

/-- A tile pass failed its check: its convoy is cancelled; a tile that failed both attempts is fenced (R190). -/
def passFailed (s : State) (x : PendingPass) : State :=
  let c := convoy s x.convoy
  let resource := 0x01 * 1024 + x.cluster * 17 + x.tile
  if (c.state == .opened || c.state == .sealed) && c.generation == x.generation then
    let s := cancelConvoy s x.convoy .ownCheck resource
    if failedTwice c resource then repairTile s x.cluster x.tile else s
  else s

/-- A mismatch of a pass is counted and reported (R181, R182, R188, R189). Row and column are 0 where only the readout copies
differ, and each of them is 0 where only the other kind of check fails: the spec is silent on that. DESIGN CHOICE, log 46. -/
def reportPicot (s : State) (cluster tile : Nat) (found : Option (Nat × Nat)) (differs : Bool) (kind : Nat) : State :=
  if found.isNone && !differs then s
  else
    let f := found.getD (0, 0)
    raiseAdmin (bump s 0x0500 (cluster * 17 + tile) 16) 0x0101 true 0 (cluster + 8 * tile + 256 * f.1 + 65536 * f.2
      + 16777216 * kind + 67108864 * b2n differs)

/-- A vector lane mismatch is counted and reported (R183, R188, R189). -/
def reportLane (s : State) (cluster tile : Nat) (lane : Option (Fin 512)) : State :=
  match lane with
  | none => s
  | some i => raiseAdmin (bump s 0x0501 (cluster * 17 + tile) 16) 0x0102 true 0 (cluster + 8 * tile + 256 * i.val)

/-- The comparator serves its tiles in order of arrival (R180): picot row and column, readout copies and vector lanes
(R179, R182, R183). Outputs that pass leave the tile (R181). -/
def picotCheck (s : State) (cluster : Nat) : State :=
  let s := s.fresh_
  match s.tensor.passes.find? (fun x => x.cluster == cluster) with
  | none => s
  | some x =>
    let s := setTensor s (fun t => { t with passes := t.passes.erase x })
    let found := cellFailure x.pass x.cells
    let e := x.pass.errors
    if found.isSome || e.readoutDiffers || e.lane.isSome then
      passFailed (reportLane (reportPicot s x.cluster x.tile found e.readoutDiffers (passKind x.pass)) x.cluster x.tile e.lane) x
    else
      let c := convoy s x.convoy
      if (c.state == .opened || c.state == .sealed) && c.generation == x.generation then
        setConvoy (setTensor s (fun t => { t with
            outputs := Tbl.set t.outputs (x.cluster * 17 + x.tile) (readoutOf x.pass x.cells) })) x.convoy
          (fun c => { c with checksOwed := c.checksOwed - 1, picots := c.picots + 1 })
      else s

/-- PICOT_CHECK (R180). -/
def execPicotCheck (cluster : Fin 8) (s : State) : Host.Outcome State Fault Refusal := .next (picotCheck s cluster)

/-! ### Partner result checks -/

/-- A block passed a check; one that passes both counts once (R187). -/
def blockPassed (s : State) (o b : Nat) : State :=
  let again := match Tbl.get? s.tensor.offloads o with
    | some x => x.verified.contains b
    | none => true
  let s := setOffload s o (fun x => { x with verified := if x.verified.contains b then x.verified else x.verified ++ [b] })
  match offloadConvoy s o with
  | none => s
  | some m => setConvoy s m (fun c => { c with
      checksOwed := c.checksOwed - 1, checks := if again then c.checks else c.checks + 1 })

/-- A block failed (R189, R193): its convoy is cancelled; a partner that failed both attempts is fenced for offload. -/
def blockFailed (s : State) (o n : Nat) (recomputed : Bool) : State :=
  match offloadConvoy s o with
  | none => s
  | some m =>
    let c := convoy s m
    let s := bump s 0x0507 n 16
    let s := raiseAdmin s 0x0105 true 0 (n + 8 * b2n recomputed + 256 * m)
    let s := cancelConvoy s m .ownCheck (0x06 * 1024 + n)
    if failedTwice c (0x06 * 1024 + n) then fencePartner s n else s

/-- An offload of a port whose convoy lives and that has blocks to check. -/
def checkable (s : State) (n : Nat) (f : Offload → Bool) : Option (Nat × Offload) :=
  s.tensor.offloads.find? (fun e => e.2.port == n && f e.2 && (match offloadConvoy s e.1 with
    | none => false
    | some m => (convoy s m).state == .opened || (convoy s m).state == .sealed))

/-- Inline verification of the oldest complete block of a port (R185). -/
def partnerBlockCheck (s : State) (n : Nat) : State :=
  let s := s.fresh_
  match checkable s n (fun x => !x.ready.isEmpty) with
  | none => s
  | some (o, x) =>
    let b := x.ready.headD 0
    let s := setOffload s o (fun x => { x with ready := x.ready.drop 1 })
    if blockVerified x b then blockPassed (bump s 0x0505 n 32) o b else blockFailed s o n false

/-- PARTNER_BLOCK_CHECK (R185). -/
def execPartnerBlockCheck (port : Fin 8) (s : State) : Host.Outcome State Fault Refusal := .next (partnerBlockCheck s port)

/-- A recomputation fails its own check: once more on the same tile; then the tile is fenced, the block stays unchecked
and the convoy is cancelled (R190). -/
def recomputationFailed (s : State) (o b cluster tile : Nat) (x : Offload) (found : Option (Nat × Nat)) (e : TileErrors) : State :=
  let inst := cluster * 17 + tile
  let s := reportLane (reportPicot s cluster tile found e.readoutDiffers 3) cluster tile e.lane
  if x.retried.contains inst then
    let s := repairTile s cluster tile
    match offloadConvoy s o with
    | none => s
    | some m => cancelConvoy s m .ownCheck (0x01 * 1024 + inst)
  else setOffload s o (fun x => { x with running := Tbl.set x.running inst b, retried := x.retried ++ [inst] })

/-- A tile may recompute: unfenced, of a cluster in the mask (R187). -/
def mayRecompute (s : State) (o cluster tile : Nat) : Bool :=
  bit (part s (o / 32)).clusterMask cluster && !isFenced s 0x01 (cluster * 17 + tile) && domainUp s 1
    && !clusterOut s cluster

/-- A drawn block has been recomputed (R186, R187); the tile takes the next. -/
def recomputationComplete (s : State) (n cluster tile : Nat) (errors : TileErrors) : State :=
  let s := s.fresh_
  match checkable s n (fun x => !x.drawn.isEmpty) with
  | none => s
  | some (o, x) =>
    match recomputedBlock s o x cluster tile with
    | none => s
    | some b =>
      if !mayRecompute s o cluster tile then s
      else
        let inst := cluster * 17 + tile
        let t := recomputation x b errors
        let found := picotFailure t
        if found.isSome || errors.readoutDiffers || errors.lane.isSome then recomputationFailed s o b cluster tile x found errors
        else
          let s := if x.retried.contains inst then transient s 0x01 inst else s
          let s := assignSpares (setOffload s o (fun x => { x with
            drawn := x.drawn.erase b, running := Tbl.erase x.running inst, retried := x.retried.erase inst }))
          if blockAgrees x b t (capFlag s n 2) then blockPassed (bump s 0x0506 n 32) o b else blockFailed s o n true

/-- RECOMPUTATION_COMPLETE (R186). -/
def execRecomputationComplete (port cluster : Fin 8) (tile : Fin 17) (errors : TileErrors) (s : State) :
    Host.Outcome State Fault Refusal :=
  .next (recomputationComplete s port cluster tile errors)

/-! ### Settings -/

/-- A partition a class A command names exists. -/
def partExists (s : State) (p : Nat) : Bool := decide (p < 32) && (part s p).state != .free

/-- The checks of opcode 0x0120 beyond the common ones (R18). -/
def clusterMaskSetChecks : State → Ctx → Checks :=
                                             (fun s c => { badParameter := !partExists s (c.u 0 1) })

/-- CLUSTER_MASK_SET (R165): governs passes not yet started. -/
def execClusterMaskSet (o : Origin) (s : State) : Host.Outcome State Fault Refusal :=
  .next (runOp 0x0120 o s (fixed .immediate) clusterMaskSetChecks
    (fun s c => finish (setPart s (c.u 0 1) (fun q => { q with clusterMask := c.u 1 1 })) c { status := .ok }))

/-- The checks of opcode 0x0122 beyond the common ones (R18). -/
def partnerCheckingSetChecks : State → Ctx → Checks :=
    (fun s c => { badParameter := decide (7 < c.u 0 1) || decide (1 < c.u 1 1) || decide (1024 < c.u 2 2)
        || (c.u 1 1 == 0 && !capFlag s (c.u 0 1) 1) || (c.u 1 1 == 1 && c.u 2 2 == 0) })

/-- PARTNER_CHECKING_SET (R184): governs convoys opened after it. Inline is refused for a partner without picot. -/
def execPartnerCheckingSet (o : Origin) (s : State) : Host.Outcome State Fault Refusal :=
  .next (runOp 0x0122 o s (fixed .immediate)
    partnerCheckingSetChecks
    (fun s c => finish (setPort s (c.u 0 1) (fun q => { q with checking := some (c.u 1 1 == 1, c.u 2 2) })) c
      { status := .ok }))

end Sys2Proof.Machine
end

