-- ==== Sys2Proof/Machine/Commands.lean ====
section
/-! DEFINITION. What ends a command from outside its own course: cancel, timeout, quiesce, the fence of the mailbox unit
(R80, R139, R141, R155, R160). -/

namespace Sys2Proof.Machine

open Sys2Proof

/-- The origin is this request slot. -/
def isSlot (p k : Nat) : Origin → Bool
  | .mbx a b => a.val == p && b.val == k
  | .twt => false

def withoutSlot (p k : Nat) (o : Option Origin) : Option Origin := if o.any (isSlot p k) then none else o

/-- The management core's work goes on without an answer to the slot. -/
def dropOrigins (s : State) (p k : Nat) : State :=
  let s := setAon s (fun a => { a with
    rails := Tbl.mapAll a.rails (fun _ r => { r with run := r.run.map (fun x => { x with origin := withoutSlot p k x.origin }) })
    axes := Tbl.mapAll a.axes (fun _ x => { x with release := withoutSlot p k x.release })
    cal := { a.cal with run := a.cal.run.map (fun r => { r with origin := withoutSlot p k r.origin }) } })
  { s with
    buses := Tbl.mapAll s.buses (fun _ b => { b with queue := b.queue.filter (fun j => !isSlot p k j.origin) })
    vault := { s.vault with staging := s.vault.staging.map (fun e =>
      { e with waiter := if e.waiter == some (p * 32 + k) then none else e.waiter }) } }

/-- A command is taken out of everything that works or waits for it: its convoy is cancelled with no re-run (R80), and no
later end of that work can reach the slot (R115). -/
def withdraw (s : State) (p k : Nat) (cause : CancelCause) : State :=
  let o := p * 32 + k
  let s := forgetWaiter s o
  let s := match convoyOf s p k with
    | none => s
    | some n => setConvoy (cancelConvoy s n cause 0) n (fun c => { c with owner := none })
  let s := dropOffload (dropOrigins s p k) o
  let s := { s with
    driveCmds := Tbl.erase s.driveCmds o
    nets := Tbl.mapAll s.nets (fun _ n => { n with heldTx := n.heldTx.filter (fun h => h.1 != o) })
    parts := Tbl.mapAll s.parts (fun _ q => { q with teardown := q.teardown.map (fun t =>
      if p == 0 && t.by_ == k then { t with by_ := 32 } else t) }) }
  if p == 0 && s.boot.update == some k then setBoot s (fun b => { b with update := none }) else s

/-- A command under way ends from outside with a status. -/
def endFromOutside (s : State) (p k : Nat) (cause : CancelCause) (st : Status) : State :=
  let a : Answer := if reqOpcode (slotAt s p k).request = 0x0110 then runAnswer_ s (p * 32 + k) st else { status := st }
  endSlot (withdraw s p k cause) p k { a with result := [] }

/-- A number not yet looked up enters the history as the command ends (R117). -/
def enterNumber (s : State) (p k : Nat) : State :=
  let sl := slotAt s p k
  let seq := reqSeq sl.request
  if sl.phase != .registered || !s.boot.synfyReady then s
  else match (part s p).history.place seq with
    | .new => setSlot (setPart s p (fun q => { q with history := q.history.enter seq })) p k (fun x => { x with inHistory := true })
    | .unseen =>
      setSlot (setPart s p (fun q => { q with history := q.history.enter seq })) p k (fun x => { x with inHistory := true })
    | _ => s

/-- The outcome of a slot's command is decided, or a refusal of it (R135, R151). -/
def outcomeDecided (sl : Slot) : Bool := sl.phase == .decided || sl.phase == .waiting || sl.phase == .refusing

/-- A slot's command runs and is before its point of no return (R141). -/
def cancellable (sl : Slot) : Bool := (sl.phase == .registered || sl.phase == .running) && !sl.pastReturn

/-! ### Quiesce (R139, R155) -/

/-- Every context of a partition is cleared (R346). -/
def clearDigests (q : Partition) : Partition := { q with digests := [] }

/-- The registers of R131 and R143 at their reset values, but for the partition number, the state, the fenced slots and the
lost-events count; request and response slots zero (R155). -/
def resetWindow (q : Partition) : Partition :=
  { clearDigests q with
    moderation := 1
    discards := 0
    receiptBase := 0
    receiptSize := 0
    receiptProducer := 0
    receiptConsumer := 0
    requestBytes := []
    responseBytes := []
    raises := 0
    control := 0
    holdoffFrom := none
    events := { q.events with base := 0, control := 0, producer := 0, consumer := 0, phase := true } }

/-- What a quiesce does to one slot: a command before its point of no return leaves nothing; one past it runs on and a decided
one keeps its outcome, both as pending deliveries, which are shown busy (R139). -/
def quiesceSlot (s : State) (p k : Nat) : State :=
  let sl := slotAt s p k
  if cancellable sl then dropSlot (withdraw s p k .hostCancel) p k
  else if sl.phase == .free then s
  else setSlot s p k (fun x => { x with busy := true, phase := if sl.phase == .decided then .waiting else x.phase })

/-- A partition is quiesced (R155). A teardown begun while it was Active goes on as if begun from Quiesced. -/
def quiesce (s : State) (p cause : Nat) : State :=
  match (part s p).state with
  | .active =>
    let s := (List.range 32).foldl (fun s k => quiesceSlot s p k) s
    let s := setPart s p (fun q => { resetWindow q with state := .quiesced })
    raiseBoth s p 0x0004 false cause
  | .tearing => setPart s p (fun q => { q with teardown := q.teardown.map (fun t => { t with wasActive := false }) })
  | _ => s

/-- Every partition whose bound function satisfies a test is quiesced. -/
def quiesceWhere (s : State) (f : Nat → Nat → Bool) (cause : Nat) : State :=
  (Tbl.keysWhere s.parts (fun _ q => f q.port q.fn)).foldl (fun s p => quiesce s p cause) s

/-- A slot whose response and receipt are discarded: its outcome stays in the history. -/
def discardSlot (s : State) (p k : Nat) : State :=
  setPart s p (fun q => { q with slots := Tbl.erase q.slots k, sealOrder := q.sealOrder.filter (fun j => j != k) })

/-- The mailbox unit is fenced (R160): every partition is quiesced with cause 0x02, and what waits for delivery is
discarded. No ring can be written, so TWT tells the administrator, with partition 0's own event. -/
def fenceMailbox (s : State) : State :=
  let s := { s with faults := { s.faults with mailboxFenced := true } }
  let s := quiesceWhere s (fun _ _ => true) 0x02
  let s := twtEvent s ⟨0x0004, false, 0, mainTime s, 0, 0, 0xFF, 0x02⟩
  s.parts.foldl (fun s e => (List.range 32).foldl (fun s k =>
    if (slotAt s e.1 k).phase == .waiting then discardSlot s e.1 k else s) s) s

/-- The tag of a response's storage is compared before each host write (R160). -/
def guardTags (s : State) (p : Nat) : State := if tagDue s p then fenceMailbox s else s

/-- The partition a request's origin has; partition 0 for TWT. -/
def originPart : Origin → Nat
  | .mbx p _ => p
  | .twt => 0
/-- MODEL_LOAD (R210): 1 ms + 20 µs per MiB of image, a part counted whole. `image` is what the host returned, `reread`
what it returned when layers were read once more. -/
def execModelLoad (o : Origin) (image : List Byte) (reread : Option (List Byte)) (s : State) :
    Host.Outcome State Fault Refusal :=
  .next (guardTags (runOp 0x0101 o s modelLoadBudget modelLoadChecks (modelLoadEffect image reread)) (originPart o))

/-- SYNC_WAIT (R219). -/
def execSyncWait (o : Origin) (s : State) : Host.Outcome State Fault Refusal :=
  .next (guardTags (runOp 0x0213 o s (fixed .long) syncWaitChecks syncWaitEffect) (originPart o))

end Sys2Proof.Machine
end

