-- ==== Sys2Proof/Machine/Teardown.lean ====
section
/-! DEFINITION. The teardown of a partition and the clearing of its memory (R119, R125, R156, R157, R222). -/

namespace Sys2Proof.Machine

open Sys2Proof

def setTeardown (s : State) (p : Nat) (f : Teardown → Teardown) : State :=
  setPart s p (fun q => { q with teardown := q.teardown.map f })

/-- Granules still being cleared for a partition. -/
def clearingFor (s : State) (p : Nat) : List Nat :=
  (List.range 320).filter (fun g => (granule s g).clearing && (granule s g).bound == some p)

/-- Commands of a partition that have not left their slots. -/
def slotsBusy (s : State) (p : Nat) : Bool := (part s p).slots.any (fun e => e.2.phase != .free)

/-- Step 6: the events, the end of the window, and the answer to the administrator (R156). -/
def finishTeardown (s : State) (p : Nat) (t : Teardown) : State :=
  let s := if t.discarded = 0 then s else raiseAdmin s 0x0008 false p t.discarded
  let s := raiseBoth s p 0x0006 false (min 255 t.cancelled + 256 * min 255 t.own + 65536 * t.granules)
  let s := { s with parts := Tbl.erase s.parts p }
  endSlot s 0 t.by_ { status := .ok, result := leBytes 1 t.cancelled ++ leBytes 1 t.own ++ leBytes 2 t.granules }

/-- The granules of a partition, bound to it or held by its objects; a retiring one is cleared in its new place. -/
def partitionGranules (s : State) (p : Nat) : List Nat :=
  (List.range 320).filter (fun g => ((granule s g).bound == some p || heldByPartition s p g)
    && !isFenced s 0x03 g)

/-- Spill pages of a partition zeroed (R156, R157). -/
def clearSpill (s : State) (p : Nat) : State :=
  setMemory s (fun m => { m with
    spill := (spillUsed s p).foldl (fun b g => Mem.clear b (g * mib2) mib2) m.spill
    tags := m.tags.filter (fun e => !(spillUsed s p).any (fun g => e.1 / 8192 == 320 + g)) })

/-- Step 5: the partition's resources are released (R156); its granules return to the pool once cleared (R157). Its storage
extents go with its key slots (log 14). -/
def releaseResources (s : State) (p : Nat) : State :=
  let gs := partitionGranules s p
  let s := clearSpill s p
  let s := startClearing s gs
  let s := gs.foldl (fun s g => setGranule s g (fun e => { e with bound := some p })) s
  let owned := Tbl.keysWhere s.memory.sync (fun _ o => o.owner == p)
  let s := owned.foldl (fun s i => dropWaiters s i .cancelled) s
  let s := setMemory s (fun m => { m with
    regions := m.regions.filter (fun e => e.1 / 256 != p)
    models := m.models.filter (fun e => e.1 / 16 != p)
    sync := m.sync.filter (fun e => e.2.owner != p)
    granules := Tbl.mapAll m.granules (fun _ e => if e.bound == some p && !e.clearing then { e with bound := none } else e) })
  let s := { s with
    keys := s.keys.filter (fun e => e.2.owner != p)
    extents := s.extents.filter (fun e => e.2.partition != p) }
  let s := setPart s p (fun q => { clearDigests q with
    receiptKey := none, epoch := 0, wrapKey := [], history := History.init, rings := [], quotas := Quotas.none })
  setTeardown s p (fun t => { t with released := true, granules := (clearingFor s p).length })

/-- A teardown goes as far as it can: its operations have ended, then its resources are released and cleared. -/
def settleTeardown (s : State) (p : Nat) : State :=
  let q := part s p
  match q.state, q.teardown with
  | .tearing, some t =>
    if slotsBusy s p then s
    else
      let s := if t.released then s else releaseResources s p
      match (part s p).teardown with
      | none => s
      | some t => if (clearingFor s p).isEmpty then finishTeardown s p t else s
  | _, _ => s

/-- Every teardown under way goes as far as it can. -/
def settleTeardowns (s : State) : State :=
  (Tbl.keysWhere s.parts (fun _ q => q.state == .tearing)).foldl settleTeardown s

/-- A completion that a teardown begun from Quiesced, or its 1 ms, discards (R85, R156). -/
def discardCompletion (s : State) (p k : Nat) : State :=
  setTeardown (discardSlot s p k) p (fun t => { t with discarded := t.discarded + 1 })

/-- A decided slot's completion, as the state of its partition has it (R85, R139, R140, R156, R160). -/
def completeSlot (s : State) (p k : Nat) : State :=
  let q := part s p
  match q.state, q.teardown with
  | .tearing, some t =>
    if !t.wasActive || (t.expired && !receiptFree q) then discardCompletion s p k else beginDelivery s p k
  | _, _ => if s.faults.mailboxFenced then discardSlot s p k else beginDelivery s p k

/-- A layer beneath the command's own retry works for it: the teardown waits for it (R125). -/
def lowerRepair (s : State) (p k : Nat) : Bool :=
  match convoyOf s p k with
  | some n => (convoy s n).inRepair
  | none => (slotAt s p k).inRepair && (slotAt s p k).layer != 3

/-- What a teardown does to one slot (R156, steps 2 to 4). -/
def tearSlot (s : State) (p k : Nat) : State :=
  let sl := slotAt s p k
  if sl.phase == .free then s
  else if cancellable sl then
    let s := setTeardown s p (fun t => { t with cancelled := t.cancelled + 1 })
    if lowerRepair s p k then s else endFromOutside s p k .hostCancel .cancelled
  else
    let s := setTeardown s p (fun t => { t with own := t.own + 1 })
    let live := match (part s p).teardown with
      | some t => t.wasActive
      | none => true
    if sl.phase == .waiting && !live then discardCompletion s p k else s

def teardownChecks (s : State) (c : Ctx) : Checks :=
  let p := c.u 0 1
  { badParameter := p == 0 || !partExists s p, busy := (part s p).state == .tearing }

/-- The bound of R156: 1 ms, the longest remaining timeout of an operation past its point of no return, 10 µs a granule and
0.5 ms a GiB of spill memory. -/
def teardownBudget (s : State) (c : Ctx) : Nat :=
  let p := c.u 0 1
  let left := ((part s p).slots.map (fun e =>
    if e.2.phase == .running && e.2.pastReturn then e.2.at_ + 1000 * e.2.limitUs - s.now else 0)).foldl max 0
  1000000 + left + 10000 * (partitionGranules s p).length + 500000 * (part s p).quotas.spill

def teardownEffect (s : State) (c : Ctx) : State :=
  let p := c.u 0 1
  let s := setSlot s 0 c.k (fun sl => { sl with begun := true })
  let s := setPart s p (fun q => { q with
    state := .tearing, teardown := some ⟨c.k, s.now, q.state == .active, 0, 0, 0, 0, false, false⟩ })
  settleTeardown ((List.range 32).foldl (fun s k => tearSlot s p k) s) p

/-- PARTITION_TEARDOWN (R156). -/
def execPartitionTeardown (o : Origin) (s : State) : Host.Outcome State Fault Refusal :=
  .next (runOnce 0x0003 o s teardownBudget teardownChecks teardownEffect)

/-- TEARDOWN_DISCARD_EXPIRY (R85): 1 ms after the teardown began, what waits for a full ring is discarded, and what meets one
later at once. -/
def execTeardownDiscardExpiry (p : Fin 32) (s : State) : Host.Outcome State Fault Refusal :=
  .next (match (part s p).teardown with
    | none => s.fresh_
    | some t =>
      let s := setTeardown (advanceTo s.fresh_ (t.at_ + 1000000)) p (fun t => { t with expired := true })
      let waiting := Tbl.keysWhere (part s p).slots (fun _ sl => sl.phase == .waiting)
      settleTeardown (waiting.foldl (fun s k => discardCompletion s p k) s) p)

/-- GRANULE_CLEARED (R157): every word and its check bits are written with zero; the granule returns to the pool, or to its
partition's free granules. A retiring granule's replacement is cleared in its place (R226). -/
def granuleCleared (s : State) (g : Nat) : State :=
  let e := granule s g
  if !e.clearing || e.retiring.isSome then s
  else
    let gone := e.bound.any (fun p => (part s p).state == .tearing || (part s p).state == .free)
    let s := setMemory s (fun m => { m with
      bytes := Mem.clear m.bytes (g * granuleBytes) granuleBytes
      tags := m.tags.filter (fun x => x.1 / 8192 != g) })
    settleTeardowns (setGranule s g (fun e => { e with clearing := false, bound := if gone then none else e.bound }))

/-- GRANULE_CLEARED (R157). -/
def execGranuleCleared (granule : Fin 320) (s : State) : Host.Outcome State Fault Refusal :=
  .next (granuleCleared s.fresh_ granule)

/-- GRANULE_RETIREMENT_END (R226): a teardown that waited for the granule goes on. -/
def execGranuleRetirementEnd (g : Fin 320) (s : State) : Host.Outcome State Fault Refusal :=
  .next (if (granule s g).clearing then settleTeardowns (retirementEnd s g) else retirementEnd s g)

end Sys2Proof.Machine
end

