-- ==== Sys2Proof/Machine/Repair.lean ====
section
/-! DEFINITION. The repair of a resource with a lasting fault (R56, R106, R109, R161, R437). -/

namespace Sys2Proof.Machine

open Sys2Proof

/-- The main domain stops and is held off (R56, R109). -/
def holdMainOff (s : State) : State := powerDown (stopMain s) .heldOff

/-- The same with its cause reported over TWT: while the main domain is off its events go there (R56, R109). -/
def holdMainOffFor (s : State) (code detail : Nat) : State := raiseAon (holdMainOff s) code true detail

/-- A host port cannot be used: its clock or a queue hop of it is fenced (R56, R109). -/
def hostOut (s : State) (h : Nat) : Bool := (domain s (5 + h)).fenced || isFenced s 0x0C (9 * 16 + h) || isFenced s 0x0C (10 * 16 + h)

/-- The storage port cannot be used. -/
def storageOut (s : State) : Bool := (domain s 7).fenced || isFenced s 0x0C (11 * 16) || isFenced s 0x0C (12 * 16)

/-- A network port cannot be used. -/
def netOut (s : State) (j : Nat) : Bool :=
  (domain s (8 + j)).fenced || [6, 7, 8].any (fun c => isFenced s 0x0C (c * 16 + j))

/-- Storage commands under way end with a status. -/
def endDriveCmds (s : State) (st : Status) (f : DriveCmd → Bool) : State :=
  let due := s.driveCmds.filter (fun e => f e.2)
  due.foldl (fun s e => endSlot { s with driveCmds := Tbl.erase s.driveCmds e.1 } (e.1 / 32) (e.1 % 32) { status := st }) s

/-- A partner port leaves service. -/
def portOutOfService (s : State) (n : Nat) : State :=
  setPort (leavePort s n 0x05) n (fun q => { q with state := .disabled, retrainFrom := none })

/-- A queue hop is fenced, and its port or unit leaves service (R109). -/
def hopOut (s : State) (cls n : Nat) : State :=
  if cls < 6 then portOutOfService s n
  else if cls < 9 then setNet (networkDown s n) n (fun x => { x with enabled := false })
  else if cls < 11 then quiesceWhere s (fun port _ => port == n) 0x02
  else if cls < 13 then endDriveCmds s .lasting (fun _ => true)
  else if cls < 15 then s
  else if cls < 17 then (List.range 36).foldl (fun s i => retireSpill s (n * 36 + i)) s
  else if cls = 17 then fence s 0x0D n
  else if cls < 20 then holdMainOffFor s 0x0903 (cls + 256 * n + 131072)
  else s

/-- A request the management core holds for someone ends with LASTING. -/
def endManagementWork (s : State) : State :=
  let s := dropRuns s
  let s := (List.range 4).foldl (fun s i => endRelease s i .lasting) s
  let s := match s.aon.cal.run with
    | none => s
    | some r =>
      let s := setCal s (fun c => { c with run := none })
      match r.origin with
      | none => s
      | some o => finishOrigin s o { status := .lasting }
  let jobs := (s.buses.map (fun e => e.2.queue)).flatten
  let s := { s with buses := Tbl.mapAll s.buses (fun _ b => { b with queue := [] }) }
  jobs.foldl (fun s j => finishOrigin s j.origin { status := .lasting }) s

/-- The management core's safe state (R109, R437): rails held, fans at 100 %, axes disabled, the KT ceiling 0.6 GHz. -/
def enterSafeState (s : State) : State :=
  let s := { s with faults := { s.faults with safeState := true, resuming := false } }
  let s := setAon s (fun a => { a with axes := Tbl.mapAll a.axes (fun _ x =>
    { x with enable := false, velocity := 0, acceleration := 0 }) })
  updateCeiling (endManagementWork s)

/-- A lockstep pair is taken offline; with both gone the main domain is held off (R109, R161). -/
def pairOffline (s : State) (pair : Nat) : State :=
  let s := lastingFault s 0x09 pair
  let s := { s with faults := { s.faults with pairs := s.faults.pairs.erase pair } }
  if s.faults.pairs.isEmpty then holdMainOffFor s 0x0908 (pair + 256) else s

/-- A model run under way whose layer needs spill memory (R56, R228). -/
def spillRun (s : State) (p k : Nat) : Bool :=
  let sl := slotAt s p k
  sl.phase == .running && sl.begun && !sl.pastReturn && reqOpcode sl.request == 0x0110
    && (match runModel s (p * 32 + k) with
      | none => false
      | some m => needsSpill m ((m.layers.drop (jobAt s (p * 32 + k) 0)).take (jobAt s (p * 32 + k) 1)))

/-- Model runs under way that satisfy a test end with LASTING, their convoys cancelled. -/
def endRunsLasting (s : State) (f : State → Nat → Nat → Bool) : State :=
  (Tbl.keysWhere s.parts (fun _ _ => true)).foldl (fun s p => (List.range 32).foldl (fun s k =>
    if f s p k then endConvoyCommand (withdraw s p k .ownCheck) (p * 32 + k) .lasting else s) s) s

/-- A model run under way (R216). -/
def tensorRun (s : State) (p k : Nat) : Bool :=
  let sl := slotAt s p k
  sl.phase == .running && reqOpcode sl.request == 0x0110 && sl.begun && !sl.pastReturn

/-- What the loss of a domain's clock for good does beyond fencing it (R56). -/
def clockGone (s : State) (d : Nat) : State :=
  match d with
  | 0 | 2 => holdMainOffFor s 0x0902 (d + 512)
  | 3 => setBoot s (fun b => { b with pllA := false, pllLost := true })
  | 4 => s
  | 5 | 6 => quiesceWhere (setHost s (d - 5) (fun h => { h with linkUp := false, ready := false, training := false }))
      (fun port _ => port == d - 5) 0x02
  | 7 => endDriveCmds s .lasting (fun _ => true)
  | 8 | 9 => networkDown s (d - 8)
  | 1 => endRunsLasting s tensorRun
  | 18 => endRunsLasting s spillRun
  | _ => if d < 18 then leavePort s (d - 10) 0x05 else s

/-- KA runs on from RO-A, KV's loss flags the time, and a KP port seeks again; the other domains stay out (R56). -/
def outForGood (d : Nat) : Bool := d != 3 && d != 4 && !(decide (10 ≤ d) && decide (d < 18))

/-- A resource of R541 with a lasting fault is repaired as R109 and its own chapter have it. -/
def repair (s : State) (group index : Nat) : State :=
  match group with
  | 0x01 => repairTile s (index / 17) (index % 17)
  | 0x02 =>
    if isFenced s 0x02 index then s
    else
      let s := lastingFault s 0x02 index
      if bit (portAt s (index / 8)).lanes (index % 8) && inRun s (index / 8) then dropLane s (index / 8) (index % 8) true 0x08 else s
  | 0x03 => startRetirement s index false
  | 0x04 => if isFenced s 0x04 index then s else fenceChannel s (index / 2) (index % 2)
  | 0x05 => fenceDetector s index
  | 0x06 => fencePartner s index
  | 0x07 =>
    let s := lastingFault s 0x07 index
    if digestUnits s = 0 then holdMainOffFor s 0x0906 (index + 256) else s
  | 0x08 => fenceMacsec s index
  | 0x09 => pairOffline s index
  | 0x0A => if index = 0 then enterSafeState (lastingFault s 0x0A 0) else stopMain (lastingFault s 0x0A 1)
  | 0x0B =>
    if (domain s index).fenced then s
    else
      let s := guard (bump s 0x0301 0x0B 16)
      clockGone (setDomain s index (fun d => { d with restarting := false, fenced := outForGood index })) index
  | 0x0C =>
    if isFenced s 0x0C index then s
    else
      let s := lastingFault s 0x0C index
      hopOut (setQueue s (index / 16) (index % 16) (fun q => { q with fenced := true })) (index / 16) (index % 16)
  | 0x10 => portOutOfService (lastingFault s 0x10 index) index
  | 0x15 => retireSpill s index
  | _ => lastingFault s group index

end Sys2Proof.Machine
end

