-- ==== Sys2Proof/Machine/Network.lean ====
section
/-! DEFINITION. Network ports: transmission, MACsec and ESP associations, configuration, links and telemetry export (R284–R294,
R325, R500). -/

namespace Sys2Proof.Machine

open Sys2Proof

/-! ### Frame transmit (R284, R287) -/

/-- The greatest frame without FCS (R284). -/
def maxFrame : Nat := 9212

def espOutAt (s : State) (j i : Nat) : Option EspSa :=
  match Tbl.get? (netAt s j).espOut i with
  | none => none
  | some sa => if sa.valid then some sa else none

/-- The association has sequence numbers left (RFC 4303). -/
def espLeft (sa : EspSa) : Bool := decide (sa.sequence < if sa.esn then 2 ^ 64 else 2 ^ 32)

def frameTransmitChecks (s : State) (c : Ctx) : Checks :=
  let j := c.u 0 1
  let d := c.desc 8
  (descChecks s c 8).both
    { badParameter := decide (1 < j) || decide (1 < c.u 1 1) || c.dirty 2 2 || decide (d.len < 60) || decide (maxFrame < d.len)
        || (bit (c.u 1 1) 0 && (decide (8191 < c.u 4 4) || !(espOutAt s j (c.u 4 4)).any espLeft))
      execution := if netOut s j then some .lasting else if !(netAt s j).linkUp then some .absent else none }

/-- A plain frame that ESP may take: IP, and no fragment (R287). -/
def espFits (f : List Byte) : Bool :=
  let ip := ipStart f
  let v4 := field f ip 1 / 16 == 4 && field f (ip - 2) 2 == 0x0008
  let v6 := field f ip 1 / 16 == 6 && field f (ip - 2) 2 == 0xDD86
  (v4 && beNat (slice f (ip + 6) 2) % 16384 == 0) || (v6 && field f (ip + 6) 1 != 44)

/-- A cipher engine's check on an operation of another unit: it ends with LASTING, or goes on, retried or not (R352, R353). -/
def engineCheck (s : State) (e handle : Nat) : UnitFault → Bool × State
  | .none => (true, s)
  | .mismatch false => (true, engineMismatch s e false)
  | .mismatch true => (false, engineMismatch s e true)
  | .slot false => (true, transient s 0x0D e)
  | .slot true => (false, loseKeySlot s (handle % 4096))

/-- The frame encrypted under the association, on the engine next in turn. -/
def sealOutbound (s : State) (c : Ctx) (f : List Byte) (fault : UnitFault) : Status × List Byte × State :=
  let j := c.u 0 1
  match espOutAt s j (c.u 4 4), cipherEngine s with
  | some sa, some e =>
    if !espFits f then (.badParameter, [], s)
    else
      let (good, s) := engineCheck s e sa.keySlot fault
      if !good then (.lasting, [], s)
      else match espSeal s sa f with
        | none => (.lasting, [], s)
        | some (g, sa') =>
          if maxFrame < g.length then (.badParameter, [], s)
          else
            let s := countBlocks s e (ceilDiv f.length 16 + 1)
            let s := if fault == .none then s else setSlot s c.p c.k (fun sl => { sl with lower := true })
            (.ok, g, setNet s j (fun n => { n with espOut := Tbl.set n.espOut (c.u 4 4) sa' }))
  | _, _ => (.lasting, [], s)

/-- The frame goes to the gate: at once, or after what a PAUSE holds there. -/
def frameTransmitEffect (host : List Byte) (fault : UnitFault) (s : State) (c : Ctx) : State :=
  let j := c.u 0 1
  match descReadMeets s c.p (c.desc 8) with
  | some none => s
  | some (some st) => finish s c { status := st }
  | none =>
    let f := readDesc s c.p (c.desc 8) host
    let (st, g, s) := if bit (c.u 1 1) 0 then sealOutbound s c f fault else (.ok, f, s)
    if st != .ok then finish s c { status := st, reads := [f] }
    else gateFrame (setSlot s c.p c.k (fun sl => { sl with inputs := [f], begun := true })) j (c.p * 32 + c.k) g

/-- The recovery budget of opcode 0x030B (R112, R480). -/
def frameTransmitBudget : State → Ctx → Nat :=
                          (fun s c => dataBudgetNs s c.p (c.desc 8).len)

/-- FRAME_TRANSMIT (R284, R287, R292): `frame` is what the host returns; `fault` what the cipher engine's checks found. A frame
that a PAUSE holds leaves its command under way, and presenting it again goes on to the end of the pause. -/
def execFrameTransmit (o : Origin) (frame : Fetched) (fault : UnitFault) (s : State) :
    Host.Outcome State Fault Refusal :=
  .next (if begun s o then
      match ctxOf s.fresh_ o with
      | none => s.fresh_
      | some c =>
        let s := s.fresh_
        let j := c.u 0 1
        match (netAt s j).heldTx.find? (fun h => h.1 == c.p * 32 + c.k) with
        | none => s
        | some h =>
          flushTx (advanceTo s (Tbl.getD (netAt s j).paused (framePriority (netAt s j) h.2) s.now)) j
    else runOp 0x030B o s frameTransmitBudget frameTransmitChecks
      (inConvoy (onWord (fun s c w => descHolds s c.p (c.desc 8) w) frame.word (frameTransmitEffect frame.bytes fault))))

/-! ### Security associations (R286, R287) -/

/-- The live slot of any partition with a usage bit. -/
def slotForUse (s : State) (handle use : Nat) : Option KeySlot := (slotAny s handle).filter (fun k => bit k.usage use)

/-- Packets in flight under an ESP association: received frames settled and not yet delivered, or held frames. -/
def espInFlight (s : State) (j dir i : Nat) : Bool :=
  if dir = 0 then (clsPort s j).frames.any (fun e => e.2.verdict.any (fun v =>
    bit (field v.action 1 1) 0 && field v.action 8 4 % 8192 == i))
  else (netAt s j).heldTx.any (fun h =>
    let b := reqBody (slotAt s (h.1 / 32) (h.1 % 32)).request
    decide (h.1 < 1024) && bit (field b 1 1) 0 && field b 4 4 == i)

def espSaSetChecks (s : State) (c : Ctx) : Checks :=
  let valid := bit (c.u 0x10 1) 0
  { badParameter := decide (1 < c.u 0 1) || decide (1 < c.u 1 1) || decide (8191 < c.u 2 2) || decide (15 < c.u 0x10 1)
      || c.dirty 0x11 1 || c.dirty 0x14 4 || (valid && (slotForUse s (c.u 4 4) 5).isNone)
      || (valid && c.u 1 1 == 0 && (decide (c.u 0x12 2 < 64) || decide (1024 < c.u 0x12 2)))
    busy := espInFlight s (c.u 0 1) (c.u 1 1) (c.u 2 2) }

/-- The highest number received stands one below the first expected. -/
def espSaSetEffect (s : State) (c : Ctx) : State :=
  let f := c.u 0x10 1
  let inbound := c.u 1 1 == 0
  let first := c.u 0x18 8
  let sa : EspSa := ⟨bit f 0, c.u 4 4, c.u 8 4, c.u 0xC 4, bit f 1, bit f 2, bit f 3, c.u 0x12 2,
    if inbound then first - 1 else first, []⟩
  finish (setNet s (c.u 0 1) (fun n =>
    if inbound then { n with espIn := Tbl.set n.espIn (c.u 2 2) sa } else { n with espOut := Tbl.set n.espOut (c.u 2 2) sa })) c
    { status := .ok }

/-- ESP_SA_SET (R287). -/
def execEspSaSet (o : Origin) (s : State) : Host.Outcome State Fault Refusal :=
  .next (runOp 0x030C o s (fixed .control) espSaSetChecks espSaSetEffect)

/-- A slot's key serves a suite: AES-128 for suites 0 and 2, AES-256 for 1 and 3. -/
def suiteKey (s : State) (handle suite : Nat) : Bool :=
  (slotForUse s handle 6).any (fun k => k.kind == if suite % 2 = 0 then 1 else 3)

def macsecSaSetChecks (s : State) (c : Ctx) : Checks :=
  let valid := bit (c.u 6 1) 0
  { badParameter := decide (1 < c.u 0 1) || decide (1 < c.u 1 1) || decide (31 < c.u 2 1) || (c.u 1 1 == 0 && c.u 2 1 != 0)
      || decide (3 < c.u 3 1) || decide (3 < c.u 4 1) || !([0, 30, 50] : List Nat).contains (c.u 5 1) || decide (1 < c.u 6 1) || c.dirty 7 1
      || (valid && !suiteKey s (c.u 8 4) (c.u 4 1))
    execution := if valid && isFenced s 0x08 (c.u 0 1) then some .lasting else none }

def macsecSaSetEffect (s : State) (c : Ctx) : State :=
  let sa : MacsecSa := ⟨bit (c.u 6 1) 0, c.u 4 1, c.u 5 1, c.u 8 4, c.u 0xC 4, c.u 0x10 8, slice c.body 0x18 12, c.u 0x24 4, c.u 0x28 8⟩
  finish (setNet s (c.u 0 1) (fun n =>
    if c.u 1 1 = 0 then { n with macTx := Tbl.set n.macTx (c.u 3 1) sa }
    else { n with macRx := Tbl.set n.macRx (c.u 2 1 * 4 + c.u 3 1) sa })) c { status := .ok }

/-- MACSEC_SA_SET (R286, R352). -/
def execMacsecSaSet (o : Origin) (s : State) : Host.Outcome State Fault Refusal :=
  .next (runOp 0x030D o s (fixed .control) macsecSaSetChecks macsecSaSetEffect)

/-! ### Configuration and links (R284, R285, R292, R325, R500) -/

def portConfigureChecks (s : State) (c : Ctx) : Checks :=
  { badParameter := decide (1 < c.u 0 1) || c.u 1 1 == 0 || decide (3 < c.u 1 1) || decide (2 < c.u 2 1)
      || decide (c.u 3 1 < 10) || decide (95 < c.u 3 1) || decide (c.u 4 1 < 5) || decide (c.u 3 1 < c.u 4 1 + 5)
    busy := (netAt s (c.u 0 1)).enabled }

/-- NETWORK_PORT_CONFIGURE (R284, R285). -/
def execNetworkPortConfigure (o : Origin) (s : State) : Host.Outcome State Fault Refusal :=
  .next (runOp 0x03C1 o s (fixed .immediate) portConfigureChecks (fun s c =>
    finish (setNet s (c.u 0 1) (fun n => { n with
      speed := c.u 1 1, flow := c.u 2 1, high := c.u 3 1, low := c.u 4 1, paused := [] })) c { status := .ok }))

/-- A network port is enabled: its domain's clock starts (R58). -/
def enableNet (s : State) (j : Nat) : State :=
  if (netAt s j).enabled then s
  else
    setNet { s with domains := Tbl.set s.domains (8 + j) ⟨true, true, false, (domain s (8 + j)).fenced⟩ } j
      (fun n => { n with enabled := true })

/-- The checks of opcode 0x03C2 beyond the common ones (R18). -/
def networkPortEnableChecks : State → Ctx → Checks :=
                                           (fun s c =>
    { badParameter := decide (1 < c.u 0 1)
      badCommand := c.has 0 1 && s.cls.failed.contains (c.u 0 1)
      execution := if netOut s (c.u 0 1) then some .lasting else none })

/-- NETWORK_PORT_ENABLE (R325, R500). -/
def execNetworkPortEnable (o : Origin) (s : State) : Host.Outcome State Fault Refusal :=
  .next (runOp 0x03C2 o s (fixed .control) networkPortEnableChecks
    (fun s c => finish (enableNet s (c.u 0 1)) c { status := .ok }))

/-- A network port is disabled, its domain's clock stopped. -/
def disableNet (s : State) (j : Nat) : State :=
  let s := setNet (networkDown s j) j (fun n => { n with enabled := false })
  if (domain s (8 + j)).fenced then s else { s with domains := Tbl.erase s.domains (8 + j) }

/-- The checks of opcode 0x03C3 beyond the common ones (R18). -/
def networkPortDisableChecks : State → Ctx → Checks :=
                                             (fun _ c => { badParameter := decide (1 < c.u 0 1) })

/-- NETWORK_PORT_DISABLE (R292). -/
def execNetworkPortDisable (o : Origin) (s : State) : Host.Outcome State Fault Refusal :=
  .next (runOp 0x03C3 o s (fixed .immediate) networkPortDisableChecks
    (fun s c => finish (disableNet s (c.u 0 1)) c { status := .ok }))

/-- A link may come up: port enabled, tables loaded (R295, R325), clocks and datapath in service (R352). -/
def linkMayRise (s : State) (j : Nat) : Bool :=
  let n := netAt s j
  s.boot.mainOn && s.boot.classifierLoaded && n.enabled && !n.linkUp && !netOut s j
    && !(isFenced s 0x08 j && macsecAny n)

/-- NETWORK_LINK_UP (R500). -/
def execNetworkLinkUp (port : Fin 2) (s : State) : Host.Outcome State Fault Refusal :=
  .next (if linkMayRise s.fresh_ port then
      raiseAdmin (setNet s.fresh_ port (fun n => { n with linkUp := true })) 0x03C4 false 0
        (port.val + 256 * (netAt s port).speed)
    else s.fresh_)

/-- NETWORK_LINK_DOWN (R292). -/
def execNetworkLinkDown (port : Fin 2) (s : State) : Host.Outcome State Fault Refusal := .next (networkDown s.fresh_ port)

/-! ### Telemetry export (R288, R289) -/

def telemetryChecks (s : State) (c : Ctx) : Checks :=
  let on := bit (c.u 1 1) 0
  let d := c.desc 0x2C
  (if on then descChecks s c 0x2C else {}).both
    { badParameter := decide (1 < c.u 0 1) || decide (3 < c.u 1 1) || c.dirty 0xA 2 || d.reserved != 0
        || (on && (c.u 2 2 == 0 || decide (1000 < c.u 2 2) || d.len % 4 != 0 || decide (1024 < d.len))) }

def exportList (bs : List Byte) : List (Nat × Nat) :=
  (List.range (bs.length / 4)).map (fun i => (field bs (4 * i) 2, field bs (4 * i + 2) 2))

/-- The export sequence goes on (R289). -/
def telemetryEffect (host : List Byte) (s : State) (c : Ctx) : State :=
  let j := c.u 0 1
  if !bit (c.u 1 1) 0 then finish (setNet s j (fun n => { n with telemetry := none })) c { status := .ok }
  else match descReadMeets s c.p (c.desc 0x2C) with
    | some none => s
    | some (some st) => finish s c { status := st }
    | none =>
      let bs := readDesc s c.p (c.desc 0x2C) host
      let list := exportList bs
      if list.any (fun e => (counterRow e.1 e.2).isNone) then finish s c { status := .badParameter, reads := [bs] }
      else
        let x : Export := ⟨true, bit (c.u 1 1) 1, c.u 2 2, c.u 4 2, c.u 6 2, c.u 8 2, slice c.body 0xC 16, slice c.body 0x1C 16, list⟩
        finish (setNet s j (fun n => { n with telemetry := some x })) c { status := .ok, reads := [bs] }

/-- TELEMETRY_EXPORT_SET (R288): `list` is what the host returns. -/
def execTelemetryExportSet (o : Origin) (list : List Byte) (s : State) : Host.Outcome State Fault Refusal :=
  .next (runOp 0x0903 o s (fixed .control) telemetryChecks (telemetryEffect list))

/-- The one's complement checksum of bytes, an odd last one padded with zero; 0 is sent as all ones. -/
def onesChecksum (bs : List Byte) : Nat :=
  let sum := ((List.range (ceilDiv bs.length 2)).map (fun i => beNat (slice bs (2 * i) 2))).sum
  let v := 65535 - (if sum != 0 && sum % 65535 == 0 then 65535 else sum % 65535)
  if v = 0 then 65535 else v

/-- A datagram over UDP, IP and Ethernet (R288). PRESUMED: IEEE 802.3, RFC 768, RFC 791, RFC 8200. Log 5. -/
def telemetryFrame (j : Nat) (x : Export) (data : List Byte) : List Byte :=
  let open_ := fun i => Config.telemetryHeader j i
  let len := 8 + data.length
  let src := if x.ipv6 then x.src else x.src.take 4
  let dst := if x.ipv6 then x.dst else x.dst.take 4
  let ports := beBytes 2 x.srcPort ++ beBytes 2 x.dstPort
  let sum := onesChecksum (src ++ dst ++ beBytes 4 len ++ beBytes 4 17 ++ ports ++ beBytes 2 len ++ [0, 0] ++ data)
  let udp := ports ++ beBytes 2 len ++ beBytes 2 sum ++ data
  let h4 := [0x45, open_ 12] ++ beBytes 2 (20 + len) ++ [open_ 13, open_ 14, 0, 0, open_ 15, 17]
  let head := if x.ipv6 then [0x60, 0, 0, 0] ++ beBytes 2 len ++ [17, open_ 15] ++ src ++ dst
    else h4 ++ beBytes 2 (ip4Checksum (h4 ++ [0, 0] ++ src ++ dst)) ++ src ++ dst
  let tag := if x.vlan = 0 then [] else [0x81, 0x00] ++ beBytes 2 x.vlan
  (List.range 12).map open_ ++ tag ++ (if x.ipv6 then [0x86, 0xDD] else [0x08, 0x00]) ++ head ++ udp

/-- The records of a datagram, read in list order. -/
def readRecords (s : State) (es : List (Nat × Nat)) : List Byte × State :=
  es.foldl (fun r e =>
    let (v, s) := readCounter r.2 e.1 e.2
    (r.1 ++ leBytes 2 e.1 ++ leBytes 2 e.2 ++ [0, 0, 0, 0] ++ leBytes 8 v, s)) ([], s)

/-- One datagram with its MAC. -/
def sendDatagram (s : State) (j : Nat) (x : Export) (last : Bool) (es : List (Nat × Nat)) : State :=
  let key := receiptKeyOf s 0
  let head := [1] ++ leBytes 1 (b2n last + 2 * b2n (timeFlagged s) + 4 * b2n s.boot.engineering) ++ leBytes 1 es.length
    ++ leBytes 1 key.2 ++ leBytes 4 (netAt s j).exportSeq ++ leBytes 8 (mainTime s) ++ leBytes 2 s.vault.powerUps ++ leBytes 1 j
    ++ List.replicate 13 0
  let (records, s) := readRecords s es
  let data := head ++ records
  let mac := (hmacSha256 key.1 ([0x54, 0x4C, 0x4D, 0x31] ++ data)).take 16
  let s := setNet s j (fun n => { n with exportSeq := (n.exportSeq + 1) % 4294967296 })
  gateFrame s j 1024 (telemetryFrame j x (data ++ mac))

/-- A list in runs of at most `n`. -/
def runsOf {α : Type} (n : Nat) : Nat → List α → List (List α)
  | 0, _ => []
  | f + 1, l => if l.isEmpty then [] else l.take n :: runsOf n f (l.drop n)

/-- A period of the export ends (R288, R292). -/
def telemetryPeriod (s : State) (j : Nat) : State :=
  let n := netAt s j
  match n.telemetry with
  | none => s
  | some x =>
    if !n.linkUp then raiseAdmin (bump s 0x0806 j 32) 0x03C7 false 0 (j + 4294967296 * n.exportSeq)
    else
      let runs := runsOf 80 x.list.length x.list
      (List.range runs.length).foldl (fun s i => sendDatagram s j x (i + 1 == runs.length) (runs.getD i [])) s

/-- TELEMETRY_PERIOD (R288). -/
def execTelemetryPeriod (port : Fin 2) (s : State) : Host.Outcome State Fault Refusal := .next (telemetryPeriod s.fresh_ port)

end Sys2Proof.Machine
end

