-- ==== Sys2Proof/Machine/Boot.lean ====
section
/-! DEFINITION. Start-up: VAON, image selection and sections, self-test, Synfy ready, the default classifier content and
NODE_DONE (R58, R128, R129, R232, R234, R325, R440, R475, R490–R506, R508, R530, R535, R537). -/

namespace Sys2Proof.Machine

open Sys2Proof

/-! ### The always-on domain (R58, R492, R502, R537, R540) -/

/-- VAON is valid: KA runs from RO-A, the management core starts and image selection begins; the straps are sampled, and the
handle generations begin at the main power-up count (R58, R234, R490, R502, R540). The always-on domain can be powered only while
the vault is (R22). -/
def vaonValid (s : State) (straps : Nat) : State :=
  if s.boot.vaon || !vaultOn s then s
  else
    let s := setBoot s (fun b => { b with
      vaon := true, vaonAt := s.now, startAt := s.now, phase := .selecting, twtStraps := straps, nodeDoneDriven := true })
    let s := setCal s (fun c => { c with periodicAt := s.now })
    { s with
      domains := Tbl.set s.domains 3 ⟨true, true, false, false⟩
      memory := { s.memory with generations := [], generationBase := s.vault.powerUps % 65536 } }

/-- VAON_VALID (R537). -/
def execVaonValid (straps : Fin 4) (s : State) : Host.Outcome State Fault Refusal := .next (vaonValid s.fresh_ straps)

/-- ALWAYS_ON_RESET (R537). -/
def execAlwaysOnReset (s : State) : Host.Outcome State Fault Refusal := .next (alwaysOnReset s.fresh_)

/-- PLL_A_LOCK (R58): KA moves to PLL-A. -/
def execPllALock (s : State) : Host.Outcome State Fault Refusal :=
  .next (if s.boot.vaon && !s.boot.pllLost then setBoot s.fresh_ (fun b => { b with pllA := true }) else s.fresh_)

/-! ### The configuration image (R492–R495) -/

/-- Section entries of a header: type, offset and length (R492). -/
def sectionEntries (h : List Byte) : List (Nat × Nat × Nat) :=
  (List.range 6).map (fun i => (field h (32 + 64 * i) 1, field h (36 + 64 * i) 4, field h (40 + 64 * i) 4))

def sectionTypes (h : List Byte) : List Nat := ((sectionEntries h).map (fun e => e.1)).filter (fun t => t != 0)

/-- The largest section of a type, in KiB (R492). -/
def sectionLimit (t : Nat) : Nat := 1024 * [0, 256, 6144, 1024, 1024, 384].getD t 0

/-- A used entry lies within the copy, at a multiple of 4 KiB, no longer than its type allows. -/
def entryOk (copyLength : Nat) (e : Nat × Nat × Nat) : Bool :=
  e.1 == 0 || (decide (e.1 ≤ 5) && e.2.1 % 4096 == 0 && decide (e.2.1 + e.2.2 ≤ copyLength) && decide (e.2.2 ≤ sectionLimit e.1))

/-- What is wrong with a header beside its commit word and signature (R494): the section type concerned, 0 for none. -/
def headerFault_ (h : List Byte) : Option Nat :=
  let es := sectionEntries h
  let length := field h 0x00C 4
  if slice h 0 4 != [0x41, 0x47, 0x49, 0x4D] || field h 4 1 != 1 || decide (1 < field h 5 1) || !allZero (slice h 0x010 16)
      || decide (32 * 1048576 < length) || !(slice h 0x200 3580).all (fun b => b == 0xFF)
      || (List.range 6).any (fun i => field h (33 + 64 * i) 3 != 0 || field h (44 + 64 * i) 4 != 0) then some 0
  else match es.find? (fun e => !entryOk length e) with
    | some e => some e.1
    | none =>
      if !(sectionTypes h).contains 1 then some 1
      else if !(sectionTypes h).contains 2 then some 2
      else none

/-- Why a copy is not eligible (R494): reason and section type of event 0x0A21. -/
def ineligible (c : ImageCopy) : Option (Nat × Nat) :=
  match headerFault_ c.header with
  | some t => some (0x01, t)
  | none =>
    if field c.header 0xFFC 4 != 0x5AA5C33C then some (0x03, 0)
    else if !c.signatureOk then some (0x02, 0)
    else none

/-! ### Table checks (R393, R394, R401, R413, R419, R426, R444, R495) -/

def railOk (r : RailCfg) : Bool :=
  r.nominal == 0
    || (decide (300 ≤ r.nominal) && decide (r.nominal ≤ 14000)
      && [r.under, r.above].all (fun w => decide (10 ≤ w) && decide (w ≤ 200) && w % 5 == 0)
      && [1, 2, 4, 8].contains r.divider && r.pmbus.all (fun p => decide (p.1 < 128) && decide (p.2 < 256))
      && decide (r.response ≤ 1) && !(r.main && (r.response != 0 || r.switchable)))

/-- One step; only the last of the table carries flags [2]. -/
def stepOk (last : Bool) (t : SeqStep) : Bool :=
  (decide (t.rail < 24) || t.rail == 0x1F) && decide (t.flags < 8) && bit t.flags 2 == last && decide (t.delay < 65536)
    && decide (t.down < 65536) && (if bit t.flags 0 then decide (1 ≤ t.timeout) && decide (t.timeout < 65536) else t.timeout == 0)

def stepsOk (ts : List SeqStep) : Bool :=
  decide (1 ≤ ts.length) && decide (ts.length ≤ 48)
    && (List.range ts.length).all (fun i => stepOk (i + 1 == ts.length) (ts.getD i ⟨0, 0, 0, 0, 0⟩))
    && (List.range 24).all (fun v => decide ((ts.filter (fun t => t.rail == v)).length ≤ 1))

def fanOk (f : FanCfg) : Bool :=
  !f.used || (decide (1 ≤ f.ppr) && decide (f.ppr ≤ 4) && decide (60 ≤ f.minSpeed) && decide (f.minSpeed ≤ 30000)
    && decide (f.minDuty ≤ 100) && decide (f.zone ≤ 3))

def dutiesOk (ds : List Nat) : Bool := ds.length == 4 && ds.all (fun d => d == 0 || (decide (20 ≤ d) && decide (d ≤ 100)))

/-- A row's targets lie within the soft limits of the plan-driven axes (R435). -/
def targetsOk (axes : List AxisCfg) (r : PlanRow) : Bool :=
  (List.range axes.length).all (fun i =>
    match axes[i]? with
    | none => true
    | some a => !(a.used && a.planDriven) || (r.targets[i]?).any (fun x => decide (a.lower ≤ x) && decide (x ≤ a.upper)))

/-- Thresholds rise, ceilings do not. -/
def rowOrder : List PlanRow → Bool
  | a :: b :: rest => decide (a.threshold < b.threshold) && decide (b.ceiling ≤ a.ceiling) && rowOrder (b :: rest)
  | _ => true

def planOk (t : AonTables) : Bool :=
  decide (1 ≤ t.rows.length) && decide (t.rows.length ≤ 8) && rowOrder t.rows
    && (t.rows.head?).any (fun r => r.threshold == -40)
    && t.rows.all (fun r => decide (r.threshold ≤ 125) && dutiesOk r.duties && decide (1 ≤ r.ceiling) && decide (r.ceiling ≤ 4)
        && targetsOk t.axes r)
    && dutiesOk t.mainOff && decide (1 ≤ t.hysteresis) && decide (t.hysteresis ≤ 10) && decide (80 ≤ t.critical)
    && decide (t.critical ≤ 105) && decide (85 ≤ t.shutdown) && decide (t.shutdown ≤ 110) && decide (t.critical < t.shutdown)

def axisOk (a : AxisCfg) : Bool :=
  !a.used || (decide (1 ≤ a.periods) && decide (a.periods ≤ 1024) && decide (a.lower < a.upper) && decide (-2147483648 ≤ a.lower)
    && decide (a.upper < 2147483648) && decide (1 ≤ a.velocity) && decide (a.velocity ≤ 65536000) && decide (1 ≤ a.acceleration)
    && decide (a.acceleration < 4294967296) && decide (1 ≤ a.jerk) && decide (a.jerk ≤ 2 ^ 40) && decide (16 ≤ a.following)
    && decide (a.following ≤ 1048576) && decide (25 ≤ a.windowLow) && decide (a.windowLow ≤ 90) && decide (110 ≤ a.windowHigh)
    && decide (a.windowHigh ≤ 225) && a.gains.all (fun g => decide (g < 4294967296)) && decide (4 * a.homeVelocity ≤ a.velocity)
    && a.rail.all (fun v => decide (v < 24)))

def busOk (b : Nat × Nat) : Bool := decide (b.1 ≤ 2) && decide (b.2 ≤ (if b.1 = 2 then 15 else 31))

/-- The checks of an always-on section (R495). -/
def tablesOk (t : AonTables) : Bool :=
  decide (t.rails.length ≤ 24) && t.rails.all railOk && stepsOk t.steps && decide (t.collapseCode ≤ 255)
    && decide (t.restartCode ≤ 255) && decide (t.collapseCode + 10 ≤ t.restartCode) && decide (t.fans.length ≤ 12)
    && t.fans.all fanOk && planOk t && decide (t.axes.length ≤ 4) && t.axes.all axisOk && decide (t.buses.length ≤ 3)
    && t.buses.all busOk && decide (t.adminPort ≤ 1) && decide (t.bifurcation ≤ 2)
    && t.netSpeeds.all (fun v => decide (1 ≤ v) && decide (v ≤ 3))

/-! ### Selection and acceptance (R494–R496, R508) -/

/-- Event 0x0A21. -/
def copyRejected (s : State) (copy reason kind : Nat) : State := raiseAon s 0x0A21 true (copy + 256 * reason + 65536 * kind)

/-- A copy is rejected until VAON is lost (R494). -/
def rejectCopy (s : State) (copy reason kind : Nat) : State :=
  copyRejected (setBoot s (fun b => { b with rejected := b.rejected ++ [copy] })) copy reason kind

/-- Modes and filters of the buses take effect, on a busy bus once it is idle (R443). -/
def applyBuses (s : State) : State :=
  (List.range 3).foldl (fun s i =>
    match s.aon.tables.buses[i]? with
    | none => s
    | some (mode, filter) =>
      { s with buses := Tbl.modify s.buses i Bus.init (fun b =>
        if b.queue.isEmpty then { b with mode := mode, filter := filter, next := none } else { b with next := some (mode, filter) }) }) s

/-- A copy is accepted: its tables take effect, fans spin up, axes and calibration start (R440, R475, R495). After a rejected
copy the sequence starts at once (R496). -/
def acceptCopy (s : State) (copy : Nat) (c : ImageCopy) : State :=
  let h := c.header
  let at_once := s.boot.noQualify
  let s := setBoot s (fun b => { b with
    phase := .accepted, copy := some copy, engineering := bit (field h 5 1) 0, major := field h 6 1, minor := field h 7 1
    imageSeq := field h 8 4, sections := sectionTypes h, loaded := [], sectionRetry := [], noQualify := false })
  let s := { s with
    aon := { s.aon with tables := c.tables }
    vault := { s.vault with evtEdges := c.tables.evtEdges } }
  let s := raiseAon s 0x0A22 false (copy + 2 * b2n s.boot.engineering + 256 * s.boot.major + 65536 * s.boot.minor
    + 4294967296 * s.boot.imageSeq)
  let s := startRun (startAxes (startFans (updateCeiling (applyBuses s)))) 0x1F true none
  if at_once && !s.aon.seq.stayOff then startSequence s .sequencing 1 else s

/-- Eligible copies in their order: the first whose always-on section and tables pass is accepted (R495, R508). -/
def trySelect (s : State) : List (Nat × ImageCopy) → State
  | [] => raiseAon (setBoot s (fun b => { b with phase := .noImage, copy := none, noQualify := false })) 0x0A23 true 0
  | (i, c) :: rest =>
    if !c.first.contains 1 && !c.second.contains 1 then trySelect (rejectCopy s i 0x04 1) rest
    else if !tablesOk c.tables then trySelect (rejectCopy s i 0x05 1) rest
    else acceptCopy s i c

/-- Whether copy B goes before copy A: serial-number arithmetic, the open case of a distance of 2³¹ settled freely (R494). -/
def bFirst (a b open_ : Nat) : Bool :=
  let d := (b + 4294967296 - a % 4294967296) % 4294967296
  if d = 2147483648 then bit open_ 0 else decide (0 < d) && decide (d < 2147483648)

/-- One copy examined: reported where it is not eligible, a candidate where it is and was not rejected. -/
def examine (s : State) (i : Nat) (c : ImageCopy) : State × List (Nat × ImageCopy) :=
  if s.boot.rejected.contains i then (s, [])
  else match ineligible c with
    | some (reason, kind) => (copyRejected s i reason kind, [])
    | none => (s, [(i, c)])

/-- Image selection (R494, R495). -/
def selectImage (s : State) (a b : ImageCopy) : State :=
  if !s.boot.vaon || s.boot.phase != .selecting then s
  else
    let (n, s) := drawNat s
    let (s, xa) := examine s 0 a
    let (s, xb) := examine s 1 b
    trySelect s (if bFirst (field a.header 8 4) (field b.header 8 4) n then xb ++ xa else xa ++ xb)

/-- IMAGE_SELECTION (R494). -/
def execImageSelection (a b : ImageCopy) (s : State) : Host.Outcome State Fault Refusal := .next (selectImage s.fresh_ a b)

/-! ### Main-domain sections (R496, R497) -/

/-- Every listed network port is enabled once the default content and the stages of the image are loaded (R500); a port whose
content failed stays disabled (R325). -/
def enableListed (s : State) : State :=
  let ready := s.boot.classifierLoaded && [3, 4].all (fun t => !s.boot.sections.contains t || s.boot.loaded.contains t)
  if !ready then s
  else [0, 1].foldl (fun s j =>
    if bit s.aon.tables.netPorts j && !s.cls.failed.contains j && !netOut s j then enableNet s j else s) s

/-- The section that is read next: Synfy, then X0 and X1, and after Synfy ready the classifier content (R497, R500). -/
def nextSection (s : State) : Option Nat :=
  [2, 3, 4, 5].find? (fun t => s.boot.sections.contains t && !s.boot.loaded.contains t && (t != 5 || s.boot.synfyReady))

/-- A section has been read: loaded, read again, or the copy is rejected and power-down leads to another selection (R496). -/
def sectionRead (s : State) (t : Nat) (good : Bool) : State :=
  let due := s.boot.mainOn && s.aon.seq.down.isNone && (nextSection s == some t || (t == 5 && s.boot.synfyReady
    && s.boot.sections.contains 5 && !s.boot.loaded.contains 5))
  if !due then s
  else if good then
    let s := setBoot s (fun b => { b with
      loaded := b.loaded ++ [t]
      stages := if t = 3 ∨ t = 4 then setBit b.stages (t - 3) else b.stages })
    enableListed s
  else if s.boot.sectionRetry.contains t then
    powerDown (rejectCopy s (s.boot.copy.getD 0) 0x04 t) .reselect
  else setBoot s (fun b => { b with sectionRetry := b.sectionRetry ++ [t] })

/-- SECTION_READ_COMPLETE (R496): a section of the accepted copy by type, and whether it matches its digest. -/
def execSectionReadComplete (kind : Fin 6) (good : Bool) (s : State) : Host.Outcome State Fault Refusal :=
  .next (sectionRead s.fresh_ kind good)

/-! ### Self-test (R120, R128, R129, R232, R356) -/

/-- The guarantee status is formed, and event 0x0907 gives it with a previous status of zero (R120). -/
def formStatus (s : State) : State :=
  let v := guaranteeStatus s
  raiseAdmin { s with faults := { s.faults with status := some v } } 0x0907 false 0 v

/-- Start-up self-test ends: resources that failed once are transient, those that failed twice are repaired; node memory is
zero and every tag confirmed (R128, R232). It has not passed where a resource that failed twice stays in use after its repair: the
management core, in its safe state (R109, R120). DEDUCED, log 55. -/
def selfTestEnd (s : State) (once twice : List (Nat × Nat)) : State :=
  if !s.boot.mainOn || s.boot.selfTestDone || !s.aon.tables.selfTest then s
  else
    let s := (once.filter (fun r => resourceExists r.1 r.2)).foldl (fun s r => transient s r.1 r.2) s
    let s := (twice.filter (fun r => resourceExists r.1 r.2)).foldl (fun s r => repair s r.1 r.2) s
    if !s.boot.mainOn then s
    else
      let s := setMemory s (fun m => { m with bytes := [], tags := [] })
      let s := { s with faults := { s.faults with
        scrubOwed := [], selfTestFailed := s.faults.selfTestFailed || twice.any (fun r => r.1 == 0x0A) } }
      formStatus (setBoot s (fun b => { b with selfTestDone := true }))

/-- SELF_TEST_END (R128): the resources of R541 that failed once, and those that failed twice. -/
def execSelfTestEnd (once twice : List (Fin 23 × Fin 1024)) (s : State) : Host.Outcome State Fault Refusal :=
  let plain := fun (l : List (Fin 23 × Fin 1024)) => l.map (fun r => (r.1.val, r.2.val))
  .next (selfTestEnd s.fresh_ (plain once) (plain twice))

/-! ### Synfy ready (R99, R270, R303, R389, R500) -/

/-- The fault record, then an events-lost event for what it dropped, and the vault's held events reach the administrator's ring
(R99, R389). -/
def deliverRecord (s : State) : State :=
  let record := s.faults.record
  let dropped := s.faults.dropped
  let held := s.vault.heldEvents
  let s := { s with
    faults := { s.faults with record := [], dropped := 0 }
    vault := { s.vault with heldEvents := [] } }
  let s := record.foldl (fun s e => postEvent s 0 e) s
  let s := if dropped = 0 then s else raiseAdmin s 0x0007 false 0 dropped
  held.foldl (fun s e => postEvent s 0 e) s

/-- Synfy is ready: the Synfy section is loaded, and self-test has ended or is disabled (R497). -/
def synfyReady (s : State) : State :=
  let b := s.boot
  if !b.mainOn || b.phase != .mainStart || !b.loaded.contains 2 || !(b.selfTestDone || !s.aon.tables.selfTest) then s
  else
    let s := if b.selfTestDone then s else formStatus (setBoot s (fun b => { b with selfTestDone := true }))
    let s := grantReady (setBoot s (fun b => { b with phase := .ready, synfyReady := true })) 11 0
    let s := raiseAon (deliverRecord s) 0x0A26 false ((s.now - s.boot.startAt) / 1000000 % 4294967296)
    let s := { s with cls := { s.cls with seeds := (List.range 4).map (fun i => s.fresh + i) }, fresh := s.fresh + 4 }
    let s := (List.range 8).foldl (fun s n =>
      if bit s.aon.tables.partnerPorts n && !portFenced s n && (portAt s n).state == .disabled then enablePort s n else s) s
    let s := [0, 1].foldl (fun s j => setNet s j (fun n => { n with speed := s.aon.tables.netSpeeds.getD j n.speed })) s
    setBoot s (fun b => { b with nodeDoneDriven := false, soloTimer := some s.now })

/-- SYNFY_READY (R497, R500). -/
def execSynfyReady (s : State) : Host.Outcome State Fault Refusal := .next (synfyReady s.fresh_)

/-! ### Default classifier content (R325, R500) -/

/-- A request as a command of its own would carry it. -/
def contentCtx (op : Nat) (body : List Byte) : Ctx := ⟨32, 32, false, op, 0, 0, 0, body.length, 0, 0, 0, body⟩

/-- The stages that the image loads count as loaded for its own profiles. -/
def withStages (s : State) : State :=
  setBoot s (fun b => { b with stages := maskOf 2 (fun i => b.sections.contains (3 + i)) })

/-- One item of the content passes the checks of its command. -/
def contentOk (s : State) (c : Ctx) : Bool :=
  let ch := match c.op with
    | 0x0301 => entryInsertChecks s c
    | 0x0305 => profileSetChecks (withStages s) c
    | 0x0306 => patternSetChecks s c
    | 0x0307 => parseLimitsChecks s c
    | 0x0308 => defaultActionChecks s c
    | _ => { badCommand := true }
  (opInfo c.op).any (fun i => decide (i.least ≤ c.len) && decide (c.len ≤ i.most)) && ch.verdict.isNone

/-- The ports an item concerns: an entry serves both. -/
def contentPorts (c : Ctx) : List Nat := if c.op = 0x0301 then [0, 1] else [c.u 0 1 % 2]

/-- One item takes effect, or keeps its ports disabled and is reported (R325). -/
def loadItem (s : State) (c : Ctx) : State :=
  if contentOk s c then
    match c.op with
    | 0x0301 => entryInsertEffect s c
    | 0x0305 => profileSetEffect s c
    | 0x0306 => patternSetEffect s c
    | 0x0307 => parseLimitsEffect s c
    | _ => defaultActionEffect s c
  else
    let s := setCls s (fun x => { x with failed := x.failed ++ (contentPorts c).filter (fun j => !x.failed.contains j) })
    copyRejected s (s.boot.copy.getD 0) 0x05 5

/-- The default content is loaded (R500): nothing where the image has none. -/
def loadContent (s : State) (content : List (Nat × List Byte)) : State :=
  let present := s.boot.sections.contains 5
  if !s.boot.synfyReady || s.boot.classifierLoaded || (present && !s.boot.loaded.contains 5) then s
  else
    let s := (if present then content else []).foldl (fun s e => loadItem s (contentCtx e.1 e.2)) s
    enableListed (setBoot s (fun b => { b with classifierLoaded := true }))

/-- CLASSIFIER_LOAD_COMPLETE (R325, R500): the content as requests of the classifier's commands, opcode and body. -/
def execClassifierLoadComplete (content : List (Nat × List Byte)) (s : State) : Host.Outcome State Fault Refusal :=
  .next (loadContent s.fresh_ content)

/-! ### NODE_DONE (R502–R504) -/

/-- The line rises: each port in Seek that has seen a partner signal trains at once; solo mode ends (R503, R504). -/
def nodeDoneRises (s : State) : State :=
  let b := s.boot
  if !b.vaon || b.nodeDoneDriven || b.nodeDoneHigh then s
  else
    let s := setBoot s (fun b => { b with nodeDoneHigh := true, solo := false, soloTimer := none })
    let s := raiseAdmin s 0x0A25 false 0 (b2n b.solo)
    (List.range 8).foldl (fun s n =>
      if (portAt s n).state == .seek && (portAt s n).seen then
        setPort s n (fun q => { q with state := .train, stateFrom := s.now, empty := 0, seen := false, bursting := false })
      else s) s

/-- NODE_DONE_HIGH (R503, R504). -/
def execNodeDoneHigh (s : State) : Host.Outcome State Fault Refusal := .next (nodeDoneRises s.fresh_)

/-- NODE_DONE_FALL (R503). -/
def execNodeDoneFall (s : State) : Host.Outcome State Fault Refusal :=
  .next (setBoot s.fresh_ (fun b => { b with nodeDoneHigh := false }))

/-- 3 s after its release NODE_DONE is still low (R504). -/
def soloMode (s : State) : State :=
  match s.boot.soloTimer with
  | none => s
  | some t =>
    let s := setBoot (advanceTo s (t + 3000000000)) (fun b => { b with solo := true, soloTimer := none })
    raiseAdmin s 0x0A24 false 0 (maskOf 8 (fun n => (portAt s n).state != .disabled))

/-- SOLO_MODE (R504). -/
def execSoloMode (s : State) : Host.Outcome State Fault Refusal := .next (soloMode s.fresh_)

/-! ### Boundary scan (R528, R530) -/

/-- EXTEST, EXTEST_PULSE, EXTEST_TRAIN, HIGHZ or CLAMP is loaded: a main domain that runs stops, its rails left enabled. -/
def scanInstruction (s : State) (i : Nat) : State :=
  if !s.boot.vaon then s
  else
    let ran := s.boot.mainOn
    let s := setBoot (stopMain s) (fun b => { b with testLogicReset := false })
    if ran then raiseAon (setBoot s (fun b => { b with scanStopped := true })) 0x0A40 true (Config.scanCode i).toNat else s

/-- BOUNDARY_SCAN_INSTRUCTION (R530). -/
def execBoundaryScanInstruction (instr : Fin 5) (s : State) : Host.Outcome State Fault Refusal :=
  .next (scanInstruction s.fresh_ instr)

/-- TEST_LOGIC_RESET (R530). -/
def execTestLogicReset (s : State) : Host.Outcome State Fault Refusal :=
  .next (setBoot s.fresh_ (fun b => { b with testLogicReset := true }))

end Sys2Proof.Machine
end

