-- ==== Sys2Proof/Machine/Faults.lean ====
section
/-! DEFINITION. Faults that the device's own checkers raise: clocks, crossings, lockstep, the management core, the convoy
table, and the exercise of every checker (R51–R57, R93, R101, R109, R161, R387, R437, R473). -/

namespace Sys2Proof.Machine

open Sys2Proof

/-! ### Clocks (R55, R56) -/

/-- A domain's clock runs under its monitor: KA on PLL-A, KV by the crystal's amplitude, the others by their domain. -/
def clockRuns (s : State) (d : Nat) : Bool :=
  let x := domain s d
  x.clock && !x.restarting && !x.fenced && (d != 3 || s.boot.pllA) && (d != 4 || s.vault.crystalOk)

/-- Event 0x0902, where the domain's own unit reports: the vault for KV, else the management core. -/
def raiseClock (s : State) (d detail : Nat) : State :=
  if d = 4 then raiseVault s 0x0902 true detail else raiseAon s 0x0902 true detail

/-- A command of the class that the management core serves (R480). -/
def managementOp (op : Nat) : Bool :=
  match opInfo op with
  | some i => i.latency == .management
  | none => false

/-- A running command whose work goes on once a domain's clock is back: any for KC and KM, tile passes for KT, commands of the
management core for KA, of the vault for KV, storage for KS, frames held at their port for KN, traffic on a partner port for KP,
Spill work for KB (R56, R114). DEDUCED, log 56. -/
def clockWork (s : State) (d p k : Nat) (sl : Slot) : Bool :=
  match d with
  | 0 | 2 => true
  | 1 => tensorRun s p k
  | 3 => managementOp (reqOpcode sl.request)
  | 4 => reqOpcode sl.request / 256 == 6
  | 7 => (Tbl.get? s.driveCmds (p * 32 + k)).isSome
  | 8 | 9 => (Tbl.getD s.nets (d - 8) NetPort.init).heldTx.any (fun e => e.1 == p * 32 + k)
  | 18 => spillRun s p k
  | _ => decide (10 ≤ d) && decide (d < 18) && (convoyOf s p k).any (fun n => touchedOn (d - 10) (convoy s n))

/-- A device-level retry begins for the commands that satisfy a test (R111, R114). -/
def beginRepair (s : State) (test : Nat → Nat → Slot → Bool) : State := mapRunning s test (Slot.repairing 4)

/-- A device-level retry has ended: its commands are no longer in repair by it, and after one that passed they end with
RECOVERED (R106, R114); a second attempt of their own goes on. What another domain's restart still holds stays in repair. -/
def endRepair (s : State) (passed : Bool) : State :=
  let second := fun (p k : Nat) => (convoyOf s p k).any (fun n => decide (2 ≤ (convoy s n).attempt))
  let s' := { s with parts := Tbl.mapAll s.parts (fun p q => { q with slots := Tbl.mapAll q.slots (fun k sl =>
    if sl.phase == .running && sl.inRepair && sl.layer == 4 then
      { sl with inRepair := second p k, layer := 3, lower := sl.lower || passed }
    else sl) }) }
  let s' := (List.range 19).foldl (fun t d => if (domain t d).restarting then beginRepair t (clockWork t d) else t) s'
  if s'.faults.resuming then beginRepair s' (fun _ _ sl => managementOp (reqOpcode sl.request)) else s'

/-- A clock is lost: from its detection the domain is held in reset and its restart runs (R51, R56), for the commands whose work
waits for it (R114). A crystal loss marks time invalid (R387). -/
def clockLoss (s : State) (d : Nat) : State :=
  if !clockRuns s d then s
  else
    let before := s
    let s := bump (setDomain s d (fun x => { x with clock := false, inReset := true, restarting := true })) 0x0101 d 16
    let s := beginRepair (raiseClock s d d) (clockWork s d)
    match d with
    | 3 => setBoot s (fun b => { b with pllA := false })
    | 4 => tellValidity before (setVault s (fun v => { v with crystalOk := false }))
    | _ => s

/-- CLOCK_LOSS (R55). -/
def execClockLoss (d : Fin 19) (s : State) : Host.Outcome State Fault Refusal := .next (clockLoss s.fresh_ d)

/-- The restart of a clock ends: transient, and the domain leaves reset, or lasting (R56, R387). A lasting loss of KC or KM is
reported once the main domain has stopped, over TWT. -/
def clockRestart (s : State) (d : Nat) (passed : Bool) : State :=
  if !(domain s d).restarting then s
  else
    let s := if !passed && (d == 0 || d == 2) then s else raiseClock s d (d + if passed then 256 else 512)
    let s := if d = 4 then
        let before := s
        let s := setVault s (fun v => { v with crystalOk := passed, untrusted := v.untrusted || passed })
        stage (tellValidity before s) 0x0F 0 (b2n (!passed)) none
      else s
    if passed then
      endRepair (leaveReset (setDomain (transient s 0x0B d) d (fun x => { x with clock := true })) d) true
    else
      let s := endRepair (repair s 0x0B d) false
      if d = 3 ∨ d = 4 then leaveReset (setDomain s d (fun x => { x with clock := true })) d else s

/-- CLOCK_RESTART_END (R56): the clock passed its monitor for ten windows within 50 µs, or did not. -/
def execClockRestartEnd (d : Fin 19) (passed : Bool) (s : State) : Host.Outcome State Fault Refusal :=
  .next (clockRestart s.fresh_ d passed)

/-! ### Crossings (R57) -/

/-- 1 s in ns. -/
def second : Nat := 1000000000

/-- A queue in use: granted, or of a partner class while its port is in Run (R57, R59). -/
def queueInUse (s : State) (cls n : Nat) : Bool := (queueAt s cls n).granted || (decide (cls < 5) && inRun s n)

/-- A crossing fault (R57): the queue is re-initialised once; a second one within 1 s fences its port or unit. -/
def crossingFault (s : State) (cls n : Nat) (parity : Bool) : State :=
  let q := queueAt s cls n
  if !queueInUse s cls n || q.fenced then s
  else
    let lasting := q.lastFault.any (fun t => decide (s.now ≤ t + second))
    let s := raiseAdmin s 0x0903 true 0 (cls + 256 * n + 65536 * b2n parity + 131072 * b2n lasting)
    if lasting then repair s 0x0C (queueKey cls n)
    else reinitQueue (setQueue (transient s 0x0C (queueKey cls n)) cls n (fun q => { q with lastFault := some s.now })) cls n

/-- CROSSING_FAULT (R57): a parity error on a pointer, or a pointer that moved backwards. -/
def execCrossingFault (cls : Fin 24) (number : Fin 16) (parity : Bool) (s : State) : Host.Outcome State Fault Refusal :=
  .next (crossingFault s.fresh_ cls number parity)

/-! ### Lockstep pairs and the management core (R109, R161) -/

/-- A pair's cores differ: the steps that ran on it are re-executed, or with a lasting mismatch end with LASTING, and the
pair is taken offline. -/
def lockstep (s : State) (pair : Nat) (lasting : Bool) (running : List Nat) : State :=
  if !s.faults.pairs.contains pair then s
  else
    let on := running.filter (fun o => (slotAt s (o / 32) (o % 32)).phase == .running)
    let s := raiseAdmin s 0x0908 true 0 (pair + 256 * b2n lasting)
    if lasting then
      pairOffline (on.foldl (fun s o => endFromOutside s (o / 32) (o % 32) .ownCheck .lasting) s) pair
    else
      on.foldl (fun s o => setSlot s (o / 32) (o % 32) (fun x => { x with lower := true })) (transient s 0x09 pair)

/-- LOCKSTEP_MISMATCH (R109, R161): `running` are the slots with a Synfy step on the pair, partition × 32 + slot. -/
def execLockstepMismatch (pair : Fin 2) (lasting : Bool) (running : List (Fin 1024)) (s : State) : Host.Outcome State Fault Refusal :=
  .next (lockstep s.fresh_ pair lasting (running.map (fun o => o.val)))

/-- The management core and its checker differ: it resumes, or at a second mismatch enters its safe state (R109). -/
def managementMismatch (s : State) (lasting : Bool) : State :=
  if !managementRuns s then s
  else
    let last := lasting || s.faults.resuming
    let s := raiseAon s 0x0909 true (256 * b2n last)
    if last then repair s 0x0A 0
    else beginRepair { s with faults := { s.faults with resuming := true } } (fun _ _ sl => managementOp (reqOpcode sl.request))

/-- MANAGEMENT_CORE_MISMATCH (R109). -/
def execManagementCoreMismatch (lasting : Bool) (s : State) : Host.Outcome State Fault Refusal :=
  .next (managementMismatch s.fresh_ lasting)

/-- MANAGEMENT_CORE_RESUMED (R109, R437, R473): the mismatch was transient, and an abandoned calibration run starts again. -/
def execManagementCoreResumed (s : State) : Host.Outcome State Fault Refusal :=
  .next (if !s.faults.resuming then s.fresh_
    else
      let s := endRepair (transient { s.fresh_ with faults := { s.faults with resuming := false } } 0x0A 0) true
      match s.aon.cal.run with
      | none => s
      | some r => pursue (beginRun s r.mask r.automatic r.origin))

/-! ### The convoy table (R93) -/

/-- The table is rebuilt in both copies from the parity of its entries (R93). -/
def rebuildTable (s : State) : State := { s with convoys := Tbl.mapAll s.convoys (fun _ c => c.mirrored) }

/-- Every fabric queue is fenced (R93). -/
def fenceQueues (s : State) : State := { s with queues := Tbl.mapAll s.queues (fun _ q => { q with fenced := true }) }

/-- The copies of the convoy table differ (R93): every open or sealed convoy is cancelled and the table rebuilt; a second mismatch
within 1 s fences the fabric queues, and the main domain stops. -/
def tableMismatch (s : State) : State :=
  if !s.boot.mainOn then s
  else
    let lasting := s.faults.tableMismatch.any (fun t => decide (s.now ≤ t + second))
    let r := cancelWhere s (fun _ c => c.state == .opened || c.state == .sealed) .ownCheck (0x0A * 1024 + 1)
    let s := raiseAdmin (rebuildTable r.2) 0x0905 true 0 (min 255 r.1 + 256 * b2n lasting)
    let s := { s with faults := { s.faults with tableMismatch := some s.now } }
    let s := if lasting then fenceQueues s else s
    if lasting then repair s 0x0A 1 else transient s 0x0A 1

/-- CONVOY_TABLE_MISMATCH (R93). -/
def execConvoyTableMismatch (s : State) : Host.Outcome State Fault Refusal := .next (tableMismatch s.fresh_)

/-! ### The exercise of checkers (R101) -/

/-- Checker classes of the always-on and vault domains: shadow comparator, clock monitor, r² window, dual-channel and
TD-A and TD-B comparators. -/
def alwaysOnChecker (cls : Nat) : Bool := [0x05, 0x07, 0x08, 0x09, 0x0A].contains cls

/-- A checker that did not flag its injected error is exercised once more; a second failure is lasting and fences the
resource it guards (R101, R106, R124). -/
def exercise (s : State) (cls number group index : Nat) (flagged again : Bool) : State :=
  if flagged || group == 0 || !(s.boot.mainOn || (s.boot.vaon && alwaysOnChecker cls)) then s
  else
    let s := bump s 0x0304 cls 16
    let s := raiseAon s 0x090A true (cls + 256 * number + 16777216 * b2n (!again))
    if again then transient s group index else repair s group index

/-- The class of a checker in event 0x090A (R127). The readout rounding pairs and the vector lane pairs of R194, checkers 10 and 11,
have none of their own: they are told as the picot comparator's, whose tile they check. DESIGN CHOICE, log 47. -/
def checkerClass (checker : Nat) : Nat := if checker < 10 then checker + 1 else 2

/-- CHECKER_EXERCISE (R101, R194): the checker with its instance number, and the resource it guards (R541);
`flagged` on the first injection, `again` on the second. -/
def execCheckerExercise (checker : Fin 12) (number : Fin 1024) (group : Fin 23) (index : Fin 1024) (flagged again : Bool) (s : State) :
    Host.Outcome State Fault Refusal :=
  .next (exercise s.fresh_ (checkerClass checker) number group index flagged again)

end Sys2Proof.Machine
end

