-- ==== Sys2Proof/Machine/Mailbox.lean ====
section
/-! DEFINITION. The partition window: doorbells, register writes, completions, interrupts, timeouts and cancels (R85, R94,
R131–R146, R151, R155, R160, R162). -/

namespace Sys2Proof.Machine

open Sys2Proof

/-! ### Doorbells (R132, R136, R139) -/

/-- A slot takes a new request: free and not fenced. -/
def slotOpen (s : State) (p k : Nat) : Bool := (slotAt s p k).phase == .free && !s.fencedSlots.contains (p * 32 + k)

/-- A doorbell registers: one aligned 4-byte write with reserved bits zero, not poisoned, to an open slot of an Active
partition whose receipt ring is programmed. -/
def doorbellTaken (s : State) (p size value : Nat) (poisoned : Bool) : Bool :=
  size == 4 && decide (value < 32) && !poisoned && (part s p).state == .active && (receiptEntries (part s p)).isSome
    && slotOpen s p (value % 32)

/-- A doorbell write (R136): the slot's 128 bytes are copied, busy is set and T starts; or it is discarded and counted. -/
def doorbell (s : State) (p size value : Nat) (poisoned : Bool) : State :=
  let s := s.fresh_
  if (part s p).state == .free || s.faults.mailboxFenced then s
  else if doorbellTaken s p size value poisoned then
    let q := part s p
    setSlot s p value (fun _ => { Slot.empty with
      phase := .registered, request := Mem.readBytes q.requestBytes (128 * value) 128, at_ := s.now, grant := q.grant, busy := true })
  else setPart s p (fun q => { q with discards := satAdd 16 q.discards 1 })

/-- DOORBELL (R136): a write of `size` bytes that reaches the doorbell register. -/
def execDoorbell (p : Fin 32) (size : Nat) (value : Word32) (poisoned : Bool) (s : State) : Host.Outcome State Fault Refusal :=
  .next (doorbell s p size value.toNat poisoned)

/-! ### Registers without behaviour of their own (R131, R132, R143) -/

/-- The value of an `n`-byte register at `base` after a write of bytes at `off` that may cover it in part. -/
def mergeReg (old n base off : Nat) (data : List Byte) : Nat :=
  leNat ((List.range n).map (fun i =>
    if off ≤ base + i ∧ base + i < off + data.length then data.getD (base + i - off) 0 else (leBytes n old).getD i 0))

/-- A write covers some byte of a register. -/
def covers (base n off : Nat) (data : List Byte) : Bool := decide (off < base + n) && decide (base < off + data.length)

/-- Bytes written into request slots; those of a slot whose busy or held bit is set are discarded (R136). -/
def writeRequests (s : State) (p off : Nat) (data : List Byte) : State :=
  let q := part s p
  let mem := (List.range data.length).foldl (fun m i =>
    let a := off + i
    if 0x1000 ≤ a ∧ a < 0x2000 ∧ (slotAt s p ((a - 0x1000) / 128)).phase == .free then Mem.write m (a - 0x1000) (data.getD i 0)
    else m) q.requestBytes
  setPart s p (fun q => { q with requestBytes := mem })

/-- The plain registers of a digest context: key slot handle and saved state (R342); a write to a busy context is an overrun
(R344). -/
def writeDigestRegs (s : State) (p c off : Nat) (data : List Byte) : State :=
  let base := 0x3800 + 0x400 * c
  if !covers (base + 4) 4 off data && !covers (base + 0x100) 392 off data then s
  else
    let d := digestAt s p c
    if d.busy then digestOverrun s p c
    else setDigest s p c { d with
      keySlot := mergeReg d.keySlot 4 (base + 4) off data
      saved := leBytes 392 (mergeReg (leNat d.saved) 392 (base + 0x100) off data) }

/-- The address bits [63:12] of a ring base (R85, R143). -/
def ringBase (v : Nat) : Nat := v - v % 4096

def registerWrite (s : State) (p off : Nat) (data : List Byte) (poisoned : Bool) : State :=
  let s := s.fresh_
  if (part s p).state == .free || poisoned || s.faults.mailboxFenced then s
  else
    let s := setPart s p (fun q => { q with
      moderation := (fun v => bits v 5 0 + 65536 * bits v 25 16) (mergeReg q.moderation 4 0x20 off data)
      receiptBase := ringBase (mergeReg q.receiptBase 8 0x40 off data)
      receiptSize := mergeReg q.receiptSize 4 0x48 off data % 32
      events := { q.events with
        base := ringBase (mergeReg q.events.base 8 0x3000 off data)
        control := mergeReg q.events.control 4 0x300C off data % 4 } })
    let s := writeRequests s p off data
    let s := writeDigestRegs (writeDigestRegs s p 0 off data) p 1 off data
    guardTags (drain (deliverWaiting s p) p) p

/-- The partition whose window an access to BAR0 of a function reaches, and the offset in the window: that of the partition bound to
the function, at partition × 0x4000 (R130). Every other offset, and the BAR0 of a function that is not bound, reaches none. -/
def barWindow (s : State) (host fn offset : Nat) : Option (Nat × Nat) :=
  let p := offset / 0x4000
  let q := part s p
  if decide (p < 32) && q.state != .free && q.port == host && q.fn == fn then some (p, offset % 0x4000) else none

/-- REGISTER_WRITE (R130, R131): bytes that a function writes at an offset of its BAR0. The registers with a command of their own
(the doorbell, partition control, the consumer indices and a digest context's control, data, tail, finish and save) are written by
that command, which names the partition that `barWindow` finds; read-only and reserved offsets ignore writes, as does every offset
outside the window. -/
def execRegisterWrite (sender : HostFunction) (offset : Fin 524288) (data : List Byte) (poisoned : Bool) (s : State) :
    Host.Outcome State Fault Refusal :=
  .next (match barWindow s sender.host sender.fn offset with
    | none => s.fresh_
    | some (p, off) => registerWrite s p off data poisoned)

/-! ### Rings and partition control (R85, R146, R155) -/

/-- Re-enabling a Quiesced partition with a programmed receipt ring: its pending deliveries are made in slot order, those decided
meanwhile among them, then the event (R155). -/
def enablePartition (s : State) (p : Nat) : State :=
  let s := s.fresh_
  let q := part s p
  if q.state != .quiesced || (receiptEntries q).isNone || s.faults.mailboxFenced || hostOut s q.port then s
  else
    let due := (List.range 32).filter (fun k => (slotAt s p k).phase == .waiting || (slotAt s p k).phase == .decided)
    let s := due.foldl (fun s k => setSlot s p k (fun sl => { sl with phase := .waiting })) s
    let s := setPart s p (fun q => { q with state := .active, control := 1, sealOrder := due })
    let s := deliverWaiting s p
    let left := ((List.range 32).filter (fun k => (slotAt s p k).phase == .waiting)).length
    if tagDue s p then fenceMailbox s else raiseBoth s p 0x0005 false (due.length - left)

/-- PARTITION_CONTROL_ENABLE (R155). -/
def execPartitionControlEnable (p : Fin 32) (s : State) : Host.Outcome State Fault Refusal := .next (enablePartition s p)

/-- RECEIPT_RING_CONSUMER_WRITE (R85). -/
def execReceiptRingConsumerWrite (p : Fin 32) (value : Word32) (s : State) : Host.Outcome State Fault Refusal :=
  .next (if (part s p).state == .free || s.faults.mailboxFenced then s.fresh_
    else settleTeardown (guardTags (deliverWaiting (setPart s.fresh_ p (fun q => { q with receiptConsumer := value.toNat })) p) p) p)

/-- EVENT_RING_CONSUMER_WRITE (R146). -/
def execEventRingConsumerWrite (p : Fin 32) (value : Word32) (s : State) : Host.Outcome State Fault Refusal :=
  .next (if (part s p).state == .free || s.faults.mailboxFenced then s.fresh_
    else drain (setPart s.fresh_ p (fun q => { q with events := { q.events with consumer := value.toNat } })) p)

/-! ### Interrupts (R142) -/

/-- A message that was pending is sent once the function can send it and the vector is unmasked. -/
def sendPending (s : State) (h fn : Nat) : State :=
  let f := hostFn s h fn
  if f.pendingBit && !f.masked && fnCanSend s h fn then send (setFn s h fn (fun f => { f with pendingBit := false })) [.msix h fn]
  else s

/-- MSIX_UNMASK (R142). -/
def execMsixUnmask (host : Fin 2) (fn : Fin 32) (s : State) : Host.Outcome State Fault Refusal :=
  .next (sendPending (setFn s.fresh_ host fn (fun f => { f with masked := false })) host fn)

/-- MSIX_HOLDOFF_EXPIRY (R142). -/
def execMsixHoldoffExpiry (p : Fin 32) (s : State) : Host.Outcome State Fault Refusal :=
  .next (match (part s p).holdoffFrom with
    | none => s.fresh_
    | some t =>
      let q := part s p
      let s := advanceTo s.fresh_ (t + 1000 * moderationHoldoff q.moderation)
      sendMsix (setPart s p (fun q => { q with raises := 0, holdoffFrom := none })) q.port q.fn)

/-! ### Completions (R94, R140, R151, R160) -/

/-- A decided outcome replaced before its delivery: the receipt's status, output digest and MAC follow (R86–R88). -/
def reseal (s : State) (p k : Nat) (st : Status) : State :=
  match (slotAt s p k).ending with
  | none => s
  | some e =>
    let key := receiptKeyOf s p
    let body := slice e.receipt 0 2 ++ leBytes 2 st.code ++ slice e.receipt 4 2 ++ leBytes 1 key.2 ++ slice e.receipt 7 57
      ++ (if st.usable then slice e.receipt 0x40 16 else List.replicate 16 0)
    let result := if st.usable then e.result else []
    let receipt := macReceipt key.1 body
    let sl := slotAt s p k
    let s := setSlot s p k (fun x => { x with ending := some { e with status := st, result := result, receipt := receipt } })
    setPart s p (fun q => { q with history := { q.history with
      seen := match sl.inHistory, Tbl.get? q.history.seen (reqSeq sl.request) with
        | true, some (.completed g _ _ _) => Tbl.set q.history.seen (reqSeq sl.request) (.completed g st result receipt)
        | _, _ => q.history.seen } })

/-- The two inline digest units of a receipt differed (R94): computed once more, and at a second mismatch the unit is fenced
and the command ends with LASTING; a refusal stays one (R151). -/
def digestUnitFault (s : State) (p k unit : Nat) (again : Bool) : State :=
  if isFenced s 0x07 unit then s
  else
    let refused : Bool := match (slotAt s p k).ending with
      | some e => e.status == .refused
      | none => true
    let ok : Bool := match (slotAt s p k).ending with
      | some e => e.status == .ok
      | none => false
    let s := raiseAdmin s 0x0906 true 0 (unit + 256 * b2n again)
    if again then repair (if refused then s else reseal s p k .lasting) 0x07 unit
    else transient (if ok then reseal s p k .recovered else s) 0x07 unit

/-- What the inline digest units showed of a receipt (R94). -/
def digestUnits_ (s : State) (p k : Nat) (fault : Option (Fin 16 × Bool)) : State :=
  match fault with
  | none => s
  | some (u, again) => digestUnitFault s p k u again

/-- The completion of a decided slot begins: its receipt as the inline digest units show it, and its response under its tag (R94,
R140, R160). -/
def completeUnder (s : State) (p k : Nat) (fault : Option (Fin 16 × Bool)) (tagMismatch : Bool) : State :=
  let s := digestUnits_ s p k fault
  if (slotAt s p k).phase != .decided then s
  else
    let s := setSlot s p k (fun sl => { sl with mistagged := sl.mistagged || tagMismatch })
    settleTeardown (guardTags (completeSlot s p k) p) p

/-- A slot whose repair has ended under a teardown is cancelled (R125, R156). -/
def cancelTorn (s : State) (p k : Nat) : State :=
  if (part s p).state == .tearing && cancellable (slotAt s p k) && !lowerRepair s p k then
    endFromOutside s p k .hostCancel .cancelled
  else s

def completion (s : State) (p k : Nat) (digestFault : Option (Fin 16 × Bool)) (tagMismatch : Bool) : State :=
  let s := cancelTorn s.fresh_ p k
  if (slotAt s p k).phase != .decided then s else completeUnder s p k digestFault tagMismatch

/-- COMPLETION (R140): what the inline digest units (R94) and the tag of the response slot's storage (R160) showed. -/
def execCompletion (p slot : Fin 32) (digestFault : Option (Fin 16 × Bool)) (tagMismatch : Bool) (s : State) :
    Host.Outcome State Fault Refusal :=
  .next (completion s p slot digestFault tagMismatch)

/-- A slot held until 20 µs ends: with a refusal, or with the first response REFUSED of its sequence number (R118). -/
def endRefusing (s : State) (p k : Nat) : State :=
  let sl := slotAt s p k
  match sl.refusal == returnedRefusal, (part s p).history.place (reqSeq sl.request) with
  | true, .completed _ st result receipt => decideReturned s p k st result receipt
  | _, _ => endSlot s p k { status := .refused }

/-- REFUSAL_COMPLETION (R151): 20,000 KM cycles of 1 ns after the registration, with what the inline digest units and the tag of
the response slot's storage showed. -/
def execRefusalCompletion (p : Fin 32) (slot : SlotDelivery) (s : State) :
    Host.Outcome State Fault Refusal :=
  .next (if (slotAt s p slot.slot).phase != .refusing then s.fresh_
    else
      let s := advanceTo s.fresh_ ((slotAt s p slot.slot).at_ + 20000)
      completeUnder (endRefusing s p slot.slot) p slot.slot slot.digestFault slot.tagMismatch)

/-! ### Timeouts and cancels (R114, R135, R141) -/

/-- COMMAND_TIMEOUT (R135): T expires; a command in repair is extended once, by the budget of the layer that retries (R114). -/
def execCommandTimeout (p slot : Fin 32) (s : State) : Host.Outcome State Fault Refusal :=
  let sl := slotAt s p slot
  .next (if sl.phase != .registered && sl.phase != .running then s.fresh_
    else
      let s := if sl.limitUs = 0 then s.fresh_ else advanceTo s.fresh_ (sl.at_ + 1000 * sl.limitUs + sl.extraNs)
      if sl.inRepair && !sl.extended then
        bump (setSlot s p slot (fun x => { x with extended := true, extraNs := x.layerNs })) 0x0302 5 32
      else endFromOutside (enterNumber s p slot) p slot .ownTimeout .timeout)

/-- The last final response of a slot carries this sequence: its command is not yet superseded (R141). -/
def answered (s : State) (p k seq : Nat) : Bool :=
  let m := (part s p).responseBytes
  (slotAt s p k).phase == .free && leNat (Mem.readBytes m (64 * k + 4) 4) == seq && bit (leNat (Mem.readBytes m (64 * k + 3) 1)) 0

/-- A command in flight in a slot under this sequence. -/
def inSlot (s : State) (p k seq : Nat) : Bool :=
  (slotAt s p k).phase != .free && reqSeq (slotAt s p k).request == seq

def cancelChecks (s : State) (c : Ctx) : Checks :=
  let k := c.u 0 1
  { badParameter := c.dirty 1 3 || decide (31 < k) || k == c.k
      || !(inSlot s c.p k (c.u 4 4) || answered s c.p k (c.u 4 4)) }

def cancelEffect (s : State) (c : Ctx) : State :=
  let k := c.u 0 1
  let sl := slotAt s c.p k
  if sl.phase == .free || outcomeDecided sl then finish s c { status := .ok, result := [1] }
  else if sl.pastReturn then finish s c { status := .ok, result := [2] }
  else
    finish (endFromOutside (enterNumber s c.p k) c.p k .hostCancel .cancelled) c { status := .ok, result := [0] }

/-- COMMAND_CANCEL (R141). -/
def execCommandCancel (o : Origin) (s : State) : Host.Outcome State Fault Refusal :=
  .next (runOp 0x0008 o s (fixed .immediate) cancelChecks cancelEffect)

end Sys2Proof.Machine
end

