-- ==== Sys2Proof/Machine/HostPorts.lean ====
section
/-! DEFINITION. Host ports and their functions (R271–R278, R293, R498, R509, R542). -/

namespace Sys2Proof.Machine

open Sys2Proof

/-- A function answers configuration requests: its port is ready, it exists, and no reset of its own runs. -/
def fnPresent (s : State) (h fn : Nat) : Bool :=
  (hostPort s h).ready && (fn == 0 || ((hostPort s h).vfEnable && decide (fn ≤ (hostPort s h).numVfs)))

/-- Functions of a port that satisfy a test are reset; `g` is their state from then. -/
def resetFns (s : State) (h : Nat) (f : Nat → Bool) (g : HostFn) : State :=
  (List.range 32).foldl (fun s fn => if f fn then setFn s h fn (fun _ => g) else s) s

/-- The VFs of a port are gone (PCI Express: a reset of the PF clears VF Enable and NumVFs). -/
def dropVfs (s : State) (h : Nat) : State :=
  setHost (resetFns s h (fun fn => decide (0 < fn)) HostFn.init) h (fun p => { p with vfEnable := false, numVfs := 0 })

/-- A Function Level Reset (R278): of a VF, or of a PF with its VFs. -/
def functionReset (s : State) (h fn : Nat) : State :=
  if !fnPresent s h fn || (hostFn s h fn).flr then s
  else
    let s := if fn = 0 then dropVfs s h else s
    let s := resetFns s h (fun i => i == fn) { HostFn.init with flr := true }
    quiesceWhere s (fun port f => port == h && (fn == 0 || f == fn)) 0x01

/-- FUNCTION_LEVEL_RESET (R278). -/
def execFunctionLevelReset (host : Fin 2) (fn : Fin 32) (s : State) : Host.Outcome State Fault Refusal :=
  .next (functionReset s.fresh_ host fn)

/-- FLR_COMPLETE (R278): the function answers configuration requests again. -/
def execFlrComplete (host : Fin 2) (fn : Fin 32) (s : State) : Host.Outcome State Fault Refusal :=
  .next (if (hostFn s host fn).flr then setFn s.fresh_ host fn (fun f => { f with flr := false }) else s.fresh_)

/-- A port's functions are reset and every partition bound on it is quiesced (R278). -/
def portReset (s : State) (h : Nat) : State :=
  quiesceWhere (resetFns s h (fun _ => true) HostFn.init) (fun port _ => port == h) 0x02

/-- PERST# is asserted (R278, R509): the port is reset, and its domain is in reset until the release (R51, R58). -/
def perstAssert (s : State) (h : Nat) : State :=
  if (hostPort s h).perst then s
  else
    let s := setHost s h (fun _ => HostPort.init)
    if !s.boot.mainOn then s
    else
      let s := setDomain s (5 + h) (fun d => { Domain.off with fenced := d.fenced })
      raiseAdmin (portReset s h) 0x03C2 false 0 (h + 16)

/-- PERST_ASSERT (R278). -/
def execPerstAssert (host : Fin 2) (s : State) : Host.Outcome State Fault Refusal := .next (perstAssert s.fresh_ host)

/-- PERST# is released (R58, R498): the domain's clock starts, and with the rails up the port trains. -/
def perstRelease (s : State) (h : Nat) : State :=
  if !(hostPort s h).perst then s
  else
    let s := setHost s h (fun p => { p with perst := false })
    if !s.boot.mainOn || hostOut s h then s
    else setHost (setDomain s (5 + h) (fun d => { d with clock := true, inReset := true })) h (fun p => { p with training := true })

/-- PERST_RELEASE (R498). -/
def execPerstRelease (host : Fin 2) (s : State) : Host.Outcome State Fault Refusal := .next (perstRelease s.fresh_ host)

/-- A hot reset, a link disable, a lost link or a fatal error (R278, R542): causes 2 to 5 of event 0x03C2. The port trains
again by itself; after a link disable the training stands for the time after its clearing. -/
def linkDown (s : State) (h cause : Nat) : State :=
  if !(hostPort s h).linkUp then s
  else
    let s := setHost s h (fun p => { HostPort.init with
      perst := false, training := true, aerFunction := p.aerFunction, aerStatus := p.aerStatus })
    raiseAdmin (portReset s h) 0x03C2 false 0 (h + 16 * cause)

/-- HOST_LINK_DOWN (R278): 0 hot reset, 1 link disable, 2 link lost, 3 fatal AER. -/
def execHostLinkDown (host : Fin 2) (cause : Fin 4) (s : State) : Host.Outcome State Fault Refusal :=
  .next (linkDown s.fresh_ host (cause.val + 2))

/-- HOST_PORT_READY (R295, R498, R542): the link is up at a width of 2^`width` lanes and rate code `rate` + 1, in Flit mode at
64 GT/s (R271), and configuration requests are answered. -/
def execHostPortReady (host : Fin 2) (width : Fin 5) (rate : Fin 6) (s : State) : Host.Outcome State Fault Refusal :=
  let p := hostPort s host
  .next (if !p.training || p.perst || !s.boot.mainOn || hostOut s host then s.fresh_
    else
      let s := setHost s.fresh_ host (fun p => { p with training := false, linkUp := true, ready := true })
      let s := grantReady s 9 host
      raiseAdmin s 0x03C1 false 0 (host.val + 16 * width.val + 256 * (rate.val + 1) + 65536 * b2n (rate.val == 5)))

/-- A function is disabled, and its partition is quiesced (R278). -/
def disableFn (s : State) (h fn : Nat) : Disable → State
  | .busMasterCleared =>
    if (hostFn s h fn).bme then
      quiesceWhere (setFn s h fn (fun f => { f with bme := false })) (fun port f => port == h && f == fn) 0x03
    else s
  | .d3hotEntered =>
    if (hostFn s h fn).d3 then s
    else quiesceWhere (setFn s h fn (fun f => { f with d3 := true })) (fun port f => port == h && f == fn) 0x03
  | .vfEnableCleared =>
    if fn = 0 ∧ (hostPort s h).vfEnable then
      let s := setHost (resetFns s h (fun i => decide (0 < i)) HostFn.init) h (fun p => { p with vfEnable := false })
      quiesceWhere s (fun port f => port == h && decide (0 < f)) 0x03
    else s

/-- FUNCTION_DISABLED (R278). -/
def execFunctionDisabled (host : Fin 2) (fn : Fin 32) (why : Disable) (s : State) : Host.Outcome State Fault Refusal :=
  .next (if fnPresent s host fn && !(hostFn s host fn).flr then disableFn s.fresh_ host fn why else s.fresh_)

/-- A configuration write (R142, R274, R276, R278). NumVFs takes a value only while VF Enable is clear. -/
def configure (s : State) (h fn : Nat) : CfgWrite → State
  | .busMaster true => sendPending (setFn s h fn (fun f => { f with bme := true })) h fn
  | .busMaster false => disableFn s h fn .busMasterCleared
  | .d3hot true => disableFn s h fn .d3hotEntered
  | .d3hot false => sendPending (setFn s h fn (fun f => { f with d3 := false })) h fn
  | .relaxedOrdering on => setFn s h fn (fun f => { f with relaxed := on })
  | .msixMask on => sendPending (setFn s h fn (fun f => { f with masked := on })) h fn
  | .vfEnable true => if fn = 0 then setHost s h (fun p => { p with vfEnable := true }) else s
  | .vfEnable false => disableFn s h fn .vfEnableCleared
  | .numVfs n => if fn = 0 ∧ !(hostPort s h).vfEnable then setHost s h (fun p => { p with numVfs := n }) else s

/-- CONFIGURATION_WRITE (R274). -/
def execConfigurationWrite (host : Fin 2) (fn : Fin 32) (write : CfgWrite) (s : State) : Host.Outcome State Fault Refusal :=
  .next (if fnPresent s host fn && !(hostFn s host fn).flr then configure s.fresh_ host fn write else s.fresh_)

/-- AER_UNCORRECTABLE (R293): logged in the port's AER capability and reported; a fatal one brings the link down by
HOST_LINK_DOWN. -/
def execAerUncorrectable (host : Fin 2) (fn : Fin 32) (status : Word32) (s : State) : Host.Outcome State Fault Refusal :=
  .next (if !(hostPort s host).linkUp then s.fresh_
    else
      let s := setHost s.fresh_ host (fun p => { p with aerFunction := fn, aerStatus := p.aerStatus ||| status.toNat })
      raiseAdmin s 0x03C3 true 0 (host.val + 256 * fn.val + 4294967296 * status.toNat))

/-- A host DMA read for a command fails (R277): once, and the second read serves; or twice, and the command ends, with
INTEGRITY after poisoned data and with ABSENT otherwise. A read the function cannot issue counts as failed twice. -/
def dmaReadFailure (s : State) (p k : Nat) (poisoned again : Bool) : State :=
  let sl := slotAt s p k
  if sl.phase != .running then s
  else
    let q := part s p
    let can := fnCanSend s q.port q.fn
    let twice := again || !can
    let s := bumpBy s 0x0801 (q.port * 32 + q.fn) 16 (if twice then 2 else 1)
    if twice then endFromOutside s p k .ownCheck (if poisoned && can then .integrity else .absent)
    else setSlot s p k (fun x => { x with lower := true })

/-- HOST_DMA_READ_FAILURE (R277). -/
def execHostDmaReadFailure (p slot : Fin 32) (poisoned again : Bool) (s : State) : Host.Outcome State Fault Refusal :=
  .next (dmaReadFailure s.fresh_ p slot poisoned again)

end Sys2Proof.Machine
end

