-- ==== Sys2Proof/Machine/Ledger.lean ====
section
/-! DEFINITION. Ledger commands and the commit of staged entries (R377–R381). -/

namespace Sys2Proof.Machine

open Sys2Proof

/-- STAGED_ENTRY_COMMIT (R378): while the main domain runs, the oldest staged entry is committed. -/
def execStagedEntryCommit (s : State) : Host.Outcome State Fault Refusal :=
  let s := s.fresh_
  .next (if s.boot.mainOn && !s.vault.staging.isEmpty then closeCommit (commitOldest s) else s)

/-- LEDGER_STATUS (R380). -/
def execLedgerStatus (o : Origin) (s : State) : Host.Outcome State Fault Refusal :=
  .next (runOp 0x0610 o s (fixed .management) noChecks (fun s c =>
    let v := s.vault
    let r := leBytes 2 v.ledger.length ++ leBytes 2 v.staging.length ++ leBytes 4 v.summary ++ leBytes 2 v.stagingLost
      ++ [0, 0] ++ slice v.summaryRecord 0 16
    finish s c { status := .ok, result := r }))

/-- The entries a read names, numbered from 1. -/
def ledgerSlice (s : State) (first count : Nat) : List Byte := ((s.vault.ledger.drop (first - 1)).take count).flatten

def ledgerReadChecks (s : State) (c : Ctx) : Checks :=
  let first := c.u 0 2
  let count := c.u 2 2
  (descChecks s c 8).both
    { badParameter := c.dirty 4 4 || first == 0 || count == 0 || decide (s.vault.ledger.length + 1 < first + count)
        || decide ((c.desc 8).len < 32 * count)
      execution := (descWriteMeets s c.p { c.desc 8 with len := 32 * count }).join }

/-- The entries go out; to a granule that is retiring they wait (R226). -/
def ledgerReadEffect (s : State) (c : Ctx) : State :=
  let bs := ledgerSlice s (c.u 0 2) (c.u 2 2)
  match descWriteMeets s c.p { c.desc 8 with len := 32 * c.u 2 2 } with
  | some _ => s
  | none => finish (writeDesc s c.p (c.desc 8) bs) c { status := .ok, writes := [bs] }

/-- LEDGER_READ (R377). -/
def execLedgerRead (o : Origin) (s : State) : Host.Outcome State Fault Refusal :=
  .next (runOp 0x0611 o s (fixed .management) ledgerReadChecks ledgerReadEffect)

/-- The bytes an attestation signs (R381). -/
def attestBytes (s : State) (nonce : List Byte) : List Byte :=
  [0x4C, 0x44, 0x47, 0x31] ++ nonce ++ leBytes 2 s.vault.ledger.length ++ leBytes 4 s.vault.summary
    ++ leBytes 4 s.vault.powerUps ++ s.vault.ledger.flatten

/-- The checks of opcode 0x0612 beyond the common ones (R18). -/
def ledgerAttestChecks : State → Ctx → Checks :=
    (fun s c => (hostDescChecks s c 0x20 96).both { busy := s.vault.tripped || !s.vault.leaf })

/-- LEDGER_ATTEST (R381). -/
def execLedgerAttest (o : Origin) (s : State) : Host.Outcome State Fault Refusal :=
  .next (runOp 0x0612 o s (fixed .management)
    ledgerAttestChecks
    (fun s c =>
      let (sig, s) := leafSignature s (attestBytes s (slice c.body 0 32))
      finish (writeDesc s c.p (c.desc 0x20) sig) c { status := .ok, result := leBytes 2 s.vault.ledger.length, writes := [sig] }))

/-- The checks of opcode 0x0613 beyond the common ones (R18). -/
def recordAppendChecks : State → Ctx → Checks :=
    (fun s c => { refused := if decide (2048 ≤ s.vault.ledger.length + s.vault.staging.length) then some 0x05 else none
                  badParameter := c.dirty 1 1
                  busy := decide (16 ≤ s.vault.staging.length) })

/-- RECORD_APPEND (R378, R380): the command ends when its entry is committed. -/
def execRecordAppend (o : Origin) (s : State) : Host.Outcome State Fault Refusal :=
  .next (runOnce 0x0613 o s (fixed .management)
    recordAppendChecks
    (fun s c => stage s 0x0D (c.u 0 1) (c.u 2 2) (some (c.p * 32 + c.k))))

end Sys2Proof.Machine
end

