-- ==== Sys2Proof/Machine/Maintenance.lean ====
section
/-! DEFINITION. Guarantee status, scrub control, and the administrator's fences (R109, R110, R120, R202, R352). -/

namespace Sys2Proof.Machine

open Sys2Proof

/-- GUARANTEE_STATUS_READ (R120). -/
def execGuaranteeStatusRead (o : Origin) (s : State) : Host.Outcome State Fault Refusal :=
  .next (runOp 0x0902 o s (fixed .immediate) noChecks (fun s c =>
    finish s c { status := .ok, result := leBytes 4 (guaranteeStatus s) }))

/-- Scrub is disabled, or enabled with a full pass of every unit owed (R202). -/
def setScrub (s : State) (on : Bool) : State :=
  if !on then guard { s with faults := { s.faults with scrubOff := true } }
  else if s.faults.scrubOff then
    let s := { s with memory := { s.memory with scrubDone := [] } }
    guard { s with faults := { s.faults with scrubOff := false, scrubOwed := List.range 9 } }
  else s

/-- The checks of opcode 0x0A02 beyond the common ones (R18). -/
def scrubSetChecks : State → Ctx → Checks :=
                                             (fun _ c => { badParameter := decide (1 < c.u 0 1) })

/-- SCRUB_SET (R202). -/
def execScrubSet (o : Origin) (s : State) : Host.Outcome State Fault Refusal :=
  .next (runOp 0x0A02 o s (fixed .immediate) scrubSetChecks (fun s c =>
    finish (setScrub s (c.u 0 1 == 1)) c { status := .ok }))

/-! ### Fences -/

/-- Class and index name a resource that the fence commands know. -/
def fenceFields (c : Ctx) : Bool :=
  c.u 0 1 == 0 || decide (8 < c.u 0 1) || c.dirty 1 1 || !resourceExists (c.u 0 1) (c.u 2 2)

/-- The last channel of its sensor, the last detector, the last inline digest unit in service. -/
def lastOfKind (s : State) (cls i : Nat) : Bool :=
  match cls with
  | 0x04 => isFenced s 0x04 (if i % 2 = 0 then i + 1 else i - 1)
  | 0x05 => isFenced s 0x05 (1 - i)
  | 0x07 => digestUnits s == 1
  | _ => false

/-- A resource is fenced, or on its way to it. -/
def fencedAlready (s : State) (cls i : Nat) : Bool :=
  isFenced s cls i || (cls == 0x03 && (granule s i).retiring.isSome)

/-- A repair at the administrator's request is no lasting fault: the fault counter stands. -/
def uncounted (s : State) (group : Nat) (f : State → State) : State :=
  let before := counter s 0x0301 group
  let s := f s
  if before = 0 then clearCounter s 0x0301 group else { s with ctr := Tbl.set s.ctr (counterKey 0x0301 group) before }

/-- The checks of opcode 0x0A03 beyond the common ones (R18). -/
def fenceResourceChecks : State → Ctx → Checks :=
                                           (fun s c =>
    { badParameter := fenceFields c || c.u 0 1 == 0x06 || (lastOfKind s (c.u 0 1) (c.u 2 2) && !fencedAlready s (c.u 0 1) (c.u 2 2))
      badCommand := c.has 0 1 && c.has 2 2 && fencedAlready s (c.u 0 1) (c.u 2 2) && !fenceFields c })

/-- FENCE_RESOURCE (R109). -/
def execFenceResource (o : Origin) (s : State) : Host.Outcome State Fault Refusal :=
  .next (runOp 0x0A03 o s (fixed .control) fenceResourceChecks
    (fun s c => finish (uncounted s (c.u 0 1) (fun s => repair s (c.u 0 1) (c.u 2 2))) c { status := .ok }))

/-- A fence falls, and the resource serves again: a tile takes its place, a granule is cleared (R110). -/
def releaseFence (s : State) (cls i : Nat) : State :=
  match cls with
  | 0x01 => guard (returnTile s (i / 17) (i % 17))
  | 0x03 =>
    let s := unfence s 0x03 i
    guard (setMemory s (fun m => { m with
      bytes := Mem.clear m.bytes (i * granuleBytes) granuleBytes
      tags := m.tags.filter (fun e => e.1 / 8192 != i) }))
  | _ => guard (unfence s cls i)

/-- The recovery budget of opcode 0x0A04 (R112, R480). -/
def resourceReleaseBudget : State → Ctx → Nat :=
                          (fun _ _ => 10000000)

/-- The checks of opcode 0x0A04 beyond the common ones (R18). -/
def resourceReleaseChecks : State → Ctx → Checks :=
                                                (fun s c =>
    { badParameter := fenceFields c, badCommand := c.has 0 1 && c.has 2 2 && !isFenced s (c.u 0 1) (c.u 2 2) && !fenceFields c })

/-- FENCE_RELEASE (R110): `passed` is the outcome of the resource's self-test. -/
def execFenceRelease (o : Origin) (passed : Bool) (s : State) : Host.Outcome State Fault Refusal :=
  .next (runOp 0x0A04 o s resourceReleaseBudget resourceReleaseChecks
    (fun s c => if passed then finish (releaseFence s (c.u 0 1) (c.u 2 2)) c { status := .ok }
      else finish s c { status := .lasting }))

end Sys2Proof.Machine
end

