-- ==== Sys2Proof/Machine/Parcels.lean ====
section
/-! DEFINITION. Parcels written into a queue or received on a port, and the hop a second failure takes out of service (R65,
R68, R109, R239). -/

namespace Sys2Proof.Machine

open Sys2Proof

/-- A command that a lost parcel ended is taken out of all that works for it (R115). -/
def withdrawEnded (before after : State) : State :=
  before.parts.foldl (fun s e => (List.range 32).foldl (fun s k =>
    if (slotAt before e.1 k).phase == .running && (slotAt s e.1 k).phase == .decided then withdraw s e.1 k .ownCheck
    else s) s) after

/-- A hop fenced by a parcel's second failure takes its port or unit out of service (R109). -/
def settleHop (before after : State) (cls n : Nat) : State :=
  if (queueAt after cls n).fenced && !(queueAt before cls n).fenced then hopOut (withdrawEnded before after) cls n else after

/-- PARCEL_CHECK (R65). -/
def execParcelCheck (cls : Fin 24) (number : Fin 16) (parcel : List Byte) (s : State) : Host.Outcome State Fault Refusal :=
  if number.val < classInstances.getD cls 0 then .next (settleHop s (parcelCheck s.fresh_ cls number parcel) cls number)
  else .fault .noSuchQueue

/-- LINK_PARCEL_RECEIVE (R239): the 300 bytes of a slot and what forward error correction reports of them. -/
def execLinkParcelReceive (port : Fin 8) (parcel : List Byte) (fec : Fec) (s : State) : Host.Outcome State Fault Refusal :=
  .next (settleHop s (linkReceive s.fresh_ port parcel fec) 5 port)

end Sys2Proof.Machine
end

