-- ==== Sys2Proof/Machine/Partitions.lean ====
section
/-! DEFINITION. Device identity, partitions, quotas, grants and deadlines (R3, R75, R148–R150, R198, R274, R478). -/

namespace Sys2Proof.Machine

open Sys2Proof

/-! ### Device identity (R3, R21) -/

def identityRecord (s : State) : List Byte :=
  leBytes 1 s.boot.product ++ [0xB1] ++ leBytes 2 (fuseMap s) ++ leBytes 1 s.boot.major ++ leBytes 1 s.boot.minor
    ++ leBytes 1 (b2n s.boot.engineering) ++ [0] ++ leBytes 2 Config.vendorId.toNat ++ leBytes 2 0x4E48
    ++ leBytes 4 s.vault.powerUps ++ (List.range 16).map Config.deviceIdentifier

/-- DEVICE_IDENTITY (R3). -/
def execDeviceIdentity (o : Origin) (s : State) : Host.Outcome State Fault Refusal :=
  .next (runOp 0x0001 o s (fixed .immediate) noChecks (fun s c => finish s c { status := .ok, result := identityRecord s }))

/-! ### Creation (R148, R150, R198, R274) -/

/-- A function exists to be bound: Bus Master Enable set, and a VF within NumVFs with VF Enable set (R274). -/
def functionEligible (s : State) (h fn : Nat) : Bool :=
  decide (h < 2) && decide (fn < 32) && (hostFn s h fn).bme
    && (fn == 0 || ((hostPort s h).vfEnable && decide (fn ≤ (hostPort s h).numVfs)))

/-- A function a partition is bound to. -/
def functionBound (s : State) (h fn : Nat) : Bool :=
  s.parts.any (fun e => e.2.state != .free && e.2.port == h && e.2.fn == fn)

/-- GiB of spill memory a partition's models fill. -/
def spillGib (s : State) (p : Nat) : Nat := ceilDiv (spillUsed s p).length 512

/-- A pool still covers a reservation raised by `more`, what partition 0 holds counted as taken (R150). -/
def poolCovers (s : State) (total zeroHolds more : Nat) (f : Quotas → Nat) : Bool :=
  decide (reservedSum s f + zeroHolds + more ≤ total)

/-- Each memory unit can supply the granules asked of it (R198). -/
def unitsSupply (s : State) (c : Ctx) : Bool :=
  (List.range 9).all (fun u => decide (c.u (0x10 + 2 * u) 2 ≤ ((unitGranules u).filter (granuleUnreserved s)).length))

def createChecks (s : State) (c : Ctx) : Checks :=
  let p := c.u 0 1
  { badCommand := s.vault.akek.isNone
    badParameter := p == 0 || decide (31 < p) || bits (c.u 4 2) 15 11 != 0 || decide (1 < c.u 6 1)
      || decide (c.u 7 1 < 5) || decide (100 < c.u 7 1) || c.u 8 1 == 0 || decide (192 < c.u 8 1) || decide (144 < c.u 9 1)
      || decide (4096 < c.u 0x0A 2) || decide (8192 < c.u 0x0C 2) || decide (4096 < c.u 0x0E 2)
      || decide (320 < ((List.range 9).map (fun u => c.u (0x10 + 2 * u) 2)).sum) || c.dirty 0x22 2
      || !(functionEligible s (c.u 1 1) (c.u 2 2) || functionBound s (c.u 1 1) (c.u 2 2))
    quota := !unitsSupply s c
      || !poolCovers s (144 - s.memory.spillRetired.length) (spillGib s 0) (c.u 9 1) (fun q => q.spill)
      || !poolCovers s 4096 (syncUsed s 0) (c.u 0x0A 2) (fun q => q.sync)
      || !poolCovers s 8192 (waitersUsed s 0) (c.u 0x0C 2) (fun q => q.waiters)
      || !poolCovers s 4096 (keysUsed s 0) (c.u 0x0E 2) (fun q => q.keys)
    busy := partExists s p || functionBound s (c.u 1 1) (c.u 2 2) }

/-- The first `n` free unreserved granules of a unit are bound to a partition. -/
def bindGranules (s : State) (p u n : Nat) : State :=
  (((unitGranules u).filter (granuleUnreserved s)).take n).foldl (fun s g => setGranule s g (fun e => { e with bound := some p })) s

def createEffect (s : State) (c : Ctx) : State :=
  match unwrapKey s (slice c.body 0x24 40) with
  | none => finish (bump s 0x0A03 0 16) c { status := .integrity }
  | some key =>
    let p := c.u 0 1
    let (wrap, s) := drawBytes s 32
    let s := setPart s p (fun _ => { Partition.absent with
      state := .active, port := c.u 1 1, fn := c.u 2 2, grant := c.u 4 2, spillMode := c.u 6 1 == 1, deadlineUs := c.u 7 1
      quotas := ⟨(List.range 9).map (fun u => c.u (0x10 + 2 * u) 2), c.u 9 1, c.u 0x0A 2, c.u 0x0C 2, c.u 0x0E 2, c.u 8 1⟩
      receiptKey := some key, epoch := 1, lastEpoch := 1, wrapKey := wrap })
    let s := (List.range 9).foldl (fun s u => bindGranules s p u (c.u (0x10 + 2 * u) 2)) s
    finish (raiseAdmin s 0x0003 false p (p + 256 * c.u 1 1 + 65536 * c.u 2 2)) c { status := .ok }

/-- PARTITION_CREATE (R148). -/
def execPartitionCreate (o : Origin) (s : State) : Host.Outcome State Fault Refusal :=
  .next (runOp 0x0002 o s (fixed .control) createChecks createEffect)

/-! ### Quotas (R150) -/

/-- Granules of a unit a partition has bound, and those of them in use. -/
def unitBound (s : State) (p u : Nat) : List Nat := (unitGranules u).filter (fun g => (granule s g).bound == some p)

def unitUse (s : State) (p u : Nat) : Nat := ((unitBound s p u).filter (fun g => !granuleIdle s g)).length

/-- Present use of a resource of QUOTA_SET. -/
def resourceUse (s : State) (p r : Nat) : Nat :=
  if r < 9 then unitUse s p r
  else if r = 9 then spillGib s p
  else if r = 10 then syncUsed s p
  else if r = 11 then waitersUsed s p
  else if r = 12 then keysUsed s p
  else convoysOpen s p

/-- The greatest quota of a resource (R150): what a unit cannot supply is QUOTA (R198). -/
def resourceMost (r : Nat) : Nat :=
  if r < 9 then 320 else if r = 9 then 144 else if r = 10 then 4096 else if r = 11 then 8192
  else if r = 12 then 4096 else 192

/-- The pool lacks what a raise needs. -/
def poolShort (s : State) (p r v : Nat) : Bool :=
  let q := (part s p).quotas
  if r < 9 then decide ((unitBound s p r).length + ((unitGranules r).filter (granuleUnreserved s)).length < v)
  else if r = 9 then decide (q.spill < v) && !poolCovers s (144 - s.memory.spillRetired.length) (spillGib s 0) (v - q.spill) (fun q => q.spill)
  else if r = 10 then decide (q.sync < v) && !poolCovers s 4096 (syncUsed s 0) (v - q.sync) (fun q => q.sync)
  else if r = 11 then decide (q.waiters < v) && !poolCovers s 8192 (waitersUsed s 0) (v - q.waiters) (fun q => q.waiters)
  else if r = 12 then decide (q.keys < v) && !poolCovers s 4096 (keysUsed s 0) (v - q.keys) (fun q => q.keys)
  else false

def quotaSetChecks (s : State) (c : Ctx) : Checks :=
  let p := c.u 0 1
  let r := c.u 1 1
  { badParameter := !partExists s p || decide (13 < r) || c.dirty 2 2 || decide (resourceMost r < c.u 4 4)
      || (r == 13 && c.u 4 4 == 0) || (p == 0 && r != 13)
    quota := poolShort s p r (c.u 4 4)
    busy := decide (c.u 4 4 < resourceUse s p r) }

/-- A unit's binding raised or lowered; a lowering lets go of free granules, which are cleared (R157). -/
def rebind (s : State) (p u v : Nat) : State :=
  let bound := unitBound s p u
  let s := if bound.length < v then bindGranules s p u (v - bound.length)
    else ((bound.filter (granuleIdle s)).take (bound.length - v)).foldl (fun s g => setGranule s g (fun e => { e with bound := none, clearing := true })) s
  setPart s p (fun q => { q with quotas := { q.quotas with granules := q.quotas.granules.set u v } })

def quotaSetEffect (s : State) (c : Ctx) : State :=
  let p := c.u 0 1
  let r := c.u 1 1
  let v := c.u 4 4
  let quota := fun (f : Quotas → Quotas) => setPart s p (fun q => { q with quotas := f q.quotas })
  let s' := if r < 9 then rebind s p r v
    else if r = 9 then quota (fun q => { q with spill := v })
    else if r = 10 then quota (fun q => { q with sync := v })
    else if r = 11 then quota (fun q => { q with waiters := v })
    else if r = 12 then quota (fun q => { q with keys := v })
    else quota (fun q => { q with convoys := v })
  finish s' c { status := .ok, result := leBytes 4 (resourceUse s p r) }

/-- QUOTA_SET (R150). -/
def execQuotaSet (o : Origin) (s : State) : Host.Outcome State Fault Refusal :=
  .next (runOp 0x0004 o s (fixed .control) quotaSetChecks quotaSetEffect)

/-! ### Grants, deadlines, loading mode, status -/

/-- The checks of opcode 0x0005 beyond the common ones (R18). -/
def grantMaskSetChecks : State → Ctx → Checks :=
    (fun s c => { badParameter := !partExists s (c.u 0 1) || c.dirty 1 1 || bits (c.u 2 2) 15 11 != 0 })

/-- GRANT_MASK_SET (R149). -/
def execGrantMaskSet (o : Origin) (s : State) : Host.Outcome State Fault Refusal :=
  .next (runOp 0x0005 o s (fixed .immediate)
    grantMaskSetChecks
    (fun s c => finish (setPart s (c.u 0 1) (fun q => { q with grant := c.u 2 2 })) c { status := .ok }))

/-- A loaded model of a partition whose run would no longer fit the largest timeout (R112, R210). -/
def modelsOverBudget (s : State) (p d : Nat) : Bool :=
  let s' := setPart s p (fun q => { q with deadlineUs := d })
  s.memory.models.any (fun e => e.1 / 16 == p && decide (maxTimeout < tMin (runBudgetNs s' p e.2.layers)))

def deadlineChecks (s : State) (c : Ctx) : Checks :=
  let p := c.u 0 1
  { badParameter := decide (0x21 < p) || (decide (p < 32) && !partExists s p) || decide (c.u 1 1 < 5) || decide (100 < c.u 1 1)
    budget := decide (p < 32) && modelsOverBudget s p (c.u 1 1) }

/-- CONVOY_DEADLINE_SET (R75). -/
def execConvoyDeadlineSet (o : Origin) (s : State) : Host.Outcome State Fault Refusal :=
  .next (runOp 0x0006 o s (fixed .immediate) deadlineChecks (fun s c =>
    let p := c.u 0 1
    let s := if p < 32 then setPart s p (fun q => { q with deadlineUs := c.u 1 1 })
      else setNet s (p - 32) (fun n => { n with deadlineUs := c.u 1 1 })
    finish s c { status := .ok }))

/-- The checks of opcode 0x0007 beyond the common ones (R18). -/
def loadingModeSetChecks : State → Ctx → Checks :=
    (fun s c => { badParameter := !partExists s (c.u 0 1) || decide (1 < c.u 1 1), busy := decide (0 < modelCount s (c.u 0 1)) })

/-- LOADING_MODE_SET (R148): BUSY while the partition has models loaded. -/
def execLoadingModeSet (o : Origin) (s : State) : Host.Outcome State Fault Refusal :=
  .next (runOp 0x0007 o s (fixed .immediate)
    loadingModeSetChecks
    (fun s c => finish (setPart s (c.u 0 1) (fun q => { q with spillMode := c.u 1 1 == 1 })) c { status := .ok }))

/-- The 19 bytes of a partition's status. -/
def statusRecord (s : State) (p : Nat) : List Byte :=
  if !partExists s p then List.replicate 19 0
  else
    let q := part s p
    leBytes 1 q.state.code ++ leBytes 1 (b2n q.spillMode) ++ leBytes 1 q.clusterMask ++ leBytes 1 q.quotas.convoys
      ++ leBytes 2 (boundCount s p) ++ leBytes 2 ((List.range 9).map (fun u => (freeGranules s p u).length)).sum
      ++ leBytes 2 q.quotas.spill ++ leBytes 2 (syncUsed s p) ++ leBytes 2 (waitersUsed s p) ++ leBytes 2 (keysUsed s p)
      ++ leBytes 2 (regionCount s p) ++ leBytes 1 (modelCount s p)

/-- The checks of opcode 0x0009 beyond the common ones (R18). -/
def partitionStatusChecks : State → Ctx → Checks :=
    (fun _ c => { refused := if c.has 0 1 && c.p != 0 && c.u 0 1 != c.p then some 0x02 else none
                  badParameter := decide (31 < c.u 0 1) })

/-- PARTITION_STATUS (R478): a tenant may name only itself. -/
def execPartitionStatus (o : Origin) (s : State) : Host.Outcome State Fault Refusal :=
  .next (runOp 0x0009 o s (fixed .immediate)
    partitionStatusChecks
    (fun s c => finish s c { status := .ok, result := statusRecord s (c.u 0 1) }))

end Sys2Proof.Machine
end

