-- ==== Sys2Proof/Machine/Runs.lean ====
section
/-! DEFINITION. The course of a convoy from its opening to its outcome (R74–R84, R106, R114, R116, R216, R254). -/

namespace Sys2Proof.Machine

open Sys2Proof

/-! ### Reads from partner memory (R249, R256) -/

/-- Bytes of the buffer that one read request fills: 1,024 parcels. -/
def readBytes : Nat := 262144

/-- The reads that bring a layer's weights in from partner memory (R209, R213, R256): each granule there in requests of at most
1,024 parcels. -/
def layerReads (o cmd : Nat) (l : Layer) : List PartnerRead :=
  ((List.range l.places.length).map (fun i => match l.places.getD i (.node 0) with
    | .partner n g =>
      let held := min mib2 (l.weights - i * mib2)
      (List.range (ceilDiv held readBytes)).map (fun j =>
        ⟨n, o / 32, cmd, (8 * i + j) % 4294967296, g * mib2 + j * readBytes, ceilDiv (min readBytes (held - j * readBytes)) 256, 0, none⟩)
    | _ => [])).flatten

/-- The buffers of a model's staging pair (R213), by byte address. -/
def stagingSpaces (m : Model) : List Nat :=
  (m.staging.map (fun g => (List.range (mib2 / readBytes)).map (fun i => g * granuleBytes + i * readBytes))).flatten

/-- A run's convoy has opened at the start of a layer: the reads it needs from partner memory go out as buffers allow (R249). -/
def startReads (s : State) (n o : Nat) : State :=
  match runOf s n, runModel s o, runLayer s o with
  | some _, some m, some l =>
    if jobAt s o 6 != 0 then s
    else issueReads (setConvoy s n (fun c => { c with
      reads := layerReads o (runCtx s o).seq l, spaces := stagingSpaces m })) n
  | _, _, _ => s

/-! ### Opening and sealing -/

/-- A command that still needs a convoy: a model run with layers left and none of its granules retiring, or an offload not yet issued (R74, R216, R254). -/
def needsConvoy (s : State) (p k : Nat) : Bool :=
  let sl := slotAt s p k
  let o := p * 32 + k
  sl.phase == .running && sl.begun && (convoyOf s p k).isNone
    && ((reqOpcode sl.request == 0x0110 && decide (jobAt s o 2 < jobAt s o 1) && !runRetiring s o)
      || (reqOpcode sl.request == 0x0111 && (Tbl.get? s.tensor.offloads o).isSome))

/-- A command's convoy opens (R75, R79) below its partition's quota; an offload is then issued, unless its port no longer takes
it. The next layer of a damaged model ends its run with LASTING (R227), and a layer with weights in partner memory sends its
read requests (R249). -/
def openCommand (s : State) (n p k : Nat) : State :=
  let s := s.fresh_
  let o := p * 32 + k
  if 191 < n ∨ !needsConvoy s p k ∨ (part s p).quotas.convoys ≤ convoysOpen s p then s
  else
    let s' := openConvoy s n p (some o)
    match Tbl.get? s.tensor.offloads o with
    | some x => match offloadBarred s x with
      | some st => endConvoyCommand s o st
      | none => if (convoy s' n).owner == some o then issueOffload s' n o else s
    | none =>
      if runHurt s o then endConvoyCommand s o .lasting
      else if (convoy s' n).owner == some o then startReads s' n o else s

/-- CONVOY_OPEN (R75). -/
def execConvoyOpen (n : Fin 256) (p slot : Fin 32) (s : State) : Host.Outcome State Fault Refusal :=
  .next (openCommand s n p slot)

/-- A layer of a Spill model that ran longer than its declared time is reported (R216, R231). -/
def reportOverrun (s : State) (o n : Nat) (l : Layer) : State :=
  let spent := s.now - (convoy s n).openedAt
  if !(match runModel s o with | some m => m.spill | none => false) || decide (spent ≤ 1000 * l.spillUs) then s
  else
    let above := ceilDiv (spent - 1000 * l.spillUs) 1000
    let r := (slotAt s (o / 32) (o % 32)).request
    let s := bump (setJob s o 4 (jobAt s o 4 + 1)) 0x0605 (o / 32) 32
    postEvent s (o / 32) ⟨0x0205, false, o / 32, mainTime s, reqSeq r, reqOpcode r, o % 32,
      (runCtx s o).u 0 2 + 65536 * (jobAt s o 0 + jobAt s o 2) + 4294967296 * (above % 4294967296)⟩

/-- The last member has been issued: a layer's convoy is sealed with all its tile passes that are left (R76, R216), or earlier
where it has sent on a port as many parcels as a generation may carry; the layer then goes on in its next convoy (R91). What it
reads from partner memory has come in first (R249). -/
def sealMembers (s : State) (n : Nat) : State :=
  let s := s.fresh_
  match runOf s n with
  | none => sealConvoy s n
  | some o =>
    match runLayer s o with
    | none => s
    | some l =>
      let c := convoy s n
      let last := jobAt s o 6 + c.members == l.passes
      if c.state != .opened || !(last || c.full) || !c.reads.isEmpty then s
      else sealConvoy (if last then reportOverrun s o n l else s) n

/-- CONVOY_SEAL (R76). -/
def execConvoySeal (n : Fin 256) (s : State) : Host.Outcome State Fault Refusal := .next (sealMembers s n)

/-! ### Confirmation -/

/-- The update of a run's own signal: at once, or with the convoy's sync updates while a write of the convoy still waits to be
accepted by its port (R77). -/
def runSignal (s : State) (n handle value : Nat) : State :=
  if parcelsWait s n (convoy s n).generation then
    setConvoy s n (fun c => { c with signals := c.signals ++ [(handle, value, 0)] })
  else applySignal s handle value 0

/-- A convoy of a layer has been confirmed. While passes of the layer are left, they go on in its next convoy (R91); the last
layer writes the run's output and then signals (R77, R216). -/
def layerConfirmed (s : State) (n o : Nat) : State :=
  let c := runCtx s o
  match runLayer s o with
  | none => s
  | some l =>
    let passes := (convoy s n).members
    let s := setJob s o 3 (jobAt s o 3 + passes)
    if jobAt s o 6 + passes < l.passes then setJob s o 6 (jobAt s o 6 + passes)
    else
    let s := setJob (setJob s o 6 0) o 2 (jobAt s o 2 + 1)
    if jobAt s o 2 < jobAt s o 1 then s
    else match descWriteMeets s c.p (c.desc 0x18) with
      | some none => s
      | some (some st) => endConvoyCommand s o st
      | none =>
        let s := writeDesc s c.p (c.desc 0x18) (runOutput s o)
        let s := setSlot s c.p c.k (fun sl => { sl with pastReturn := true })
        if c.u 0x28 4 = 0 then s else runSignal s n (c.u 0x28 4) (c.u 0x30 8)

/-- An offload has been confirmed: its results are written (R254). -/
def offloadConfirmed (s : State) (o : Nat) : State :=
  let c := runCtx s o
  match Tbl.get? s.tensor.offloads o with
  | none => s
  | some x =>
    match descWriteMeets s c.p (c.desc 0x20) with
    | some none => s
    | some (some st) => endConvoyCommand s o st
    | none =>
      setSlot (writeDesc s c.p (c.desc 0x20) (offloadResult x)) c.p c.k (fun sl => { sl with pastReturn := true })

/-- The owner of a convoy is being torn down and may leave no output (R156). -/
def ownerTorn (s : State) (n : Nat) : Bool :=
  match (convoy s n).owner with
  | none => false
  | some o => (part s (o / 32)).state == .tearing && !(slotAt s (o / 32) (o % 32)).pastReturn

/-- The output that the confirmation writes goes to a granule that is retiring: the confirmation waits (R226). -/
def outputWaits (s : State) (n : Nat) : Bool :=
  let waits := fun (c : Ctx) off => descWriteMeets s c.p (c.desc off) == some none
  match runOf s n, (convoy s n).owner with
  | some o, _ => (match runLayer s o with
      | none => false
      | some l => decide (l.passes ≤ jobAt s o 6 + (convoy s n).members)) && decide (jobAt s o 1 ≤ jobAt s o 2 + 1) && waits (runCtx s o) 0x18
  | none, some o => (Tbl.get? s.tensor.offloads o).isSome && waits (runCtx s o) 0x20
  | none, none => false

/-- The run that a convoy carries, on a model damaged since it began. -/
def runLost (s : State) (n : Nat) : Bool := (runOf s n).any (fun o => runDamaged s o)

/-- A sealed convoy that meets the conditions of R77 is confirmed; a run on a damaged model is not to end with OK, and its convoy is
cancelled (R227). -/
def confirm (s : State) (n : Nat) : State :=
  let s := s.fresh_
  if !confirmable (convoy s n) || ownerTorn s n || outputWaits s n then s
  else if runLost s n then cancelConvoy s n .ownCheck 0
  else
    let run := runOf s n
    let s := confirmConvoy s n applySignal
    match run, (convoy s n).owner with
    | some o, _ => layerConfirmed s n o
    | none, some o => offloadConfirmed s o
    | none, none => s

/-- CONVOY_CONFIRM (R77). -/
def execConvoyConfirm (n : Fin 256) (s : State) : Host.Outcome State Fault Refusal := .next (confirm s n)

/-! ### Cancellation and deadline -/

/-- CONVOY_CANCEL (R78): the resource of R541 behind the cause. -/
def execConvoyCancel (n : Fin 256) (cause : CancelCause) (group : Fin 23) (index : Fin 1024) (s : State) :
    Host.Outcome State Fault Refusal :=
  .next (cancelConvoy s.fresh_ n cause (group.val * 1024 + index.val))

/-- The deadline of a sealed convoy expires: extended once by the 2 µs of the layer in repair, else the convoy is cancelled
(R80, R114). -/
def deadlineExpiry (s : State) (n : Nat) : State :=
  let s := s.fresh_
  let c := convoy s n
  match c.state, c.deadlineAt with
  | .sealed, some t =>
    let s := advanceTo s t
    if c.inRepair && !c.extended then
      bump (setConvoy s n (fun c => { c with extended := true, deadlineAt := some (t + 2000) })) 0x0302 3 32
    else cancelConvoy s n .deadline 0
  | _, _ => s

/-- CONVOY_DEADLINE_EXPIRY (R80). -/
def execConvoyDeadlineExpiry (n : Fin 256) (s : State) : Host.Outcome State Fault Refusal := .next (deadlineExpiry s n)

/-! ### Outcome -/

/-- The frame of a frame convoy leaves the receive buffer (R81, R285); one whose convoy came to nothing is dropped, and counted as
a frame that failed its FCS where that ended the convoy (R80, R290). -/
def frameResolved (s : State) (n : Nat) (delivered : Bool) (cause : Option CancelCause) : State :=
  match framePort n with
  | none => s
  | some j =>
    match Tbl.get? (clsPort s j).riding n with
    | none => s
    | some r =>
      let s := setClsPort s j (fun q => { q with riding := Tbl.erase q.riding n })
      releaseBuffer (if delivered then s
        else if cause == some .inputFrame then dropFrame s j 2 else dropAtRelease s j 0) j r.size

/-- A command's inputs are read afresh for a re-run (R80, R106). -/
def rereadInputs (s : State) (o : Nat) (hostData : List Byte) : State :=
  let c := runCtx s o
  let run := c.op == 0x0110
  let d := c.desc (if run then 0x08 else 0x10)
  let bs := readDesc s c.p d hostData
  let s := setSlot s c.p c.k (fun sl => { sl with inputs := [bs] })
  if run then s else setOffload s o (fun x => { x with operands := bs })

/-- The members of a convoy's second attempt are issued (R80): a frame's parcels at once and sealed, an offload's too; tile
passes follow one by one, and their reads from partner memory go out afresh. -/
def reissue (s : State) (n : Nat) (hostData : List Byte) : State :=
  match (convoy s n).owner with
  | some o =>
    let s := rereadInputs s o hostData
    if (Tbl.get? s.tensor.offloads o).isSome then issueOffload s n o else startReads s n o
  | none =>
    match framePort n with
    | none => s
    | some j =>
      match Tbl.get? (clsPort s j).riding n with
      | none => s
      | some r => sealConvoy (sendParcels s j r.dest r.tag (some n) r.bytes) n

/-- The number opens again with the other generation for the second attempt (R79, R80). -/
def rerun (s : State) (n : Nat) (hostData : List Byte) : State :=
  let c := convoy s n
  if s.memory.sweeps.any (fun w => w.convoy == n && w.generation == !c.generation) then s
  else reissue (setConvoy s n (fun c => { Convoy.init with
    state := .opened, generation := !c.generation, attempt := 2, partition := c.partition, owner := c.owner
    firstCause := c.firstCause, firstResource := c.firstResource, openedAt := s.now, units := memberUnits s n c.partition
    planned := c.tiles })) n hostData

/-- A command whose convoy is owed a second attempt cannot have it: its run is on a damaged model (R225, R227, R229), or its
offload's partner is fenced (R193) or, in Run again, no longer takes it (R252). -/
def rerunBarred (s : State) (c : Convoy) : Option Status :=
  match c.owner with
  | none => none
  | some o => match Tbl.get? s.tensor.offloads o with
    | some x =>
      if isFenced s 0x06 x.port then some .lasting
      else if inRun s x.port && !takesOffload s x.port x then some .cancelled
      else none
    | none => if runHurt s o then some (if portGone s c.cause c.resource then .absent else .lasting) else none

/-- The number is free again, its generation kept for the next opening (R79). -/
def freeConvoy (s : State) (n : Nat) : State := setConvoy s n (fun c => { Convoy.init with generation := c.generation })

/-- The resource whose own check failed in an attempt, where one did. -/
def failedResource (cause : Option CancelCause) (resource : Nat) : Option Nat :=
  if cause == some .ownCheck && resource != 0 then some resource else none

/-- What two failed attempts say of their resources (R106): the same resource failed both times and has a lasting fault, which is
repaired; every other failure was transient. -/
def classifyAttempts (s : State) (c : Convoy) : State :=
  let first := if c.attempt < 2 then none else failedResource c.firstCause c.firstResource
  let last := if c.attempt < 2 then none else failedResource c.cause c.resource
  if first.isSome && first == last then repair s (c.resource / 1024) (c.resource % 1024)
  else (first.toList ++ last.toList).foldl (fun s r => transient s (r / 1024) (r % 1024)) s

/-- Every port that carried the convoy has acknowledged its outcome or left Run (R79, R80). -/
def resolve_ (s : State) (n : Nat) (hostData : List Byte) : State :=
  let s := if (convoy s n).state == .confirmed then applySignals s.fresh_ n applySignal else s.fresh_
  let c := convoy s n
  if !c.acksOwed.isEmpty || (c.state == .confirmed && parcelsWait s n c.generation) then s
  else match c.state, c.owner with
    | .confirmed, none => frameResolved (freeConvoy s n) n true none
    | .confirmed, some o =>
      let run := (runOf s n).isSome
      let s := freeConvoy s n
      if run && decide (jobAt s o 2 < jobAt s o 1) then s else endConvoyCommand s o .ok
    | .cancelling, owner =>
      let again := (c.cause.map allowsRerun).getD false && decide (c.attempt < 2) && (owner.isSome || (framePort n).isSome)
      let barred := rerunBarred s c
      if again && barred.isNone then rerun s n hostData
      else
        let lost := (c.cause.map allowsRerun).getD false && owner.any (fun o => (Tbl.get? s.tensor.offloads o).isNone)
        let st := if again || lost then barred.getD (cancelledStatus s c) else cancelledStatus s c
        let s := classifyAttempts (freeConvoy s n) c
        match owner with
        | none => frameResolved s n false c.cause
        | some o => endConvoyCommand s o st
    | _, _ => s

/-- CONVOY_RESOLVED (R79): `hostData` is what the host returns where a re-run reads it afresh. -/
def execConvoyResolved (n : Fin 256) (hostData : List Byte) (s : State) : Host.Outcome State Fault Refusal :=
  .next (resolve_ s n hostData)

end Sys2Proof.Machine
end

