-- ==== Sys2Proof/Machine/Spdm.lean ====
section
/-! DEFINITION. The SPDM 1.2 responder of each PF (R279, R375). Message layouts are those of DMTF DSP0274 (log 5). -/

namespace Sys2Proof.Machine

open Sys2Proof

/-- A response: version 1.2, code, two parameters, payload. -/
def spdm (code p1 p2 : Nat) (payload : List Byte) : List Byte :=
  [0x12] ++ leBytes 1 code ++ leBytes 1 p1 ++ leBytes 1 p2 ++ payload

/-- ERROR: 0x01 invalid request, 0x03 busy, 0x07 unsupported request. -/
def spdmError (code data : Nat) : List Byte := spdm 0x7F code data []

/-- The certificate chain structure of slot 0, with its length field and root hash. -/
def certificateChain : List Byte := (List.range Config.certificateLength).map Config.certificateByte

/-- What each measurement block covers (R279). -/
def measured (s : State) (i : Nat) : List Nat :=
  match i with
  | 1 => []
  | 2 => [s.boot.major, s.boot.minor, s.boot.imageSeq, b2n s.boot.engineering]
  | 3 => [s.boot.stages, s.boot.copy.getD 2, s.boot.imageSeq]
  | 4 => [s.boot.copy.getD 2, s.boot.imageSeq]
  | _ => [s.boot.product, fuseMap s] ++ s.faults.fenceMap

/-- One measurement block: index, DMTF specification, size, value type, value size, value. -/
def measurementBlock (s : State) (i : Nat) : List Byte :=
  let value := if i = 6 then leBytes 1 (s.boot.copy.getD 0) else (List.range 48).map (Config.measurement i (measured s i))
  let kind := [0, 0, 1, 1, 3, 2, 0x83].getD i 0
  leBytes 1 i ++ [1] ++ leBytes 2 (value.length + 3) ++ leBytes 1 kind ++ leBytes 2 value.length ++ value

/-- The bytes an SPDM 1.2 signature covers: the prefix, the context at its end in 100 bytes, and the transcript's SHA-384. -/
def spdmSigned (context transcript : List Byte) : List Byte :=
  let prefix_ := (("dmtf-spdm-v1.2.*dmtf-spdm-v1.2.*dmtf-spdm-v1.2.*dmtf-spdm-v1.2.*".toList).map (fun c => BitVec.ofNat 8 c.toNat))
  prefix_ ++ List.replicate (36 - context.length) 0 ++ context ++ sha384 transcript

def asciiBytes (t : String) : List Byte := t.toList.map (fun c => BitVec.ofNat 8 c.toNat)

/-- The summary hash a request asks for: the digest of every block, of none where none is asked. -/
def measurementSummary (s : State) (kind : Nat) : List Byte :=
  if kind = 0 then []
  else if kind = 1 then sha384 (measurementBlock s 1)
  else sha384 ((List.range 6).map (fun i => measurementBlock s (i + 1))).flatten

/-- An answer sent, and the transcripts after it. -/
def spdmAnswer (s : State) (h : Nat) (bs : List Byte) (f : HostPort → HostPort) : State := send (setHost s h f) [.doe h 0 bs]

/-- A signature can be made: the vault is not Tripped and the leaf key has been derived (R375, R390). -/
def canSign (s : State) : Bool := !s.vault.tripped && s.vault.leaf

def spdmCertificate (r : List Byte) : List Byte :=
  let chain := certificateChain
  let off := field r 4 2
  let part := (chain.drop off).take (field r 6 2)
  if field r 2 1 % 16 ≠ 0 ∨ chain.length ≤ off then spdmError 0x01 0
  else spdm 0x02 0 0 (leBytes 2 part.length ++ leBytes 2 (chain.length - off - part.length) ++ part)

def spdmChallenge (s : State) (h : Nat) (r : List Byte) : State :=
  if field r 2 1 ≠ 0 then spdmAnswer s h (spdmError 0x01 0) id
  else if !canSign s then spdmAnswer s h (spdmError 0x03 0) id
  else
    let (nonce, s) := drawBytes s 32
    let body := spdm 0x03 0 1 (sha384 certificateChain ++ nonce ++ measurementSummary s (field r 3 1) ++ [0, 0])
    let p := hostPort s h
    let (sig, s) := leafSignature s (spdmSigned (asciiBytes "responder-challenge_auth signing") (p.spdmA ++ p.spdmB ++ r ++ body))
    spdmAnswer s h (body ++ sig) (fun p => { p with spdmB := [] })

def spdmMeasurements (s : State) (h : Nat) (r : List Byte) : State :=
  let op := field r 3 1
  let sign := bit (field r 2 1) 0
  let blocks := if op = 0 then [] else if op = 0xFF then [1, 2, 3, 4, 5, 6] else [op]
  if 6 < op ∧ op ≠ 0xFF then spdmAnswer s h (spdmError 0x01 0) id
  else if sign && !canSign s then spdmAnswer s h (spdmError 0x03 0) id
  else
    let record := (blocks.map (measurementBlock s)).flatten
    let (nonce, s) := drawBytes s 32
    let body := spdm 0x60 (if op = 0 then 6 else 0) 0 (leBytes 1 blocks.length ++ leBytes 3 record.length ++ record ++ nonce ++ [0, 0])
    let p := hostPort s h
    if sign then
      let (sig, s) := leafSignature s (spdmSigned (asciiBytes "responder-measurements signing") (p.spdmA ++ p.spdmL ++ r ++ body))
      spdmAnswer s h (body ++ sig) (fun p => { p with spdmL := [] })
    else spdmAnswer s h body (fun p => { p with spdmL := p.spdmL ++ r ++ body })

/-- A request on the PF of a port is answered (R279). -/
def spdmRequest (s : State) (h : Nat) (r : List Byte) : State :=
  let version := spdm 0x04 0 0 [0, 1, 0x00, 0x12]
  let version := [0x10] ++ version.drop 1
  match field r 1 1 with
  | 0x84 => spdmAnswer s h version (fun p => { p with spdmA := r ++ version, spdmB := [], spdmL := [] })
  | 0xE1 =>
    let (size, s) := drawBytes s 8
    let a := spdm 0x61 0 0 ([0, 20, 0, 0] ++ leBytes 4 0x16 ++ size)
    spdmAnswer s h a (fun p => { p with spdmA := p.spdmA ++ r ++ a })
  | 0xE3 =>
    let a := spdm 0x63 0 0 (leBytes 2 36 ++ [1, 0] ++ leBytes 4 0x04 ++ leBytes 4 0x80 ++ leBytes 4 0x02 ++ List.replicate 12 0 ++ [0, 0, 0, 0])
    spdmAnswer s h a (fun p => { p with spdmA := p.spdmA ++ r ++ a })
  | 0x81 =>
    let a := spdm 0x01 0 1 (sha384 certificateChain)
    spdmAnswer s h a (fun p => { p with spdmB := p.spdmB ++ r ++ a })
  | 0x82 =>
    let a := spdmCertificate r
    spdmAnswer s h a (fun p => { p with spdmB := p.spdmB ++ r ++ a })
  | 0x83 => spdmChallenge s h r
  | 0xE0 => spdmMeasurements s h r
  | code => spdmAnswer s h (spdmError 0x07 code) id

/-- SPDM_REQUEST (R279, R375): over DOE on the PF of a ready port. -/
def execSpdmRequest (host : Fin 2) (request : List Byte) (s : State) : Host.Outcome State Fault Refusal :=
  .next (if (hostPort s host).ready && !(hostFn s host 0).flr then spdmRequest s.fresh_ host request else s.fresh_)

end Sys2Proof.Machine
end

