-- ==== Sys2Proof/Machine/Storage.lean ====
section
/-! DEFINITION. Storage extents, storage commands and drives (R280–R283, R291, R501). -/

namespace Sys2Proof.Machine

open Sys2Proof

def drive (s : State) (k : Nat) : Drive := Tbl.getD s.drives k Drive.init

def setDrive (s : State) (k : Nat) (f : Drive → Drive) : State := { s with drives := Tbl.modify s.drives k Drive.init f }

/-- A link of S0 exists under the image's bifurcation: 1×16, 2×8 or 4×4 (R280). -/
def linkExists (s : State) (k : Nat) : Bool := decide (k < 2 ^ s.aon.tables.bifurcation)

/-- LBA size and LBA count of an attached namespace. -/
def namespaceOf (s : State) (k ns : Nat) : Option (Nat × Nat) := Tbl.get? (drive s k).namespaces ns

/-! ### Extents (R282) -/

/-- The extent a handle names: [5:0] index, [15:6] reserved, [31:16] generation. One with reserved bits set names none, a refusal with
reason 0x02. DESIGN CHOICE, log 45. -/
def extentAny (s : State) (handle : Nat) : Option Extent :=
  if bits handle 15 6 == 0 && handle / 65536 == generation s 4 (handle % 64) then Tbl.get? s.extents (handle % 64) else none

def extentOf (s : State) (p handle : Nat) : Option Extent := (extentAny s handle).filter (fun e => e.partition == p)

/-- Two LBA ranges of one namespace meet. -/
def overlaps (e : Extent) (link ns start count : Nat) : Bool :=
  e.link == link && e.ns == ns && decide (start < e.start + e.count) && decide (e.start < start + count)

def extentCreateChecks (s : State) (c : Ctx) : Checks :=
  let p := c.u 0 1
  let start := c.u 8 8
  let count := c.u 0x10 8
  let ready := (drive s (c.u 1 1)).ready
  { badParameter := decide (31 < p) || (part s p).state == .free || decide (3 < c.u 1 1) || count == 0
      || !(keySlotOf s p (c.u 4 4)).any (fun k => bit k.usage 4)
      || s.extents.any (fun e => overlaps e.2 (c.u 1 1) (c.u 2 2) start count)
      || (ready && !(namespaceOf s (c.u 1 1) (c.u 2 2)).any (fun n => decide (start + count ≤ n.2)))
    quota := decide (64 ≤ s.extents.length) || decide (16 ≤ Tbl.count s.extents (fun _ e => e.partition == p))
    execution := if storageOut s then some .lasting else if ready then none else some .absent }

def extentCreateEffect (s : State) (c : Ctx) : State :=
  match (List.range 64).find? (fun i => (Tbl.get? s.extents i).isNone) with
  | none => s
  | some i =>
    let s := nextGeneration s 4 i
    let e : Extent := ⟨c.u 0 1, c.u 1 1, c.u 2 2, c.u 8 8, c.u 0x10 8, c.u 4 4⟩
    finish { s with extents := Tbl.set s.extents i e } c { status := .ok, result := leBytes 4 (i + 65536 * generation s 4 i) }

/-- EXTENT_CREATE (R282). -/
def execExtentCreate (o : Origin) (s : State) : Host.Outcome State Fault Refusal :=
  .next (runOp 0x0401 o s (fixed .control) extentCreateChecks extentCreateEffect)

/-- A drive command is outstanding within an extent. -/
def extentBusy (s : State) (e : Extent) : Bool := s.driveCmds.any (fun d => overlaps e d.2.link d.2.ns d.2.lba (max 1 d.2.len))

/-- The checks of opcode 0x0402 beyond the common ones (R18). -/
def extentDestroyChecks : State → Ctx → Checks :=
                                             (fun s c =>
    { refused := if c.has 0 4 && (extentAny s (c.u 0 4)).isNone then some 0x02 else none
      busy := (extentAny s (c.u 0 4)).any (extentBusy s) })

/-- EXTENT_DESTROY (R282). -/
def execExtentDestroy (o : Origin) (s : State) : Host.Outcome State Fault Refusal :=
  .next (runOp 0x0402 o s (fixed .immediate) extentDestroyChecks
    (fun s c => finish { s with extents := Tbl.erase s.extents (c.u 0 4 % 64) } c { status := .ok }))

/-! ### Storage commands (R281–R283) -/

/-- LBA size behind an extent. -/
def lbaSize (s : State) (e : Extent) : Nat := ((namespaceOf s e.link e.ns).map (fun n => n.1)).getD 512

/-- Extent, offset and length of a storage command (R282). -/
def rangeChecks (s : State) (c : Ctx) (off len : Nat) : Checks :=
  let e := extentOf s c.p (c.u 0 4)
  { refused := if c.has 0 4 && e.isNone then some 0x02 else none
    badParameter := e.any (fun e => off % lbaSize s e != 0 || len % lbaSize s e != 0 || decide (e.count * lbaSize s e < off + len))
    execution := if storageOut s then some .lasting
      else if e.any (fun e => !(drive s e.link).ready) then some .absent
      else if e.any (fun e => (keyBytes s e.keySlot).isNone) then some .lasting else none }

/-- An NVMe command goes out for a slot, in LBAs (R291). -/
def issueDrive (s : State) (c : Ctx) (e : Extent) (opcode off len : Nat) (data : List Byte) : State :=
  let d : DriveCmd := ⟨e.link, opcode, e.ns, e.start + off / lbaSize s e, len / lbaSize s e, data, s.now, false⟩
  let s := setSlot s c.p c.k (fun sl => { sl with begun := true })
  send { s with driveCmds := Tbl.set s.driveCmds (c.p * 32 + c.k) d } [.nvme d.link d.opcode d.ns d.lba d.len d.data]

/-- Data units of one LBA under XTS, each tweaked by its absolute LBA (R283). -/
def xtsUnits (key : List Byte) (enc : Bool) (size : Nat) : Nat → Nat → List Byte → List Byte
  | 0, _, _ => []
  | n + 1, lba, bs => xts key enc (leBytes 16 lba) (bs.take size) ++ xtsUnits key enc size n (lba + 1) (bs.drop size)

/-- Bytes of an extent encrypted or decrypted on the engine next in turn: nothing when its checks end the operation. -/
def xtsRun (s : State) (e : Extent) (enc : Bool) (lba : Nat) (bs : List Byte) (fault : UnitFault) :
    Option (List Byte) × State :=
  match keyBytes s e.keySlot, cipherEngine s with
  | some key, some g =>
    let (good, s) := engineCheck s g e.keySlot fault
    if !good then (none, s)
    else
      let size := lbaSize s e
      let units := bs.length / size
      (some (xtsUnits key enc size units lba bs), countBlocks s g (bs.length / 16 + units))
  | _, _ => (none, s)

/-- The checks of opcode 0x0403 beyond the common ones (R18). -/
def storageReadChecks : State → Ctx → Checks :=
                                             (fun s c =>
    ((descChecks s c 0x10).both (rangeChecks s c (c.u 8 8) (c.desc 0x10).len)).both { badParameter := c.dirty 4 4 })

/-- STORAGE_READ (R283): the drive's completion brings the data. -/
def execStorageRead (o : Origin) (s : State) : Host.Outcome State Fault Refusal :=
  .next (runOnce 0x0403 o s (fixed .storage) storageReadChecks
    (fun s c => match extentOf s c.p (c.u 0 4) with
      | none => s
      | some e => issueDrive s c e 0x02 (c.u 8 8) (c.desc 0x10).len []))

def storageWriteEffect (host : List Byte) (fault : UnitFault) (s : State) (c : Ctx) : State :=
  match extentOf s c.p (c.u 0 4), descReadMeets s c.p (c.desc 0x10) with
  | none, _ => s
  | _, some none => s
  | _, some (some st) => finish s c { status := st }
  | some e, none =>
    let bs := readDesc s c.p (c.desc 0x10) host
    match xtsRun s e true (e.start + c.u 8 8 / lbaSize s e) bs fault with
    | (none, s) => finish s c { status := .lasting, reads := [bs] }
    | (some out, s) =>
      let s := setSlot s c.p c.k (fun sl => { sl with
        inputs := [bs], pastReturn := true, lower := sl.lower || fault != .none })
      issueDrive s c e 0x01 (c.u 8 8) bs.length out

/-- The checks of opcode 0x0404 beyond the common ones (R18). -/
def storageWriteChecks : State → Ctx → Checks :=
                                                                           (fun s c =>
    ((descChecks s c 0x10).both (rangeChecks s c (c.u 8 8) (c.desc 0x10).len)).both { badParameter := c.dirty 4 4 })

/-- STORAGE_WRITE (R283): `hostData` is what the host returns; its convoy confirms within the step (log 12), and the data passes
the storage gate. -/
def execStorageWrite (o : Origin) (hostData : Fetched) (fault : UnitFault) (s : State) :
    Host.Outcome State Fault Refusal :=
  .next (if begun s o then s.fresh_ else runOp 0x0404 o s (fixed .storage) storageWriteChecks
    (onWord (fun s c w => descHolds s c.p (c.desc 0x10) w) hostData.word (storageWriteEffect hostData.bytes fault)))

/-- The checks of opcode 0x0405 beyond the common ones (R18). -/
def flushChecks : State → Ctx → Checks :=
                                             (fun s c => rangeChecks s c 0 0)

/-- FLUSH (R281). -/
def execFlush (o : Origin) (s : State) : Host.Outcome State Fault Refusal :=
  .next (runOnce 0x0405 o s (fixed .storage) flushChecks (fun s c =>
    match extentOf s c.p (c.u 0 4) with
    | none => s
    | some e => issueDrive s c e 0x00 0 0 []))

/-- The checks of opcode 0x0406 beyond the common ones (R18). -/
def deallocateChecks : State → Ctx → Checks :=
                                             (fun s c =>
    (rangeChecks s c (c.u 8 8) (c.u 0x10 8)).both { badParameter := c.dirty 4 4 })

/-- DEALLOCATE (R281). -/
def execDeallocate (o : Origin) (s : State) : Host.Outcome State Fault Refusal :=
  .next (runOnce 0x0406 o s (fixed .storage) deallocateChecks
    (fun s c => match extentOf s c.p (c.u 0 4) with
      | none => s
      | some e => issueDrive s c e 0x09 (c.u 8 8) (c.u 0x10 8) []))

/-! ### Drives (R280, R281, R291, R501) -/

/-- The checks of opcode 0x0407 beyond the common ones (R18). -/
def driveQueryChecks : State → Ctx → Checks :=
                                             (fun _ c => { badParameter := decide (3 < c.u 0 1) })

/-- DRIVE_QUERY (R291). -/
def execDriveQuery (o : Origin) (s : State) : Host.Outcome State Fault Refusal :=
  .next (runOp 0x0407 o s (fixed .immediate) driveQueryChecks (fun s c =>
    let d := drive s (c.u 0 1)
    finish s c { status := .ok, result := if d.ready then
        [1] ++ leBytes 1 d.namespaces.length ++ [0, 0] ++ leBytes 4 d.version ++ slice d.serial 0 20
      else List.replicate 28 0 }))

/-- The namespaces that can be attached: 512- or 4,096-byte LBAs without metadata or protection information, at most 16. -/
def attachable (i : DriveInfo) : Tbl (Nat × Nat) :=
  ((i.namespaces.filter (fun n => !n.2.2.2 && (n.2.1 == 512 || n.2.1 == 4096))).take 16).foldl
    (fun t n => Tbl.set t n.1 (n.2.1, n.2.2.1)) []

/-- A drive is ready, or absent (R291, R501). -/
def driveFound (s : State) (k : Nat) : Option DriveInfo → State
  | some i =>
    let s := setDrive s k (fun d => { d with
      ready := true, absent := false, namespaces := attachable i, version := i.version, serial := slice i.serial 0 20, resetAt := none })
    raiseAdmin s 0x0401 false 0 (k + 256 * (attachable i).length)
  | none =>
    let s := setDrive s k (fun d => { d with ready := false, absent := true, probedAt := s.now })
    raiseAdmin (endDriveCmds s .absent (fun d => d.link == k)) 0x0403 true 0 k

/-- DRIVE_READY (R501): what the controller behind a link reports when S0 trains; nothing where no NVMe controller answers. -/
def execDriveReady (link : Fin 4) (found : Option DriveInfo) (s : State) : Host.Outcome State Fault Refusal :=
  .next (if s.boot.synfyReady && linkExists s link && !storageOut s && !(drive s link).ready && !(drive s link).absent then
      driveFound s.fresh_ link found
    else s.fresh_)

/-- DRIVE_PROBE (R291): 1 s after the last look, an absent drive is back or not. -/
def execDriveProbe (link : Fin 4) (found : Option DriveInfo) (s : State) : Host.Outcome State Fault Refusal :=
  .next (if !(drive s link).absent || storageOut s then s.fresh_
    else
      let s := advanceTo s.fresh_ ((drive s link).probedAt + 1000000000)
      match found with
      | none => setDrive s link (fun d => { d with probedAt := s.now })
      | some i => driveFound s link (some i))

/-- A successful read arrives: decrypted and written to its destination (R283). -/
def readArrives (s : State) (c : Ctx) (d : DriveCmd) (data : List Byte) (fault : UnitFault) : State :=
  match extentOf s c.p (c.u 0 4) with
  | none => finish s c { status := .lasting }
  | some e =>
    let bs := slice data 0 (c.desc 0x10).len
    match xtsRun s e false d.lba bs fault with
    | (none, s) => finish s c { status := .lasting }
    | (some plain, s) =>
      match descWriteMeets s c.p (c.desc 0x10) with
      | some st => finish s c { status := st.getD .lasting }
      | none =>
        let s := setSlot s c.p c.k (fun sl => { sl with lower := sl.lower || fault != .none })
        finish (writeDesc s c.p (c.desc 0x10) plain) c { status := .ok, writes := [plain] }

/-- A drive completes a command with an NVMe status field, bit [14] Do Not Retry (R291). Data for a granule that is retiring
waits (R226). -/
def driveCompletion (s : State) (o status : Nat) (data : List Byte) (fault : UnitFault) : State :=
  match Tbl.get? s.driveCmds o with
  | none => s
  | some d =>
    let c := slotCtx (o / 32) (o % 32) (slotAt s (o / 32) (o % 32))
    let done := { s with driveCmds := Tbl.erase s.driveCmds o }
    if status % 2048 = 0 ∧ d.opcode = 0x02 ∧ descWriteMeets s c.p (c.desc 0x10) = some none then s
    else if status % 2048 = 0 then
      let done := setSlot done c.p c.k (fun sl => { sl with lower := sl.lower || d.reissued })
      if d.opcode = 0x02 then readArrives done c d data fault else finish done c { status := .ok }
    else if bit status 14 || d.reissued then finish done c { status := .integrity, result := leBytes 2 status }
    else
      let s := raiseAdmin (bump s 0x0802 d.link 32) 0x0404 false 0 (d.link + 65536 * status)
      let s := setSlot s c.p c.k (Slot.repairing 3)
      send { s with driveCmds := Tbl.set s.driveCmds o { d with reissued := true, issuedAt := s.now } }
        [.nvme d.link d.opcode d.ns d.lba d.len d.data]

/-- DRIVE_COMPLETION (R291): the slot's command, the NVMe status field, the data of a read, and what the cipher engine's checks
found. -/
def execDriveCompletion (p slot : Fin 32) (status : BitVec 15) (data : List Byte) (fault : UnitFault) (s : State) :
    Host.Outcome State Fault Refusal :=
  .next (driveCompletion s.fresh_ (p.val * 32 + slot.val) status.toNat data fault)

/-- The oldest command outstanding on a link. -/
def oldestOn (s : State) (k : Nat) : Option Nat :=
  ((s.driveCmds.filter (fun e => e.2.link == k)).map (fun e => e.2.issuedAt)).min?

/-- A controller reports Controller Fatal Status or leaves a command uncompleted for 1 s: it is reset once and its commands are
issued once more; a failed reset, or a second failure within 1 s, makes the drive absent (R291). -/
def driveFails (s : State) (k : Nat) (fatal resetOk : Bool) : State :=
  let due := if fatal then some s.now else (oldestOn s k).map (fun t => t + 1000000000)
  match (drive s k).ready, due with
  | true, some t =>
    let s := advanceTo s t
    if (drive s k).resetAt.any (fun r => decide (s.now ≤ r + 1000000000)) then driveFound s k none
    else
      let s := raiseAdmin (bump s 0x0803 k 16) 0x0402 true 0 (k + 256 * (if fatal then 0x01 else 0x02))
      let s := setDrive s k (fun d => { d with resetAt := some s.now })
      if !resetOk then driveFound s k none
      else
        let again := s.driveCmds.filter (fun e => e.2.link == k)
        again.foldl (fun s e =>
          let s := setSlot s (e.1 / 32) (e.1 % 32) (Slot.repairing 3)
          send { s with driveCmds := Tbl.set s.driveCmds e.1 { e.2 with reissued := true, issuedAt := s.now } }
            [.nvme e.2.link e.2.opcode e.2.ns e.2.lba e.2.len e.2.data]) s
  | _, _ => s

/-- DRIVE_COMMAND_TIMEOUT (R291). -/
def execDriveCommandTimeout (link : Fin 4) (fatal resetOk : Bool) (s : State) : Host.Outcome State Fault Refusal :=
  .next (driveFails s.fresh_ link fatal resetOk)

end Sys2Proof.Machine
end

