-- ==== Sys2Proof/Machine/TwoWire.lean ====
section
/-! DEFINITION. Pass-through transactions on TW0–TW2, absent and hung buses, and TWT (R441–R463, R485). -/

namespace Sys2Proof.Machine

open Sys2Proof

/-! ### Requests (R444, R445, R485) -/

def transactionChecks (s : State) (c : Ctx) : Checks :=
  let b := c.u 0 1
  let protocol := c.u 2 1
  { refused := if c.p != 0 && c.has 0 1 && decide (b ≤ 1) then some 0x01 else none
    badParameter := decide (2 < b) || decide (127 < c.u 1 1) || protocol == 0 || decide (6 < protocol) || decide (1 < c.u 3 1)
      || decide (48 < c.u 5 1) || decide (48 < c.u 6 1) || c.dirty 7 1 || c.len != 8 + c.u 5 1 || (protocol == 4 && c.u 5 1 == 0)
    execution := if (bus s b).hung.isSome then some .hung
      else if (Tbl.get? (bus s b).absent (c.u 1 1)).isSome then some .absent else none }

/-- The request joins its bus's queue (R445). -/
def transactionEffect (o : Origin) (s : State) (c : Ctx) : State :=
  setBus s (c.u 0 1) (fun b => { b with queue := b.queue ++
    [⟨o, c.u 1 1, c.u 2 1, c.u 4 1, bit (c.u 3 1) 0, slice c.body 8 (c.u 5 1), c.u 6 1, 1, 0⟩] })

/-- TRANSACTION (R445). -/
def execTransaction (o : Origin) (s : State) : Host.Outcome State Fault Refusal :=
  .next (runOnce 0x0801 o s (fixed .management) transactionChecks (transactionEffect o))

/-- A mode and filter that waited for an idle bus take effect (R443, R444). -/
def settleBus (s : State) (b : Nat) : State :=
  setBus s b (fun x => match x.queue, x.next with
    | [], some (mode, filter) => { x with mode := mode, filter := filter, next := none }
    | _, _ => x)

/-- The checks of opcode 0x0802 beyond the common ones (R18). -/
def busConfigureChecks : State → Ctx → Checks :=
                                              (fun s c =>
    { badParameter := decide (2 < c.u 0 1) || decide (2 < c.u 1 1) || decide ((if c.u 1 1 = 2 then 15 else 31) < c.u 2 1),
      execution := if (bus s (c.u 0 1)).hung.isSome then some .hung else none })

/-- BUS_CONFIGURE (R444). -/
def execBusConfigure (o : Origin) (s : State) : Host.Outcome State Fault Refusal :=
  .next (runOp 0x0802 o s (fixed .management) busConfigureChecks
    (fun s c => finish (settleBus (setBus s (c.u 0 1) (fun b => { b with next := some (c.u 1 1, c.u 2 1) })) (c.u 0 1)) c
      { status := .ok }))

/-- The checks of opcode 0x0803 beyond the common ones (R18). -/
def busStatusChecks : State → Ctx → Checks :=
                                              (fun _ c => { badParameter := decide (2 < c.u 0 1) })

/-- BUS_STATUS (R456): the first 16 absent addresses in rising order. -/
def execBusStatus (o : Origin) (s : State) : Host.Outcome State Fault Refusal :=
  .next (runOp 0x0803 o s (fixed .management) busStatusChecks (fun s c =>
    let b := bus s (c.u 0 1)
    let addresses := b.absent.map (fun e => BitVec.ofNat 8 e.1)
    let bytes := leBytes 1 (b2n b.hung.isSome + 2 * b2n (b.hung == some true)) ++ leBytes 1 b.mode ++ leBytes 1 b.filter
      ++ leBytes 1 b.absent.length ++ slice addresses 0 16
    finish s c { status := .ok, result := bytes }))

/-! ### Transactions (R446–R450, R460) -/

/-- The bytes a transaction writes after its address byte (R442). -/
def jobWrites (j : TwJob) : List Byte :=
  let body := if j.protocol = 1 ∨ j.protocol = 3 then j.write
    else if j.protocol = 4 then leBytes 1 j.command ++ leBytes 1 j.write.length ++ j.write
    else if j.protocol = 5 then leBytes 1 j.command
    else []
  if j.pec && (j.protocol == 1 || j.protocol == 4) then body ++ [crc8 (leBytes 1 (2 * j.addr) ++ body)] else body

/-- Bytes a transaction reads: none for writes and a quick command. -/
def jobReads (j : TwJob) : Nat := if j.protocol = 2 ∨ j.protocol = 3 ∨ j.protocol = 5 then j.readLen else 0

/-- The transaction at the head of the queue ends. -/
def endJob (s : State) (b : Nat) (j : TwJob) (st : Status) (data : List Byte) : State :=
  settleBus (finishOrigin (setBus s b (fun x => { x with queue := x.queue.drop 1 })) j.origin { status := st, result := data }) b

/-- Transactions at the head of the queue whose target is marked absent end without traffic (R449, R460). -/
def dropAbsent : Nat → State → Nat → State
  | 0, s, _ => s
  | f + 1, s, b =>
    match (bus s b).queue with
    | [] => s
    | j :: _ => if (Tbl.get? (bus s b).absent j.addr).isSome then dropAbsent f (endJob s b j .absent []) b else s

def settleQueue (s : State) (b : Nat) : State := dropAbsent (bus s b).queue.length s b

/-- The transaction is started once more (R448, R450). -/
def secondAttempt (s : State) (b : Nat) (j : TwJob) : State :=
  setBus s b (fun x => { x with queue := { j with attempt := 2 } :: x.queue.drop 1 })

/-- An attempt fails on a data byte or its PEC (R450). -/
def dataFailure (s : State) (b : Nat) (j : TwJob) (pec : Bool) : State :=
  let last := decide (2 ≤ j.attempt)
  let s := raiseAon (bump s 0x0E02 b 32) 0x0805 true (b + 256 * j.addr + 65536 * b2n pec + 131072 * b2n last)
  if last then endJob (bump s 0x0301 0x14 16) b j .integrity [] else secondAttempt s b j

/-- The bus is free and the head of the queue issues its START (R446): what came of the attempt. -/
def attempt (s : State) (b : Nat) (t : TwTry) : State :=
  let s := settleQueue s b
  match (bus s b).queue with
  | [] => s
  | j :: _ =>
    let s := send s [.twoWire b j.addr (jobWrites j) (jobReads j)]
    match t with
    | .addressNack =>
      if j.attempt < 2 then secondAttempt (bump s 0x0E00 b 32) b j
      else settleQueue (endJob (markTargetAbsent s b j.addr) b j .absent []) b
    | .dataNack => dataFailure s b j false
    | .pecBad => dataFailure s b j true
    | .done data =>
      let s := if j.attempt < 2 then s else transient s 0x14 (b * 128 + j.addr)
      endJob s b j (if j.attempt < 2 then .ok else .recovered) (slice data 0 (min (jobReads j) 48))

/-- BUS_FREE_START (R446). -/
def execBusFreeStart (b : Fin 3) (try_ : TwTry) (s : State) : Host.Outcome State Fault Refusal :=
  .next (if (bus s b).hung.isSome then s.fresh_ else attempt s.fresh_ b try_)

/-- The head of the queue loses arbitration: it starts again later, and after the eighth loss ends with BUSY (R447). -/
def arbitrationLost (s : State) (b : Nat) : State :=
  let s := settleQueue s b
  match (bus s b).queue with
  | [] => s
  | j :: rest =>
    let s := bump s 0x0E03 b 32
    if 7 ≤ j.losses then endJob (raiseAon s 0x0804 false (b + 256 * j.addr)) b j .busy []
    else setBus s b (fun x => { x with queue := { j with losses := j.losses + 1 } :: rest })

/-- ARBITRATION_LOST (R447). -/
def execArbitrationLost (b : Fin 3) (s : State) : Host.Outcome State Fault Refusal :=
  .next (if (bus s b).hung.isSome then s.fresh_ else arbitrationLost s.fresh_ b)

/-- A poll of an absent target, every 1 s from its mark (R449). -/
def absentPoll (s : State) (b addr : Nat) (result : PollResult) : State :=
  match Tbl.get? (bus s b).absent addr with
  | none => s
  | some t =>
    let s := settleBus (advanceTo s (t + ((s.now - t) / 1000000000 + 1) * 1000000000)) b
    let s := send s [.twoWire b addr [] 0]
    match result with
    | .notAcknowledged => s
    | .lost => bump s 0x0E03 b 32
    | .acknowledged =>
      let s := setBus s b (fun x => { x with absent := Tbl.erase x.absent addr })
      raiseAon s 0x0802 false (b + 256 * addr + 4294967296 * ((s.now - t) / 1000000000 % 4294967296))

/-- ABSENT_POLL (R449). -/
def execAbsentPoll (b : Fin 3) (addr : Fin 128) (result : PollResult) (s : State) : Host.Outcome State Fault Refusal :=
  .next (if (bus s b).hung.isSome then s.fresh_ else absentPoll s.fresh_ b addr result)

/-- The controllers stay idle until a configuration image is accepted (R462). -/
def controllersIdle (s : State) : Bool := s.aon.tables.steps.isEmpty

/-- ALERT_RESPONSE (R451): the address that answered at 0x0C, or none. -/
def execAlertResponse (b : Fin 3) (answer : Option (Fin 128)) (s : State) : Host.Outcome State Fault Refusal :=
  let s := s.fresh_
  .next (if (bus s b).hung.isSome || controllersIdle s then s
    else
      let s := send s [.twoWire b 0x0C [] 1]
      match answer with
      | none => s
      | some a => raiseAon s 0x0806 false (b.val + 256 * a.val))

/-! ### A hung bus (R456–R458) -/

/-- What a hang does elsewhere: PMBus channels are fenced, board sensors absent (R458). -/
def hangEffects (s : State) (b : Nat) : State :=
  match b with
  | 0 => (List.range 24).foldl (fun s v =>
      if (railCfg s v).pmbus.isSome && !isFenced s 0x04 ((8 + v) * 2 + 1) then fenceChannel s (8 + v) 1 else s) s
  | 1 => (List.range s.aon.tables.boardAddresses.length).foldl (fun s i =>
      if s.aon.thermal.boardAbsent.contains i then s
      else raiseAon (setAon s (fun a => { a with thermal := { a.thermal with boardAbsent := a.thermal.boardAbsent ++ [i] } }))
        0x074C false (i + 256)) s
  | _ => s

/-- A line stays low for 30 ms: the bus is hung until VAON is lost, and everything queued ends with HUNG (R456). -/
def busHung (s : State) (b : Nat) (sda : Bool) : State :=
  if (bus s b).hung.isSome then s
  else
    let jobs := (bus s b).queue
    let s := setBus s b (fun x => { x with hung := some sda, queue := [] })
    let s := raiseAon (bump s 0x0E04 b 16) 0x0803 true (b + 256 * b2n sda)
    hangEffects (jobs.foldl (fun s j => finishOrigin s j.origin { status := .hung }) s) b

/-- BUS_HUNG (R456). -/
def execBusHung (b : Fin 3) (sda : Bool) (s : State) : Host.Outcome State Fault Refusal :=
  .next (if s.boot.vaon then busHung s.fresh_ b sda else s.fresh_)

/-! ### TWT (R452–R454, R459, R463) -/

/-- TWT acknowledges its address from 150 ms after VAON valid (R463). -/
def twtAnswers (s : State) : Bool := s.boot.vaon && decide (s.boot.vaonAt + 150000000 ≤ s.now)

/-- TWT_ALERT# is driven low: a response or an event awaits (R452). -/
def twtAlert (s : State) : Bool := s.twt.unread || !s.twt.events.isEmpty

/-- A Block Write arrives whole: a bad PEC discards it, a request under way turns it away, and otherwise it is held; one that the
common checks end is answered at once (R18, R453, R454, R463). -/
def twtRequest (s : State) (f : List Byte) (pecOk : Bool) : State :=
  if !twtAnswers s || !pecOk || decide (f.length < 8) || decide (64 < f.length) then s
  else if s.twt.running then { s with twt := { s.twt with overrun := some (slice f 2 4) } }
  else
    let s := { s with twt := { s.twt with
      request := some f, running := true, begun := false, overrun := none, response := none, unread := false } }
    match (twtChecks s (twtCtx f)).verdict with
    | some st => twtAnswer s st []
    | none => s

/-- TWT_REQUEST (R453). -/
def execTwtRequest (frame : List Byte) (pecOk : Bool) (s : State) : Host.Outcome State Fault Refusal :=
  .next (twtRequest s.fresh_ frame pecOk)

/-- The bytes of a BUSY answer to a request sequence. -/
def twtBusy (seq : List Byte) : List Byte := leBytes 2 Status.busy.code ++ seq ++ [0, 0]

/-- A Block Read with command 0x02: BUSY for a Block Write turned away or a request still processed, else the response. -/
def twtResponseRead (s : State) : State :=
  if !twtAnswers s then s
  else match s.twt.overrun with
    | some seq => send { s with twt := { s.twt with overrun := none } } [.twt (twtBusy seq)]
    | none =>
      if s.twt.running then send s [.twt (twtBusy (slice (s.twt.request.getD []) 2 4))]
      else match s.twt.response with
        | none => s
        | some bs => send { s with twt := { s.twt with unread := false } } [.twt bs]

/-- TWT_RESPONSE_READ (R453). -/
def execTwtResponseRead (s : State) : Host.Outcome State Fault Refusal := .next (twtResponseRead s.fresh_)

/-- A Block Read with command 0x04: the oldest event leaves, in the layout of R144; its number and phase are open there. -/
def twtEventRead (s : State) : State :=
  match twtAnswers s, s.twt.events with
  | true, e :: rest =>
    let (n, s) := drawNat s
    send { s with twt := { s.twt with events := rest } } [.twt (eventBytes (n % 4294967296) (bit (n / 4294967296) 0) e)]
  | _, _ => s

/-- TWT_EVENT_READ (R453). -/
def execTwtEventRead (s : State) : Host.Outcome State Fault Refusal := .next (twtEventRead s.fresh_)

/-- TWT_TARGET_TIMEOUT (R459): the partial frame is discarded. -/
def execTwtTargetTimeout (s : State) : Host.Outcome State Fault Refusal :=
  .next (if s.boot.vaon then raiseAon (bump s.fresh_ 0x0E05 0 16) 0x0807 true 0 else s.fresh_)

end Sys2Proof.Machine
end

