-- ==== Sys2Proof/Machine/Update.lean ====
section
/-! DEFINITION. Firmware update (R376, R506, R507, R510). -/

namespace Sys2Proof.Machine

open Sys2Proof

/-- The copy an update writes: the one that is not accepted. -/
def spareCopy (s : State) : Nat := 1 - min 1 (s.boot.copy.getD 0)

/-- The digest of every section of an image in host memory matches its table (R507). -/
def digestsOk (image : List Byte) : Bool :=
  (List.range 6).all (fun i =>
    let at_ := 32 + 64 * i
    field image at_ 1 == 0
      || slice image (at_ + 16) 48 == sha384 (slice image (field image (at_ + 4) 4) (field image (at_ + 8) 4)))

/-- The presented image passes: header, signature, every section digest (R507). -/
def imageOk (image : List Byte) (signatureOk : Bool) : Bool :=
  signatureOk && decide (4096 ≤ image.length) && (headerFault_ (image.take 4096)).isNone && digestsOk image

/-- The header as it is written: its sequence one above the accepted copy's, the commit word still erased. -/
def newHeader (s : State) (image : List Byte) : List Byte :=
  splice (splice (image.take 4096) 8 (leBytes 4 (s.boot.imageSeq + 1))) 0xFFC (List.replicate 4 0xFF)

/-- What the update writes before the header: the header sector erased, then the sections in place. -/
def sectionWrites (copy : Nat) (image : List Byte) : List Output :=
  .flash copy 0 (List.replicate 4096 0xFF)
    :: ((sectionEntries image).filter (fun e => e.1 != 0)).map (fun e => .flash copy e.2.1 (slice image e.2.1 e.2.2))

def updateChecks (s : State) (c : Ctx) : Checks :=
  (descChecks s c 0).both { busy := s.vault.tripped || s.boot.update.isSome }

/-- The update begins, or its image fails (R507). -/
def updateBegin (host : List Byte) (signatureOk : Bool) (s : State) (c : Ctx) : State :=
  match descReadMeets s c.p (c.desc 0) with
  | some none => s
  | some (some st) => finish s c { status := st }
  | none =>
    let image := readDesc s c.p (c.desc 0) host
    let copy := spareCopy s
    if !imageOk image signatureOk then
      finish (raiseAon s 0x0A28 true (copy + 256 * 0x02)) c { status := .integrity, reads := [image] }
    else
      let s := setSlot s c.p c.k (fun sl => { sl with begun := true, inputs := [image] })
      send (setBoot s (fun b => { b with update := some c.k, updateCopy := copy })) (sectionWrites copy image)

/-- The sections have been read back: right, right once written again, or wrong twice; then the header and last the commit
word (R507). -/
def updateEnd (readBack : Nat) (s : State) (c : Ctx) : State :=
  let copy := s.boot.updateCopy
  let image := (slotAt s c.p c.k).inputs.headD []
  let seq := (s.boot.imageSeq + 1) % 4294967296
  let s := setBoot s (fun b => { b with update := none })
  if readBack = 2 then finish (raiseAon s 0x0A28 true (copy + 256 * 0x03)) c { status := .lasting }
  else
    let s := setSlot s c.p c.k (fun sl => { sl with lower := sl.lower || readBack == 1 })
    let s := send s [.flash copy 0 (newHeader s image), .flash copy 0xFFC (leBytes 4 0x5AA5C33C)]
    let s := raiseAon s 0x0A27 false (copy + 256 * field image 6 1 + 65536 * field image 7 1 + 4294967296 * seq)
    finish s c { status := .ok, result := leBytes 1 copy ++ [0] ++ leBytes 1 (field image 6 1) ++ leBytes 1 (field image 7 1) }

/-- The recovery budget of opcode 0x0A05 (R112, R480). -/
def firmwareUpdateBudget : State → Ctx → Nat :=
                          (fun _ _ => 120000000000)

/-- FIRMWARE_UPDATE (R507): `image` is what the host returns and `signatureOk` whether its signature verifies under the Uavastad
image key; presented again while the update runs, it ends with what reading back found. -/
def execFirmwareUpdate (o : Origin) (image : List Byte) (signatureOk : Bool) (readBack : Fin 3) (s : State) :
    Host.Outcome State Fault Refusal :=
  .next (if begun s o then
      match ctxOf s.fresh_ o with
      | none => s.fresh_
      | some c => if c.op == 0x0A05 && s.boot.update == some c.k then updateEnd readBack s.fresh_ c else s.fresh_
    else runOp 0x0A05 o s firmwareUpdateBudget updateChecks (updateBegin image signatureOk))

end Sys2Proof.Machine
end

