-- ==== Sys2Proof/Machine/Start.lean ====
section
/-! DEFINITION. Synfy starts a registered command: the checks of R18 with the recovery budget of its opcode, the sequence
number, the ACCEPTED response, and the reading of the request from the slot store (R18, R112, R117, R118, R137, R138, R159,
R162). -/

namespace Sys2Proof.Machine

open Sys2Proof

/-- What an opcode adds to the course every command shares: its recovery budget (R112, R480) and its own checks (R18). -/
structure OpRule where
  budget : State → Ctx → Nat
  checks : State → Ctx → Checks

/-- Group 0x00xx. -/
def opRules00 : Nat → Option OpRule
  | 0x0001 => some ⟨fixed .immediate, noChecks⟩
  | 0x0002 => some ⟨fixed .control, createChecks⟩
  | 0x0003 => some ⟨teardownBudget, teardownChecks⟩
  | 0x0004 => some ⟨fixed .control, quotaSetChecks⟩
  | 0x0005 => some ⟨fixed .immediate, grantMaskSetChecks⟩
  | 0x0006 => some ⟨fixed .immediate, deadlineChecks⟩
  | 0x0007 => some ⟨fixed .immediate, loadingModeSetChecks⟩
  | 0x0008 => some ⟨fixed .immediate, cancelChecks⟩
  | 0x0009 => some ⟨fixed .immediate, partitionStatusChecks⟩
  | _ => none

/-- Group 0x01xx. -/
def opRules01 : Nat → Option OpRule
  | 0x0101 => some ⟨modelLoadBudget, modelLoadChecks⟩
  | 0x0102 => some ⟨fixed .control, modelUnloadChecks⟩
  | 0x0103 => some ⟨fixed .immediate, modelHandleCheck⟩
  | 0x0110 => some ⟨modelRunBudget, modelRunChecks⟩
  | 0x0111 => some ⟨offloadBudget, offloadChecks⟩
  | 0x0120 => some ⟨fixed .immediate, clusterMaskSetChecks⟩
  | 0x0121 => some ⟨fixed .immediate, ktLimitSetChecks⟩
  | 0x0122 => some ⟨fixed .immediate, partnerCheckingSetChecks⟩
  | _ => none

/-- Group 0x02xx. -/
def opRules02 : Nat → Option OpRule
  | 0x0201 => some ⟨fixed .immediate, regionAllocateChecks⟩
  | 0x0202 => some ⟨fixed .immediate, regionFreeChecks⟩
  | 0x0203 => some ⟨memoryTransferBudget, memoryTransferChecks⟩
  | 0x0210 => some ⟨fixed .immediate, syncCreateChecks⟩
  | 0x0211 => some ⟨fixed .immediate, syncDestroyChecks⟩
  | 0x0212 => some ⟨fixed .immediate, syncSignalChecks⟩
  | 0x0213 => some ⟨fixed .long, syncWaitChecks⟩
  | 0x0214 => some ⟨fixed .immediate, syncReadChecks⟩
  | 0x0215 => some ⟨fixed .immediate, syncBindChecks⟩
  | _ => none

/-- Group 0x03xx. -/
def opRules03 : Nat → Option OpRule
  | 0x0301 => some ⟨fixed .immediate, entryInsertChecks⟩
  | 0x0302 => some ⟨fixed .immediate, entryUpdateChecks⟩
  | 0x0303 => some ⟨fixed .immediate, entryAbsent⟩
  | 0x0304 => some ⟨fixed .immediate, entryAbsent⟩
  | 0x0305 => some ⟨fixed .immediate, profileSetChecks⟩
  | 0x0306 => some ⟨fixed .immediate, patternSetChecks⟩
  | 0x0307 => some ⟨fixed .immediate, parseLimitsChecks⟩
  | 0x0308 => some ⟨fixed .immediate, defaultActionChecks⟩
  | 0x0309 => some ⟨fixed .control, receiveRingSetChecks⟩
  | 0x030A => some ⟨fixed .immediate, receiveRingPostChecks⟩
  | 0x030B => some ⟨frameTransmitBudget, frameTransmitChecks⟩
  | 0x030C => some ⟨fixed .control, espSaSetChecks⟩
  | 0x030D => some ⟨fixed .control, macsecSaSetChecks⟩
  | 0x0381 => some ⟨fixed .immediate, partnerPortEnableChecks⟩
  | 0x0382 => some ⟨fixed .immediate, partnerPortDisableChecks⟩
  | 0x0383 => some ⟨fixed .immediate, partnerPortStatusChecks⟩
  | 0x03C1 => some ⟨fixed .immediate, portConfigureChecks⟩
  | 0x03C2 => some ⟨fixed .control, networkPortEnableChecks⟩
  | 0x03C3 => some ⟨fixed .immediate, networkPortDisableChecks⟩
  | _ => none

/-- Group 0x04xx. -/
def opRules04 : Nat → Option OpRule
  | 0x0401 => some ⟨fixed .control, extentCreateChecks⟩
  | 0x0402 => some ⟨fixed .immediate, extentDestroyChecks⟩
  | 0x0403 => some ⟨fixed .storage, storageReadChecks⟩
  | 0x0404 => some ⟨fixed .storage, storageWriteChecks⟩
  | 0x0405 => some ⟨fixed .storage, flushChecks⟩
  | 0x0406 => some ⟨fixed .storage, deallocateChecks⟩
  | 0x0407 => some ⟨fixed .immediate, driveQueryChecks⟩
  | _ => none

/-- Group 0x05xx. -/
def opRules05 : Nat → Option OpRule
  | 0x0501 => some ⟨fixed .control, keyInstallChecks⟩
  | 0x0502 => some ⟨fixed .control, keyGenerateChecks⟩
  | 0x0503 => some ⟨fixed .control, keyReplaceChecks⟩
  | 0x0504 => some ⟨fixed .immediate, ownSlotChecks⟩
  | 0x0505 => some ⟨fixed .immediate, keyQueryChecks⟩
  | 0x0506 => some ⟨fixed .control, ownReplaceChecks⟩
  | 0x0510 => some ⟨cipherOperationBudget, cipherChecks⟩
  | 0x0520 => some ⟨fixed .management, transportKeyGetChecks⟩
  | 0x0521 => some ⟨fixed .management, akekStartChecks⟩
  | 0x0522 => some ⟨fixed .control, receiptKeyChecks⟩
  | _ => none

/-- Group 0x06xx. -/
def opRules06 : Nat → Option OpRule
  | 0x0601 => some ⟨fixed .management, noChecks⟩
  | 0x0602 => some ⟨fixed .management, timeSetChecks⟩
  | 0x0603 => some ⟨fixed .management, trimSetChecks⟩
  | 0x0604 => some ⟨fixed .management, alarmSetChecks⟩
  | 0x0605 => some ⟨fixed .management, timeStampReadChecks⟩
  | 0x0606 => some ⟨fixed .management, tamperLimitsSetChecks⟩
  | 0x0607 => some ⟨fixed .management, backupRateSetChecks⟩
  | 0x0608 => some ⟨fixed .management, armingChecks true⟩
  | 0x0609 => some ⟨fixed .management, fuseBlowChecks⟩
  | 0x060A => some ⟨fixed .management, tamperSelfTestChecks⟩
  | 0x060B => some ⟨fixed .management, tamperAcknowledgeChecks⟩
  | 0x060C => some ⟨fixed .management, noChecks⟩
  | 0x0610 => some ⟨fixed .management, noChecks⟩
  | 0x0611 => some ⟨fixed .management, ledgerReadChecks⟩
  | 0x0612 => some ⟨fixed .management, ledgerAttestChecks⟩
  | 0x0613 => some ⟨fixed .management, recordAppendChecks⟩
  | _ => none

/-- Group 0x07xx. -/
def opRules07 : Nat → Option OpRule
  | 0x0701 => some ⟨railSwitchBudget, railSwitchChecks⟩
  | 0x0702 => some ⟨fenceReleaseBudget, railFenceReleaseChecks⟩
  | 0x0703 => some ⟨fixed .management, powerRequestChecks⟩
  | 0x0704 => some ⟨fixed .management, restartChecks⟩
  | 0x0705 => some ⟨fixed .management, snapshotReadChecks⟩
  | 0x0710 => some ⟨fixed .management, fanFloorSetChecks⟩
  | 0x0711 => some ⟨fixed .management, fanRestartChecks⟩
  | 0x0712 => some ⟨fixed .management, noChecks⟩
  | 0x0720 => some ⟨fixed .management, axisTargetChecks⟩
  | 0x0721 => some ⟨fixed .management, axisLimitsChecks⟩
  | 0x0722 => some ⟨fixed .management, axisModeChecks⟩
  | 0x0723 => some ⟨fixed .management, axisHomeChecks⟩
  | 0x0724 => some ⟨fixed .management, axisReleaseChecks⟩
  | 0x0725 => some ⟨fixed .management, axisStatusChecks⟩
  | 0x0730 => some ⟨fixed .management, noChecks⟩
  | _ => none

/-- Group 0x08xx. -/
def opRules08 : Nat → Option OpRule
  | 0x0801 => some ⟨fixed .management, transactionChecks⟩
  | 0x0802 => some ⟨fixed .management, busConfigureChecks⟩
  | 0x0803 => some ⟨fixed .management, busStatusChecks⟩
  | _ => none

/-- Group 0x09xx. -/
def opRules09 : Nat → Option OpRule
  | 0x0901 => some ⟨counterReadBudget, counterReadChecks⟩
  | 0x0902 => some ⟨fixed .immediate, noChecks⟩
  | 0x0903 => some ⟨fixed .control, telemetryChecks⟩
  | _ => none

/-- Group 0x0Axx. -/
def opRules0A : Nat → Option OpRule
  | 0x0A01 => some ⟨calibrationRunBudget, calibrationRunChecks⟩
  | 0x0A02 => some ⟨fixed .immediate, scrubSetChecks⟩
  | 0x0A03 => some ⟨fixed .control, fenceResourceChecks⟩
  | 0x0A04 => some ⟨resourceReleaseBudget, resourceReleaseChecks⟩
  | 0x0A05 => some ⟨firmwareUpdateBudget, updateChecks⟩
  | _ => none

/-- The rule of every opcode of the command reference. -/
def opRule (op : Nat) : Option OpRule :=
  match op / 256 with
  | 0x00 => opRules00 op
  | 0x01 => opRules01 op
  | 0x02 => opRules02 op
  | 0x03 => opRules03 op
  | 0x04 => opRules04 op
  | 0x05 => opRules05 op
  | 0x06 => opRules06 op
  | 0x07 => opRules07 op
  | 0x08 => opRules08 op
  | 0x09 => opRules09 op
  | 0x0A => opRules0A op
  | _ => none

/-- What a running command of slot `k` of partition `p` has decided to remove is no longer live for a command that starts now (R151):
a region, model, sync object, extent or key slot is gone, and a partition is being torn down. -/
def withoutRemoved (p k : Nat) (s : State) : State :=
  let r := (slotAt s p k).request
  let h := field (reqBody r) 0 4
  match reqOpcode r with
  | 0x0003 => setPart s (h % 256) (fun q => { q with state := .tearing })
  | 0x0102 => setMemory s (fun m => { m with models := Tbl.erase m.models (p * 16 + h % 256) })
  | 0x0202 => setMemory s (fun m => { m with regions := Tbl.erase m.regions (regionKey p h) })
  | 0x0211 => setMemory s (fun m => { m with sync := Tbl.erase m.sync (h % 4096) })
  | 0x0402 => { s with extents := Tbl.erase s.extents (h % 64) }
  | 0x0504 => { s with keys := Tbl.erase s.keys (h % 4096) }
  | _ => s

/-- The objects live at the start of a command (R151): those that no command under way is removing. -/
def liveObjects (s : State) (p k : Nat) : State :=
  s.parts.foldl (fun v e => (e.2.slots.filter (fun x => x.2.phase == .running && !(e.1 == p && x.1 == k))).foldl (fun v x =>
    withoutRemoved e.1 x.1 v) v) s

/-- The checks of R18 of an opcode. -/
def opChecks (s : State) (c : Ctx) : Checks :=
  match opRule c.op with
  | none => commonChecks s c 0
  | some r => (commonChecks s c (r.budget s c)).both (r.checks s c)

/-- The checks of R18 that a command meets at its start, without what only its execution finds; what needs bytes that the
command must first read is checked as it reads them. Ownership is judged against the objects live at the start (R151). -/
def startChecks (s : State) (c : Ctx) : Checks :=
  { opChecks s c with
    refused := (opChecks (liveObjects s c.p c.k) c).refused
    execution := none }

/-- B_op of a command in ns (R111, R480). -/
def ownBudget (s : State) (c : Ctx) : Nat :=
  match opRule c.op with
  | none => 0
  | some r => r.budget s c

/-- T of a command in µs: its own timeout, or T_min where it gives none (R112, R133). -/
def ownTimeout (s : State) (c : Ctx) : Nat :=
  if c.timeout != 0 then c.timeout
  else tMin (ownBudget s c)

/-- The number of a request enters the history when it is new, or in the window and not yet seen (R117). -/
def enterHistory (s : State) (p k seq : Nat) : State :=
  setSlot (setPart s p (fun q => { q with history := q.history.enter seq })) p k (fun x => { x with inHistory := true })

/-- A command that passed its checks and is to be executed: it runs under T, and one of the long class answers ACCEPTED,
but for a model load and a sync wait, which accept later in their own course (R138, R210, R219). -/
def beginCommand (s : State) (c : Ctx) : State :=
  let s := setSlot s c.p c.k (fun x => { x with phase := .running, limitUs := ownTimeout s c, budgetNs := ownBudget s c })
  let long : Bool := match opInfo c.op with
    | some i => i.latency == .long
    | none => false
  if long && c.op != 0x0101 && c.op != 0x0213 then guardTags (accept s c.p c.k) c.p else s

/-- A first response returned under R118: within 5 µs, or one of REFUSED to a tenant 20 µs after the registration, which
REFUSAL_COMPLETION brings (R17). -/
def returnFirst (s : State) (c : Ctx) (st : Status) (result receipt : List Byte) : State :=
  if st == .refused && c.p != 0 then setSlot s c.p c.k (fun x => { x with phase := .refusing, refusal := returnedRefusal })
  else decideReturned s c.p c.k st result receipt

/-- A request whose number was looked up: executed, answered with its first response, or turned away (R118). -/
def handlePlace (s : State) (c : Ctx) (place : Place) : State :=
  match place with
  | .new => beginCommand s c
  | .unseen => beginCommand s c
  | .inFlight => finish s c { status := .busy }
  | .behind => finish s c { status := .badParameter }
  | .completed digest st result receipt =>
    if digest == sha256 c.body then returnFirst s c st result receipt else finish s c { status := .badParameter }

/-- The checks, then the lookup, which is made in every case once Synfy is ready (R117, R118, R162). -/
def startCommand (s : State) (p k : Nat) : State :=
  let c := slotCtx p k (slotAt s p k)
  let ch := startChecks s c
  let place := (part s p).history.place c.seq
  let s := if s.boot.synfyReady && (place == .new || place == .unseen) then enterHistory s p k c.seq else s
  match ch.verdict with
  | some st => turnAway s c ch st
  | none => if s.boot.synfyReady then handlePlace s c place else beginCommand s c

/-- The slot store fails on a request twice: the command ends with LASTING, or without a response where that cannot be
written, and the slot is fenced (R139, R159). The event concerns the slot's store and no command: its sequence and opcode stay 0
and its slot 0xFF. DESIGN CHOICE, log 54. -/
def storeFault (s : State) (p k : Nat) (bytes : List Byte) (passes : Bool) : State :=
  let s := if s.fencedSlots.contains (p * 32 + k) then s else { s with fencedSlots := s.fencedSlots ++ [p * 32 + k] }
  let s := raiseBoth (lastingFault s 0x0F (p * 32 + k)) p 0x0009 true k
  if passes then endSlot (setSlot s p k (fun x => { x with request := slice bytes 0 128 })) p k { status := .lasting }
  else dropSlot s p k

/-- COMMAND_START (R137). -/
def execCommandStart (p slot : Fin 32) (read : StoreRead) (s : State) : Host.Outcome State Fault Refusal :=
  .next (if (slotAt s p slot).phase != .registered then s.fresh_
    else match read with
      | .good => startCommand s.fresh_ p slot
      | .mistagged => startCommand (setSlot s.fresh_ p slot (fun x => { x with mistagged := true })) p slot
      | .once =>
        startCommand (setSlot (transient s.fresh_ 0x0F (p * 32 + slot)) p slot (fun x => { x with lower := true })) p slot
      | .twice bytes passes => storeFault s.fresh_ p slot bytes passes)

end Sys2Proof.Machine
end

