-- ==== Sys2Proof/Machine/Dispatch.lean ====
section
/-! DEFINITION. One arm per command of the opcode table. -/

namespace Sys2Proof.Machine

open Sys2Proof

def exec (i : Instr) (s : State) : Host.Outcome State Fault Refusal :=
  match i with
  | .deviceIdentity o => Sys2Proof.Machine.execDeviceIdentity o s
  | .partitionCreate o => Sys2Proof.Machine.execPartitionCreate o s
  | .partitionTeardown o => Sys2Proof.Machine.execPartitionTeardown o s
  | .quotaSet o => Sys2Proof.Machine.execQuotaSet o s
  | .grantMaskSet o => Sys2Proof.Machine.execGrantMaskSet o s
  | .convoyDeadlineSet o => Sys2Proof.Machine.execConvoyDeadlineSet o s
  | .loadingModeSet o => Sys2Proof.Machine.execLoadingModeSet o s
  | .commandCancel o => Sys2Proof.Machine.execCommandCancel o s
  | .partitionStatus o => Sys2Proof.Machine.execPartitionStatus o s
  | .modelLoad o image reread => Sys2Proof.Machine.execModelLoad o image reread s
  | .modelUnload o => Sys2Proof.Machine.execModelUnload o s
  | .modelQuery o => Sys2Proof.Machine.execModelQuery o s
  | .modelRun o input spillFault => Sys2Proof.Machine.execModelRun o input spillFault s
  | .blockOffload o hostData => Sys2Proof.Machine.execBlockOffload o hostData s
  | .clusterMaskSet o => Sys2Proof.Machine.execClusterMaskSet o s
  | .ktLimitSet o => Sys2Proof.Machine.execKtLimitSet o s
  | .partnerCheckingSet o => Sys2Proof.Machine.execPartnerCheckingSet o s
  | .regionAllocate o => Sys2Proof.Machine.execRegionAllocate o s
  | .regionFree o => Sys2Proof.Machine.execRegionFree o s
  | .memoryTransfer o hostData => Sys2Proof.Machine.execMemoryTransfer o hostData s
  | .syncCreate o => Sys2Proof.Machine.execSyncCreate o s
  | .syncDestroy o => Sys2Proof.Machine.execSyncDestroy o s
  | .syncSignal o => Sys2Proof.Machine.execSyncSignal o s
  | .syncWait o => Sys2Proof.Machine.execSyncWait o s
  | .syncRead o => Sys2Proof.Machine.execSyncRead o s
  | .syncBind o => Sys2Proof.Machine.execSyncBind o s
  | .entryInsert o => Sys2Proof.Machine.execEntryInsert o s
  | .entryUpdate o => Sys2Proof.Machine.execEntryUpdate o s
  | .entryDelete o => Sys2Proof.Machine.execEntryDelete o s
  | .entryLookup o => Sys2Proof.Machine.execEntryLookup o s
  | .profileSet o => Sys2Proof.Machine.execProfileSet o s
  | .patternSet o => Sys2Proof.Machine.execPatternSet o s
  | .parseLimitsSet o => Sys2Proof.Machine.execParseLimitsSet o s
  | .defaultActionSet o => Sys2Proof.Machine.execDefaultActionSet o s
  | .receiveRingSet o => Sys2Proof.Machine.execReceiveRingSet o s
  | .receiveRingPost o descs => Sys2Proof.Machine.execReceiveRingPost o descs s
  | .frameTransmit o frame fault => Sys2Proof.Machine.execFrameTransmit o frame fault s
  | .espSaSet o => Sys2Proof.Machine.execEspSaSet o s
  | .macsecSaSet o => Sys2Proof.Machine.execMacsecSaSet o s
  | .partnerPortEnable o => Sys2Proof.Machine.execPartnerPortEnable o s
  | .partnerPortDisable o => Sys2Proof.Machine.execPartnerPortDisable o s
  | .partnerPortStatus o => Sys2Proof.Machine.execPartnerPortStatus o s
  | .networkPortConfigure o => Sys2Proof.Machine.execNetworkPortConfigure o s
  | .networkPortEnable o => Sys2Proof.Machine.execNetworkPortEnable o s
  | .networkPortDisable o => Sys2Proof.Machine.execNetworkPortDisable o s
  | .extentCreate o => Sys2Proof.Machine.execExtentCreate o s
  | .extentDestroy o => Sys2Proof.Machine.execExtentDestroy o s
  | .storageRead o => Sys2Proof.Machine.execStorageRead o s
  | .storageWrite o hostData fault => Sys2Proof.Machine.execStorageWrite o hostData fault s
  | .flush o => Sys2Proof.Machine.execFlush o s
  | .deallocate o => Sys2Proof.Machine.execDeallocate o s
  | .driveQuery o => Sys2Proof.Machine.execDriveQuery o s
  | .keyInstall o => Sys2Proof.Machine.execKeyInstall o s
  | .keyGenerate o => Sys2Proof.Machine.execKeyGenerate o s
  | .keyReplace o => Sys2Proof.Machine.execKeyReplace o s
  | .keyDestroy o => Sys2Proof.Machine.execKeyDestroy o s
  | .keyQuery o => Sys2Proof.Machine.execKeyQuery o s
  | .ownSlotKeyReplace o => Sys2Proof.Machine.execOwnSlotKeyReplace o s
  | .cipherOperation o aad input fault => Sys2Proof.Machine.execCipherOperation o aad input fault s
  | .transportKeyGet o => Sys2Proof.Machine.execTransportKeyGet o s
  | .akekEstablish o qe => Sys2Proof.Machine.execAkekEstablish o qe s
  | .receiptKeyChange o => Sys2Proof.Machine.execReceiptKeyChange o s
  | .timeRead o => Sys2Proof.Machine.execTimeRead o s
  | .timeSet o => Sys2Proof.Machine.execTimeSet o s
  | .trimSet o => Sys2Proof.Machine.execTrimSet o s
  | .alarmSet o => Sys2Proof.Machine.execAlarmSet o s
  | .timeStampRead o => Sys2Proof.Machine.execTimeStampRead o s
  | .tamperLimitsSet o => Sys2Proof.Machine.execTamperLimitsSet o s
  | .backupRateSet o => Sys2Proof.Machine.execBackupRateSet o s
  | .sourceArmingSet o firstSamplePassed => Sys2Proof.Machine.execSourceArmingSet o firstSamplePassed s
  | .fuseBlow o => Sys2Proof.Machine.execFuseBlow o s
  | .tamperSelfTest o passed => Sys2Proof.Machine.execTamperSelfTest o passed s
  | .tamperAcknowledge o => Sys2Proof.Machine.execTamperAcknowledge o s
  | .tamperStatus o => Sys2Proof.Machine.execTamperStatus o s
  | .ledgerStatus o => Sys2Proof.Machine.execLedgerStatus o s
  | .ledgerRead o => Sys2Proof.Machine.execLedgerRead o s
  | .ledgerAttest o => Sys2Proof.Machine.execLedgerAttest o s
  | .recordAppend o => Sys2Proof.Machine.execRecordAppend o s
  | .railSwitch o => Sys2Proof.Machine.execRailSwitch o s
  | .railFenceRelease o => Sys2Proof.Machine.execRailFenceRelease o s
  | .powerDown o => Sys2Proof.Machine.execPowerDown o s
  | .deviceRestart o => Sys2Proof.Machine.execDeviceRestart o s
  | .restartFromHeldOff o => Sys2Proof.Machine.execRestartFromHeldOff o s
  | .snapshotRead o => Sys2Proof.Machine.execSnapshotRead o s
  | .fanFloorSet o => Sys2Proof.Machine.execFanFloorSet o s
  | .fanRestart o => Sys2Proof.Machine.execFanRestart o s
  | .fanStatus o => Sys2Proof.Machine.execFanStatus o s
  | .axisTarget o => Sys2Proof.Machine.execAxisTarget o s
  | .axisLimitsSet o => Sys2Proof.Machine.execAxisLimitsSet o s
  | .axisModeSet o => Sys2Proof.Machine.execAxisModeSet o s
  | .axisHome o => Sys2Proof.Machine.execAxisHome o s
  | .axisRelease o => Sys2Proof.Machine.execAxisRelease o s
  | .axisStatus o => Sys2Proof.Machine.execAxisStatus o s
  | .thermalStatus o => Sys2Proof.Machine.execThermalStatus o s
  | .transaction o => Sys2Proof.Machine.execTransaction o s
  | .busConfigure o => Sys2Proof.Machine.execBusConfigure o s
  | .busStatus o => Sys2Proof.Machine.execBusStatus o s
  | .counterRead o => Sys2Proof.Machine.execCounterRead o s
  | .guaranteeStatusRead o => Sys2Proof.Machine.execGuaranteeStatusRead o s
  | .telemetryExportSet o list => Sys2Proof.Machine.execTelemetryExportSet o list s
  | .calibrationRun o => Sys2Proof.Machine.execCalibrationRun o s
  | .scrubSet o => Sys2Proof.Machine.execScrubSet o s
  | .fenceResource o => Sys2Proof.Machine.execFenceResource o s
  | .fenceRelease o passed => Sys2Proof.Machine.execFenceRelease o passed s
  | .firmwareUpdate o image signatureOk readBack => Sys2Proof.Machine.execFirmwareUpdate o image signatureOk readBack s
  | .doorbell p size value poisoned => Sys2Proof.Machine.execDoorbell p size value poisoned s
  | .partitionControlEnable p => Sys2Proof.Machine.execPartitionControlEnable p s
  | .receiptRingConsumerWrite p value => Sys2Proof.Machine.execReceiptRingConsumerWrite p value s
  | .eventRingConsumerWrite p value => Sys2Proof.Machine.execEventRingConsumerWrite p value s
  | .registerWrite sender offset data poisoned => Sys2Proof.Machine.execRegisterWrite sender offset data poisoned s
  | .digestInitialise p ctx value => Sys2Proof.Machine.execDigestInitialise p ctx value s
  | .digestHmacInitialise p ctx alg => Sys2Proof.Machine.execDigestHmacInitialise p ctx alg s
  | .digestClear p ctx => Sys2Proof.Machine.execDigestClear p ctx s
  | .digestData p ctx value => Sys2Proof.Machine.execDigestData p ctx value s
  | .digestTailData p ctx value => Sys2Proof.Machine.execDigestTailData p ctx value s
  | .digestFinish p ctx value => Sys2Proof.Machine.execDigestFinish p ctx value s
  | .digestExport p ctx value => Sys2Proof.Machine.execDigestExport p ctx value s
  | .digestImport p ctx => Sys2Proof.Machine.execDigestImport p ctx s
  | .digestBlockComplete p ctx fault => Sys2Proof.Machine.execDigestBlockComplete p ctx fault s
  | .digestHmacInitEnd p ctx => Sys2Proof.Machine.execDigestHmacInitEnd p ctx s
  | .digestSaveEnd p ctx => Sys2Proof.Machine.execDigestSaveEnd p ctx s
  | .msixUnmask host fn => Sys2Proof.Machine.execMsixUnmask host fn s
  | .msixHoldoffExpiry p => Sys2Proof.Machine.execMsixHoldoffExpiry p s
  | .commandStart p slot read => Sys2Proof.Machine.execCommandStart p slot read s
  | .refusalCompletion p slot => Sys2Proof.Machine.execRefusalCompletion p slot s
  | .completion p slot digestFault tagMismatch => Sys2Proof.Machine.execCompletion p slot digestFault tagMismatch s
  | .commandTimeout p slot => Sys2Proof.Machine.execCommandTimeout p slot s
  | .teardownDiscardExpiry p => Sys2Proof.Machine.execTeardownDiscardExpiry p s
  | .functionLevelReset host fn => Sys2Proof.Machine.execFunctionLevelReset host fn s
  | .perstAssert host => Sys2Proof.Machine.execPerstAssert host s
  | .perstRelease host => Sys2Proof.Machine.execPerstRelease host s
  | .hostLinkDown host cause => Sys2Proof.Machine.execHostLinkDown host cause s
  | .functionDisabled host fn why => Sys2Proof.Machine.execFunctionDisabled host fn why s
  | .hostPortReady host width rate => Sys2Proof.Machine.execHostPortReady host width rate s
  | .aerUncorrectable host fn status => Sys2Proof.Machine.execAerUncorrectable host fn status s
  | .hostDmaReadFailure p slot poisoned again => Sys2Proof.Machine.execHostDmaReadFailure p slot poisoned again s
  | .parcelCheck cls number parcel => Sys2Proof.Machine.execParcelCheck cls number parcel s
  | .creditStall cls number cycles => Sys2Proof.Machine.execCreditStall cls number cycles s
  | .crossingFault cls number parity => Sys2Proof.Machine.execCrossingFault cls number parity s
  | .domainLeaveReset d => Sys2Proof.Machine.execDomainLeaveReset d s
  | .clockLoss d => Sys2Proof.Machine.execClockLoss d s
  | .clockRestartEnd d passed => Sys2Proof.Machine.execClockRestartEnd d passed s
  | .convoyOpen n p slot => Sys2Proof.Machine.execConvoyOpen n p slot s
  | .convoySeal n => Sys2Proof.Machine.execConvoySeal n s
  | .convoyConfirm n => Sys2Proof.Machine.execConvoyConfirm n s
  | .convoyCancel n cause group index => Sys2Proof.Machine.execConvoyCancel n cause group index s
  | .convoyDeadlineExpiry n => Sys2Proof.Machine.execConvoyDeadlineExpiry n s
  | .convoyResolved n hostData => Sys2Proof.Machine.execConvoyResolved n hostData s
  | .convoyControlReceived port payload => Sys2Proof.Machine.execConvoyControlReceived port payload s
  | .ackTimeout port convoy => Sys2Proof.Machine.execAckTimeout port convoy s
  | .convoyTableMismatch => Sys2Proof.Machine.execConvoyTableMismatch s
  | .sweepEnd unit => Sys2Proof.Machine.execSweepEnd unit s
  | .lockstepMismatch pair lasting running => Sys2Proof.Machine.execLockstepMismatch pair lasting running s
  | .managementCoreMismatch lasting => Sys2Proof.Machine.execManagementCoreMismatch lasting s
  | .checkerExercise checker number group index flagged again => Sys2Proof.Machine.execCheckerExercise checker number group index flagged again s
  | .scrubRead unit found => Sys2Proof.Machine.execScrubRead unit found s
  | .granuleRetirementEnd granule => Sys2Proof.Machine.execGranuleRetirementEnd granule s
  | .tilePassComplete convoy cluster tile pass => Sys2Proof.Machine.execTilePassComplete convoy cluster tile pass s
  | .picotCheck cluster => Sys2Proof.Machine.execPicotCheck cluster s
  | .partnerBlockCheck port => Sys2Proof.Machine.execPartnerBlockCheck port s
  | .recomputationComplete port cluster tile errors => Sys2Proof.Machine.execRecomputationComplete port cluster tile errors s
  | .ktSwitch => Sys2Proof.Machine.execKtSwitch s
  | .ktIdleExpiry => Sys2Proof.Machine.execKtIdleExpiry s
  | .syncSignalParcel port payload convoy => Sys2Proof.Machine.execSyncSignalParcel port payload convoy s
  | .linkParcelReceive port parcel fec => Sys2Proof.Machine.execLinkParcelReceive port parcel fec s
  | .controlParcelReceive port parcel fec => Sys2Proof.Machine.execControlParcelReceive port parcel fec s
  | .replayTimeout port => Sys2Proof.Machine.execReplayTimeout port s
  | .linkSilence port => Sys2Proof.Machine.execLinkSilence port s
  | .laneLossOfLock port lane => Sys2Proof.Machine.execLaneLossOfLock port lane s
  | .laneRelockEnd port lane passed => Sys2Proof.Machine.execLaneRelockEnd port lane passed s
  | .restripeComplete port => Sys2Proof.Machine.execRestripeComplete port s
  | .seekWindowEnd port => Sys2Proof.Machine.execSeekWindowEnd port s
  | .trainingBurstEnd port => Sys2Proof.Machine.execTrainingBurstEnd port s
  | .partnerTrainingSignal port lane => Sys2Proof.Machine.execPartnerTrainingSignal port lane s
  | .trainEnd port trained => Sys2Proof.Machine.execTrainEnd port trained s
  | .exchangeComplete port => Sys2Proof.Machine.execExchangeComplete port s
  | .exchangeTimeout port => Sys2Proof.Machine.execExchangeTimeout port s
  | .retrainTimeout port => Sys2Proof.Machine.execRetrainTimeout port s
  | .nodeDoneHigh => Sys2Proof.Machine.execNodeDoneHigh s
  | .soloMode => Sys2Proof.Machine.execSoloMode s
  | .frameReceive port frame fcsOk fecOk fault => Sys2Proof.Machine.execFrameReceive port frame fcsOk fecOk fault s
  | .classificationComplete port pipeline ext fault => Sys2Proof.Machine.execClassificationComplete port pipeline ext fault s
  | .reorderReleaseTimeout port => Sys2Proof.Machine.execReorderReleaseTimeout port s
  | .slotRepairEnd ext => Sys2Proof.Machine.execSlotRepairEnd ext s
  | .networkLinkUp port => Sys2Proof.Machine.execNetworkLinkUp port s
  | .networkLinkDown port => Sys2Proof.Machine.execNetworkLinkDown port s
  | .telemetryPeriod port => Sys2Proof.Machine.execTelemetryPeriod port s
  | .driveCompletion p slot status data fault => Sys2Proof.Machine.execDriveCompletion p slot status data fault s
  | .driveCommandTimeout link fatal resetOk => Sys2Proof.Machine.execDriveCommandTimeout link fatal resetOk s
  | .driveProbe link found => Sys2Proof.Machine.execDriveProbe link found s
  | .driveReady link found => Sys2Proof.Machine.execDriveReady link found s
  | .vaonValid straps => Sys2Proof.Machine.execVaonValid straps s
  | .alwaysOnReset => Sys2Proof.Machine.execAlwaysOnReset s
  | .imageSelection a b => Sys2Proof.Machine.execImageSelection a b s
  | .sectionReadComplete kind good => Sys2Proof.Machine.execSectionReadComplete kind good s
  | .selfTestEnd once twice => Sys2Proof.Machine.execSelfTestEnd once twice s
  | .synfyReady => Sys2Proof.Machine.execSynfyReady s
  | .classifierLoadComplete content => Sys2Proof.Machine.execClassifierLoadComplete content s
  | .boundaryScanInstruction instr => Sys2Proof.Machine.execBoundaryScanInstruction instr s
  | .vaultPowerOnReset vaonValid => Sys2Proof.Machine.execVaultPowerOnReset vaonValid s
  | .vaultSwitchToVbat => Sys2Proof.Machine.execVaultSwitchToVbat s
  | .vaonReturn above => Sys2Proof.Machine.execVaonReturn above s
  | .vaultReturnToMain => Sys2Proof.Machine.execVaultReturnToMain s
  | .vaultOff => Sys2Proof.Machine.execVaultOff s
  | .tamperSample tdA tdB diffs failA failB => Sys2Proof.Machine.execTamperSample tdA tdB diffs failA failB s
  | .insertedSample source result => Sys2Proof.Machine.execInsertedSample source result s
  | .evtCapture input rising => Sys2Proof.Machine.execEvtCapture input rising s
  | .rtcSecond gain => Sys2Proof.Machine.execRtcSecond gain s
  | .trimInterval => Sys2Proof.Machine.execTrimInterval s
  | .stagedEntryCommit => Sys2Proof.Machine.execStagedEntryCommit s
  | .vbatMeasurement mv => Sys2Proof.Machine.execVbatMeasurement mv s
  | .sequenceStepAct step absent => Sys2Proof.Machine.execSequenceStepAct step absent s
  | .sequenceStepPowerGood step mv => Sys2Proof.Machine.execSequenceStepPowerGood step mv s
  | .powerGoodTimeout step => Sys2Proof.Machine.execPowerGoodTimeout step s
  | .powerDownDelayExpiry step => Sys2Proof.Machine.execPowerDownDelayExpiry step s
  | .retryOffTimeExpiry rail => Sys2Proof.Machine.execRetryOffTimeExpiry rail s
  | .railProvingExpiry rail => Sys2Proof.Machine.execRailProvingExpiry rail s
  | .railFault rail => Sys2Proof.Machine.execRailFault rail s
  | .railWindowScan a b vin vaon => Sys2Proof.Machine.execRailWindowScan a b vin vaon s
  | .pmbusReadPoll rail mv current => Sys2Proof.Machine.execPmbusReadPoll rail mv current s
  | .sensorDisagreement sensor failA failB => Sys2Proof.Machine.execSensorDisagreement sensor failA failB s
  | .collapse => Sys2Proof.Machine.execCollapse s
  | .restartQualified => Sys2Proof.Machine.execRestartQualified s
  | .collapseWindowExpiry => Sys2Proof.Machine.execCollapseWindowExpiry s
  | .spinUpCheck fan final => Sys2Proof.Machine.execSpinUpCheck fan final s
  | .fanPauseExpiry fan => Sys2Proof.Machine.execFanPauseExpiry fan s
  | .tachLost fan => Sys2Proof.Machine.execTachLost fan s
  | .tachRestored fan => Sys2Proof.Machine.execTachRestored fan s
  | .tachLostLasting fan => Sys2Proof.Machine.execTachLostLasting fan s
  | .boardSensorRead sensor reading => Sys2Proof.Machine.execBoardSensorRead sensor reading s
  | .thermalPlanEvaluation dieA dieB => Sys2Proof.Machine.execThermalPlanEvaluation dieA dieB s
  | .axisFeedbackSample axis sin cos angle => Sys2Proof.Machine.execAxisFeedbackSample axis sin cos angle s
  | .trajectoryUpdate axis pos vel acc => Sys2Proof.Machine.execTrajectoryUpdate axis pos vel acc s
  | .referenceMark axis sin cos angle => Sys2Proof.Machine.execReferenceMark axis sin cos angle s
  | .homingAttemptFailed axis => Sys2Proof.Machine.execHomingAttemptFailed axis s
  | .homingRetryExpiry axis => Sys2Proof.Machine.execHomingRetryExpiry axis s
  | .axisFaultRecovery axis => Sys2Proof.Machine.execAxisFaultRecovery axis s
  | .axisCalibrationStart axis => Sys2Proof.Machine.execAxisCalibrationStart axis s
  | .axisCalibrationEnd axis sin cos amplitude => Sys2Proof.Machine.execAxisCalibrationEnd axis sin cos amplitude s
  | .busFreeStart b try_ => Sys2Proof.Machine.execBusFreeStart b try_ s
  | .arbitrationLost b => Sys2Proof.Machine.execArbitrationLost b s
  | .absentPoll b addr result => Sys2Proof.Machine.execAbsentPoll b addr result s
  | .alertResponse b answer => Sys2Proof.Machine.execAlertResponse b answer s
  | .busHung b sda => Sys2Proof.Machine.execBusHung b sda s
  | .twtRequest frame pecOk => Sys2Proof.Machine.execTwtRequest frame pecOk s
  | .twtResponseRead => Sys2Proof.Machine.execTwtResponseRead s
  | .twtEventRead => Sys2Proof.Machine.execTwtEventRead s
  | .twtTargetTimeout => Sys2Proof.Machine.execTwtTargetTimeout s
  | .calibrationPeriodic => Sys2Proof.Machine.execCalibrationPeriodic s
  | .calibrationDrift => Sys2Proof.Machine.execCalibrationDrift s
  | .calibrationItemEnd item measured => Sys2Proof.Machine.execCalibrationItemEnd item measured s
  | .nodeDoneFall => Sys2Proof.Machine.execNodeDoneFall s
  | .fanTachPulse fan rpm => Sys2Proof.Machine.execFanTachPulse fan rpm s
  | .setpointPowerGood rail => Sys2Proof.Machine.execSetpointPowerGood rail s
  | .spdmRequest host request => Sys2Proof.Machine.execSpdmRequest host request s
  | .configurationWrite host fn write => Sys2Proof.Machine.execConfigurationWrite host fn write s
  | .granuleCleared granule => Sys2Proof.Machine.execGranuleCleared granule s
  | .managementCoreResumed => Sys2Proof.Machine.execManagementCoreResumed s
  | .pllALock => Sys2Proof.Machine.execPllALock s
  | .crystalAmplitudeReached => Sys2Proof.Machine.execCrystalAmplitudeReached s
  | .flrComplete host fn => Sys2Proof.Machine.execFlrComplete host fn s
  | .testLogicReset => Sys2Proof.Machine.execTestLogicReset s

end Sys2Proof.Machine
end

