-- ==== Sys2Proof/Machine/Idle.lean ====
section
/-! DEFINITION. What an idle step does: time passes and held frames may go out (log 6). -/

namespace Sys2Proof.Machine

open Sys2Proof

/-- One microsecond passes with no command; frames whose priority is no longer held go out (R284). DESIGN CHOICE: the tick,
log 6. -/
def idleTick (s : State) : State :=
  let s := { s.fresh_ with now := s.now + 1000 }
  flushTx (flushTx s 0) 1

end Sys2Proof.Machine
end

