-- ==== Sys2Proof/Machine/Window.lean ====
section
/-! DEFINITION. What a read of a partition's window returns: RO and RW registers their value, WO and reserved ones zero (R13, R14, R85,
R130, R131, R143, R342). A read changes nothing, and no row of the command table brings one. -/

namespace Sys2Proof.Machine

open Sys2Proof

/-- One bit for each slot that satisfies a test. -/
def slotMask (s : State) (p : Nat) (f : Slot → Bool) : Nat := maskOf 32 (fun k => f (slotAt s p k))

/-- A slot's busy bit: that of a request under way, or of a pending delivery (R139). -/
def slotBusy (q : Partition) (sl : Slot) : Bool := sl.busy || (q.state == .quiesced && sl.phase == .waiting)

/-- Window bytes 0x0000–0x005B (R85, R131). The doorbell is written only. -/
def controlRegisters (s : State) (p : Nat) : List Byte :=
  let q := part s p
  List.replicate 8 0
    ++ leBytes 4 (slotMask s p (slotBusy q)) ++ leBytes 4 (slotMask s p (fun sl => sl.phase != .free && sl.inRepair))
    ++ leBytes 4 (slotMask s p (fun sl => sl.held)) ++ leBytes 4 q.state.code ++ leBytes 4 p ++ leBytes 4 q.control
    ++ leBytes 4 q.moderation ++ leBytes 4 q.discards ++ leBytes 4 (maskOf 32 (fun k => s.fencedSlots.contains (p * 32 + k)))
    ++ List.replicate 20 0
    ++ leBytes 8 q.receiptBase ++ leBytes 4 q.receiptSize ++ List.replicate 4 0 ++ leBytes 4 q.receiptProducer
    ++ List.replicate 4 0 ++ leBytes 4 q.receiptConsumer

/-- Window bytes 0x3000–0x3023 (R143). -/
def eventRegisters (s : State) (p : Nat) : List Byte :=
  let r := (part s p).events
  leBytes 8 r.base ++ leBytes 4 (eventEntries p) ++ leBytes 4 r.control ++ leBytes 4 r.producer ++ List.replicate 4 0
    ++ leBytes 4 r.consumer ++ List.replicate 4 0 ++ leBytes 4 r.lost

/-- The states of a digest context as its status register codes them (R342). -/
def DigestState.code : DigestState → Nat
  | .idle => 0 | .absorbing => 1 | .done => 2 | .overrun => 3

/-- The 8-byte data words that a context still takes before its next block is complete (R342). -/
def wordsToBoundary (d : DigestCtx) : Nat :=
  if d.state == .absorbing then ceilDiv (blockSize d.alg - d.buffer.length % blockSize d.alg) 8 else 0

/-- The 1,024 bytes of a digest context's registers (R342). Data, tail, finish and save are written only. -/
def digestRegisters (s : State) (p c : Nat) : List Byte :=
  let d := digestAt s p c
  let status := b2n d.busy + 2 * b2n (d.state == .overrun) + 4 * b2n (d.state == .done) + 8 * b2n (keyedAlg d.alg)
    + 16 * d.state.code + 256 * wordsToBoundary d
  leBytes 4 d.alg ++ leBytes 4 d.keySlot ++ leBytes 4 status ++ leBytes 4 d.result ++ List.replicate 32 0
    ++ leBytes 16 d.length ++ slice d.digest 0 64 ++ List.replicate 128 0 ++ slice d.saved 0 392 ++ List.replicate 376 0

/-- A byte of a partition's window (R131). -/
def windowByte (s : State) (p off : Nat) : Byte :=
  let q := part s p
  if q.state == .free then 0
  else if off < 0x1000 then (controlRegisters s p).getD off 0
  else if off < 0x2000 then Mem.read q.requestBytes (off - 0x1000)
  else if off < 0x2800 then Mem.read q.responseBytes (off - 0x2000)
  else if off < 0x3000 then 0
  else if off < 0x3800 then (eventRegisters s p).getD (off - 0x3000) 0
  else (digestRegisters s p ((off - 0x3800) / 0x400)).getD ((off - 0x3800) % 0x400) 0

/-- What a function reads in its BAR0: its partition's window, and zero everywhere else (R130). -/
def barRead (s : State) (host fn off len : Nat) : List Byte :=
  (List.range len).map (fun i => match barWindow s host fn (off + i) with
    | none => 0
    | some (p, a) => windowByte s p a)

end Sys2Proof.Machine
end

