-- ==== Sys2Proof/Safety.lean ====
section
/-! DEFINITION. The terms statements about the N48 are made in: what it means that a command is carried out, that a request is
ready to be executed, how a request has ended, and which states are sound. -/

namespace Sys2Proof.Machine

open Sys2Proof

/-- A command is carried out: it answers a next state, and that state satisfies a condition. -/
def Does (i : Instr) (s : State) (post : State → Prop) : Prop := ∃ t, exec i s = .next t ∧ post t

/-- The request an origin names runs under an opcode and passes every check of R18, with `bop` its recovery budget and `chk`
the opcode's own checks, made as a step makes them: with what the last step sent out forgotten. -/
def Ready (op : Nat) (bop : State → Ctx → Nat) (chk : State → Ctx → Checks) (o : Origin) (s : State) (c : Ctx) : Prop :=
  ctxOf s o = some c ∧ c.op = op ∧ ((commonChecks s.fresh_ c (bop s.fresh_ c)).both (chk s.fresh_ c)).verdict = none

/-- A status that a mailbox request ends with where its execution ends with `st`: RECOVERED stands for OK where a layer retried
(R106). -/
def statusFor (st given : Status) : Prop := given = st ∨ (st = .ok ∧ given = .recovered)

/-- The request an origin named has ended with a status and result bytes: its slot is decided and holds them, or TWT's answer
carries them (R135, R453). -/
def Ended (t : State) (o : Origin) (st : Status) (result : List Byte) : Prop :=
  match o with
  | .mbx p k => (slotAt t p k).phase = .decided ∧
      ∃ e, (slotAt t p k).ending = some e ∧ statusFor st e.status ∧ e.result = result.take 48
  | .twt => t.twt.running = false ∧
      ∃ r, t.twt.response = some r ∧ r.take 2 = leBytes 2 st.code ∧ r.drop 8 = result.take 56

/-- A request goes on: its slot runs with its effect under way, or TWT's request does. -/
def GoesOn (t : State) (o : Origin) : Prop :=
  match o with
  | .mbx p k => (slotAt t p k).phase = .running ∧ (slotAt t p k).begun = true
  | .twt => t.twt.running = true ∧ t.twt.begun = true

/-- Node memory and spill memory are in canonical form. -/
def MemoryCanonical (s : State) : Prop := s.memory.bytes.wf = true ∧ s.memory.spill.wf = true

/-- The part is of one product code, and every tamper fuse of a set is blown (R3, R5). -/
def PartIs (product blown : Nat) (s : State) : Prop :=
  s.boot.product = product ∧ ∀ i, i < 6 → bit blown i = true → bit s.boot.fuses i = true

/-- A state that may differ from another in what carrying out a request touches beside its object: what goes out, the
partitions' records of requests and events, the fault record, the counters, the host functions' interrupts and TWT's
exchange. -/
def reporting (s t : State) : State :=
  { s with out := t.out, parts := t.parts, faults := t.faults, ctr := t.ctr, fns := t.fns, twt := t.twt }

/-- Every partition is as it was but for the requests it has in hand, their receipts and history, its event ring and its
interrupts: its state, binding, masks, quotas, keys, windows, digest contexts and receive rings are kept. -/
def PartitionsKept (s t : State) : Prop := ∀ p, part t p = { part s p with
  receiptNo := (part t p).receiptNo, slots := (part t p).slots, sealOrder := (part t p).sealOrder, events := (part t p).events,
  history := (part t p).history, raises := (part t p).raises, holdoffFrom := (part t p).holdoffFrom }

end Sys2Proof.Machine
end

