-- ==== Sys2Proof/Certificates/Slice0/Obligations.lean ====
section
/-! DEFINITION. The statements for the provers: what the N48's commands do, what they leave alone, and what every step keeps. -/

open Sys2Proof Sys2Proof.Machine

/-- For every command c, queue rest and state s whose queue is c followed by rest, the step of s is exec of c on s with the
queue rest. With an empty queue the step answers a next state whose device time is 1,000 ns later and whose queue is empty
(the idle tick is the model's own choice, log 6). -/
def Obligations.StepRunsFrontCommand : Prop :=
  (∀ (s : State) (c : Instr) (rest : List Instr), s.pending = c :: rest → step s = exec c { s with pending := rest }) ∧
  (∀ s : State, s.pending = [] → ∃ t, step s = .next t ∧ t.now = s.now + 1000 ∧ t.pending = [])

/-- For every state s whose queue is c followed by rest, if the step of s answers a next state t, then the queue of t is
rest. It is a rule about all 262 commands: none adds, drops or reorders what waits (the queue is the model's own, log 6). -/
def Obligations.QueueIsFirstInFirstOut : Prop :=
  ∀ (s t : State) (c : Instr) (rest : List Instr), s.pending = c :: rest → step s = .next t → t.pending = rest

/-- For every product code n, set m of fuse bits and state s with product code n in which every fuse of m is blown, if the
step of s answers a next state, its product code is n, every fuse of m is still blown there, and the ledger there begins
with the ledger of s, entry for entry. It rests on the sentences "never changes the product code" of R3, "A fuse can be
blown and never restored" of R5 and "An entry is written once and is never altered or erased" of R377. -/
def Obligations.PartIdentityAndLedgerKept : Prop :=
  ∀ (n m : Nat) (s t : State), PartIs n m s → step s = .next t → PartIs n m t ∧ s.vault.ledger <+: t.vault.ledger

/-- For every state in which node memory and spill memory are in canonical form (addresses strictly rising, no entry zero),
if its step answers a next state, both are in canonical form there. The form is the model's own way to hold memory. -/
def Obligations.MemoryFormKept : Prop :=
  ∀ s t : State, MemoryCanonical s → step s = .next t → MemoryCanonical t

/-- State.reset is in canonical memory form and is a part of product code 0x01 with no fuse blown (that product code is the
model's choice, log 7). In it the queue is empty, every partition number is Free, the main domain is off, Synfy is not
ready, every clock domain has no clock and is held in reset, and every partner port is Disabled. -/
def Obligations.ResetIsSound : Prop :=
  MemoryCanonical State.reset ∧ PartIs 1 0 State.reset ∧ State.reset.pending = [] ∧
  (∀ p, (part State.reset p).state = .free) ∧ State.reset.boot.mainOn = false ∧ State.reset.boot.synfyReady = false ∧
  (∀ d, Tbl.getD State.reset.domains d Domain.off = Domain.off) ∧ (∀ n, (portAt State.reset n).state = .disabled)

/-- With the mailbox unit in service and partition p not Free: a doorbell that is one aligned 4-byte write of a slot number,
not poisoned, to a free unfenced slot of an Active partition with a programmed receipt ring makes the slot registered and
busy, with the 128 request bytes, the present time and the grant mask copied; every other doorbell adds one to the
saturating discard count and changes no slot. Either way only the partition's own record changes and nothing is sent. -/
def Obligations.DoorbellRegistersOrIsDiscarded : Prop :=
  ∀ (p : Fin 32) (size : Nat) (value : Word32) (poisoned : Bool) (s : State),
    (part s p).state ≠ .free → s.faults.mailboxFenced = false →
    (doorbellTaken s p size value.toNat poisoned = true →
      Does (.doorbell p size value poisoned) s (fun t =>
        t = { s with out := [], parts := t.parts } ∧
        (∀ q, q ≠ p.val → part t q = part s q) ∧
        (∀ k, k ≠ value.toNat → slotAt t p k = slotAt s p k) ∧
        (slotAt t p value.toNat).phase = .registered ∧ (slotAt t p value.toNat).busy = true ∧
        (slotAt t p value.toNat).request = Mem.readBytes (part s p).requestBytes (128 * value.toNat) 128 ∧
        (slotAt t p value.toNat).at_ = s.now ∧ (slotAt t p value.toNat).grant = (part s p).grant)) ∧
    (doorbellTaken s p size value.toNat poisoned = false →
      Does (.doorbell p size value poisoned) s (fun t =>
        t = { s with out := [], parts := t.parts } ∧
        (∀ q, q ≠ p.val → part t q = part s q) ∧
        part t p = { part s p with discards := min ((part s p).discards + 1) 0xFFFF }))

/-- No response of a partition's slots stands under a tag that does not match its storage (R160). -/
def Untagged (s : State) (p : Nat) : Prop := ∀ k, (slotAt s p k).mistagged = false

/-- For a function's BAR0 offset that reaches a partition's window (R130), with the mailbox unit in service, no response
under a wrong tag and the write not poisoned: a 4-byte write at window offset 0x0020 sets moderation to its bits [5:0] and
[25:16], and the function reads that value back; at 0x0048 it sets the receipt ring size to its bits [4:0]; an 8-byte write
at 0x0040 sets the receipt ring base with bits [11:0] zero, and at 0x3000 the event ring base likewise; a 4-byte write at
0x300C sets the event ring control to its bits [1:0]; a byte written in a request slot is stored while the slot is free and
discarded otherwise. At every offset that reaches no window a write changes nothing but what the last step sent, and a read
of any length gives zero in its first byte. -/
def Obligations.WindowRegistersHoldWhatTheHostWrites : Prop :=
  ∀ (h : Fin 2) (fn : Fin 32) (at_ : Fin 524288) (s : State),
    (∀ p off : Nat, barWindow s h fn at_ = some (p, off) → s.faults.mailboxFenced = false → Untagged s p →
      (off = 0x20 → ∀ v : Word32, Does (.registerWrite ⟨h, fn⟩ at_ (leBytes 4 v.toNat) false) s (fun t =>
        (part t p).moderation = bits v.toNat 5 0 + 65536 * bits v.toNat 25 16 ∧
        barRead t h fn at_ 4 = leBytes 4 (bits v.toNat 5 0 + 65536 * bits v.toNat 25 16))) ∧
      (off = 0x48 → ∀ v : Word32, Does (.registerWrite ⟨h, fn⟩ at_ (leBytes 4 v.toNat) false) s (fun t =>
        (part t p).receiptSize = bits v.toNat 4 0)) ∧
      (off = 0x40 → ∀ v : Word64, Does (.registerWrite ⟨h, fn⟩ at_ (leBytes 8 v.toNat) false) s (fun t =>
        (part t p).receiptBase = 4096 * (v.toNat / 4096))) ∧
      (off = 0x3000 → ∀ v : Word64, Does (.registerWrite ⟨h, fn⟩ at_ (leBytes 8 v.toNat) false) s (fun t =>
        (part t p).events.base = 4096 * (v.toNat / 4096))) ∧
      (off = 0x300C → ∀ v : Word32, Does (.registerWrite ⟨h, fn⟩ at_ (leBytes 4 v.toNat) false) s (fun t =>
        (part t p).events.control = bits v.toNat 1 0)) ∧
      (∀ (a : Fin 4096) (b : Byte), off = 0x1000 + a.val →
        Does (.registerWrite ⟨h, fn⟩ at_ [b] false) s (fun t =>
          Mem.read (part t p).requestBytes a =
            (if (slotAt s p (a / 128)).phase = .free then b else Mem.read (part s p).requestBytes a)))) ∧
    (barWindow s h fn at_ = none →
      (∀ (bs : List Byte) (poisoned : Bool), exec (.registerWrite ⟨h, fn⟩ at_ bs poisoned) s = .next { s with out := [] }) ∧
      ∀ n, 0 < n → (barRead s h fn at_ n).head? = some 0)

/-- With the mailbox unit in service and no response under a wrong tag: RECEIPT_RING_CONSUMER_WRITE and
EVENT_RING_CONSUMER_WRITE store their value in an Active or Quiesced partition. PARTITION_CONTROL_ENABLE makes a Quiesced
partition with a programmed receipt ring and a reachable host Active and leaves its enable bit set; in any other state it
changes nothing but what the last step sent. -/
def Obligations.RingIndicesAndControlAreWritten : Prop :=
  ∀ (p : Fin 32) (s : State), s.faults.mailboxFenced = false →
    (∀ v : Word32, Untagged s p → (part s p).state = .active ∨ (part s p).state = .quiesced →
      Does (.receiptRingConsumerWrite p v) s (fun t => (part t p).receiptConsumer = v.toNat) ∧
      Does (.eventRingConsumerWrite p v) s (fun t => (part t p).events.consumer = v.toNat)) ∧
    ((part s p).state = .quiesced → (receiptEntries (part s p)).isSome = true → hostOut s (part s p).port = false →
      Untagged s p →
      Does (.partitionControlEnable p) s (fun t => (part t p).state = .active ∧ (part t p).control = 1)) ∧
    ((part s p).state ≠ .quiesced → exec (.partitionControlEnable p) s = .next { s with out := [] })

/-- In an Active partition with room in its receipt ring, no response under a wrong tag and no earlier sealed outcome
waiting: COMPLETION of a decided slot, with no fault found, writes its receipt at the producer's entry of the receipt ring
first of all, and leaves the slot Free; REFUSAL_COMPLETION of a refused slot does so with device time at least 20 µs after
the registration, and its response slot's first two bytes are the status REFUSED. -/
def Obligations.CompletionDeliversReceiptAndResponse : Prop :=
  ∀ (p k : Fin 32) (s : State) (n : Nat), (part s p).state = .active → s.faults.mailboxFenced = false →
    receiptEntries (part s p) = some n → receiptFree (part s p) = true → Untagged s p →
    (∀ e, (slotAt s p k).phase = .decided → (slotAt s p k).ending = some e → (part s p).sealOrder.head? = some k.val →
      Does (.completion p k none false) s (fun t => (slotAt t p k).phase = .free ∧
        t.out.head? = some (.hostWrite (part s p).port (part s p).fn false
          ((part s p).receiptBase + 96 * ((part s p).receiptProducer % n)) e.receipt))) ∧
    ((slotAt s p k).phase = .refusing → (slotAt s p k).refusal ≠ returnedRefusal → (part s p).sealOrder = [] →
      Does (.refusalCompletion p ⟨k, none, false⟩) s (fun t => (slotAt t p k).phase = .free ∧
        (slotAt s p k).at_ + 20000 ≤ t.now ∧
        Mem.readBytes (part t p).responseBytes (64 * k) 2 = leBytes 2 Status.refused.code))

/-- A command that runs and is not in repair, or was extended once already, ends with TIMEOUT at T and the extension it was
given after its registration; one in repair that was not yet extended is extended by the budget of the layer that retries
for it and goes on. A ready cancel of a target whose outcome is decided or delivered ends with OK and result 0x01, of one
past its point of no return with 0x02, and of any other with 0x00. -/
def Obligations.TimeoutsAndCancelsDecide : Prop :=
  (∀ (p k : Fin 32) (s : State), (slotAt s p k).phase = .running →
    ((slotAt s p k).inRepair = false ∨ (slotAt s p k).extended = true → (slotAt s p k).limitUs ≠ 0 →
      Does (.commandTimeout p k) s (fun t => (slotAt t p k).phase = .decided ∧
        (∃ e, (slotAt t p k).ending = some e ∧ e.status = .timeout) ∧
        t.now = max s.now ((slotAt s p k).at_ + 1000 * (slotAt s p k).limitUs + (slotAt s p k).extraNs))) ∧
    ((slotAt s p k).inRepair = true → (slotAt s p k).extended = false →
      Does (.commandTimeout p k) s (fun t => (slotAt t p k).phase = .running ∧ (slotAt t p k).extended = true ∧
        (slotAt t p k).extraNs = (slotAt s p k).layerNs))) ∧
  (∀ (o : Origin) (s : State) (c : Ctx), Ready 0x0008 (fixed .immediate) cancelChecks o s c → ∀ sl, sl = slotAt s c.p (c.u 0 1) →
    Does (.commandCancel o) s (fun t => Ended t o .ok
      [if sl.phase = .free ∨ outcomeDecided sl = true then 1 else if sl.pastReturn = true then 2 else 0]))

/-- Unmasking the vector of a function that has a pending message and can send it sends exactly that message and clears the
pending bit; without a pending message nothing is sent. When the holdoff that runs from the first pending raise ends, the
raises are cleared, device time is no earlier than the end of the holdoff, and the message is sent where the function can
send it and is not masked, else the pending bit is set. -/
def Obligations.MsixVectorsAreSent : Prop :=
  (∀ (h : Fin 2) (fn : Fin 32) (s : State),
    ((hostFn s h fn).pendingBit = true → fnCanSend s h fn = true →
      Does (.msixUnmask h fn) s (fun t => t = { s with out := [.msix h fn], fns := t.fns } ∧
        (hostFn t h fn).masked = false ∧ (hostFn t h fn).pendingBit = false)) ∧
    ((hostFn s h fn).pendingBit = false →
      Does (.msixUnmask h fn) s (fun t => t = { s with out := [], fns := t.fns } ∧ (hostFn t h fn).masked = false))) ∧
  (∀ (p : Fin 32) (s : State) (from_ : Nat), (part s p).holdoffFrom = some from_ →
    Does (.msixHoldoffExpiry p) s (fun t => (part t p).raises = 0 ∧ (part t p).holdoffFrom = none ∧
      t.now = max s.now (from_ + 1000 * moderationHoldoff (part s p).moderation) ∧
      (if fnCanSend s (part s p).port (part s p).fn = true ∧ (hostFn s (part s p).port (part s p).fn).masked = false
        then t.out = [.msix (part s p).port (part s p).fn]
        else (hostFn t (part s p).port (part s p).fn).pendingBit = true ∧ t.out = [])))

/-- For a registered slot read without error, c its request. Where no check finds anything, Synfy is ready, the number is
new or unseen and no response stands under a wrong tag, the slot runs and the number is in the history as in flight. Where a
check other than a refusal finds a status, the slot is decided with that status. Where no check finds anything and the
number is in flight or behind the window, the slot is decided with BUSY or BAD_PARAMETER, and the history stands; where it
is completed with a first response other than REFUSED, the slot is decided with that response returned if the request bytes
after the header have the same digest, else with BAD_PARAMETER. Where the slot store fails twice, the slot is fenced, and
decided with LASTING if its response storage passes. -/
def Obligations.CommandStartChecksAndLooksUp : Prop :=
  ∀ (p k : Fin 32) (s : State) (c : Ctx), (slotAt s p k).phase = .registered → c = slotCtx p k (slotAt s p k) →
    ((startChecks s.fresh_ c).verdict = none → s.boot.synfyReady = true →
      (part s p).history.place c.seq = .new ∨ (part s p).history.place c.seq = .unseen → Untagged s p →
      Does (.commandStart p k .good) s (fun t => (slotAt t p k).phase = .running ∧ (slotAt t p k).inHistory = true ∧
        (part t p).history.place c.seq = .inFlight)) ∧
    (∀ st, (startChecks s.fresh_ c).verdict = some st → st ≠ .refused →
      Does (.commandStart p k .good) s (fun t => (slotAt t p k).phase = .decided ∧
        ∃ e, (slotAt t p k).ending = some e ∧ e.status = st)) ∧
    ((startChecks s.fresh_ c).verdict = none → s.boot.synfyReady = true → (slotAt s p k).inHistory = false →
      (part s p).history.place c.seq = .inFlight →
      Does (.commandStart p k .good) s (fun t => (part t p).history = (part s p).history ∧
        ∃ e, (slotAt t p k).ending = some e ∧ e.status = .busy)) ∧
    ((startChecks s.fresh_ c).verdict = none → s.boot.synfyReady = true → (slotAt s p k).inHistory = false →
      (part s p).history.place c.seq = .behind →
      Does (.commandStart p k .good) s (fun t => (part t p).history = (part s p).history ∧
        ∃ e, (slotAt t p k).ending = some e ∧ e.status = .badParameter)) ∧
    (∀ digest st result receipt, (startChecks s.fresh_ c).verdict = none → s.boot.synfyReady = true →
      (part s p).history.place c.seq = .completed digest st result receipt → st ≠ .refused →
      Does (.commandStart p k .good) s (fun t => (slotAt t p k).phase = .decided ∧ ∃ e, (slotAt t p k).ending = some e ∧
        (if digest = sha256 c.body then e.status = st ∧ e.result = result ∧ e.returned = true else e.status = .badParameter))) ∧
    (∀ bytes, Does (.commandStart p k (.twice bytes true)) s (fun t => p.val * 32 + k.val ∈ t.fencedSlots ∧
        (slotAt t p k).phase = .decided ∧ ∃ e, (slotAt t p k).ending = some e ∧ e.status = .lasting))

/-- A ready GRANT_MASK_SET, CONVOY_DEADLINE_SET, LOADING_MODE_SET, CLUSTER_MASK_SET or QUOTA_SET ends with OK and leaves the
value of its request in the partition it names (a deadline: in the partition, or for 0x20 and 0x21 in the network port). -/
def Obligations.PartitionSettingsTakeEffect : Prop :=
  ∀ (o : Origin) (s : State) (c : Ctx),
    (Ready 0x0005 (fixed .immediate) grantMaskSetChecks o s c →
      Does (.grantMaskSet o) s (fun t => Ended t o .ok [] ∧ (part t (c.u 0 1)).grant = c.u 2 2)) ∧
    (Ready 0x0006 (fixed .immediate) deadlineChecks o s c →
      Does (.convoyDeadlineSet o) s (fun t => Ended t o .ok [] ∧
        (c.u 0 1 < 32 → (part t (c.u 0 1)).deadlineUs = c.u 1 1) ∧
        (32 ≤ c.u 0 1 → (netAt t (c.u 0 1 - 32)).deadlineUs = c.u 1 1))) ∧
    (Ready 0x0007 (fixed .immediate) loadingModeSetChecks o s c →
      Does (.loadingModeSet o) s (fun t => Ended t o .ok [] ∧ (part t (c.u 0 1)).spillMode = (c.u 1 1 == 1))) ∧
    (Ready 0x0120 (fixed .immediate) clusterMaskSetChecks o s c →
      Does (.clusterMaskSet o) s (fun t => Ended t o .ok [] ∧ (part t (c.u 0 1)).clusterMask = c.u 1 1)) ∧
    (Ready 0x0004 (fixed .control) quotaSetChecks o s c →
      Does (.quotaSet o) s (fun t => (∃ r, Ended t o .ok r ∧ r.length = 4) ∧
        (c.u 1 1 < 9 → (part t (c.u 0 1)).quotas.granules = (part s (c.u 0 1)).quotas.granules.set (c.u 1 1) (c.u 4 4)) ∧
        (c.u 1 1 = 9 → (part t (c.u 0 1)).quotas.spill = c.u 4 4) ∧
        (c.u 1 1 = 10 → (part t (c.u 0 1)).quotas.sync = c.u 4 4) ∧
        (c.u 1 1 = 11 → (part t (c.u 0 1)).quotas.waiters = c.u 4 4) ∧
        (c.u 1 1 = 12 → (part t (c.u 0 1)).quotas.keys = c.u 4 4) ∧
        (c.u 1 1 = 13 → (part t (c.u 0 1)).quotas.convoys = c.u 4 4)))

/-- A ready device identity command ends with OK; result byte 0 is the product code and result bytes 2 and 3 are the tamper
fuse map. A ready fuse blow ends with OK, sets the named source's bit in the fuse map and leaves every other bit and the
product code as they were. -/
def Obligations.IdentityAndStatusAreReported : Prop :=
  ∀ (o : Origin) (s : State) (c : Ctx),
    (Ready 0x0001 (fixed .immediate) noChecks o s c →
      Does (.deviceIdentity o) s (fun t => ∃ r, Ended t o .ok r ∧
        r.take 1 = leBytes 1 s.boot.product ∧ slice r 2 2 = leBytes 2 s.boot.fuses)) ∧
    (Ready 0x0609 (fixed .management) fuseBlowChecks o s c →
      Does (.fuseBlow o) s (fun t => (∃ r, Ended t o .ok r) ∧ t.boot.product = s.boot.product ∧
        bit t.boot.fuses (c.u 0 1) = true ∧ ∀ i, i ≠ c.u 0 1 → bit t.boot.fuses i = bit s.boot.fuses i))

/-- A ready creation whose wrapped receipt key unwraps ends with OK and leaves the partition Active, bound to the function
named, with the grant mask, deadline and unwrapped receipt key given, receipt key epoch 1. A ready teardown of a partition
with no command in a slot, no granule and no sync object of its own leaves the partition Free and ends with OK. When the 1
ms of a teardown is over, device time is no earlier than its end, no slot waits for a full ring any more, and while slots
are still busy the teardown is marked expired. A granule being cleared that is not retiring, where no teardown still holds
its resources, no longer is, and every byte of it reads zero while every byte outside it reads as before. -/
def Obligations.PartitionsComeAndGo : Prop :=
  (∀ (o : Origin) (s : State) (c : Ctx) (key : List Byte), Ready 0x0002 (fixed .control) createChecks o s c →
    unwrapKey s (slice c.body 0x24 40) = some key →
    Does (.partitionCreate o) s (fun t => Ended t o .ok [] ∧ (part t (c.u 0 1)).state = .active ∧
      (part t (c.u 0 1)).port = c.u 1 1 ∧ (part t (c.u 0 1)).fn = c.u 2 2 ∧ (part t (c.u 0 1)).grant = c.u 4 2 ∧
      (part t (c.u 0 1)).deadlineUs = c.u 7 1 ∧ (part t (c.u 0 1)).receiptKey = some key ∧ (part t (c.u 0 1)).epoch = 1)) ∧
  (∀ (o : Origin) (s : State) (c : Ctx), Ready 0x0003 teardownBudget teardownChecks o s c → begun s o = false →
    (part s (c.u 0 1)).slots = [] → partitionGranules s (c.u 0 1) = [] → clearingFor s (c.u 0 1) = [] →
    Tbl.keysWhere s.memory.sync (fun _ x => x.owner == c.u 0 1) = [] →
    Does (.partitionTeardown o) s (fun t => (∃ r, Ended t o .ok r) ∧ (part t (c.u 0 1)).state = .free)) ∧
  (∀ (p : Fin 32) (s : State) (d : Teardown), (part s p).teardown = some d →
    Does (.teardownDiscardExpiry p) s (fun t => t.now = max s.now (d.at_ + 1000000) ∧
      (∀ k, (slotAt s p k).phase = .waiting → (slotAt t p k).phase = .free) ∧
      (slotsBusy t p = true → ∃ d', (part t p).teardown = some d' ∧ d'.expired = true))) ∧
  (∀ (g : Fin 320) (s : State), (granule s g).clearing = true → (granule s g).retiring = none →
    (∀ e ∈ s.parts, ∀ d, e.2.state = .tearing → e.2.teardown = some d → d.released = true) →
    Does (.granuleCleared g) s (fun t => (granule t g).clearing = false ∧
      ∀ a, Mem.read t.memory.bytes a = if a / granuleBytes = g then 0 else Mem.read s.memory.bytes a))

/-- A free number below 192, not swept under the generation it would take, opens for a model run that needs a convoy below
its partition's quota, on a sound model none of whose layer is read from a partner: opened, the generation bit inverted,
owned by the command. An open convoy of no model run, or of a layer whose reads are in and all of whose passes are members
or that is full, is sealed and its deadline starts. A convoy that meets the conditions of R77, carries no run on a damaged
model, whose owner is not being torn down and whose output need not wait for a retiring granule is confirmed, with nothing
held at a gate, and with no signal pending once no parcel of it waits for a port. -/
def Obligations.ConvoysOpenSealAndConfirm : Prop :=
  (∀ (n : Fin 256) (p k : Fin 32) (s : State), n.val < 192 → needsConvoy s p k = true →
    convoysOpen s p < (part s p).quotas.convoys → (convoy s n).state = .free →
    Tbl.get? s.tensor.offloads (p.val * 32 + k.val) = none → runHurt s (p.val * 32 + k.val) = false →
    (∀ l, runLayer s (p.val * 32 + k.val) = some l →
      layerReads (p.val * 32 + k.val) (runCtx s (p.val * 32 + k.val)).seq l = []) →
    (∀ w ∈ s.memory.sweeps, w.convoy = n.val → w.generation = (convoy s n).generation) →
    Does (.convoyOpen n p k) s (fun t => t = { s with out := [], convoys := t.convoys } ∧ (convoy t n).state = .opened ∧
      (convoy t n).generation = !(convoy s n).generation ∧ (convoy t n).owner = some (p.val * 32 + k.val) ∧ (convoy t n).partition = p)) ∧
  (∀ (n : Fin 256) (s : State), (convoy s n).state = .opened →
    (∀ o, runOf s n = some o → (convoy s n).reads = [] ∧ ∃ l, runLayer s o = some l ∧
      (jobAt s o 6 + (convoy s n).members = l.passes ∨ (convoy s n).full = true)) →
    Does (.convoySeal n) s (fun t => (convoy t n).state = .sealed ∧
      (convoy t n).deadlineAt = some (s.now + convoyDeadline s n))) ∧
  (∀ (n : Fin 256) (s : State), confirmable (convoy s n) = true → ownerTorn s n = false → outputWaits s n = false →
    runLost s n = false →
    Does (.convoyConfirm n) s (fun t => (convoy t n).state = .confirmed ∧ (convoy t n).held = [] ∧
      (parcelsWait t n (convoy t n).generation = false → (convoy t n).signals = [])))

/-- An open or sealed convoy that is cancelled is cancelling with no held parcel and no pending signal, its cause is
recorded and counted once. A sealed convoy whose deadline expires is cancelled with the deadline cause, unless it is in
repair and not yet extended: then its deadline moves by 2 µs. Once every acknowledgement is in: a convoy cancelled at its
first attempt by a cause that allows a re-run, which nothing bars, opens again as attempt 2 with the other generation; a
confirmed convoy of a command with no layer left, with no signal pending and no parcel that waits for a port, becomes free
and its command ends with OK. -/
def Obligations.ConvoysAreCancelledAndRerunOnce : Prop :=
  (∀ (n : Fin 256) (cause : CancelCause) (group : Fin 23) (index : Fin 1024) (s : State),
    (convoy s n).state = .opened ∨ (convoy s n).state = .sealed →
    Does (.convoyCancel n cause group index) s (fun t => (convoy t n).state = .cancelling ∧ (convoy t n).held = [] ∧
      (convoy t n).signals = [] ∧ (convoy t n).cause = some cause ∧
      counter t 0x0201 (causeIndex cause) = satAdd 32 (counter s 0x0201 (causeIndex cause)) 1)) ∧
  (∀ (n : Fin 256) (s : State) (d : Nat), (convoy s n).state = .sealed → (convoy s n).deadlineAt = some d →
    Does (.convoyDeadlineExpiry n) s (fun t => t.now = max s.now d ∧
      (if (convoy s n).inRepair = true ∧ (convoy s n).extended = false
        then (convoy t n).state = .sealed ∧ (convoy t n).deadlineAt = some (d + 2000) ∧ (convoy t n).extended = true
        else (convoy t n).state = .cancelling ∧ (convoy t n).cause = some .deadline))) ∧
  (∀ (n : Fin 256) (hostData : List Byte) (s : State) (o : Nat) (cause : CancelCause), (convoy s n).acksOwed = [] →
    (convoy s n).owner = some o →
    ((convoy s n).state = .cancelling → (convoy s n).cause = some cause → allowsRerun cause = true → (convoy s n).attempt < 2 →
      Tbl.get? s.tensor.offloads o = none → rerunBarred s (convoy s n) = none →
      (∀ w ∈ s.memory.sweeps, w.convoy = n.val → w.generation = (convoy s n).generation) →
      Does (.convoyResolved n hostData) s (fun t => (convoy t n).state = .opened ∧ (convoy t n).attempt = 2 ∧
        (convoy t n).generation = !(convoy s n).generation)) ∧
    ((convoy s n).state = .confirmed → (convoy s n).signals = [] → parcelsWait s n (convoy s n).generation = false →
      runOf s n = none → (slotAt s (o / 32) (o % 32)).phase = .running →
      Does (.convoyResolved n hostData) s (fun t => (convoy t n).state = .free ∧
        (slotAt t (o / 32) (o % 32)).phase = .decided ∧
        ∃ e, (slotAt t (o / 32) (o % 32)).ending = some e ∧ statusFor .ok e.status)))

/-- A parcel written into a granted, unfenced queue with credit and both its ends up, and passing every condition of R65
advances its stream to the following sequence modulo 2²⁴; one that fails is counted by class and condition, and the live
convoy it is in is cancelled; a number that is no queue of its class stops the machine. A producer found without credit is
marked as reported and its stalled cycles are counted. A domain with a clock, held in reset and not restarting or fenced,
leaves reset, and every queue with an end in it is empty but for its unusable entries, with both counts zero and, with both
ends up and its consumer's unit ready, granted its full credit. -/
def Obligations.QueuesKeepCreditAndStreams : Prop :=
  (∀ (cls : Fin 24) (n : Fin 16) (parcel : List Byte) (s : State), n.val < classInstances.getD cls 0 →
    (queueAt s cls n).granted = true → (queueAt s cls n).credit ≠ 0 → (queueAt s cls n).fenced = false →
    endUp s (producerDomain cls n) = true → endUp s (consumerDomain cls n) = true →
    ∀ w, w = slice parcel 0 32 →
    (failedCondition s cls n w (parcel.drop 32) = none →
      Does (.parcelCheck cls n parcel) s (fun t =>
        Tbl.getD t.streams (streamKey (field w 1 1) (field w 2 1) (field w 4 1 % 32)) 0 = (field w 8 3 + 1) % 2 ^ 24)) ∧
    (∀ cond m, failedCondition s cls n w (parcel.drop 32) = some cond → parcelConvoy s w = some m →
      Does (.parcelCheck cls n parcel) s (fun t => (convoy t m).state = .cancelling ∧
        counter t 0x0200 (cls * 256 + cond) = satAdd 32 (counter s 0x0200 (cls * 256 + cond)) 1))) ∧
  (∀ (cls : Fin 24) (n : Fin 16) (parcel : List Byte) (s : State), classInstances.getD cls 0 ≤ n.val →
    exec (.parcelCheck cls n parcel) s = .fault .noSuchQueue) ∧
  (∀ (cls : Fin 24) (n : Fin 16) (cycles : Nat) (s : State), n.val < classInstances.getD cls 0 →
    producerStalled s cls n = true →
    Does (.creditStall cls n cycles) s (fun t => (queueAt t cls n).stallReported = true ∧
      counter t 0x0100 cls = satAdd 32 (counter s 0x0100 cls) cycles)) ∧
  (∀ (d : Fin 19) (s : State), (domain s d).inReset = true → (domain s d).restarting = false → (domain s d).clock = true →
    (domain s d).fenced = false →
    Does (.domainLeaveReset d) s (fun t => (domain t d).inReset = false ∧
      ∀ cls n, 4 < cls → cls < 24 → n < classInstances.getD cls 0 →
        producerDomain cls n = some d.val ∨ consumerDomain cls n = some d.val →
        (queueAt t cls n).sent = 0 ∧ (queueAt t cls n).freed = 0 ∧ (queueAt t cls n).units = [] ∧
        (queueAt t cls n).occupied = (queueAt t cls n).unusable ∧
        (endUp t (producerDomain cls n) = true → endUp t (consumerDomain cls n) = true → unitReady t cls n = true →
          (queueAt t cls n).granted = true ∧ (queueAt t cls n).credit = classCredit s cls n)))

/-- A ready run of an undamaged model, with nothing fenced, poisoned or provisional in its way, goes on with its job set to
its first layer and layer count, none done. A ready offload whose buffers can be read and written goes on, with its port,
depth, block count and operands on record. A tile pass of an open layer that still lacks passes, admitted on its tile, on a
sound model none of whose granules is retiring, becomes one more member that owes one more check and waits, with what its
cells hold, for its picot check. Partner checking is set as asked. -/
def Obligations.RunsAndOffloadsStart : Prop :=
  (∀ (o : Origin) (input : List Byte) (s : State) (c : Ctx) (m : Model), Ready 0x0110 modelRunBudget modelRunChecks o s c →
    begun s o = false → modelOf s c.p (c.u 0 2) = some m → m.damaged = 0 → modelPoisoned s m = false →
    s.memory.models.all (fun e => e.2.damaged == 0) = true → tensorFenced s = false → spillFenced s = false →
    descReadMeets s c.p (c.desc 0x08) = none → descWriteMeets s c.p (c.desc 0x18) = none →
    Does (.modelRun o ⟨input, none⟩ none) s (fun t => GoesOn t o ∧ t.fresh = s.fresh + 1 ∧
      (slotAt t c.p c.k).job = [c.u 2 2, runCount c m, 0, 0, 0, s.fresh, 0])) ∧
  (∀ (o : Origin) (hostData : List Byte) (s : State) (c : Ctx), Ready 0x0111 offloadBudget offloadChecks o s c →
    begun s o = false → descReadMeets s c.p (c.desc 0x10) = none → descWriteMeets s c.p (c.desc 0x20) = none →
    Does (.blockOffload o ⟨hostData, none⟩) s (fun t => GoesOn t o ∧ ∃ x, Tbl.get? t.tensor.offloads (c.p * 32 + c.k) = some x ∧
      x.port = c.u 0 1 ∧ x.k = c.u 4 4 ∧ x.blocks = c.u 8 4 ∧ x.operands = readDesc s c.p (c.desc 0x10) hostData)) ∧
  (∀ (n : Fin 256) (cluster : Fin 8) (tile : Fin 16) (pass : TilePass) (s : State) (o : Nat) (m : Model) (l : Layer),
    runOf s n = some o → runModel s o = some m → runLayer s o = some l → (convoy s n).state = .opened → (convoy s n).members < l.passes →
    passAdmitted s (convoy s n) m l cluster (tileOf s cluster tile) pass = true → runRetiring s o = false → runHurt s o = false →
    Does (.tilePassComplete n cluster tile pass) s (fun t => (convoy t n).members = (convoy s n).members + 1 ∧
      (convoy t n).checksOwed = (convoy s n).checksOwed + 1 ∧
      t.tensor.passes = s.tensor.passes ++ [⟨cluster, tileOf s cluster tile, n, (convoy s n).generation, pass, heldCells pass⟩])) ∧
  (∀ (o : Origin) (s : State) (c : Ctx), Ready 0x0122 (fixed .immediate) partnerCheckingSetChecks o s c →
    Does (.partnerCheckingSet o) s (fun t => Ended t o .ok [] ∧
      (portAt t (c.u 0 1)).checking = some (c.u 1 1 == 1, c.u 2 2)))

/-- The oldest pass of a cluster, in a live convoy of its generation, leaves the comparator's queue: with no mismatch found
its convoy owes one check less and counts one picot more, and the outputs leave its tile; with a picot mismatch the convoy
is cancelling and the tile's mismatch counter rises. The oldest complete block of an offload that passes inline verification
is verified, and one that fails cancels its convoy; the recomputation on a tile of the drawn block that runs there or falls
to it, itself free of a picot mismatch, does the same by agreement. -/
def Obligations.ResultsAreChecked : Prop :=
  (∀ (cluster : Fin 8) (s : State) (x : PendingPass), s.tensor.passes.find? (fun x => x.cluster == cluster.val) = some x →
    (convoy s x.convoy).state = .opened ∨ (convoy s x.convoy).state = .sealed →
    (convoy s x.convoy).generation = x.generation →
    (cellFailure x.pass x.cells = none → x.pass.errors.readoutDiffers = false → x.pass.errors.lane = none →
      Does (.picotCheck cluster) s (fun t => t.tensor.passes = s.tensor.passes.erase x ∧
        (convoy t x.convoy).checksOwed = (convoy s x.convoy).checksOwed - 1 ∧
        (convoy t x.convoy).picots = (convoy s x.convoy).picots + 1 ∧
        Tbl.get? t.tensor.outputs (x.cluster * 17 + x.tile) = some (readoutOf x.pass x.cells))) ∧
    (∀ f, cellFailure x.pass x.cells = some f →
      Does (.picotCheck cluster) s (fun t => (convoy t x.convoy).state = .cancelling ∧
        counter t 0x0500 (x.cluster * 17 + x.tile) = satAdd 16 (counter s 0x0500 (x.cluster * 17 + x.tile)) 1))) ∧
  (∀ (n : Fin 8) (s : State) (o : Nat) (x : Offload) (m : Nat), checkable s n (fun x => !x.ready.isEmpty) = some (o, x) →
    offloadConvoy s o = some m →
    Does (.partnerBlockCheck n) s (fun t => if blockVerified x (x.ready.headD 0) = true
      then ∃ x', Tbl.get? t.tensor.offloads o = some x' ∧ x.ready.headD 0 ∈ x'.verified
      else (convoy t m).state = .cancelling)) ∧
  (∀ (n cluster : Fin 8) (tile : Fin 17) (s : State) (o : Nat) (x : Offload) (m b : Nat),
    checkable s n (fun x => !x.drawn.isEmpty) = some (o, x) → offloadConvoy s o = some m →
    mayRecompute s o cluster tile = true → recomputedBlock s o x cluster tile = some b →
    Does (.recomputationComplete n cluster tile ⟨[], false, none⟩) s (fun t =>
      picotFailure (recomputation x b ⟨[], false, none⟩) = none →
      if blockAgrees x b (recomputation x b ⟨[], false, none⟩) (capFlag s n 2) = true
        then ∃ x', Tbl.get? t.tensor.offloads o = some x' ∧ b ∈ x'.verified
        else (convoy t m).state = .cancelling))

/-- A running clock that is lost leaves its domain in reset and restarting, counted; a restart that passes lets an unfenced
domain leave reset, and one that fails fences a domain of KT, a host port, storage or spill memory. A first crossing fault
empties a queue in use. A transient lockstep mismatch marks the running commands as recovered beneath; a lasting one ends
each with LASTING and takes its pair offline. A management core mismatch makes it resume, a lasting one enters its safe
state, and a resumption is counted as over. A convoy table mismatch cancels every open or sealed convoy. A checker that
missed its injected error, but not the second, is counted, and its resource's transient count rises. -/
def Obligations.CheckersReportAndClassify : Prop :=
  (∀ (d : Fin 19) (s : State), clockRuns s d = true → Does (.clockLoss d) s (fun t => (domain t d).clock = false ∧
      (domain t d).inReset = true ∧ (domain t d).restarting = true ∧
      counter t 0x0101 d = satAdd 16 (counter s 0x0101 d) 1)) ∧
  (∀ (d : Fin 19) (s : State), (domain s d).restarting = true → (domain s d).fenced = false →
    Does (.clockRestartEnd d true) s (fun t => (domain t d).clock = true ∧ (domain t d).inReset = false ∧
      (domain t d).restarting = false) ∧
    (d.val ∈ [1, 5, 6, 7, 18] → Does (.clockRestartEnd d false) s (fun t => (domain t d).fenced = true ∧
      (domain t d).restarting = false))) ∧
  (∀ (cls : Fin 24) (n : Fin 16) (parity : Bool) (s : State), queueInUse s cls n = true →
    (queueAt s cls n).fenced = false → (queueAt s cls n).lastFault = none →
    Does (.crossingFault cls n parity) s (fun t => (queueAt t cls n).units = [] ∧ (queueAt t cls n).sent = 0 ∧
      (queueAt t cls n).freed = 0 ∧ (queueAt t cls n).lastFault = some s.now)) ∧
  (∀ (pair : Fin 2) (o : Fin 1024) (s : State), s.faults.pairs = [0, 1] →
    (slotAt s (o.val / 32) (o.val % 32)).phase = .running →
    Does (.lockstepMismatch pair false [o]) s (fun t => t.faults.pairs = [0, 1] ∧
      (slotAt t (o.val / 32) (o.val % 32)).lower = true) ∧
    Does (.lockstepMismatch pair true [o]) s (fun t => t.faults.pairs = [1 - pair.val] ∧
      ∃ e, (slotAt t (o.val / 32) (o.val % 32)).ending = some e ∧ e.status = .lasting)) ∧
  (∀ s : State, managementRuns s = true → s.faults.resuming = false →
    Does (.managementCoreMismatch false) s (fun t => t.faults.resuming = true) ∧
    Does (.managementCoreMismatch true) s (fun t => t.faults.safeState = true)) ∧
  (∀ s : State, s.faults.resuming = true → Does .managementCoreResumed s (fun t => t.faults.resuming = false)) ∧
  (∀ s : State, s.boot.mainOn = true → s.faults.tableMismatch = none →
    Does .convoyTableMismatch s (fun t => t.faults.tableMismatch = some s.now ∧
      ∀ n, (convoy s n).state = .opened ∨ (convoy s n).state = .sealed → (convoy t n).state = .cancelling)) ∧
  (∀ (checker : Fin 12) (number : Fin 1024) (group : Fin 23) (index : Fin 1024) (s : State), group.val ≠ 0 →
    s.boot.mainOn = true →
    Does (.checkerExercise checker number group index false true) s (fun t =>
      counter t 0x0304 (checkerClass checker) = satAdd 16 (counter s 0x0304 (checkerClass checker)) 1 ∧
      counter t 0x0300 (group.val * 1024 + index.val) = satAdd 16 (counter s 0x0300 (group.val * 1024 + index.val)) 1))

/-- A released port with the rails up and nothing of it fenced trains, and becomes ready with its link up. PERST#, or a link
that goes down, leaves the port without a link and every Active partition bound on it Quiesced; so does, for its own
function, a Function Level Reset (until its completion the function is in reset) and the clearing of Bus Master Enable.
Setting Bus Master Enable, and NumVFs while VF Enable is clear, takes effect. An uncorrectable error of a port with its link
up is logged. A failed host read of a running command leaves it to end with RECOVERED after one failure, and ends it with
INTEGRITY or ABSENT after two. -/
def Obligations.HostPortsAndFunctionsReset : Prop :=
  (∀ (h : Fin 2) (s : State), s.boot.mainOn = true →
    ((hostPort s h).perst = true → hostOut s h = false → Does (.perstRelease h) s (fun t =>
      (hostPort t h).perst = false ∧ (hostPort t h).training = true ∧ (domain t (5 + h)).clock = true)) ∧
    (∀ w r, (hostPort s h).training = true → (hostPort s h).perst = false → hostOut s h = false →
      Does (.hostPortReady h w r) s (fun t => (hostPort t h).linkUp = true ∧ (hostPort t h).ready = true ∧
        (hostPort t h).training = false)) ∧
    (∀ cause, (hostPort s h).linkUp = true → Does (.hostLinkDown h cause) s (fun t => (hostPort t h).linkUp = false ∧
      ∀ p, (part s p).state = .active → (part s p).port = h → (part t p).state = .quiesced)) ∧
    ((hostPort s h).perst = false → Does (.perstAssert h) s (fun t => (hostPort t h).perst = true ∧
      (hostPort t h).linkUp = false ∧
      ∀ p, (part s p).state = .active → (part s p).port = h → (part t p).state = .quiesced)) ∧
    (∀ fn status, (hostPort s h).linkUp = true → Does (.aerUncorrectable h fn status) s (fun t =>
      (hostPort t h).aerFunction = fn ∧ (hostPort t h).aerStatus = (hostPort s h).aerStatus ||| status.toNat))) ∧
  (∀ (h : Fin 2) (fn : Fin 32) (s : State), fnPresent s h fn = true → (hostFn s h fn).flr = false →
    Does (.functionLevelReset h fn) s (fun t => (hostFn t h fn).flr = true ∧ (hostFn t h fn).bme = false ∧
      ∀ p, (part s p).state = .active → (part s p).port = h → (part s p).fn = fn → (part t p).state = .quiesced) ∧
    ((hostFn s h fn).bme = true → Does (.functionDisabled h fn .busMasterCleared) s (fun t => (hostFn t h fn).bme = false ∧
      ∀ p, (part s p).state = .active → (part s p).port = h → (part s p).fn = fn → (part t p).state = .quiesced)) ∧
    Does (.configurationWrite h fn (.busMaster true)) s (fun t => (hostFn t h fn).bme = true) ∧
    (∀ n, fn = 0 → (hostPort s h).vfEnable = false →
      Does (.configurationWrite h fn (.numVfs n)) s (fun t => (hostPort t h).numVfs = n))) ∧
  (∀ (h : Fin 2) (fn : Fin 32) (s : State), (hostFn s h fn).flr = true →
    Does (.flrComplete h fn) s (fun t => t = { s with out := [], fns := t.fns } ∧ (hostFn t h fn).flr = false)) ∧
  (∀ (p k : Fin 32) (poisoned : Bool) (s : State), (slotAt s p k).phase = .running →
    fnCanSend s (part s p).port (part s p).fn = true →
    Does (.hostDmaReadFailure p k poisoned false) s (fun t => (slotAt t p k).phase = .running ∧ (slotAt t p k).lower = true) ∧
    Does (.hostDmaReadFailure p k poisoned true) s (fun t => ∃ e, (slotAt t p k).ending = some e ∧
      e.status = if poisoned = true then .integrity else .absent))

/-- In an Active partition with the mailbox unit and a digest engine in service: initialise with code 1 to 5 puts an idle
context in Absorbing with the algorithm's initial chaining state; HMAC codes 6 to 8 hold it busy; clear puts it in Idle. In
Absorbing and not busy, a data write appends 8 bytes and adds 8 to the length, busy exactly when a block is full; a tail
write stores its bytes; a finish write of 0 to 7, and an export write of 1, hold it busy; an import write holds any context
busy that is neither busy nor in Overrun. A data write to a busy context puts it in Overrun. No write changes another
partition or another context. -/
def Obligations.DigestContextsFollowTheirWrites : Prop :=
  ∀ (p : Fin 32) (x : Fin 2) (s : State), digestLive s p = true → noDigestEngine s = false →
    ((digestAt s p x).busy = false →
      (∀ v : Word32, 1 ≤ v.toNat → v.toNat ≤ 5 → Does (.digestInitialise p x v) s (fun t =>
        (digestAt t p x).state = .absorbing ∧ (digestAt t p x).alg = v.toNat ∧ (digestAt t p x).busy = false ∧
        (digestAt t p x).length = 0 ∧ (digestAt t p x).chain = initialChain v.toNat)) ∧
      (∀ a, Does (.digestHmacInitialise p x a) s (fun t => (digestAt t p x).busy = true ∧ (digestAt t p x).alg = 6 + a.val)) ∧
      Does (.digestClear p x) s (fun t => (digestAt t p x).state = .idle ∧ (digestAt t p x).length = 0) ∧
      ((digestAt s p x).state ≠ .overrun → Does (.digestImport p x) s (fun t => (digestAt t p x).busy = true)) ∧
      ((digestAt s p x).state = .absorbing →
        (∀ v, Does (.digestData p x v) s (fun t => (digestAt t p x).buffer = (digestAt s p x).buffer ++ leBytes 8 v.toNat ∧
          (digestAt t p x).length = ((digestAt s p x).length + 8) % 2 ^ 128 ∧
          (digestAt t p x).busy = decide (blockSize (digestAt s p x).alg ≤ (digestAt s p x).buffer.length + 8) ∧
          t = { s with out := [], parts := t.parts } ∧ (∀ q, q ≠ p.val → part t q = part s q) ∧
          (∀ y, y ≠ x.val → digestAt t p y = digestAt s p y))) ∧
        (∀ v, Does (.digestTailData p x v) s (fun t => (digestAt t p x).tail = leBytes 8 v.toNat)) ∧
        (∀ v : Word32, v.toNat ≤ 7 → Does (.digestFinish p x v) s (fun t => (digestAt t p x).busy = true ∧
          (digestAt t p x).tail = (digestAt s p x).tail.take v.toNat)) ∧
        Does (.digestExport p x 1) s (fun t => (digestAt t p x).busy = true))) ∧
    ((digestAt s p x).busy = true → ∀ v, Does (.digestData p x v) s (fun t => (digestAt t p x).state = .overrun ∧
      (digestAt t p x).buffer = (digestAt s p x).buffer))

/-- A busy context whose full block ends without a fault has that block compressed into its chaining state; one whose finish
ends holds the digest and is Done. An HMAC initialisation of a slot that holds an HMAC key allowed for digests ends in
Absorbing at least 20 µs after it began, one of a slot the partition does not own in Idle with result REFUSED. An export
ends at least 5 µs after it began with the saved state in the saved bytes, an import with the state those bytes restore. In
each the context is no longer busy. -/
def Obligations.DigestWorkEnds : Prop :=
  ∀ (p : Fin 32) (x : Fin 2) (s : State) (d : DigestCtx), digestAt s p x = d → d.busy = true → d.state ≠ .overrun →
    (d.pendingWork = 1 → Does (.digestBlockComplete p x none) s (fun t => (digestAt t p x).busy = false ∧
      (digestAt t p x).chain = compressBlocks d.alg d.chain (d.buffer.take (blockSize d.alg)) ∧
      (digestAt t p x).buffer = d.buffer.drop (blockSize d.alg))) ∧
    (d.pendingWork = 5 → Does (.digestBlockComplete p x none) s (fun t => (digestAt t p x).busy = false ∧
      (digestAt t p x).state = .done ∧ (digestAt t p x).digest = contextDigest d d.tail)) ∧
    (∀ k, d.pendingWork = 2 → keySlotOf s p d.keySlot = some k → k.kind = 6 → bit k.usage 7 = true →
      Does (.digestHmacInitEnd p x) s (fun t => t.now = max s.now (d.since + 20000) ∧ (digestAt t p x).busy = false ∧
        (digestAt t p x).state = .absorbing)) ∧
    (d.pendingWork = 2 → keySlotOf s p d.keySlot = none →
      Does (.digestHmacInitEnd p x) s (fun t => (digestAt t p x).busy = false ∧ (digestAt t p x).state = .idle ∧
        (digestAt t p x).result = Status.refused.code)) ∧
    (d.pendingWork = 3 → keyedAlg d.alg = false → Does (.digestSaveEnd p x) s (fun t => t.now = max s.now (d.since + 5000) ∧
      (digestAt t p x).busy = false ∧ (digestAt t p x).saved = savedState d p x 0 [])) ∧
    (d.pendingWork = 4 → Does (.digestSaveEnd p x) s (fun t => t.now = max s.now (d.since + 5000) ∧
      (digestAt t p x).busy = false ∧
      (savedFieldsOk d.saved = false → (digestAt t p x).state = .idle ∧ (digestAt t p x).result = Status.badParameter.code)))

/-- A ready creation takes the lowest free index i, raises its generation and ends with OK and the handle; the extent holds
partition, link, namespace, first LBA, count and key slot of the request, and every other index reads as before. A ready
destruction ends with OK, the handle names no extent any more and every other index reads as before. A drive query reports a
ready drive's namespaces, version and serial number, or zeros. A drive found at link training or at the probe 1 s after the
last look is ready with its attachable namespaces; one not found is absent, and stays absent at a probe. -/
def Obligations.ExtentsAndDrivesAreManaged : Prop :=
  (∀ (o : Origin) (s : State) (c : Ctx),
    (∀ i, Ready 0x0401 (fixed .control) extentCreateChecks o s c → i < 64 → Tbl.get? s.extents i = none →
      (∀ j, j < i → (Tbl.get? s.extents j).isSome = true) →
      Does (.extentCreate o) s (fun t => Ended t o .ok (leBytes 4 (i + 65536 * generation t 4 i)) ∧
        generation t 4 i = (generation s 4 i + 1) % 65536 ∧
        Tbl.get? t.extents i = some ⟨c.u 0 1, c.u 1 1, c.u 2 2, c.u 8 8, c.u 0x10 8, c.u 4 4⟩ ∧
        ∀ j, j ≠ i → Tbl.get? t.extents j = Tbl.get? s.extents j)) ∧
    (Ready 0x0402 (fixed .immediate) extentDestroyChecks o s c →
      Does (.extentDestroy o) s (fun t => Ended t o .ok [] ∧ extentAny t (c.u 0 4) = none ∧
        ∀ j, j ≠ c.u 0 4 % 64 → Tbl.get? t.extents j = Tbl.get? s.extents j)) ∧
    (Ready 0x0407 (fixed .immediate) driveQueryChecks o s c → ∀ d, d = drive s (c.u 0 1) →
      Does (.driveQuery o) s (fun t => Ended t o .ok (if d.ready then
        [1] ++ leBytes 1 d.namespaces.length ++ [0, 0] ++ leBytes 4 d.version ++ slice d.serial 0 20
        else List.replicate 28 0)))) ∧
  (∀ (k : Fin 4) (s : State) (i : DriveInfo), storageOut s = false →
    (s.boot.synfyReady = true → linkExists s k = true → (drive s k).ready = false → (drive s k).absent = false →
      Does (.driveReady k (some i)) s (fun t => (drive t k).ready = true ∧ (drive t k).namespaces = attachable i ∧
        (drive t k).version = i.version ∧ ∀ j, j ≠ k.val → drive t j = drive s j) ∧
      Does (.driveReady k none) s (fun t => (drive t k).ready = false ∧ (drive t k).absent = true ∧
        (drive t k).probedAt = s.now)) ∧
    ((drive s k).absent = true →
      Does (.driveProbe k none) s (fun t => (drive t k).absent = true ∧ t.now = max s.now ((drive s k).probedAt + 1000000000) ∧
        (drive t k).probedAt = t.now) ∧
      Does (.driveProbe k (some i)) s (fun t => (drive t k).ready = true ∧ (drive t k).absent = false ∧
        (drive t k).namespaces = attachable i)))

/-- A ready storage command within its extent e goes on and its NVMe command stands outstanding: opcode 2, 1, 0 or 9, the
namespace, the absolute first LBA and the LBA count of the request. Exactly that command goes out of a read, a flush and a
deallocation. A write whose data can be read, with no fault in its cipher engine, is past its point of no return, and the
data that goes out are the AES-XTS encryption of what was read, each LBA tweaked by its absolute number. -/
def Obligations.StorageCommandsReachTheDrive : Prop :=
  ∀ (o : Origin) (s : State) (c : Ctx) (e : Extent), begun s o = false → extentOf s c.p (c.u 0 4) = some e →
    (Ready 0x0403 (fixed .storage) storageReadChecks o s c → ∀ d, d = (⟨e.link, 2, e.ns, e.start + c.u 8 8 / lbaSize s e,
        (c.desc 0x10).len / lbaSize s e, [], s.now, false⟩ : DriveCmd) →
      Does (.storageRead o) s (fun t => GoesOn t o ∧ Tbl.get? t.driveCmds (c.p * 32 + c.k) = some d ∧
        t.out = [.nvme d.link d.opcode d.ns d.lba d.len []])) ∧
    (∀ (hostData : List Byte) (key : List Byte), Ready 0x0404 (fixed .storage) storageWriteChecks o s c →
      descReadMeets s c.p (c.desc 0x10) = none → keyBytes s e.keySlot = some key → (cipherEngine s).isSome = true →
      ∀ bs lba, bs = readDesc s c.p (c.desc 0x10) hostData → lba = e.start + c.u 8 8 / lbaSize s e →
      Does (.storageWrite o ⟨hostData, none⟩ .none) s (fun t => GoesOn t o ∧ (slotAt t c.p c.k).pastReturn = true ∧
        Tbl.get? t.driveCmds (c.p * 32 + c.k) = some ⟨e.link, 1, e.ns, lba, bs.length / lbaSize s e,
          xtsUnits key true (lbaSize s e) (bs.length / lbaSize s e) lba bs, s.now, false⟩)) ∧
    (Ready 0x0405 (fixed .storage) flushChecks o s c →
      Does (.flush o) s (fun t => GoesOn t o ∧ t.out = [.nvme e.link 0 e.ns e.start 0 []] ∧
        Tbl.get? t.driveCmds (c.p * 32 + c.k) = some ⟨e.link, 0, e.ns, e.start, 0, [], s.now, false⟩)) ∧
    (Ready 0x0406 (fixed .storage) deallocateChecks o s c →
      ∀ d, d = (⟨e.link, 9, e.ns, e.start + c.u 8 8 / lbaSize s e, c.u 0x10 8 / lbaSize s e, [], s.now, false⟩ : DriveCmd) →
      Does (.deallocate o) s (fun t => GoesOn t o ∧ Tbl.get? t.driveCmds (c.p * 32 + c.k) = some d ∧
        t.out = [.nvme d.link d.opcode d.ns d.lba d.len []]))

/-- For an outstanding command d of a running slot: status 0 of a command other than a read ends it with OK; status 0 of a
read, its extent, key, cipher engine and destination usable and no parcel of it lost, ends it with OK, and the decrypted
data go to host memory where the request says so; a status with Do Not Retry, or any failure of a reissued command, ends it
with INTEGRITY and that status; any other failure reissues d once, which raises counter 0x0802 of its link. A controller
that reports a fatal status and was not reset within the last second is reset: counter 0x0803 rises, and after a reset that
works every command of the link stands issued anew; one that fails again within 1 s makes the drive absent. -/
def Obligations.DrivesCompleteFailAndRecover : Prop :=
  (∀ (p k : Fin 32) (status : BitVec 15) (data : List Byte) (s : State) (d : DriveCmd),
    Tbl.get? s.driveCmds (p * 32 + k) = some d → (slotAt s p k).phase = .running →
    (status.toNat % 2048 = 0 → d.opcode ≠ 2 →
      Does (.driveCompletion p k status data .none) s (fun t => Ended t (.mbx p k) .ok [] ∧
        Tbl.get? t.driveCmds (p * 32 + k) = none)) ∧
    (∀ c e key, c = slotCtx p k (slotAt s p k) → extentOf s p (c.u 0 4) = some e → keyBytes s e.keySlot = some key →
      (cipherEngine s).isSome = true → descWriteMeets s p (c.desc 0x10) = none → status.toNat % 2048 = 0 → d.opcode = 2 →
      (slotAt s p k).lostHop = none →
      ∀ bs, bs = slice data 0 (c.desc 0x10).len →
      Does (.driveCompletion p k status data .none) s (fun t => Ended t (.mbx p k) .ok [] ∧
        ((c.desc 0x10).kind ≠ 2 → t.out = [.hostWrite (part s p).port (part s p).fn (relaxedFor s p) (c.desc 0x10).loc
          (xtsUnits key false (lbaSize s e) (bs.length / lbaSize s e) d.lba bs)]))) ∧
    (status.toNat % 2048 ≠ 0 → bit status.toNat 14 = true ∨ d.reissued = true →
      Does (.driveCompletion p k status data .none) s (fun t => Ended t (.mbx p k) .integrity (leBytes 2 status.toNat))) ∧
    (status.toNat % 2048 ≠ 0 → bit status.toNat 14 = false → d.reissued = false →
      Does (.driveCompletion p k status data .none) s (fun t => (slotAt t p k).phase = .running ∧
        Tbl.get? t.driveCmds (p * 32 + k) = some { d with reissued := true, issuedAt := s.now } ∧
        counter t 0x0802 d.link = satAdd 32 (counter s 0x0802 d.link) 1))) ∧
  (∀ (k : Fin 4) (s : State), (drive s k).ready = true →
    ((drive s k).resetAt = none ∨ (∃ r, (drive s k).resetAt = some r ∧ r + 1000000000 < s.now) →
      Does (.driveCommandTimeout k true true) s (fun t => (drive t k).resetAt = some s.now ∧ (drive t k).ready = true ∧
        counter t 0x0803 k = satAdd 16 (counter s 0x0803 k) 1 ∧
        ∀ n d, Tbl.get? s.driveCmds n = some d → d.link = k.val →
          ∃ d', Tbl.get? t.driveCmds n = some d' ∧ d'.reissued = true ∧ d'.issuedAt = s.now)) ∧
    (∀ r, (drive s k).resetAt = some r → s.now ≤ r + 1000000000 →
      Does (.driveCommandTimeout k true true) s (fun t => (drive t k).absent = true ∧ (drive t k).ready = false)))

/-- A ready allocation that a unit u can serve takes the lowest free index i and the first free granules of u, which the
region then holds, and ends with OK and the handle. A ready release of a live region ends with OK, the handle names nothing
any more, and its granules in service are held by nothing and being cleared. A ready transfer below its partition's convoy
quota, with a number free, no hop that lost a parcel of it, a source that can be read and a destination that can be written
ends with OK: bytes of host memory go out as one write and node memory stays as it was; bytes of node memory land in the
region, every address outside them reads as before, and nothing goes out. -/
def Obligations.RegionsAreAllocatedFreedAndCopied : Prop :=
  ∀ (o : Origin) (s : State) (c : Ctx),
    (∀ u i, Ready 0x0201 (fixed .immediate) regionAllocateChecks o s c → regionUnit s c = some u →
      firstIndex 256 (fun i => (Tbl.get? s.memory.regions (c.p * 256 + i)).isNone) = some i →
      Does (.regionAllocate o) s (fun t => Ended t o .ok (leBytes 4 (i + 65536 * generation t 0 (c.p * 256 + i))) ∧
        Tbl.get? t.memory.regions (c.p * 256 + i) = some ⟨(freeGranules s c.p u).take (c.u 2 2), false⟩ ∧
        (∀ g ∈ (freeGranules s c.p u).take (c.u 2 2), (granule t g).holder = some (.region c.p i)) ∧
        t.memory.bytes = s.memory.bytes)) ∧
    (∀ r, Ready 0x0202 (fixed .immediate) regionFreeChecks o s c → regionOf s c.p (c.u 0 4) = some r →
      Does (.regionFree o) s (fun t => Ended t o .ok [] ∧ regionOf t c.p (c.u 0 4) = none ∧
        (∀ g ∈ r.granules, (granule s g).retiring = none → isFenced s 0x03 g = false →
          (granule t g).clearing = true ∧ (granule t g).holder = none) ∧ t.memory.bytes = s.memory.bytes)) ∧
    (∀ hostData bs, Ready 0x0203 memoryTransferBudget memoryTransferChecks o s c → descReadMeets s c.p (c.desc 0) = none →
      descWriteMeets s c.p (c.desc 16) = none → quotaReached s c.p = false → (freeNumber s).isSome = true →
      (slotAt s c.p c.k).lostHop = none → bs = readDesc s c.p (c.desc 0) hostData →
      Does (.memoryTransfer o ⟨hostData, none⟩) s (fun t => Ended t o .ok [] ∧
        ((c.desc 16).kind ≠ 2 → t.memory = s.memory ∧
          t.out = [.hostWrite (part s c.p).port (part s c.p).fn (relaxedFor s c.p) (c.desc 16).loc bs]) ∧
        (∀ r, (c.desc 16).kind = 2 → regionOf s c.p ((c.desc 16).loc % 4294967296) = some r → t.out = [] ∧
          t.memory = (regionWrite s r ((c.desc 16).loc / 4294967296) bs).memory ∧
          ∀ a, (∀ i, i < bs.length → a ≠ r.address ((c.desc 16).loc / 4294967296 + i)) →
            Mem.read t.memory.bytes a = Mem.read s.memory.bytes a)))

/-- With the main domain on, self-test done and scrub not switched off, a clean scrub read moves its unit to the next word
and changes no byte, and one that finds a double error twice poisons the line and starts to retire its granule. The oldest
sweep of a unit ends: no line of the unit keeps a provisional tag of its convoy and generation, a cancelled sweep leaves
those lines cancelled, a confirmed one leaves every other tag. At the end of a retirement, where no teardown still holds its
resources, the granule is fenced; a spare granule of the unit has its contents and its place, and without one the granule is
bound to nobody. -/
def Obligations.MemoryIsScrubbedSweptAndRetired : Prop :=
  (∀ (u : Fin 9) (s : State), s.boot.mainOn = true → s.boot.selfTestDone = true → s.faults.scrubOff = false →
    Does (.scrubRead u .clean) s (fun t => t.memory.bytes = s.memory.bytes ∧ t.memory.tags = s.memory.tags ∧
      Tbl.getD t.memory.scrubAt u 0 = (Tbl.getD s.memory.scrubAt u 0 + 1) % unitWords u) ∧
    (∀ line, line = (unitGranules u).getD 0 0 * 8192 + Tbl.getD s.memory.scrubAt u 0 / 16 →
      Does (.scrubRead u (.double true)) s (fun t => t.memory.bytes = s.memory.bytes ∧
        (Tbl.getD t.memory.tags line ⟨0, false, 0⟩).state = 3 ∧
        (isFenced s 0x03 (line / 8192) = false → (granule t (line / 8192)).retiring.isSome = true)))) ∧
  (∀ (u : Fin 10) (s : State) (w : Sweep), s.memory.sweeps.find? (fun w => w.unit == u.val) = some w →
    Does (.sweepEnd u) s (fun t => t.memory.sweeps = s.memory.sweeps.erase w ∧ t.memory.bytes = s.memory.bytes ∧
      (∀ e ∈ t.memory.tags, ¬ (unitOfLine e.1 = w.unit ∧ e.2 = ⟨w.convoy, w.generation, 1⟩)) ∧
      (w.cancelled = true → ∀ l, unitOfLine l = w.unit → Tbl.get? s.memory.tags l = some ⟨w.convoy, w.generation, 1⟩ →
        Tbl.get? t.memory.tags l = some ⟨w.convoy, w.generation, 2⟩) ∧
      (w.cancelled = false → ∀ e ∈ s.memory.tags, ¬ (unitOfLine e.1 = w.unit ∧ e.2 = ⟨w.convoy, w.generation, 1⟩) →
        e ∈ t.memory.tags))) ∧
  (∀ (g : Fin 320) (s : State) (lost : Bool), MemoryCanonical s → (granule s g).retiring = some lost →
    (∀ e ∈ s.parts, ∀ d, e.2.state = .tearing → e.2.teardown = some d → d.released = true) →
    (∀ r, ((unitGranules (unitOf g)).filter (fun r => r != g.val && granuleUnreserved s r)).head? = some r →
      Does (.granuleRetirementEnd g) s (fun t => isFenced t 0x03 g = true ∧ granule t g = Granule.init ∧
        granule t r = { granule s g with retiring := none } ∧
        ∀ x, x < granuleBytes → Mem.read t.memory.bytes (r * granuleBytes + x) = Mem.read s.memory.bytes (g * granuleBytes + x))) ∧
    (((unitGranules (unitOf g)).filter (fun r => r != g.val && granuleUnreserved s r)).head? = none →
      Does (.granuleRetirementEnd g) s (fun t => isFenced t 0x03 g = true ∧ (granule t g).bound = none ∧
        (granule t g).holder = none ∧ (granule t g).retiring = none)))

/-- A creation takes the lowest free index and ends with OK and the handle; the object has the count, owner and port of the
request and no waiter. A destruction ends with OK and the number of waiters, the handle names nothing, and every waiter that
runs ends with CANCELLED. A signal raises the counter by its value, ends with OK and the new counter, and every waiter whose
threshold is reached ends with OK and that counter while the others go on waiting. A wait on an absent object ends with
ABSENT, one whose threshold is reached with OK, each with the counter; any other waits, its slot held. A read reports
counter, waiters, port and absence. A bind gives the object the port named. A partner's signal outside a convoy raises the
counter of an object bound to its port, one in an open or sealed convoy of its generation waits at the sync gate, and one
that names no object, or is of another generation of its convoy, is counted and changes no object. (A wait: with no response
of its partition under a wrong tag.) -/
def Obligations.SyncObjectsCountAndWake : Prop :=
  (∀ (o : Origin) (s : State) (c : Ctx),
    (∀ i, Ready 0x0210 (fixed .immediate) syncCreateChecks o s c →
      firstIndex 4096 (fun i => (Tbl.get? s.memory.sync i).isNone) = some i →
      Does (.syncCreate o) s (fun t => Ended t o .ok (leBytes 4 (i + 65536 * generation t 2 i)) ∧
        ∃ x, Tbl.get? t.memory.sync i = some x ∧ x.owner = c.p ∧ x.counter = c.u 0 8 ∧ x.waiters = [] ∧
          x.port = (if c.u 8 1 = 0xFF then none else some (c.u 8 1)))) ∧
    (∀ x, syncOf s c.p (c.u 0 4) = some x → (∀ w ∈ x.waiters, w.2 ≠ c.p * 32 + c.k) →
      (Ready 0x0211 (fixed .immediate) syncDestroyChecks o s c →
        Does (.syncDestroy o) s (fun t => Ended t o .ok (leBytes 2 x.waiters.length) ∧ syncAny t (c.u 0 4) = none ∧
          ∀ w ∈ x.waiters, (slotAt s (w.2 / 32) (w.2 % 32)).phase = .running →
            ∃ e, (slotAt t (w.2 / 32) (w.2 % 32)).ending = some e ∧ e.status = .cancelled)) ∧
      (Ready 0x0212 (fixed .immediate) syncSignalChecks o s c →
        Does (.syncSignal o) s (fun t => Ended t o .ok (leBytes 8 (x.counter + c.u 8 8)) ∧
          syncOf t c.p (c.u 0 4) = some { x with counter := x.counter + c.u 8 8
                                                 waiters := x.waiters.filter (fun w => !decide (w.1 ≤ x.counter + c.u 8 8)) } ∧
          ∀ w ∈ x.waiters, w.1 ≤ x.counter + c.u 8 8 → (slotAt s (w.2 / 32) (w.2 % 32)).phase = .running →
            ∃ e, (slotAt t (w.2 / 32) (w.2 % 32)).ending = some e ∧ statusFor .ok e.status ∧
              e.result = leBytes 8 (x.counter + c.u 8 8))) ∧
      (Ready 0x0213 (fixed .long) syncWaitChecks o s c → Untagged s (originPart o) →
        (x.absent = true → Does (.syncWait o) s (fun t => Ended t o .absent (leBytes 8 x.counter))) ∧
        (x.absent = false → c.u 8 8 ≤ x.counter → Does (.syncWait o) s (fun t => Ended t o .ok (leBytes 8 x.counter))) ∧
        (x.absent = false → x.counter < c.u 8 8 →
          Does (.syncWait o) s (fun t => (slotAt t c.p c.k).phase = .running ∧ (slotAt t c.p c.k).held = true ∧
            syncOf t c.p (c.u 0 4) = some { x with waiters := x.waiters ++ [(c.u 8 8, c.p * 32 + c.k)] }))) ∧
      (Ready 0x0214 (fixed .immediate) syncReadChecks o s c →
        Does (.syncRead o) s (fun t => t.memory = s.memory ∧ Ended t o .ok (leBytes 8 x.counter ++ leBytes 2 x.waiters.length ++
          leBytes 1 (x.port.getD 0xFF) ++ leBytes 1 (b2n x.absent)))) ∧
      (Ready 0x0215 (fixed .immediate) syncBindChecks o s c →
        Does (.syncBind o) s (fun t => Ended t o .ok [] ∧ ∃ y, syncOf t c.p (c.u 0 4) = some y ∧
          y.port = (if c.u 4 1 = 0xFF then none else some (c.u 4 1)) ∧ y.counter = x.counter ∧ y.waiters = x.waiters)))) ∧
  (∀ (port : Fin 8) (payload : List Byte) (s : State), inRun s port = true → ∀ h v, h = field payload 0 4 → v = field payload 8 8 →
    (∀ x, syncAny s h = some x → x.port = some port.val → x.counter + v ≤ syncTop →
      Does (.syncSignalParcel port payload none) s (fun t => ∃ y, syncAny t h = some y ∧ y.counter = x.counter + v)) ∧
    (syncAny s h = none → Does (.syncSignalParcel port payload none) s (fun t => t.memory = s.memory ∧
      counter t 0x0606 port = satAdd 32 (counter s 0x0606 port) 1)) ∧
    (∀ n : Fin 256,
      ((convoy s n).state = .opened ∨ (convoy s n).state = .sealed →
        Does (.syncSignalParcel port payload (some (n, (convoy s n).generation))) s (fun t => t.memory = s.memory ∧
          (convoy t n).signals = (convoy s n).signals ++ [(h, v, port.val + 1)])) ∧
      Does (.syncSignalParcel port payload (some (n, !(convoy s n).generation))) s (fun t => t.memory = s.memory ∧
        counter t 0x0606 port = satAdd 32 (counter s 0x0606 port) 1)))

/-- A ready load, with no response of its partition under a wrong tag, that needs no spill memory that is fenced, whose
image passes every load check and whose layers all match their digests ends with OK and the handle of the lowest free index:
the model has the manifest's layers, no damage and the manifest digest, and holds its granules of node memory. An image with
a layer that matches its digest neither at first nor when read once more ends with INTEGRITY, and node memory and spill
memory stay as they were. An unload ends with OK, the handle names nothing and the model's granules are held by nothing. A
query reports layer count, damage and mode, granules and spill pages. A partition status ends with OK and the 19 bytes of
the partition's status record. -/
def Obligations.ModelsLoadUnloadAndReport : Prop :=
  ∀ (o : Origin) (s : State) (c : Ctx),
    (∀ image reread img, Ready 0x0101 modelLoadBudget modelLoadChecks o s c → img = slice image 0 (c.desc 0).len →
      loadVerdict s c img = none → loadBarred s c.p img = false → Untagged s (originPart o) →
      (∀ i, (∀ l, l < manifestLayers img → layerMatches img l = true) →
        firstIndex 16 (fun i => (Tbl.get? s.memory.models (c.p * 16 + i)).isNone) = some i →
        Does (.modelLoad o image reread) s (fun t => Ended t o .ok (leBytes 2 (i + 256 * generation t 1 (c.p * 16 + i))) ∧
          ∃ m, Tbl.get? t.memory.models (c.p * 16 + i) = some m ∧ m.layers.length = manifestLayers img ∧ m.damaged = 0 ∧
            m.spill = (part s c.p).spillMode ∧ m.digest = digestT (manifestBytes img) ∧
            ∀ g ∈ modelNodes m, (granule t g).holder = some (.model c.p i))) ∧
      ((∃ l, l < manifestLayers img ∧ layerSource img reread l = none) →
        Does (.modelLoad o image reread) s (fun t => Ended t o .integrity [] ∧ t.memory = s.memory))) ∧
    (∀ m, modelOf s c.p (c.u 0 2) = some m →
      (Ready 0x0102 (fixed .control) modelUnloadChecks o s c →
        Does (.modelUnload o) s (fun t => Ended t o .ok [] ∧ modelOf t c.p (c.u 0 2) = none ∧
          (∀ g ∈ modelNodes m, (granule t g).holder = none) ∧ t.memory.bytes = s.memory.bytes)) ∧
      (Ready 0x0103 (fixed .immediate) modelHandleCheck o s c →
        Does (.modelQuery o) s (fun t => t.memory = s.memory ∧ ∃ r, Ended t o .ok r ∧ r.length = 28 ∧
          slice r 0 2 = leBytes 2 m.layers.length ∧ slice r 2 2 = leBytes 2 (b2n (m.damaged != 0) + 2 * b2n m.spill) ∧
          slice r 4 4 = leBytes 4 (modelNodes m).length ∧
          slice r 8 4 = leBytes 4 ((m.areaPlaces ++ (m.layers.map (fun l => l.places)).flatten).filter isSpill).length))) ∧
    (Ready 0x0009 (fixed .immediate) partitionStatusChecks o s c →
      Does (.partitionStatus o) s (fun t => Ended t o .ok (statusRecord s (c.u 0 1))))

/-- A ready limit ends with OK and is stored, and where the lowest of ceiling, limit and request lies below the present
point KT heads for it at once. KT_SWITCH moves KT to the point it heads for on the other PLL, and the setpoint follows
downward. With no tile pass queued or running the idle time requests point 1, and otherwise nothing changes but what the
last step sent. Power good of the tensor supply's rail ends the old window, raises the setpoint to the point waited for, and
lets KT head for that point or the ceiling in force below it. -/
def Obligations.TensorClockFollowsRequestLimitAndCeiling : Prop :=
  (∀ (o : Origin) (s : State) (c : Ctx), Ready 0x0121 (fixed .immediate) ktLimitSetChecks o s c →
    Does (.ktLimitSet o) s (fun t => Ended t o .ok [] ∧ t.tensor.limit = c.u 0 1 ∧ t.tensor.point = s.tensor.point ∧
      (wantedPoint t < s.tensor.point → t.tensor.target = some (wantedPoint t) ∧ t.tensor.raising = none))) ∧
  (∀ (s : State),
    (∀ w, s.tensor.target = some w → Does .ktSwitch s (fun t => t.tensor.point = w ∧ t.tensor.target = none ∧
      t.tensor.pll = 3 - s.tensor.pll ∧ t.tensor.setpoint = min s.tensor.setpoint w)) ∧
    (passesQueued s = false → Does .ktIdleExpiry s (fun t => t.tensor.request = 1 ∧
      (wantedPoint t < s.tensor.point → t.tensor.target = some (wantedPoint t)))) ∧
    (passesQueued s = true → exec .ktIdleExpiry s = .next { s with out := [] }) ∧
    (∀ (v : Fin 24) w, tensorRail s = some v.val → s.tensor.raising = some w →
      Does (.setpointPowerGood v) s (fun t => (rail t v).window = none ∧ t.tensor.setpoint = w ∧ t.tensor.raising = none ∧
        t.tensor.target = some (min w s.tensor.allowed))))

/-- A floor is stored; a restart of a fan in Tach lost or Stalled starts spin-up attempt 1; a status reports the 12 fan
records. A spin-up attempt without a pulse goes from attempt 1 to the pause and from attempt 2 to Stalled; one that reached
its speed makes the fan Running, or Idle at a duty of 0 %. The pause ends 3 s later in attempt 2, which is counted. A pulse
gives a Running fan its speed. A Running fan with a duty above 0 % whose tach is silent goes to Tach lost, counted; with the
minimum speed held for 1 s within 10 s of the loss it is Running or Idle again, else the loss is marked lasting. -/
def Obligations.FansSpinUpAndAreSupervised : Prop :=
  (∀ (o : Origin) (s : State) (c : Ctx),
    (Ready 0x0710 (fixed .management) fanFloorSetChecks o s c →
      Does (.fanFloorSet o) s (fun t => Ended t o .ok [] ∧ (fan t (c.u 0 1)).floor = c.u 2 2)) ∧
    (Ready 0x0711 (fixed .management) fanRestartChecks o s c →
      Does (.fanRestart o) s (fun t => Ended t o .ok [] ∧ (fan t (c.u 0 1)).state = 2 ∧ (fan t (c.u 0 1)).startedAt = s.now)) ∧
    (Ready 0x0712 (fixed .management) noChecks o s c →
      Does (.fanStatus o) s (fun t => Ended t o .ok ((List.range 12).map (fanRecord s)).flatten))) ∧
  (∀ (i : Fin 12) (s : State) (final : Bool) (f : Fan), f = fan s i →
    (f.state = 2 → f.pulse = false → Does (.spinUpCheck i final) s (fun t => (fan t i).state = 3 ∧
      t.now = max s.now (f.startedAt + if final then 5000000000 else 2000000000) ∧ (fan t i).startedAt = t.now)) ∧
    (f.state = 4 → f.pulse = false → Does (.spinUpCheck i final) s (fun t => (fan t i).state = 7)) ∧
    (f.state = 2 ∨ f.state = 4 → f.pulse = true → reachedSpeed f = true →
      Does (.spinUpCheck i final) s (fun t => (fan t i).state = 5 ∨ (fan t i).state = 1)) ∧
    (f.state = 3 → Does (.fanPauseExpiry i) s (fun t => (fan t i).state = 4 ∧ t.now = max s.now (f.startedAt + 3000000000) ∧
      counter t 0x0D00 i = satAdd 16 (counter s 0x0D00 i) 1)) ∧
    (∀ rpm, (fanCfg s i).used = true → f.state = 5 → Does (.fanTachPulse i rpm) s (fun t =>
      (fan t i).speed = rpm ∧ (fan t i).pulseAt = s.now ∧ (fan t i).state = 5)) ∧
    (f.state = 5 → 0 < commandedDuty s i → Does (.tachLost i) s (fun t => (fan t i).state = 6 ∧ (fan t i).lasting = false ∧
      t.now = max s.now (f.pulseAt + tachWindow (fanCfg s i)) ∧ counter t 0x0D01 i = satAdd 16 (counter s 0x0D01 i) 1)) ∧
    (∀ m, f.state = 6 → f.lasting = false → f.fastFrom = some m → m + 1000000000 ≤ f.lostAt + 10000000000 →
      Does (.tachRestored i) s (fun t => ((fan t i).state = 5 ∨ (fan t i).state = 1) ∧ t.now = max s.now (m + 1000000000))) ∧
    (f.state = 6 → f.lasting = false → Does (.tachLostLasting i) s (fun t => (fan t i).state = 6 ∧ (fan t i).lasting = true ∧
      t.now = max s.now (f.lostAt + 10000000000) ∧ counter t 0x0301 0x12 = satAdd 16 (counter s 0x0301 0x12) 1)))

/-- A board sensor that answers stores its reading, one that does not is marked absent. An evaluation with a plan, outside
the safe state, stores the die readings, selects the row of the die temperature with the hysteresis, enters the critical
temperature when it is reached and leaves it only below it by the hysteresis; with the main domain on each zone without an
absent sensor selects the row of its own temperature. A thermal status ends with OK and its 16 bytes. -/
def Obligations.ThermalPlanActsOnReadings : Prop :=
  (∀ (i : Fin 16) (s : State), i.val < s.aon.tables.boardAddresses.length →
    (∀ r, noTraffic s 1 (s.aon.tables.boardAddresses.getD i 0) = false →
      Does (.boardSensorRead i (some r)) s (fun t => Tbl.get? t.aon.thermal.board i = some r)) ∧
    Does (.boardSensorRead i none) s (fun t => t.aon.thermal.boardAbsent.contains i.val = true)) ∧
  (∀ (dieA dieB : List Int) (s s1 : State), s.aon.tables.rows ≠ [] → s.faults.safeState = false →
    s1 = { s with aon := { s.aon with thermal := { s.aon.thermal with dieA := dieA, dieB := dieB } } } →
    Does (.thermalPlanEvaluation dieA dieB) s (fun t => t.aon.thermal.dieA = dieA ∧ t.aon.thermal.dieB = dieB ∧
      t.aon.thermal.ktRow = selectRow s1 s.aon.thermal.ktRow (dieTemperature s1) ∧
      t.aon.thermal.critical = (if s.aon.thermal.critical
        then !decide (dieTemperature s1 < 2 * s.aon.tables.critical - 2 * s.aon.tables.hysteresis)
        else decide (2 * s.aon.tables.critical ≤ dieTemperature s1)) ∧
      ∀ z, s.boot.mainOn = true → z < 4 → z < s.aon.thermal.zoneRows.length → zoneAbsent s z = false →
        t.aon.thermal.zoneRows.getD z 0 = selectRow s1 (s.aon.thermal.zoneRows.getD z 0) (zoneTemperature s1 z))) ∧
  (∀ (o : Origin) (s : State) (c : Ctx), Ready 0x0730 (fixed .management) noChecks o s c →
    Does (.thermalStatus o) s (fun t => Ended t o .ok (thermalRecord s)))

/-- A ready target ends with OK and is the axis's target, or waits in Calibrating; limits and mode are stored; homing starts
its first attempt with AnENABLE high and ends with OK; a release of a Fenced axis goes on with one homing attempt under way
for it; a status ends with OK and the axis record. -/
def Obligations.AxisCommandsAreTaken : Prop :=
  ∀ (o : Origin) (s : State) (c : Ctx) (n : Nat), n = c.u 0 1 →
    (Ready 0x0720 (fixed .management) axisTargetChecks o s c → Does (.axisTarget o) s (fun t => Ended t o .ok [] ∧
      (if (axis s n).state = 3 then (axis t n).queued = some (toSigned (c.u 4 4) 32)
        else (axis t n).target = some (toSigned (c.u 4 4) 32)))) ∧
    (Ready 0x0721 (fixed .management) axisLimitsChecks o s c → Does (.axisLimitsSet o) s (fun t => Ended t o .ok [] ∧
      (axis t n).lower = toSigned (c.u 4 4) 32 ∧ (axis t n).upper = toSigned (c.u 8 4) 32)) ∧
    (Ready 0x0722 (fixed .management) axisModeChecks o s c → Does (.axisModeSet o) s (fun t => Ended t o .ok [] ∧
      (axis t n).planDriven = (c.u 1 1 == 1))) ∧
    (Ready 0x0723 (fixed .management) axisHomeChecks o s c → Does (.axisHome o) s (fun t => Ended t o .ok [] ∧
      (axis t n).state = 1 ∧ (axis t n).enable = true ∧ (axis t n).attempt = 1 ∧
      counter t 0x0D06 n = satAdd 16 (counter s 0x0D06 n) 1)) ∧
    (Ready 0x0724 (fixed .management) axisReleaseChecks o s c → begun s o = false → Does (.axisRelease o) s (fun t =>
      GoesOn t o ∧ (axis t n).state = 1 ∧ (axis t n).enable = true ∧ (axis t n).release = some o)) ∧
    (Ready 0x0725 (fixed .management) axisStatusChecks o s c → Does (.axisStatus o) s (fun t =>
      Ended t o .ok (axisRecord (axis s n)) ∧ t.aon = s.aon))

/-- A sample of a used axis outside Calibrating, with no bad sample before it, moves the measured position by the shorter
way from the last angle to the new one, wrapping at 32 bits. In Homing an update that the limits allow is taken, and one
they forbid changes nothing. A reference mark seen in Homing sets the position to the home offset plus the angle and ends
Homing. A failed first attempt drops AnENABLE and waits for the second; a failed second one fences the axis, counted as
lasting. The retry begins 100 ms later at the measured position. A Faulted axis whose window passed in time homes again, any
other is fenced at 1 s. An axis at rest in Holding with a calibration pending is Calibrating 100 ms after it came to rest.
-/
def Obligations.AxesMoveHomeAndRecover : Prop :=
  ∀ (i : Fin 4) (s : State) (x : Axis), x = axis s i →
    (∀ (sin cos : Int) (angle : Fin 4096), (axisCfg s i).used = true → x.state ≠ 3 → x.badAmplitude = 0 → x.badFollowing = 0 →
      Does (.axisFeedbackSample i sin cos angle) s (fun t => (axis t i).position = wrap32 (x.position + angleStep x.angle angle) ∧
        (axis t i).angle = angle ∧ (axis t i).state = x.state ∧ (axis t i).command = x.command)) ∧
    (∀ pos vel acc : Int, x.state = 1 →
      ((axisCfg s i).used = true → x.enable = true → s.faults.safeState = false → updateAllowed (axisCfg s i) x pos vel acc = true →
        Does (.trajectoryUpdate i pos vel acc) s (fun t => (axis t i).command = pos ∧ (axis t i).velocity = vel ∧
          (axis t i).acceleration = acc ∧ (axis t i).state = 1)) ∧
      (updateAllowed (axisCfg s i) x pos vel acc = false → exec (.trajectoryUpdate i pos vel acc) s = .next { s with out := [] })) ∧
    (∀ (sin cos : Int) (angle : Fin 4096), x.state = 1 → x.enable = true → 0 < sin → 0 < cos → x.planDriven = false →
      x.release = none → Does (.referenceMark i sin cos angle) s (fun t =>
        (axis t i).position = wrap32 ((axisCfg s i).homeOffset + angle.val) ∧ (axis t i).state ≠ 1 ∧ (axis t i).enable = true)) ∧
    (x.state = 1 → x.enable = true →
      (x.attempt = 1 → x.fromFault = false → x.release = none → Does (.homingAttemptFailed i) s (fun t =>
        (axis t i).state = 1 ∧ (axis t i).enable = false ∧ (axis t i).attempt = 2)) ∧
      (x.attempt ≠ 1 → Does (.homingAttemptFailed i) s (fun t => (axis t i).state = 7 ∧ (axis t i).enable = false ∧
        counter t 0x0301 0x13 = satAdd 16 (counter s 0x0301 0x13) 1))) ∧
    (x.state = 1 → x.enable = false → x.attempt = 2 → Does (.homingRetryExpiry i) s (fun t => (axis t i).enable = true ∧
      (axis t i).command = x.position ∧ t.now = max s.now (x.restAt + 100000000))) ∧
    (x.state = 6 →
      (x.passFrom = none → Does (.axisFaultRecovery i) s (fun t => (axis t i).state = 7 ∧
        t.now = max s.now (x.faultAt + 1000000000))) ∧
      (∀ m, x.passFrom = some m → m + 100000000 ≤ x.faultAt + 1000000000 → Does (.axisFaultRecovery i) s (fun t =>
        (axis t i).state = 1 ∧ (axis t i).fromFault = true ∧ t.now = max s.now (m + 100000000)))) ∧
    (x.state = 2 → x.velocity = 0 → x.calibrate = true → Does (.axisCalibrationStart i) s (fun t => (axis t i).state = 3 ∧
      t.now = max s.now (x.restAt + 100000000)))

/-- In Sequencing the present step enables its rail when its delay is over and waits for power good; power good within the
window marks the rail good and moves on to the next step; a first timeout is counted and powers down for a retry. In
power-down the end of a step's down delay releases the rail of the step before. The off time of a retry ends in attempt 2
from step 0, of one rail in that rail's second attempt. The end of a rail's proving time clears it. A collapse from On, with
fewer than two others in 60 s, stops the main domain, releases every enable and stores a snapshot; the qualified supply
starts the sequence again, counted; the oldest collapse is forgotten 60 s after it. -/
def Obligations.PowerSequenceRuns : Prop :=
  ∀ (s : State) (i : Fin 48) (v : Nat), v = (seqStep s i).rail →
    (sequencing s = true → s.aon.seq.step = i.val → s.aon.seq.acted = false → v < 24 → bit (seqStep s i).flags 0 = true →
      bit (seqStep s i).flags 1 = false → (railCfg s v).nominal ≠ 0 →
      Does (.sequenceStepAct i false) s (fun t => (rail t v).enabled = true ∧ (rail t v).status = 1 ∧ t.aon.seq.acted = true ∧
        t.now = max s.now s.aon.seq.timer ∧ t.aon.seq.timer = t.now + 100000 * (seqStep s i).timeout ∧
        t.aon.seq.done = i.val :: s.aon.seq.done)) ∧
    (sequencing s = true → s.aon.seq.step = i.val → s.aon.seq.acted = true → s.aon.seq.proof = none →
      (∀ mv, v < 24 → windowSide (railCfg s v) (railCfg s v).nominal mv = 0 → bit (seqStep s i).flags 2 = false →
        Does (.sequenceStepPowerGood i mv) s (fun t => (rail t v).status = 2 ∧ (rail t v).good = true ∧ (rail t v).a = mv ∧
          t.aon.seq.step = i.val + 1 ∧ t.aon.seq.acted = false)) ∧
      (s.aon.seq.attempt = 1 → Does (.powerGoodTimeout i) s (fun t => t.now = max s.now s.aon.seq.timer ∧
        counter t 0x0C02 i = satAdd 16 (counter s 0x0C02 i) 1 ∧ (t.aon.seq.down = some .retry ∨ t.aon.seq.state = .retry)))) ∧
    (∀ goal j rest, s.aon.seq.down = some goal → s.aon.seq.done = i.val :: j :: rest → (seqStep s j).rail < 24 →
      Does (.powerDownDelayExpiry i) s (fun t => t.aon.seq.done = j :: rest ∧ t.now = max s.now s.aon.seq.timer ∧
        (rail t (seqStep s j).rail).enabled = false)) ∧
    (s.aon.seq.state = .retry → s.aon.seq.down = none → Does (.retryOffTimeExpiry none) s (fun t =>
      t.aon.seq.state = .sequencing ∧ t.aon.seq.attempt = 2 ∧ t.aon.seq.step = 0 ∧ t.now = max s.now s.aon.seq.timer)) ∧
    (∀ (w : Fin 24) r, (rail s w).run = some r → r.stage = 3 → Does (.retryOffTimeExpiry (some w)) s (fun t =>
      (rail t w).run = some ⟨0, r.purpose, 2, r.origin⟩)) ∧
    (∀ (w : Fin 24) m, (rail s w).proving = some m → Does (.railProvingExpiry w) s (fun t =>
      (rail t w).proving = none ∧ t.now = max s.now m)) ∧
    (s.aon.seq.state = .on → s.aon.seq.proof = none → s.aon.seq.down = none →
      (s.aon.seq.collapses.filter (fun m => decide (s.now < m + 60000000000))).length < 2 →
      Does .collapse s (fun t => t.aon.seq.state = .collapsed ∧ t.boot.mainOn = false ∧ t.aon.seq.stored = true ∧
        t.aon.seq.unread = true ∧ ∀ w, w < 24 → (rail t w).enabled = false)) ∧
    (s.aon.seq.state = .collapsed → s.boot.scanStopped = false → Does .restartQualified s (fun t =>
      t.aon.seq.state = .sequencing ∧ t.aon.seq.step = 0 ∧ t.aon.seq.attempt = 1 ∧
      counter t 0x0C00 0 = satAdd 16 (counter s 0x0C00 0) 1)) ∧
    (∀ m rest, s.aon.seq.collapses = m :: rest → Does .collapseWindowExpiry s (fun t => t.aon.seq.collapses = rest ∧
      t.now = max s.now (m + 60000000000)))

/-- A rail switch to the state the rail has ends with OK; one to the other state goes on with the rail's own course begun,
and switching off releases the rail at once. A fence release of a rail outside the main domain begins its proof course; one
of a main-domain rail begins the sequence as its proof. A mailbox power-down or restart ends with OK first, and its second
presentation, the slot free, writes the snapshot 1 ms later. A restart from Held off ends with OK and image selection
begins. A snapshot read ends with OK and 32 bytes of the snapshot, which is then read. A power-good fault of a supervised,
switchable rail releases it for a retry, counted; of an unsupervised one nothing changes. A window scan stores both VIN
readings and touches no unsupervised rail. A PMBus poll within the window stores voltage and current. A disagreement on a
rail sensor is counted and flagged, and a channel that failed its check alone is fenced. -/
def Obligations.RailsAreSwitchedSupervisedAndReported : Prop :=
  (∀ (o : Origin) (s : State) (c : Ctx) (v : Nat), v = c.u 0 1 → begun s o = false →
    (Ready 0x0701 railSwitchBudget railSwitchChecks o s c →
      ((c.u 1 1 = 1 ↔ (rail s v).enabled = true) → Does (.railSwitch o) s (fun t => Ended t o .ok [] ∧ t.aon = s.aon)) ∧
      (c.u 1 1 = 1 → (rail s v).enabled = false → Does (.railSwitch o) s (fun t => GoesOn t o ∧
        (rail t v).run = some ⟨0, 1, 1, some o⟩)) ∧
      (c.u 1 1 ≠ 1 → (rail s v).enabled = true → Does (.railSwitch o) s (fun t => GoesOn t o ∧ (rail t v).enabled = false ∧
        (rail t v).run = some ⟨2, 2, 1, some o⟩))) ∧
    (Ready 0x0702 fenceReleaseBudget railFenceReleaseChecks o s c →
      Does (.railFenceRelease o) s (fun t => GoesOn t o ∧
        (if (railCfg s v).main then t.aon.seq.proof = some (v, o) ∧ t.aon.seq.step = 0 else (rail t v).run = some ⟨0, 3, 1, some o⟩))) ∧
    (Ready 0x0703 (fixed .management) powerRequestChecks o s c → c.twt = false →
      (v = 1 → Does (.powerDown o) s (fun t => Ended t o .ok [] ∧ t.boot.powerDownDue = 1)) ∧
      (v = 2 → Does (.deviceRestart o) s (fun t => Ended t o .ok [] ∧ t.boot.powerDownDue = 2))) ∧
    (Ready 0x0704 (fixed .management) restartChecks o s c → Does (.restartFromHeldOff o) s (fun t => Ended t o .ok [] ∧
      t.aon.seq.state = .off ∧ t.aon.seq.stayOff = false ∧ t.boot.phase = .selecting)) ∧
    (Ready 0x0705 (fixed .management) snapshotReadChecks o s c → Does (.snapshotRead o) s (fun t => t.aon.seq.unread = false ∧
      ∃ r, Ended t o .ok r ∧ r.length = 48 ∧ r.drop 16 = slice s.aon.seq.snapshot (c.u 0 2) 32))) ∧
  (∀ (p k : Fin 32) (s : State), (slotAt s p k).phase = .free →
    (s.boot.powerDownDue = 1 → Does (.powerDown (.mbx p k)) s (fun t => t.now = s.now + 1000000 ∧ t.boot.powerDownDue = 0 ∧
      t.aon.seq.stored = true)) ∧
    (s.boot.powerDownDue = 2 → Does (.deviceRestart (.mbx p k)) s (fun t => t.now = s.now + 1000000 ∧ t.boot.powerDownDue = 0 ∧
      t.aon.seq.stored = true))) ∧
  (∀ (v : Fin 24) (s : State),
    (supervised s v = true → s.aon.seq.state = .on → s.aon.seq.down = none → s.aon.seq.proof = none → s.aon.seq.proving = none →
      (rail s v).proving = none → (railCfg s v).response = 1 → (railCfg s v).main = false →
      Does (.railFault v) s (fun t => (rail t v).enabled = false ∧ (rail t v).run = some ⟨2, 0, 1, none⟩ ∧
        counter t 0x0C01 (v * 256 + 1) = satAdd 16 (counter s 0x0C01 (v * 256 + 1)) 1)) ∧
    (supervised s v = false → exec (.railFault v) s = .next { s with out := [] }) ∧
    (∀ a b vin vaon, (∀ w, w < 24 → supervised s w = false) → Does (.railWindowScan a b vin vaon) s (fun t =>
      t.aon.seq.vinA = vin.1 ∧ t.aon.seq.vinB = vin.2 ∧ t.aon.rails = s.aon.rails)) ∧
    (∀ addr mv (current : BitVec 16), (railCfg s v).pmbus = some addr → supervised s v = true → noTraffic s 0 addr.1 = false →
      railSide s v mv = 0 → Does (.pmbusReadPoll v (some mv) current) s (fun t => (rail t v).b = mv ∧ (rail t v).badB = 0 ∧
        (rail t v).current = current.toNat ∧ (rail t v).readAt = s.now)) ∧
    (∀ sensor : Fin 33, sensor.val = 8 + v.val → converterInItem s 0 = false → converterInItem s 1 = false →
      Does (.sensorDisagreement sensor true false) s (fun t => (rail t v).flags = ((rail s v).flags ||| 8) ∧
        counter t 0x0C04 v = satAdd 16 (counter s 0x0C04 v) 1 ∧
        (isFenced s 0x04 (sensor * 2 + 1) = false → isFenced t 0x04 (sensor * 2) = true))))

/-- A ready run of items without axes goes on, with item [0] and the items asked for left. The periodic run starts 24 h
after the last, its first item [0], or waits behind the run in progress; a drift of more than 15 °C starts a run of items
[0]–[4]. The item at the front of a run that passes has the RTC seconds noted, the converter items their codes; one that
fails its first attempt is tried again. An axis item that passes outside a run gives the axis its amplitude and codes and
leaves Calibrating; a first failure is tried again. Tamper limits end with OK and are in force at once, and a run follows or
waits. -/
def Obligations.CalibrationRunsStartAndEnd : Prop :=
  (∀ (o : Origin) (s : State) (c : Ctx),
    (Ready 0x0A01 calibrationRunBudget calibrationRunChecks o s c → begun s o = false → c.u 0 2 < 32 →
      Does (.calibrationRun o) s (fun t => GoesOn t o ∧ ∃ r, t.aon.cal.run = some r ∧ r.left = setBit (c.u 0 2) 0 ∧
        r.automatic = false ∧ r.origin = some o ∧ r.attempt = 1)) ∧
    (Ready 0x0606 (fixed .management) tamperLimitsSetChecks o s c →
      Does (.tamperLimitsSet o) s (fun t => Ended t o .ok [] ∧ t.vault.low = toSigned (c.u 0 1) 8 ∧
        t.vault.high = toSigned (c.u 1 1) 8 ∧ t.aon.cal.run.isSome = true))) ∧
  (∀ s : State, managementRuns s = true →
    (s.aon.cal.run = none → Does .calibrationPeriodic s (fun t => t.now = max s.now (s.aon.cal.periodicAt + day) ∧
      t.aon.cal.periodicAt = t.now ∧ ∃ r, t.aon.cal.run = some r ∧ r.automatic = true ∧ firstItem r.left = 0)) ∧
    (s.aon.cal.run.isSome = true → Does .calibrationPeriodic s (fun t => t.aon.cal.run = s.aon.cal.run ∧
      t.aon.cal.waiting = s.aon.cal.waiting ++ [0x1FF])) ∧
    (s.aon.cal.run = none → 30 < (dieTemperature s - s.aon.cal.item3Temp).natAbs → Does .calibrationDrift s (fun t =>
      ∃ r, t.aon.cal.run = some r ∧ r.automatic = true ∧ r.left = 0x1F))) ∧
  (∀ (n : Fin 9) (m : List Int) (s : State) (r : CalRun), s.aon.cal.run = some r → firstItem r.left = n.val → n.val < 5 →
    (itemPasses s n m = true → Does (.calibrationItemEnd n m) s (fun t =>
      Tbl.get? t.aon.cal.itemSeconds n = some (s.vault.seconds, !timeValid s) ∧
      (n.val = 1 → Tbl.get? t.aon.cal.codes 0 = some (m.getD 0 0)) ∧ (n.val = 2 → Tbl.get? t.aon.cal.codes 1 = some (m.getD 0 0)))) ∧
    (itemPasses s n m = false → r.attempt = 1 → Does (.calibrationItemEnd n m) s (fun t =>
      t.aon.cal.run = some { r with attempt := 2 }))) ∧
  (∀ (i : Fin 4) (sin cos : Int) (amplitude : Nat) (s : State), (axis s i).state = 3 →
    (s.aon.cal.run = none → inTrimRange sin = true → inTrimRange cos = true → (axisCfg s i).amplitude ≤ 2 * amplitude →
      amplitude ≤ 2 * (axisCfg s i).amplitude → (axis s i).queued = none →
      Does (.axisCalibrationEnd i sin cos amplitude) s (fun t => (axis t i).state = 2 ∧ (axis t i).amplitude = amplitude ∧
        (axis t i).calibrate = false ∧ Tbl.get? t.aon.cal.codes (18 + 2 * i) = some sin ∧
        Tbl.get? t.aon.cal.codes (19 + 2 * i) = some cos)) ∧
    (inTrimRange sin = false → (axis s i).frontEndTries = 0 → Does (.axisCalibrationEnd i sin cos amplitude) s (fun t =>
      (axis t i).state = 3 ∧ (axis t i).frontEndTries = 1)))

/-- An installed key that unwraps and has no equal XTS halves is in the lowest free slot with owner, type and usage of the
request, and the command ends with OK, handle and check value; one that does not unwrap ends with INTEGRITY and leaves every
slot alone. A generated key is drawn to its type's length, its slot marked as generated. A replacement gives the slot its
new key under the next generation, or empties it; a destruction leaves the handle without a slot; a query reports type,
usage and check value and changes no slot. No other slot index changes. -/
def Obligations.KeySlotsHoldTheirKeys : Prop :=
  ∀ (o : Origin) (s : State) (c : Ctx),
    (Ready 0x0501 (fixed .control) keyInstallChecks o s c →
      (∀ i key, freeSlotIndex s = some i → unwrapKey s (slice c.body 8 (c.u 4 1)) = some key → xtsEqual (c.u 1 1) key = false →
        Does (.keyInstall o) s (fun t => Ended t o .ok (slotResult t i (c.u 1 1) key) ∧
          Tbl.get? t.keys i = some ⟨c.u 0 1, c.u 1 1, c.u 2 2, key⟩ ∧ ∀ j, j ≠ i → Tbl.get? t.keys j = Tbl.get? s.keys j)) ∧
      (unwrapKey s (slice c.body 8 (c.u 4 1)) = none →
        Does (.keyInstall o) s (fun t => Ended t o .integrity [] ∧ t.keys = s.keys))) ∧
    (∀ i, Ready 0x0502 (fixed .control) keyGenerateChecks o s c → freeSlotIndex s = some i →
      Does (.keyGenerate o) s (fun t => ∃ x, Tbl.get? t.keys i = some x ∧ Ended t o .ok (slotResult t i x.kind x.key) ∧
        x.owner = c.p ∧ x.kind = c.u 0 1 ∧ x.usage = c.u 2 2 + 512 ∧ x.key.length = (keyLengths (c.u 0 1)).headD 0 ∧
        ∀ j, j ≠ i → Tbl.get? t.keys j = Tbl.get? s.keys j)) ∧
    (∀ k, Ready 0x0503 (fixed .control) keyReplaceChecks o s c → slotAny s (c.u 0 4) = some k →
      (c.u 12 1 = 0 → Does (.keyReplace o) s (fun t => slotAny t (c.u 0 4) = some ⟨k.owner, 0, 0, []⟩ ∧
        Ended t o .ok (leBytes 4 (slotHandle s (c.u 0 4 % 4096)) ++ List.replicate 8 0))) ∧
      (∀ key, c.u 12 1 ≠ 0 → unwrapKey s (slice c.body 16 (c.u 13 1)) = some key → xtsEqual (c.u 12 1) key = false →
        Does (.keyReplace o) s (fun t => Tbl.get? t.keys (c.u 0 4 % 4096) = some ⟨k.owner, c.u 12 1, c.u 14 2, key⟩ ∧
          generation t 3 (c.u 0 4 % 4096) = (generation s 3 (c.u 0 4 % 4096) + 1) % 65536 ∧
          Ended t o .ok (slotResult t (c.u 0 4 % 4096) (c.u 12 1) key)))) ∧
    (Ready 0x0504 (fixed .immediate) ownSlotChecks o s c →
      Does (.keyDestroy o) s (fun t => Ended t o .ok [] ∧ slotAny t (c.u 0 4) = none ∧
        ∀ j, j ≠ c.u 0 4 % 4096 → Tbl.get? t.keys j = Tbl.get? s.keys j)) ∧
    (∀ k, Ready 0x0505 (fixed .immediate) keyQueryChecks o s c → keySlotOf s c.p (c.u 0 4) = some k →
      Does (.keyQuery o) s (fun t => t.keys = s.keys ∧
        Ended t o .ok (leBytes 1 k.kind ++ [0] ++ leBytes 2 k.usage ++ kcv k.kind k.key))) ∧
    (Ready 0x0506 (fixed .control) ownReplaceChecks o s c →
      (c.u 13 1 = 0 → Does (.ownSlotKeyReplace o) s (fun t => ∃ x, Tbl.get? t.keys (c.u 0 4 % 4096) = some x ∧ x.owner = c.p ∧
        x.kind = c.u 12 1 ∧ x.usage = c.u 14 2 + 512 ∧ x.key.length = (keyLengths (c.u 12 1)).headD 0 ∧
        Ended t o .ok (slotResult t (c.u 0 4 % 4096) x.kind x.key))) ∧
      (∀ key, c.u 13 1 ≠ 0 → unwrapKey s (slice c.body 16 (c.u 13 1)) = some key → xtsEqual (c.u 12 1) key = false →
        Does (.ownSlotKeyReplace o) s (fun t => Tbl.get? t.keys (c.u 0 4 % 4096) = some ⟨c.p, c.u 12 1, c.u 14 2, key⟩ ∧
          Ended t o .ok (slotResult t (c.u 0 4 % 4096) (c.u 12 1) key))))

/-- A ready cipher operation without a fault, below its partition's convoy quota with a number free, no parcel of it lost
and its buffers free to be read and written, ends with OK and its tag, and its output goes to host memory where the request
says so; one whose tag or padding fails ends with INTEGRITY, is counted, and nothing goes out. TRANSPORT_KEY_GET writes the
transport public key and a 96-byte signature to the host buffer. AKEK_ESTABLISH stores the key derived from the shared
secret and both points, and reports its check value. A receipt key that unwraps is in force for its partition, or for
partition 0 in the vault, with the next epoch, which the result reports. -/
def Obligations.CipherAndAdministratorKeysWork : Prop :=
  ∀ (o : Origin) (s : State) (c : Ctx),
    (∀ aadHost inputHost aad input e k, Ready 0x0510 cipherOperationBudget cipherChecks o s c →
      cipherEngine s = some e → keySlotOf s c.p (c.u 0 4) = some k →
      (descEmpty c 0x28 = false → descReadMeets s c.p (c.desc 0x28) = none) →
      (usesAad (c.u 4 1) = true → descEmpty c 0x18 = false → descReadMeets s c.p (c.desc 0x18) = none) →
      (hasOutput (c.u 4 1) = true → descEmpty c 0x38 = false → descWriteMeets s c.p (c.desc 0x38) = none) →
      quotaReached s c.p = false → (freeNumber s).isSome = true → (slotAt s c.p c.k).lostHop = none →
      input = (if descEmpty c 0x28 then [] else readDesc s c.p (c.desc 0x28) inputHost) →
      aad = (if usesAad (c.u 4 1) && !descEmpty c 0x18 then readDesc s c.p (c.desc 0x18) aadHost else []) →
      (∀ bytes tag, cipherRun c k.key aad input = some (bytes, tag) →
        Does (.cipherOperation o aadHost ⟨inputHost, none⟩ .none) s (fun t =>
          Ended t o .ok (if c.u 4 1 = 1 ∨ c.u 4 1 = 8 then slice tag 0 16 else []) ∧
          ((c.desc 0x38).kind ≠ 2 → bytes ≠ [] → t.memory = s.memory ∧
            t.out = [.hostWrite (part s c.p).port (part s c.p).fn (relaxedFor s c.p) (c.desc 0x38).loc bytes]))) ∧
      (cipherRun c k.key aad input = none →
        Does (.cipherOperation o aadHost ⟨inputHost, none⟩ .none) s (fun t => Ended t o .integrity [] ∧ t.out = [] ∧
          t.memory = s.memory ∧ counter t 0x0A02 (c.p * 256 + c.u 4 1) = satAdd 32 (counter s 0x0A02 (c.p * 256 + c.u 4 1)) 1))) ∧
    (Ready 0x0520 (fixed .management) transportKeyGetChecks o s c →
      Does (.transportKeyGet o) s (fun t => Ended t o .ok (leBytes 2 193) ∧ t.vault.transport.isSome = true ∧ ∃ sig, sig.length = 96 ∧
        t.out = [.hostWrite (part s c.p).port (part s c.p).fn (relaxedFor s c.p) (c.desc 0).loc (transportKey t ++ sig)])) ∧
    (∀ qe q, Ready 0x0521 (fixed .management) (akekChecks qe) o s c → q = readDesc s c.p (c.desc 0) qe →
      Does (.akekEstablish o qe) s (fun t => ∃ key, t.vault.akek = some key ∧ Ended t o .ok (kcv 3 key) ∧
        key = (sha384 (ecdhSecret (t.vault.transport.getD 0) q ++ [0x41, 0x4B, 0x45, 0x4B, 0x31] ++ q ++
          transportKey t)).take 32)) ∧
    (∀ key, Ready 0x0522 (fixed .control) receiptKeyChecks o s c → unwrapKey s (slice c.body 4 40) = some key →
      (c.u 0 1 ≠ 0 → Does (.receiptKeyChange o) s (fun t => Ended t o .ok (leBytes 1 (nextEpoch (part s (c.u 0 1)).lastEpoch)) ∧
        (part t (c.u 0 1)).receiptKey = some key ∧ (part t (c.u 0 1)).epoch = nextEpoch (part s (c.u 0 1)).lastEpoch)) ∧
      (c.u 0 1 = 0 → Does (.receiptKeyChange o) s (fun t => Ended t o .ok (leBytes 1 (nextEpoch s.vault.lastAdminEpoch)) ∧
        t.vault.adminKey = some key ∧ t.vault.adminEpoch = nextEpoch s.vault.lastAdminEpoch)))

/-- Each ready command ends with OK. A time set leaves seconds and ticks of the request, no overflow and no mark of
distrust, and the timebase steps at the next boundary; a trim is stored for the next interval; an alarm holds its match
value, period, enable and wake, and its flag unless cleared; a time-stamp read reports first, latest and count of its
channel, zero for channels 0 to 3 where all four pin pairs are fused, and clears the channel where asked; the time and the
backup rate are reported and stored. A second advances the counter by one from tick 0, and every enabled alarm that matches
the new second flags. At a trim interval the next trim is in force. An edge that the configuration names is captured as the
latest of its channel, any other changes nothing. -/
def Obligations.TimeIsSetReadAndCaptured : Prop :=
  (∀ (o : Origin) (s : State) (c : Ctx),
    (Ready 0x0601 (fixed .management) noChecks o s c → Does (.timeRead o) s (fun t => Ended t o .ok (timeRecord s) ∧ t.vault = s.vault)) ∧
    (Ready 0x0602 (fixed .management) timeSetChecks o s c → Does (.timeSet o) s (fun t => Ended t o .ok [] ∧
      t.vault.seconds = c.u 0 8 ∧ rtcTicks t = c.u 8 2 ∧ t.vault.timeSet = true ∧ t.vault.overflow = false ∧
      t.vault.untrusted = false ∧ t.timebase.stepNext = true)) ∧
    (Ready 0x0603 (fixed .management) trimSetChecks o s c → Does (.trimSet o) s (fun t => Ended t o .ok [] ∧
      t.vault.trimNext = toSigned (c.u 0 2) 16 ∧ t.vault.nvTrim = toSigned (c.u 0 2) 16 ∧ t.vault.trim = s.vault.trim)) ∧
    (Ready 0x0604 (fixed .management) alarmSetChecks o s c → Does (.alarmSet o) s (fun t => Ended t o .ok [] ∧
      alarm t (c.u 0 1) = ⟨c.u 8 6, c.u 4 4, bit (c.u 1 1) 0, bit (c.u 1 1) 1, (alarm s (c.u 0 1)).flag && !bit (c.u 1 1) 2⟩)) ∧
    (Ready 0x0605 (fixed .management) timeStampReadChecks o s c → ∀ h, h = channelRead s (c.u 0 1) →
      Does (.timeStampRead o) s (fun t => Ended t o .ok (leBytes 8 h.first ++ leBytes 8 h.latest ++ leBytes 2 h.count) ∧
        channel t (c.u 0 1) = if bit (c.u 1 1) 0 then Channel.init else channel s (c.u 0 1))) ∧
    (Ready 0x0607 (fixed .management) backupRateSetChecks o s c → Does (.backupRateSet o) s (fun t => Ended t o .ok [] ∧
      t.vault.backupRate = c.u 0 1))) ∧
  (∀ s : State, vaultOn s = true →
    (∀ gain : Int, Does (.rtcSecond gain) s (fun t => t.vault.seconds = s.vault.seconds + 1 ∧ t.vault.tickBase = 0 ∧
      t.now = max s.now (s.vault.tickAt + ceilDiv ((32768 - s.vault.tickBase) * 1000000000) 32768) ∧
      ∀ i, i < 4 → (alarm s i).enable = true → (alarm s i).match_ = s.vault.seconds + 1 → (alarm t i).flag = true)) ∧
    Does .trimInterval s (fun t => t.vault.trim = s.vault.trimNext) ∧
    (s.vault.trim = 0 → Does .trimInterval s (fun t => t = { s with out := [], vault := { s.vault with trim := s.vault.trimNext } })) ∧
    (∀ (i : Fin 2) (rising : Bool),
      (bit (s.vault.evtEdges.getD i 0) (if rising then 0 else 1) = true → Does (.evtCapture i rising) s (fun t =>
        (channel t (4 + i)).latest = captureValue s false ∧ (channel t (4 + i)).count = satAdd 16 (channel s (4 + i)).count 1 ∧
        ((channel s (4 + i)).count ≠ 0 → (channel t (4 + i)).first = (channel s (4 + i)).first))) ∧
      (bit (s.vault.evtEdges.getD i 0) (if rising then 0 else 1) = false →
        exec (.evtCapture i rising) s = .next { s with out := [] })))

/-- A power-on reset of an unpowered vault starts domain KV in reset, on VAON's return or the battery, with limits and trim
from non-volatile memory, tripped where that memory says so or a pin pair is armed. A switch to VBAT leaves Main for Backup
and captures in channel 7; VAON's return starts, and its fall stops, the 10 ms at whose end the vault is back on Main; with
both supplies gone it is off, and the always-on and main domains with it; it keeps its ledger, and has lost its keys, the
fence map and the snapshot. A VBAT reading below 2.5 V with the main domain on raises event 0x0608 with the reading, any
other changes nothing. The crystal's amplitude is noted. -/
def Obligations.VaultSuppliesComeAndGo : Prop :=
  ∀ s : State,
    (∀ v : Bool, vaultOn s = false → Does (.vaultPowerOnReset v) s (fun t =>
      t.vault.supply = (if v then .returning else .backup) ∧ domain t 4 = ⟨true, true, false, false⟩ ∧
      t.vault.low = s.vault.nvLow ∧ t.vault.high = s.vault.nvHigh ∧ t.vault.trim = s.vault.nvTrim ∧ t.vault.tripped = t.vault.tamperOut ∧
      (t.vault.tripped = true ↔ s.vault.nvTripped = true ∨ ∃ i, i < 4 ∧ restoredArming s i = .armed))) ∧
    (s.vault.supply = .main → Does .vaultSwitchToVbat s (fun t => t.vault.supply = .backup ∧ t.vault.returnFrom = none ∧
      (channel t 7).latest = captureValue s true)) ∧
    (s.vault.supply ≠ .main → exec .vaultSwitchToVbat s = .next { s with out := [] }) ∧
    (s.vault.supply = .backup → Does (.vaonReturn true) s (fun t => t.vault.supply = .returning ∧ t.vault.returnFrom = some s.now)) ∧
    (s.vault.supply = .returning → Does (.vaonReturn false) s (fun t => t.vault.supply = .backup ∧ t.vault.returnFrom = none)) ∧
    (∀ m, s.vault.supply = .returning → s.vault.returnFrom = some m → Does .vaultReturnToMain s (fun t => t.vault.supply = .main ∧
      t.vault.returnFrom = none ∧ t.now = max s.now (m + 10000000))) ∧
    Does .vaultOff s (fun t => t.vault.supply = .off ∧ t.vault.ledger = s.vault.ledger ∧ t.vault.akek = none ∧ t.vault.adminKey = none ∧
      t.vault.seconds = 0 ∧ t.vault.alarms = [] ∧ t.faults.fenceMap = [] ∧ t.aon.seq.stored = false ∧ t.boot.vaon = false ∧
      (s.boot.vaon = true → t.boot = Boot.init s.boot.product s.boot.fuses)) ∧
    (∀ mv : BitVec 16,
      (s.boot.mainOn = true → mv.toNat < 2500 →
        exec (.vbatMeasurement mv) s = .next (raiseAdmin { s with out := [] } 0x0608 false 0 mv.toNat)) ∧
      (s.boot.mainOn = false ∨ 2500 ≤ mv.toNat → exec (.vbatMeasurement mv) s = .next { s with out := [] })) ∧
    (vaultOn s = true → Does .crystalAmplitudeReached s (fun t => t.vault.crystalOk = true))

/-- A ready arming ends with OK, arms or disarms its source and leaves the arming of every other; a self-test reports which
of the named sources passed and which failed, and fences a detector that failed; an acknowledgement clears the trip and
brings the SPDM leaf key back; a status reports the tamper record. A sample with no source armed stores TD-B's reading and
trips nothing; one in which an armed pin pair whose receiver is on differs trips the vault, records the source, and zeroises
the administrator's keys and, with the main domain on, every key slot. A detector that fails an inserted sample twice is
fenced, one that passes changes nothing. -/
def Obligations.TamperTripsZeroisesAndIsAcknowledged : Prop :=
  (∀ (o : Origin) (s : State) (c : Ctx),
    (∀ first, Ready 0x0608 (fixed .management) (armingChecks first) o s c → Does (.sourceArmingSet o first) s (fun t =>
      Ended t o .ok [] ∧ (source t (c.u 0 1)).arming = (if c.u 1 1 = 2 then .armed else .disarmed) ∧
      ∀ j, j ≠ c.u 0 1 → source t j = source s j)) ∧
    (∀ passed : BitVec 6, Ready 0x060A (fixed .management) tamperSelfTestChecks o s c → Does (.tamperSelfTest o passed) s (fun t =>
      Ended t o .ok (leBytes 1 (c.u 0 1 &&& passed.toNat) ++ leBytes 1 (c.u 0 1 &&& (63 - passed.toNat))) ∧
      ∀ d, d < 2 → bit (c.u 0 1) (4 + d) = true → bit passed.toNat (4 + d) = false → isFenced t 0x05 d = true)) ∧
    (Ready 0x060B (fixed .management) tamperAcknowledgeChecks o s c → Does (.tamperAcknowledge o) s (fun t => Ended t o .ok [] ∧
      t.vault.tripped = false ∧ t.vault.tamperOut = false ∧ t.vault.nvTripped = false ∧ t.vault.leaf = true)) ∧
    (Ready 0x060C (fixed .management) noChecks o s c → Does (.tamperStatus o) s (fun t => Ended t o .ok (tamperRecord s) ∧
      t.vault = s.vault))) ∧
  (∀ (s : State), vaultOn s = true →
    (∀ (tdA : Fin 3) (tdB : Int) (diffs : List (BitVec 16)) (failA failB : Fin 3),
      ((∀ i, i < 6 → (source s i).arming ≠ .armed) → Does (.tamperSample tdA tdB diffs failA failB) s (fun t =>
        t.vault.tripped = s.vault.tripped ∧ t.vault.tdB = tdB ∧ t.vault.akek = s.vault.akek ∧ t.keys = s.keys)) ∧
      (∀ i, i < 4 → (source s i).arming = .armed → (source s i).receiverOff = false →
        (diffs.map (fun d => d.toNat)).getD i 0 ≠ 0 → s.vault.tripped = false →
        Does (.tamperSample tdA tdB diffs failA failB) s (fun t => t.vault.tripped = true ∧ t.vault.tamperOut = true ∧
          t.vault.akek = none ∧ t.vault.adminKey = none ∧ t.vault.leaf = false ∧ (source t i).recorded = true ∧
          (s.boot.mainOn = true → t.keys = [])))) ∧
    (∀ i : Fin 6, sourceFused s i = false →
      (4 ≤ i.val → Does (.insertedSample i 2) s (fun t => isFenced t 0x05 (i - 4) = true)) ∧
      exec (.insertedSample i 0) s = .next { s with out := [] }))

/-- A status reports the entries committed and staged and the summary; a read whose destination can be written ends with OK,
and one that names a host buffer sends the entries it names; an attestation sends a signature over nonce, counts and every
entry; none of them changes the ledger. A record appended goes on and is the newest staged entry, of kind 0x0D. With the
main domain on a commit takes the oldest staged entry and, where it differs from the last entry, the ledger is not full and
nothing was lost, writes it behind the last one with its number and the MAC over its content and the last MAC. -/
def Obligations.LedgerGrowsAndIsReported : Prop :=
  (∀ (o : Origin) (s : State) (c : Ctx),
    (Ready 0x0610 (fixed .management) noChecks o s c → Does (.ledgerStatus o) s (fun t => t.vault = s.vault ∧
      Ended t o .ok (leBytes 2 s.vault.ledger.length ++ leBytes 2 s.vault.staging.length ++ leBytes 4 s.vault.summary ++
        leBytes 2 s.vault.stagingLost ++ [0, 0] ++ slice s.vault.summaryRecord 0 16))) ∧
    (Ready 0x0611 (fixed .management) ledgerReadChecks o s c →
      descWriteMeets s c.p { c.desc 8 with len := 32 * c.u 2 2 } = none →
      Does (.ledgerRead o) s (fun t => t.vault = s.vault ∧ Ended t o .ok [] ∧
      ((c.desc 8).kind ≠ 2 → t.out = [.hostWrite (part s c.p).port (part s c.p).fn (relaxedFor s c.p) (c.desc 8).loc
        (ledgerSlice s (c.u 0 2) (c.u 2 2))]))) ∧
    (Ready 0x0612 (fixed .management) ledgerAttestChecks o s c → Does (.ledgerAttest o) s (fun t => t.vault = s.vault ∧
      Ended t o .ok (leBytes 2 s.vault.ledger.length) ∧
      t.out = [.hostWrite (part s c.p).port (part s c.p).fn (relaxedFor s c.p) (c.desc 0x20).loc
        (slice (leafSign (attestBytes s (slice c.body 0 32)) s.fresh) 0 96)])) ∧
    (Ready 0x0613 (fixed .management) recordAppendChecks o s c → begun s o = false → Does (.recordAppend o) s (fun t => GoesOn t o ∧
      t.vault.staging = s.vault.staging ++ [stagedEntry s 0x0D (c.u 0 1) (c.u 2 2) (some (c.p * 32 + c.k))]))) ∧
  (∀ (s : State) (e : Staged) (rest : List Staged), s.boot.mainOn = true → s.vault.staging = e :: rest →
    Does .stagedEntryCommit s (fun t => t.vault.staging = rest ∧
      (s.vault.stagingLost = 0 → s.vault.ledger.length < 2048 →
        s.vault.ledger.getLast?.all (fun l => bareContent l != entryContent e 0) = true →
        ∀ content, content = entryContent e (s.vault.ledger.length + 1) →
          t.vault.ledger = s.vault.ledger ++ [content ++ entryMac content (lastMac s.vault.ledger)])))

/-- A ready transmission without ESP, its buffer readable, below its partition's convoy quota with a number free and no
parcel of it lost, goes out as it is and ends with OK and the time where no pause holds its priority, nothing of it waits
and no transmit association is valid; where a pause holds it the command goes on, the frame waits last, and nothing goes
out. Associations and port settings are stored; an enabled port has its domain's clock started and held in reset; a disabled
one has no link. A link comes up where it may and goes down with its held frames and pauses gone. An export is switched off,
or stored with its list; at the end of a period without a link nothing is sent and the miss is counted, and with one the
sequence of a list of at most 80 counters rises by one. -/
def Obligations.NetworkPortsCarryFrames : Prop :=
  (∀ (o : Origin) (s : State) (c : Ctx) (j : Nat), j = c.u 0 1 →
    (∀ host f, Ready 0x030B frameTransmitBudget frameTransmitChecks o s c → begun s o = false → bit (c.u 1 1) 0 = false →
      descReadMeets s c.p (c.desc 8) = none → quotaReached s c.p = false → (freeNumber s).isSome = true →
      (slotAt s c.p c.k).lostHop = none → f = readDesc s c.p (c.desc 8) host →
      (maySend s j (framePriority (netAt s j) f) = true →
        (netAt s j).heldTx.any (fun h => framePriority (netAt s j) h.2 == framePriority (netAt s j) f) = false →
        (netAt s j).macTx.any (fun e => e.2.valid) = false →
        Does (.frameTransmit o ⟨host, none⟩ .none) s (fun t => Ended t o .ok (leBytes 8 (mainTime s)) ∧ t.out = [.frame j f])) ∧
      (maySend s j (framePriority (netAt s j) f) = false →
        Does (.frameTransmit o ⟨host, none⟩ .none) s (fun t => GoesOn t o ∧ t.out = [] ∧
          (netAt t j).heldTx = (netAt s j).heldTx ++ [(c.p * 32 + c.k, f)]))) ∧
    (Ready 0x030C (fixed .control) espSaSetChecks o s c → Does (.espSaSet o) s (fun t => Ended t o .ok [] ∧ ∃ sa,
      Tbl.get? (if c.u 1 1 == 0 then (netAt t j).espIn else (netAt t j).espOut) (c.u 2 2) = some sa ∧
      sa.valid = bit (c.u 0x10 1) 0 ∧ sa.keySlot = c.u 4 4 ∧ sa.spi = c.u 8 4)) ∧
    (Ready 0x030D (fixed .control) macsecSaSetChecks o s c → Does (.macsecSaSet o) s (fun t => Ended t o .ok [] ∧ ∃ sa,
      (if c.u 1 1 = 0 then Tbl.get? (netAt t j).macTx (c.u 3 1) else Tbl.get? (netAt t j).macRx (c.u 2 1 * 4 + c.u 3 1)) = some sa ∧
      sa.valid = bit (c.u 6 1) 0 ∧ sa.suite = c.u 4 1 ∧ sa.offset = c.u 5 1 ∧ sa.keySlot = c.u 8 4)) ∧
    (Ready 0x03C1 (fixed .immediate) portConfigureChecks o s c → Does (.networkPortConfigure o) s (fun t => Ended t o .ok [] ∧
      (netAt t j).speed = c.u 1 1 ∧ (netAt t j).flow = c.u 2 1 ∧ (netAt t j).high = c.u 3 1 ∧ (netAt t j).low = c.u 4 1)) ∧
    (Ready 0x03C2 (fixed .control) networkPortEnableChecks o s c → Does (.networkPortEnable o) s (fun t => Ended t o .ok [] ∧
      (netAt t j).enabled = true ∧ ((netAt s j).enabled = false → (domain t (8 + j)).clock = true ∧ (domain t (8 + j)).inReset = true))) ∧
    (Ready 0x03C3 (fixed .immediate) networkPortDisableChecks o s c → (∀ h ∈ (netAt s j).heldTx, h.1 ≠ c.p * 32 + c.k) →
      Does (.networkPortDisable o) s (fun t => Ended t o .ok [] ∧ (netAt t j).enabled = false ∧ (netAt t j).linkUp = false)) ∧
    (Ready 0x0903 (fixed .control) telemetryChecks o s c →
      (∀ list, bit (c.u 1 1) 0 = false → Does (.telemetryExportSet o list) s (fun t => Ended t o .ok [] ∧ (netAt t j).telemetry = none)) ∧
      (∀ list bs, bit (c.u 1 1) 0 = true → descReadMeets s c.p (c.desc 0x2C) = none → bs = readDesc s c.p (c.desc 0x2C) list →
        (exportList bs).any (fun e => (counterRow e.1 e.2).isNone) = false →
        Does (.telemetryExportSet o list) s (fun t => Ended t o .ok [] ∧ ∃ x, (netAt t j).telemetry = some x ∧
          x.list = exportList bs)))) ∧
  (∀ (j : Fin 2) (s : State),
    (linkMayRise s j = true → Does (.networkLinkUp j) s (fun t => (netAt t j).linkUp = true)) ∧
    (linkMayRise s j = false → exec (.networkLinkUp j) s = .next { s with out := [] }) ∧
    ((netAt s j).linkUp = true → Does (.networkLinkDown j) s (fun t => (netAt t j).linkUp = false ∧ (netAt t j).heldTx = [] ∧
      (netAt t j).paused = [])) ∧
    ((netAt s j).telemetry = none → exec (.telemetryPeriod j) s = .next { s with out := [] }) ∧
    (∀ x, (netAt s j).telemetry = some x →
      ((netAt s j).linkUp = false → Does (.telemetryPeriod j) s (fun t => (netAt t j).exportSeq = (netAt s j).exportSeq ∧
        counter t 0x0806 j = satAdd 32 (counter s 0x0806 j) 1)) ∧
      ((netAt s j).linkUp = true → 0 < x.list.length → x.list.length ≤ 80 → Does (.telemetryPeriod j) s (fun t =>
        (netAt t j).exportSeq = ((netAt s j).exportSeq + 1) % 4294967296))))

/-- Each ready command ends with OK. An inserted entry stands in a slot of the tables and of their shadow, the first free
candidate where there is one, and the result gives its choice; an update changes the action of the entry of the key, a
deletion takes it out and leaves every other slot alone, a lookup reports action and choice. Profile, pattern, parse limits
and default actions are stored for their port. A ring is set up empty or taken away, and a post adds its descriptors behind
those already posted. -/
def Obligations.ClassifierTablesAndRingsAreSet : Prop :=
  ∀ (o : Origin) (s : State) (c : Ctx) (j : Nat), j = c.u 0 1 →
    (∀ e, e = (⟨c.u 1 1, entryKey c 20, slice c.body 4 16⟩ : Entry) → Ready 0x0301 (fixed .immediate) entryInsertChecks o s c →
      Does (.entryInsert o) s (fun t => ∃ n, Ended t o .ok (leBytes 1 (n / 65536 % 4)) ∧ Tbl.get? t.cls.entries n = some e ∧
        Tbl.get? t.cls.shadow n = some e ∧
        ∀ m, (candidateSlots s (c.u 0 1) (c.u 1 1) (entryKey c 20)).find? (slotFree s) = some m → n = m ∧
          ∀ i, i ≠ n → Tbl.get? t.cls.entries i = Tbl.get? s.cls.entries i)) ∧
    (∀ n, Ready 0x0302 (fixed .immediate) entryUpdateChecks o s c → shadowAt s (c.u 0 1) (c.u 1 1) (entryKey c 20) = some n →
      Does (.entryUpdate o) s (fun t => Ended t o .ok [] ∧
        (Tbl.get? t.cls.shadow n).map (fun e => e.action) = some (slice c.body 4 16) ∧
        ∀ i, i ≠ n → Tbl.get? t.cls.entries i = Tbl.get? s.cls.entries i)) ∧
    (∀ n, Ready 0x0303 (fixed .immediate) entryAbsent o s c → shadowAt s (c.u 0 1) (c.u 1 1) (entryKey c 4) = some n →
      Does (.entryDelete o) s (fun t => Ended t o .ok [] ∧ Tbl.get? t.cls.entries n = none ∧ Tbl.get? t.cls.shadow n = none ∧
        ∀ i, i ≠ n → Tbl.get? t.cls.entries i = Tbl.get? s.cls.entries i)) ∧
    (∀ n e, Ready 0x0304 (fixed .immediate) entryAbsent o s c → shadowAt s (c.u 0 1) (c.u 1 1) (entryKey c 4) = some n →
      Tbl.get? s.cls.shadow n = some e → Does (.entryLookup o) s (fun t => t.cls = s.cls ∧
        Ended t o .ok (slice e.action 0 16 ++ leBytes 1 (n / 65536 % 4)))) ∧
    (Ready 0x0305 (fixed .immediate) profileSetChecks o s c → Does (.profileSet o) s (fun t => Ended t o .ok [] ∧
      Tbl.get? (clsPort t j).profiles (c.u 1 1) = some (profileOf c))) ∧
    (Ready 0x0306 (fixed .immediate) patternSetChecks o s c → Does (.patternSet o) s (fun t => Ended t o .ok [] ∧
      Tbl.get? (clsPort t j).patterns (c.u 1 1) =
        some ⟨bit (c.u 3 1) 0, c.u 2 1, c.u 4 2, c.u 6 2, slice c.body 8 32, slice c.body 40 32⟩)) ∧
    (Ready 0x0307 (fixed .immediate) parseLimitsChecks o s c → Does (.parseLimitsSet o) s (fun t => Ended t o .ok [] ∧
      (clsPort t j).headerLimit = c.u 1 1 ∧ (clsPort t j).byteLimit = c.u 2 2 ∧ (clsPort t j).tpid = c.u 4 2 ∧
      (clsPort t j).vxlan = c.u 6 2 ∧ (clsPort t j).geneve = c.u 8 2)) ∧
    (Ready 0x0308 (fixed .immediate) defaultActionChecks o s c → Does (.defaultActionSet o) s (fun t => Ended t o .ok [] ∧
      (if c.u 1 1 = 0 then (clsPort t j).miss = slice c.body 4 16 ∧ (clsPort t j).failure = (clsPort s j).failure
        else (clsPort t j).failure = slice c.body 4 16 ∧ (clsPort t j).miss = (clsPort s j).miss))) ∧
    (Ready 0x0309 (fixed .control) receiveRingSetChecks o s c → Does (.receiveRingSet o) s (fun t => Ended t o .ok [] ∧
      Tbl.get? (part t c.p).rings j = if c.u 1 1 = 0 then none else some ⟨c.u 1 1, c.u 8 8, 0, 0, []⟩)) ∧
    (∀ descs r, Ready 0x030A (fixed .immediate) receiveRingPostChecks o s c → r = rxRing s c.p j →
      Does (.receiveRingPost o descs) s (fun t => Ended t o .ok [] ∧ (rxRing t c.p j).tail = c.u 4 4 ∧
        (rxRing t c.p j).posted.length = r.posted.length + posting r (c.u 4 4) ∧
        (rxRing t c.p j).posted.take r.posted.length = r.posted ∧ (rxRing t c.p j).base = r.base))

/-- On a port that is up, a good frame of an admitted size that fits the buffer, neither a MAC control nor a MACsec frame on
a port without a valid receive association, is numbered next and dealt to a pipeline; one with a bad FCS is dropped, counted
under cause 2, and the classifier stays as it was. A classification that finds a verdict for an unskipped frame leaves it
released or resolved with that verdict; one that meets a slot under repair parks the frame. The release timer ends 50 µs
after its start, counted. The end of a slot's repair takes it off the list. -/
def Obligations.FramesAreReceivedClassifiedAndReleased : Prop :=
  ∀ (j : Fin 2) (s : State),
    ((netAt s j).linkUp = true → (netAt s j).enabled = true → ∀ f : List Byte, 60 ≤ f.length → f.length ≤ 9212 →
      (field f 12 2 ≠ 0x0888 → field f 12 2 ≠ 0xE588 → (netAt s j).used + f.length ≤ receiveBuffer →
        (netAt s j).macRx.any (fun e => e.2.valid) = false →
        Does (.frameReceive j f true true none) s (fun t => (netAt t j).used = (netAt s j).used + f.length ∧
          (clsPort t j).nextSequence = (clsPort s j).nextSequence + 1 ∧
          ∃ x, Tbl.get? (clsPort t j).frames (clsPort s j).nextSequence = some x ∧ x.bytes = f ∧ x.time = mainTime s ∧
            x.pipeline = nextPipeline s (clsPort s j).nextPipeline ∧ x.verdict = none)) ∧
      Does (.frameReceive j f false true none) s (fun t => t.cls = s.cls ∧
        counter t 0x0804 (j * 256 + 2) = satAdd 32 (counter s 0x0804 (j * 256 + 2)) 1)) ∧
    (∀ (pipe : Fin 16) (ext : Extension) k fr,
      (clsPort s j).frames.find? (fun e => e.2.pipeline == pipe.val && e.2.verdict.isNone && e.2.parked.isNone) = some (k, fr) →
      (∀ v, classify s j fr.bytes ext = .verdict v → fr.skipped = false →
        Does (.classificationComplete j pipe ext .none) s (fun t =>
          ∀ x, Tbl.get? (clsPort t j).frames k = some x → x.verdict = some v)) ∧
      (∀ n, classify s j fr.bytes ext = .parked n → (∀ i, i < 2 → (clsPort s i).frames.all (fun e => e.2.parked.isNone) = true) →
        Does (.classificationComplete j pipe ext .none) s (fun t => ∃ x, Tbl.get? (clsPort t j).frames k = some x ∧
          x.parked = some n ∧ x.bytes = fr.bytes ∧ x.verdict = none))) ∧
    (∀ m e, (clsPort s j).timer = some m → (clsPort s j).frames.find? (fun e => !e.2.skipped && e.2.verdict.isSome) = some e →
      Does (.reorderReleaseTimeout j) s (fun t => t.now = max s.now (m + 50000) ∧
        counter t 0x0904 j = satAdd 32 (counter s 0x0904 j) 1)) ∧
    (∀ ext n rest, s.cls.repairing = n :: rest → Does (.slotRepairEnd ext) s (fun t => t.cls.repairing = rest))

/-- A ready enable ends with OK and leaves the port seeking with an empty count of 0 and its burst on; a ready disable
leaves it disabled; a status reports the record of the port. A Seek window that saw a signal ends after 1 s and starts the
next with a count of 0; an empty one is counted, and the third in a row marks the port absent. A training burst ends, 100 ms
after its window began. A signal on a usable lane starts training where NODE_DONE is high, and is noted where it is not.
Training with no usable lane seeks again, otherwise the port exchanges capabilities on the trained usable lanes; with a
capability received it enters Run, granted; without, it seeks after 10 ms. A retrain that ran out seeks afresh, counted as
lasting. -/
def Obligations.PartnerPortsSeekTrainAndRun : Prop :=
  (∀ (o : Origin) (s : State) (c : Ctx) (n : Nat), n = c.u 0 1 →
    (Ready 0x0381 (fixed .immediate) partnerPortEnableChecks o s c → Does (.partnerPortEnable o) s (fun t => Ended t o .ok [] ∧
      (portAt t n).state = .seek ∧ (portAt t n).empty = 0 ∧ (portAt t n).absent = false ∧ (portAt t n).bursting = true)) ∧
    (Ready 0x0382 (fixed .immediate) partnerPortDisableChecks o s c → Does (.partnerPortDisable o) s (fun t => Ended t o .ok [] ∧
      (portAt t n).state = .disabled ∧ (portAt t n).bursting = false)) ∧
    (Ready 0x0383 (fixed .immediate) partnerPortStatusChecks o s c → Does (.partnerPortStatus o) s (fun t =>
      Ended t o .ok (portRecord s n) ∧ t.ports = s.ports))) ∧
  (∀ (n : Fin 8) (s : State), (portAt s n).state = .seek →
    ((portAt s n).seen = true → Does (.seekWindowEnd n) s (fun t => (portAt t n).empty = 0 ∧ (portAt t n).seen = false ∧
      (portAt t n).bursting = true ∧ t.now = max s.now ((portAt s n).stateFrom + 1000000000) ∧ (portAt t n).stateFrom = t.now)) ∧
    ((portAt s n).seen = false → Does (.seekWindowEnd n) s (fun t => (portAt t n).empty = (portAt s n).empty + 1 ∧
      counter t 0x0706 n = satAdd 32 (counter s 0x0706 n) 1 ∧ ((portAt s n).empty = 2 → (portAt t n).absent = true))) ∧
    (∀ lane : Fin 8, bit (usableLanes s n) lane = true → Does (.partnerTrainingSignal n lane) s (fun t =>
      if s.boot.nodeDoneHigh = true then (portAt t n).state = .train
        else (portAt t n).state = .seek ∧ (portAt t n).seen = true))) ∧
  (∀ (n : Fin 8) (s : State),
    Does (.trainingBurstEnd n) s (fun t => t = { s with out := [], now := t.now, ports := t.ports } ∧ (portAt t n).bursting = false ∧
      t.now = (if (portAt s n).bursting = true then max s.now ((portAt s n).stateFrom + 100000000) else s.now)) ∧
    ((portAt s n).state = .train → ∀ (trained : BitVec 8) lanes, lanes = bothLanes trained.toNat (usableLanes s n) →
      Does (.trainEnd n trained) s (fun t => if lanes = 0 then (portAt t n).state = .seek else
        (portAt t n).state = .exchange ∧ (portAt t n).lanes = lanes ∧ (portAt t n).trained = lanes ∧
        (portAt t n).capability = none)) ∧
    ((portAt s n).state = .exchange →
      ((portAt s n).capability.isSome = true → Does (.exchangeComplete n) s (fun t => (portAt t n).state = .run ∧
        (portAt t n).granted = true ∧ (portAt t n).empty = 0)) ∧
      Does (.exchangeTimeout n) s (fun t => (portAt t n).state = .seek ∧ (portAt t n).seen = true ∧
        t.now = max s.now ((portAt s n).stateFrom + 10000000))) ∧
    ((portAt s n).state = .retrain → Does (.retrainTimeout n) s (fun t => (portAt t n).state = .seek ∧
      (portAt t n).empty = 0 ∧ counter t 0x0704 (n * 256 + 1) = satAdd 16 (counter s 0x0704 (n * 256 + 1)) 1)))

/-- An idle parcel that is good and carried no symbol error changes nothing but when its port last received a good parcel. A
good link management parcel in sequence, on a port in Run with no replay asked and no credit exceeded, advances the expected
sequence modulo 2¹⁶. A bad parcel with no replay asked makes this side ask for the expected sequence, counted. A good
control parcel of a sender in Run or Degrade with no flags, no replay answered and nothing waiting releases the acknowledged
parcels from the replay buffer and adds the freed counts to the credit; of a sender in another state it ends the link with
cause 4. A seal, confirm or cancel acknowledgement of the present generation is taken off those owed. -/
def Obligations.LinkParcelsAreCheckedAndReplayed : Prop :=
  (∀ (n : Fin 8) (parcel : List Byte) (fec : Fec) (s : State) (good : Bool),
    good = (!fecFails fec && field parcel 0x128 4 == (crc32c (slice parcel 0 0x128)).toNat) →
    (good = true → field parcel 2 1 = 0 → (∀ l, l < 8 → fec.symbols.getD l 0 = 0) →
      Does (.linkParcelReceive n parcel fec) s (fun t => t = { s with out := [], ports := t.ports } ∧
        ∀ m, portAt t m = { portAt s m with lastGood := (portAt t m).lastGood })) ∧
    (good = true → field parcel 2 1 = 0x0B → field parcel 0 2 = (portAt s n).rxExpected → (portAt s n).state = .run →
      (portAt s n).asked = none →
      ((portAt s n).received.getD 3 0 + 65536 - (portAt s n).freed.getD 3 0) % 65536 < 32 →
      Does (.linkParcelReceive n parcel fec) s (fun t => (portAt t n).state = .run ∧
        (portAt t n).rxExpected = ((portAt s n).rxExpected + 1) % 65536)) ∧
    (good = false → inRun s n = true → (portAt s n).asked = none →
      Does (.linkParcelReceive n parcel fec) s (fun t => (portAt t n).asked = some (portAt s n).rxExpected ∧
        (portAt t n).failures = 1 ∧ (portAt t n).rxExpected = (portAt s n).rxExpected ∧
        counter t 0x0702 n = satAdd 32 (counter s 0x0702 n) 1)) ∧
    (good = true → field parcel 0 1 = 0x80 → inRun s n = true →
      ((field parcel 1 1 = 4 ∨ field parcel 1 1 = 5) → field parcel 6 1 = 0 → (portAt s n).answered = none →
        (portAt s n).waiting = [] →
        (∀ c, c < 4 → (field parcel (8 + 2 * c) 2 + 65536 - (portAt s n).freedSeen.getD c 0) % 65536 < 32768) →
        Does (.controlParcelReceive n parcel fec) s (fun t =>
          (portAt t n).replay = afterAck (portAt s n).replay (field parcel 2 2) ∧
          (portAt t n).freedSeen = freedCounts parcel ∧
          ∀ c, c < 4 → (portAt t n).credit.getD c 0 = (portAt s n).credit.getD c 0 +
            (field parcel (8 + 2 * c) 2 + 65536 - (portAt s n).freedSeen.getD c 0) % 65536)) ∧
      (field parcel 1 1 ≠ 4 → field parcel 1 1 ≠ 5 →
        Does (.controlParcelReceive n parcel fec) s (fun t => (portAt t n).state = .retrain ∧
          counter t 0x0703 (n * 256 + 4) = satAdd 16 (counter s 0x0703 (n * 256 + 4)) 1)))) ∧
  (∀ (n : Fin 8) (payload : List Byte) (s : State) (m : Nat), m = field payload 1 1 → inRun s n = true →
    (Tbl.get? (convoy s m).acksOwed n).isSome = true → bit (field payload 2 1) 0 = (convoy s m).generation →
    (field payload 0 1 = 0x81 ∧ (convoy s m).state = .sealed ∧ field payload 3 1 = 0 ∧
        field payload 4 4 = Tbl.getD (convoy s m).carried n 0) ∨
      (field payload 0 1 = 0x82 ∧ (convoy s m).state = .confirmed) ∨
      (field payload 0 1 = 0x83 ∧ (convoy s m).state = .cancelling) →
    Does (.convoyControlReceived n payload) s (fun t => (convoy t m).acksOwed = Tbl.erase (convoy s m).acksOwed n ∧
      (convoy t m).state = (convoy s m).state))

/-- Silence on a port in Run or Degrade makes it retrain 8 µs after its last good parcel, counted by cause; on another port
it changes nothing. A replay that ran out 2 µs after it began does the same with its own cause. A lane in service that loses
lock is dropped and relocked: with lanes left the port degrades to them, with none it retrains. A lane that relocks is taken
back in a lane change; one that does not is fenced. A lane change that completes puts the port in Run on the new lanes. An
acknowledgement whose control parcel has gone out and that is 12 µs late with no replay under way is counted and ends the
link; the first time during a replay it is extended. -/
def Obligations.LinkFaultsRetrainOrDegrade : Prop :=
  ∀ (n : Fin 8) (s : State),
    (inRun s n = true → Does (.linkSilence n) s (fun t => (portAt t n).state = .retrain ∧
      t.now = max s.now ((portAt s n).lastGood + 8000) ∧ (portAt t n).retrainFrom = some t.now ∧ (portAt t n).granted = false ∧
      counter t 0x0703 (n * 256 + 1) = satAdd 16 (counter s 0x0703 (n * 256 + 1)) 1)) ∧
    (inRun s n = false → exec (.linkSilence n) s = .next { s with out := [] }) ∧
    ((portAt s n).state = .run → (portAt s n).asked.isSome = true → Does (.replayTimeout n) s (fun t =>
      (portAt t n).state = .retrain ∧ t.now = max s.now ((portAt s n).replayFrom + 2000) ∧
      counter t 0x0703 (n * 256 + 3) = satAdd 16 (counter s 0x0703 (n * 256 + 3)) 1)) ∧
    (∀ (lane : Fin 8) mask, mask = clearBit ((portAt s n).newLanes.getD (portAt s n).lanes) lane →
      inRun s n = true → bit (portAt s n).lanes lane = true → bit (portAt s n).relocking lane = false →
      Does (.laneLossOfLock n lane) s (fun t => bit (portAt t n).relocking lane = true ∧
        if mask = 0 then (portAt t n).state = .retrain
        else (portAt t n).state = .degrade ∧ (portAt t n).newLanes = some mask)) ∧
    (∀ lane : Fin 8, bit (portAt s n).relocking lane = true →
      (inRun s n = true → Does (.laneRelockEnd n lane true) s (fun t => (portAt t n).state = .degrade ∧
        (portAt t n).newLanes = some (setBit ((portAt s n).newLanes.getD (portAt s n).lanes) lane))) ∧
      Does (.laneRelockEnd n lane false) s (fun t => isFenced t 0x02 (n * 8 + lane) = true ∧
        bit (portAt t n).relocking lane = false)) ∧
    (∀ m, (portAt s n).state = .degrade → (portAt s n).newLanes = some m →
      Does (.restripeComplete n) s (fun t => (portAt t n).state = .run ∧ (portAt t n).lanes = m ∧
        (portAt t n).newLanes = none)) ∧
    (∀ (m : Fin 256) (at_ : Nat), Tbl.get? (convoy s m).acksOwed n = some at_ → inRun s n = true →
      (portAt s n).waiting.any (controlOf m (convoy s m).generation) = false →
      ((portAt s n).asked = none → (portAt s n).answered = none → Does (.ackTimeout n m) s (fun t =>
        (portAt t n).state = .retrain ∧ counter t 0x0204 n = satAdd 16 (counter s 0x0204 n) 1 ∧
        t.now = max s.now (at_ + 12000 + if (convoy s m).ackExtended.contains n.val then 2000 else 0))) ∧
      ((portAt s n).asked.isSome = true → (convoy s m).ackExtended.contains n.val = false → Does (.ackTimeout n m) s (fun t =>
        (portAt t n).state = (portAt s n).state ∧ (convoy t m).ackExtended.contains n.val = true ∧
        t.now = max s.now (at_ + 12000))))

/-- A valid VAON, with the vault on, starts the selection of an image with KA running and the handle generations begun at
the power-up count; with the vault off it changes nothing but what the last step sent. Its loss resets the always-on domain
and keeps the part, its ledger and its fence map. PLL-A's lock is taken while it is not lost. A selection in which no copy
is eligible leaves no image; one in which copy A is eligible and passes and copy B is not takes A with its tables. A due
section that is good is loaded; a bad first read is noted. The end of an enabled self-test that found nothing leaves node
memory zero, and the guarantee status formed. -/
def Obligations.StartUpBringsTheNodeUp : Prop :=
  (∀ (straps : Fin 4) (s : State), s.boot.vaon = false → vaultOn s = true → Does (.vaonValid straps) s (fun t => t.boot.vaon = true ∧
    t.boot.phase = .selecting ∧ t.boot.twtStraps = straps ∧ t.boot.vaonAt = s.now ∧ domain t 3 = ⟨true, true, false, false⟩ ∧
    t.memory.generations = [] ∧ t.memory.generationBase = s.vault.powerUps % 65536)) ∧
  (∀ (straps : Fin 4) (s : State), s.boot.vaon = false → vaultOn s = false →
    exec (.vaonValid straps) s = .next { s with out := [] }) ∧
  (∀ s : State, s.boot.vaon = true →
    Does .alwaysOnReset s (fun t => t.boot = Boot.init s.boot.product s.boot.fuses ∧ t.twt = Twt.init ∧ t.buses = [] ∧
      t.vault.ledger = s.vault.ledger ∧ t.faults.fenceMap = s.faults.fenceMap ∧ t.faults.record = [] ∧
      t.tensor.ceiling = 1) ∧
    Does .pllALock s (fun t => t.boot.pllA = (s.boot.pllA || !s.boot.pllLost))) ∧
  (∀ (a b : ImageCopy) (s : State), s.boot.vaon = true → s.boot.phase = .selecting →
    (s.boot.rejected.contains 1 = true ∨ (ineligible b).isSome = true) →
    ((s.boot.rejected.contains 0 = true ∨ (ineligible a).isSome = true) →
      Does (.imageSelection a b) s (fun t => t.boot.phase = .noImage ∧ t.boot.copy = none)) ∧
    (s.boot.rejected.contains 0 = false → ineligible a = none → a.first.contains 1 = true → tablesOk a.tables = true →
      Does (.imageSelection a b) s (fun t => t.boot.copy = some 0 ∧ t.boot.imageSeq = field a.header 8 4 ∧
        t.aon.tables = a.tables))) ∧
  (∀ (kind : Fin 6) (s : State), s.boot.mainOn = true → s.aon.seq.down = none → nextSection s = some kind.val →
    Does (.sectionReadComplete kind true) s (fun t => t.boot.loaded = s.boot.loaded ++ [kind.val]) ∧
    (s.boot.sectionRetry.contains kind.val = false → Does (.sectionReadComplete kind false) s (fun t =>
      t.boot.loaded = s.boot.loaded ∧ t.boot.sectionRetry = s.boot.sectionRetry ++ [kind.val]))) ∧
  (∀ s : State, s.boot.mainOn = true → s.boot.selfTestDone = false → s.aon.tables.selfTest = true →
    Does (.selfTestEnd [] []) s (fun t => t.boot.selfTestDone = true ∧ t.memory.bytes = [] ∧ t.memory.tags = [] ∧
      t.faults.status.isSome = true ∧ t.faults.scrubOwed = []))

/-- Once the Synfy section is loaded and self-test has ended, Synfy becomes ready: the fault record is delivered, NODE_DONE
is released and its 3 s timer starts. The default content is loaded. NODE_DONE that rises ends solo mode and its timer, and
every port in Seek that has seen a signal trains. NODE_DONE that falls is no longer high. 3 s after its release a node that
is still low is in solo mode. A boundary-scan instruction stops a main domain that runs, its rails left as they are;
Test-Logic-Reset is noted. -/
def Obligations.SynfyReadinessAndNodeDone : Prop :=
  (∀ s : State, s.boot.mainOn = true → s.boot.phase = .mainStart → s.boot.loaded.contains 2 = true →
    (s.boot.selfTestDone = true ∨ s.aon.tables.selfTest = false) → Does .synfyReady s (fun t => t.boot.phase = .ready ∧
      t.boot.synfyReady = true ∧ t.boot.selfTestDone = true ∧ t.boot.nodeDoneDriven = false ∧ t.boot.soloTimer = some s.now ∧
      t.faults.record = [] ∧ t.vault.heldEvents = [])) ∧
  (∀ (content : List (Nat × List Byte)) (s : State), s.boot.synfyReady = true → s.boot.classifierLoaded = false →
    (s.boot.sections.contains 5 = true → s.boot.loaded.contains 5 = true) →
    Does (.classifierLoadComplete content) s (fun t => t.boot.classifierLoaded = true)) ∧
  (∀ s : State,
    (s.boot.vaon = true → s.boot.nodeDoneDriven = false → s.boot.nodeDoneHigh = false →
      Does .nodeDoneHigh s (fun t => t.boot.nodeDoneHigh = true ∧ t.boot.solo = false ∧ t.boot.soloTimer = none ∧
        ∀ n, n < 8 → (portAt s n).state = .seek → (portAt s n).seen = true → (portAt t n).state = .train)) ∧
    Does .nodeDoneFall s (fun t => t = { s with out := [], boot := t.boot } ∧ t.boot.nodeDoneHigh = false) ∧
    (∀ m, s.boot.soloTimer = some m → Does .soloMode s (fun t => t.boot.solo = true ∧ t.boot.soloTimer = none ∧
      t.now = max s.now (m + 3000000000))) ∧
    (∀ instr : Fin 5, s.boot.vaon = true → s.boot.mainOn = true → Does (.boundaryScanInstruction instr) s (fun t =>
      t.boot.mainOn = false ∧ t.boot.scanStopped = true ∧ t.boot.testLogicReset = false ∧ t.parts = [] ∧
      ∀ v, (rail t v).enabled = (rail s v).enabled)) ∧
    Does .testLogicReset s (fun t => t = { s with out := [], boot := t.boot } ∧ t.boot.testLogicReset = true))

/-- A ready transaction joins the end of its bus's queue and goes on. A configuration takes effect at once on an idle bus
and waits on a busy one; a status changes no bus. The head of a queue, its target not absent, ends with OK or at its second
attempt with RECOVERED and the bytes read; its first failure starts it again; a second ends it with ABSENT, the target
marked, or with INTEGRITY. A lost arbitration is counted, the eighth ends it with BUSY. A poll that is acknowledged clears
its mark, one that is not leaves it. Once an image is accepted a host alert is reported with the address that answered. A
hung bus has an empty queue, and what it carried for the mailbox ends with HUNG. -/
def Obligations.TwoWireTransactionsAreQueuedAndCarriedOut : Prop :=
  (∀ (o : Origin) (s : State) (c : Ctx) (b : Nat), b = c.u 0 1 →
    (Ready 0x0801 (fixed .management) transactionChecks o s c → begun s o = false → Does (.transaction o) s (fun t =>
      GoesOn t o ∧ (bus t b).queue = (bus s b).queue ++
        [⟨o, c.u 1 1, c.u 2 1, c.u 4 1, bit (c.u 3 1) 0, slice c.body 8 (c.u 5 1), c.u 6 1, 1, 0⟩])) ∧
    (Ready 0x0802 (fixed .management) busConfigureChecks o s c → Does (.busConfigure o) s (fun t => Ended t o .ok [] ∧
      if (bus s b).queue = [] then (bus t b).mode = c.u 1 1 ∧ (bus t b).filter = c.u 2 1 ∧ (bus t b).next = none
      else (bus t b).mode = (bus s b).mode ∧ (bus t b).next = some (c.u 1 1, c.u 2 1))) ∧
    (Ready 0x0803 (fixed .management) busStatusChecks o s c → Does (.busStatus o) s (fun t => t.buses = s.buses ∧
      ∃ r, Ended t o .ok r ∧ r.length = 20 ∧ r.take 3 = leBytes 1 (b2n (bus s b).hung.isSome + 2 * b2n ((bus s b).hung == some true))
        ++ leBytes 1 (bus s b).mode ++ leBytes 1 (bus s b).filter))) ∧
  (∀ (b : Fin 3) (s : State) (j : TwJob) (rest : List TwJob) (p k : Fin 32), (bus s b).hung = none →
    (bus s b).queue = j :: rest → Tbl.get? (bus s b).absent j.addr = none → j.origin = .mbx p k →
    (slotAt s p k).phase = .running →
    (∀ data, Does (.busFreeStart b (.done data)) s (fun t => (bus t b).queue = rest ∧
      Ended t j.origin (if j.attempt < 2 then .ok else .recovered) (slice data 0 (min (jobReads j) 48)))) ∧
    Does (.busFreeStart b .addressNack) s (fun t => if j.attempt < 2
      then (bus t b).queue = { j with attempt := 2 } :: rest ∧ counter t 0x0E00 b = satAdd 32 (counter s 0x0E00 b) 1
      else Ended t j.origin .absent [] ∧ (Tbl.get? (bus t b).absent j.addr).isSome = true) ∧
    (∀ try_, try_ = .dataNack ∨ try_ = .pecBad → Does (.busFreeStart b try_) s (fun t =>
      counter t 0x0E02 b = satAdd 32 (counter s 0x0E02 b) 1 ∧ if j.attempt < 2
      then (bus t b).queue = { j with attempt := 2 } :: rest else (bus t b).queue = rest ∧ Ended t j.origin .integrity [])) ∧
    Does (.arbitrationLost b) s (fun t => counter t 0x0E03 b = satAdd 32 (counter s 0x0E03 b) 1 ∧
      if j.losses < 7 then (bus t b).queue = { j with losses := j.losses + 1 } :: rest
      else (bus t b).queue = rest ∧ Ended t j.origin .busy [])) ∧
  (∀ (b : Fin 3) (s : State), (bus s b).hung = none →
    (∀ (addr : Fin 128) m, Tbl.get? (bus s b).absent addr = some m →
      Does (.absentPoll b addr .acknowledged) s (fun t => Tbl.get? (bus t b).absent addr = none ∧
        t.now = max s.now (m + ((s.now - m) / 1000000000 + 1) * 1000000000)) ∧
      Does (.absentPoll b addr .notAcknowledged) s (fun t => Tbl.get? (bus t b).absent addr = some m)) ∧
    (s.aon.tables.steps ≠ [] → exec (.alertResponse b none) s = .next { s with out := [.twoWire b 0x0C [] 1] } ∧
      ∀ a : Fin 128, exec (.alertResponse b (some a)) s =
        .next (raiseAon { s with out := [.twoWire b 0x0C [] 1] } 0x0806 false (b.val + 256 * a.val))) ∧
    (∀ sda, s.boot.vaon = true → Does (.busHung b sda) s (fun t => (bus t b).hung = some sda ∧ (bus t b).queue = [] ∧
      counter t 0x0E04 b = satAdd 16 (counter s 0x0E04 b) 1 ∧
      ∀ j ∈ (bus s b).queue, ∀ p k, j.origin = .mbx p k → (slotAt s p k).phase = .running →
        ∃ e, (slotAt t p k).ending = some e ∧ e.status = .hung)))

/-- From 150 ms after VAON, a whole frame of 8 to 64 bytes with a good PEC is held as the request: it runs, or where a check
ends it is answered at once; one that meets a request being processed is turned away and its sequence kept. A frame with a
bad PEC changes nothing. A read gives the held response, or BUSY for the frame turned away; an event read gives the oldest
event and takes it off. A target timeout is counted. -/
def Obligations.TwtAnswersItsController : Prop :=
  (∀ (f : List Byte) (s : State), twtAnswers s = true → 8 ≤ f.length → f.length ≤ 64 →
    (s.twt.running = true → Does (.twtRequest f true) s (fun t => t.twt.overrun = some (slice f 2 4) ∧ t.twt.running = true ∧
      t.twt.request = s.twt.request)) ∧
    (s.twt.running = false → ∀ held : State, held = { s with out := [], twt := { s.twt with
        request := some f, running := true, begun := false, overrun := none, response := none, unread := false } } →
      ((twtChecks held (twtCtx f)).verdict = none → exec (.twtRequest f true) s = .next held) ∧
      ∀ st, (twtChecks held (twtCtx f)).verdict = some st → Does (.twtRequest f true) s (fun t => Ended t .twt st [] ∧
        t.twt.unread = true)) ∧
    exec (.twtRequest f false) s = .next { s with out := [] }) ∧
  (∀ s : State, twtAnswers s = true →
    (∀ seq, s.twt.overrun = some seq → Does .twtResponseRead s (fun t => t.out = [.twt (twtBusy seq)] ∧ t.twt.overrun = none)) ∧
    (∀ bs, s.twt.overrun = none → s.twt.running = false → s.twt.response = some bs →
      Does .twtResponseRead s (fun t => t.out = [.twt bs] ∧ t.twt.unread = false ∧ t.twt.response = some bs)) ∧
    (∀ e rest, s.twt.events = e :: rest → Does .twtEventRead s (fun t => t.twt.events = rest ∧
      ∃ n ph, t.out = [.twt (eventBytes n ph e)]))) ∧
  (∀ s : State, s.boot.vaon = true → Does .twtTargetTimeout s (fun t =>
    counter t 0x0E05 0 = satAdd 16 (counter s 0x0E05 0) 1))

/-- Each ready command ends with OK. A counter read gives value, width and flags of the counter's row, and clears the stall
counter only. The guarantee status is read. Scrub is disabled, or enabled afresh with a pass of every unit owed. A resource
that is fenced on request is fenced, or for a granule its retirement starts, and the count of lasting faults stands. A
release whose self-test passes takes the fence away and, for a granule, leaves it zero; one that fails ends with LASTING and
keeps the fence. -/
def Obligations.MaintenanceCountersAndFences : Prop :=
  ∀ (o : Origin) (s : State) (c : Ctx),
    (∀ r, Ready 0x0901 counterReadBudget counterReadChecks o s c → counterRow (c.u 0 2) (c.u 2 2) = some r →
      Does (.counterRead o) s (fun t => Ended t o .ok (leBytes 8 (counterValue s (c.u 0 2) (c.u 2 2)) ++ leBytes 1 r.width ++
        leBytes 1 (b2n (!r.wraps && counterValue s (c.u 0 2) (c.u 2 2) == 2 ^ r.width - 1) + 2 * b2n (c.u 0 2 == 0x0100))) ∧
        (c.u 0 2 = 0x0100 → counter t 0x0100 (c.u 2 2) = 0))) ∧
    (Ready 0x0902 (fixed .immediate) noChecks o s c → Does (.guaranteeStatusRead o) s (fun t =>
      Ended t o .ok (leBytes 4 (guaranteeStatus s)))) ∧
    (Ready 0x0A02 (fixed .immediate) scrubSetChecks o s c → Does (.scrubSet o) s (fun t => Ended t o .ok [] ∧
      t.faults.scrubOff = (c.u 0 1 != 1) ∧
      t.faults.scrubOwed = if c.u 0 1 = 1 ∧ s.faults.scrubOff = true then List.range 9 else s.faults.scrubOwed)) ∧
    (Ready 0x0A03 (fixed .control) fenceResourceChecks o s c → (∀ j h, h ∈ (netAt s j).heldTx → h.1 ≠ c.p * 32 + c.k) →
      Does (.fenceResource o) s (fun t => Ended t o .ok [] ∧ counter t 0x0301 (c.u 0 1) = counter s 0x0301 (c.u 0 1) ∧
        if c.u 0 1 = 3 then (granule t (c.u 2 2)).retiring = some false else isFenced t (c.u 0 1) (c.u 2 2) = true)) ∧
    (Ready 0x0A04 resourceReleaseBudget resourceReleaseChecks o s c →
      Does (.fenceRelease o true) s (fun t => Ended t o .ok [] ∧ isFenced t (c.u 0 1) (c.u 2 2) = false ∧
        (c.u 0 1 = 3 → ∀ a, c.u 2 2 * granuleBytes ≤ a → a < (c.u 2 2 + 1) * granuleBytes → Mem.read t.memory.bytes a = 0)) ∧
      Does (.fenceRelease o false) s (fun t => Ended t o .lasting [] ∧ isFenced t (c.u 0 1) (c.u 2 2) = true ∧
        t.memory = s.memory))

/-- An image that passes starts the update: the spare copy's header sector is erased and its sections are written; one that
fails ends with INTEGRITY. What is read back ends it: right at once or after a second write, with OK and copy and version;
wrong twice, with LASTING; no update is left. A version request on a ready port is answered and starts the transcript; a
challenge is answered busy where no signature can be made; on a port that is not ready nothing changes. -/
def Obligations.FirmwareUpdateAndSpdm : Prop :=
  (∀ (o : Origin) (s : State) (c : Ctx) (host image : List Byte) (ok : Bool) (readBack : Fin 3),
    (Ready 0x0A05 firmwareUpdateBudget updateChecks o s c → begun s o = false → descReadMeets s c.p (c.desc 0) = none →
      image = readDesc s c.p (c.desc 0) host →
      (imageOk image ok = true → Does (.firmwareUpdate o host ok readBack) s (fun t => GoesOn t o ∧
        t.boot.update = some c.k ∧ t.boot.updateCopy = spareCopy s ∧ t.out = sectionWrites (spareCopy s) image)) ∧
      (imageOk image ok = false → Does (.firmwareUpdate o host ok readBack) s (fun t => Ended t o .integrity [] ∧
        t.boot.update = s.boot.update))) ∧
    (ctxOf s o = some c → c.twt = false → c.op = 0x0A05 → begun s o = true → s.boot.update = some c.k →
      image = (slotAt s c.p c.k).inputs.headD [] → Does (.firmwareUpdate o host ok readBack) s (fun t => t.boot.update = none ∧
        if readBack = 2 then Ended t o .lasting []
        else Ended t o .ok (leBytes 1 s.boot.updateCopy ++ [0] ++ leBytes 1 (field image 6 1) ++ leBytes 1 (field image 7 1))))) ∧
  (∀ (h : Fin 2) (r : List Byte) (s : State),
    ((hostPort s h).ready = true → (hostFn s h 0).flr = false →
      (field r 1 1 = 0x84 → Does (.spdmRequest h r) s (fun t => t.out = [.doe h 0 [0x10, 4, 0, 0, 0, 1, 0, 0x12]] ∧
        (hostPort t h).spdmA = r ++ [0x10, 4, 0, 0, 0, 1, 0, 0x12] ∧ (hostPort t h).spdmB = [] ∧ (hostPort t h).spdmL = [])) ∧
      (field r 1 1 = 0x83 → field r 2 1 = 0 → (s.vault.tripped = true ∨ s.vault.leaf = false) →
        Does (.spdmRequest h r) s (fun t => t.out = [.doe h 0 (spdmError 3 0)]))) ∧
    ((hostPort s h).ready = false → exec (.spdmRequest h r) s = .next { s with out := [] }))

/-- VAON_VALID with the vault supply present and VAON absent takes the straps as they are at that moment. From every state
with VAON valid, if the step answers a next state in which VAON is still valid, whatever command it carried out, the sampled
straps are the same; a VAON_VALID presented again while VAON is valid changes nothing. -/
def Obligations.StrapsAreSampledOnce : Prop :=
  (∀ (straps : Fin 4) (s : State),
    (s.boot.vaon = false → vaultOn s = true →
      Does (.vaonValid straps) s (fun t => t.boot.vaon = true ∧ t.boot.twtStraps = straps)) ∧
    (s.boot.vaon = true → exec (.vaonValid straps) s = .next { s with out := [] })) ∧
  (∀ s t : State, s.boot.vaon = true → step s = .next t → t.boot.vaon = true → t.boot.twtStraps = s.boot.twtStraps)

/-- For the request commands named, if exec answers a next state, every piece of state but the named ones is as it was: the
object of the request (memory bookkeeping, classifier tables, vault, always-on registers, network ports, drive commands,
partner ports, buses, tensor state, convoys and queues, extents, key slots, boot state, domains, timebase), what went out,
the partitions' records of requests and events, the fault record, the counters, host interrupts and TWT's exchange. Where it
says so every partition keeps state, binding, masks, quotas, keys and windows. SYNC_WAIT and MODEL_LOAD, which may answer at
once, are held to it where the partition has no response under a wrong tag. A form that stores nothing leaves every byte of
node and spill memory; LEDGER_READ and CIPHER_OPERATION leave every byte outside what they store. -/
def Obligations.RequestsTouchOnlyTheirObject : Prop :=
  ∀ (o : Origin) (s t : State),
    (∀ i, i ∈ [
      Instr.deviceIdentity o, .partitionStatus o, .modelQuery o, .syncRead o, .entryLookup o, .partnerPortStatus o,
        .driveQuery o,
      .keyQuery o, .timeRead o, .tamperStatus o, .ledgerStatus o, .fanStatus o, .axisStatus o, .thermalStatus o,
      .busStatus o, .counterRead o, .guaranteeStatusRead o] →
      exec i s = .next t →
      t = reporting s t ∧ PartitionsKept s t) ∧
    (∀ (descs : List (List Byte)) i, i ∈ [
      Instr.grantMaskSet o, .loadingModeSet o, .clusterMaskSet o, .receiveRingSet o, .receiveRingPost o descs] →
      exec i s = .next t →
      t = reporting s t) ∧
    (∀ i, i ∈ [
      Instr.modelUnload o, .regionAllocate o, .regionFree o, .syncCreate o, .syncDestroy o, .syncSignal o, .syncBind o,
        .scrubSet o] →
      exec i s = .next t →
      t = { reporting s t with memory := t.memory } ∧ PartitionsKept s t ∧
        t.memory.bytes = s.memory.bytes ∧ t.memory.spill = s.memory.spill) ∧
    (∀ i, i ∈ [
      Instr.entryInsert o, .entryUpdate o, .entryDelete o, .profileSet o, .patternSet o, .parseLimitsSet o, .defaultActionSet
        o] →
      exec i s = .next t →
      t = { reporting s t with cls := t.cls } ∧ PartitionsKept s t) ∧
    (∀ (passed : BitVec 6) i, i ∈ [
      Instr.trimSet o, .alarmSet o, .timeStampRead o, .backupRateSet o, .tamperSelfTest o passed, .tamperAcknowledge o,
      .recordAppend o] →
      exec i s = .next t →
      t = { reporting s t with vault := t.vault } ∧ PartitionsKept s t) ∧
    (∀ i, i ∈ [
      Instr.railSwitch o, .railFenceRelease o, .snapshotRead o, .fanFloorSet o, .axisTarget o, .axisLimitsSet o,
        .calibrationRun o] →
      exec i s = .next t →
      t = { reporting s t with aon := t.aon } ∧ PartitionsKept s t) ∧
    (∀ (list : List Byte) i, i ∈ [
      Instr.espSaSet o, .macsecSaSet o, .networkPortConfigure o, .telemetryExportSet o list] →
      exec i s = .next t →
      t = { reporting s t with nets := t.nets } ∧ PartitionsKept s t) ∧
    (∀ i, i ∈ [
      Instr.storageRead o, .flush o, .deallocate o] →
      exec i s = .next t →
      t = { reporting s t with driveCmds := t.driveCmds } ∧ PartitionsKept s t) ∧
    (exec (.quotaSet o) s = .next t →
      t = { reporting s t with memory := t.memory } ∧
        t.memory.bytes = s.memory.bytes ∧ t.memory.spill = s.memory.spill) ∧
    (Untagged s (originPart o) → exec (.syncWait o) s = .next t →
      t = { reporting s t with memory := t.memory } ∧
        t.memory.bytes = s.memory.bytes ∧ t.memory.spill = s.memory.spill) ∧
    (∀ i, i ∈ [
      Instr.partnerCheckingSet o, .partnerPortEnable o] →
      exec i s = .next t →
      t = { reporting s t with ports := t.ports } ∧ PartitionsKept s t) ∧
    (exec (.ledgerRead o) s = .next t →
      t = { reporting s t with memory := t.memory } ∧ PartitionsKept s t) ∧
    (∀ hostData, exec (.memoryTransfer o hostData) s = .next t →
      t = { reporting s t with memory := t.memory, convoys := t.convoys } ∧ PartitionsKept s t) ∧
    (∀ i, i ∈ [
      Instr.transaction o, .busConfigure o] →
      exec i s = .next t →
      t = { reporting s t with buses := t.buses } ∧ PartitionsKept s t) ∧
    (exec (.convoyDeadlineSet o) s = .next t →
      t = { reporting s t with nets := t.nets }) ∧
    (∀ (image : List Byte) (reread : Option (List Byte)), Untagged s (originPart o) →
      exec (.modelLoad o image reread) s = .next t →
      t = { reporting s t with memory := t.memory, streams := t.streams, ports := t.ports, queues := t.queues }) ∧
    (∀ hostData, exec (.blockOffload o hostData) s = .next t →
      t = { reporting s t with tensor := t.tensor, memory := t.memory } ∧ PartitionsKept s t ∧
        t.memory.bytes = s.memory.bytes ∧ t.memory.spill = s.memory.spill) ∧
    (exec (.extentDestroy o) s = .next t →
      t = { reporting s t with extents := t.extents } ∧ PartitionsKept s t) ∧
    (exec (.keyDestroy o) s = .next t →
      t = { reporting s t with keys := t.keys } ∧ PartitionsKept s t) ∧
    (exec (.receiptKeyChange o) s = .next t →
      t = { reporting s t with vault := t.vault }) ∧
    (∀ (image : List Byte) (signatureOk : Bool) (readBack : Fin 3), exec (.firmwareUpdate o image signatureOk readBack) s =
        .next t →
      t = { reporting s t with boot := t.boot } ∧ PartitionsKept s t) ∧
    (∀ i, i ∈ [
      Instr.ktLimitSet o, .fanRestart o, .axisModeSet o, .axisHome o, .axisRelease o] →
      exec i s = .next t →
      t = { reporting s t with tensor := t.tensor, aon := t.aon } ∧ PartitionsKept s t) ∧
    (∀ i, i ∈ [
      Instr.networkPortEnable o, .networkPortDisable o] →
      exec i s = .next t →
      t = { reporting s t with domains := t.domains, nets := t.nets } ∧ PartitionsKept s t) ∧
    (∀ i, i ∈ [
      Instr.keyInstall o, .keyReplace o] →
      exec i s = .next t →
      t = { reporting s t with memory := t.memory, keys := t.keys } ∧ PartitionsKept s t ∧
        t.memory.bytes = s.memory.bytes ∧ t.memory.spill = s.memory.spill) ∧
    (∀ (qe : List Byte) (firstSamplePassed : Bool) i, i ∈ [
      Instr.akekEstablish o qe, .sourceArmingSet o firstSamplePassed] →
      exec i s = .next t →
      t = { reporting s t with fresh := t.fresh, vault := t.vault } ∧ PartitionsKept s t) ∧
    (exec (.partitionCreate o) s = .next t →
      t = { reporting s t with fresh := t.fresh, memory := t.memory } ∧
        t.memory.bytes = s.memory.bytes ∧ t.memory.spill = s.memory.spill) ∧
    (exec (.extentCreate o) s = .next t →
      t = { reporting s t with extents := t.extents, memory := t.memory } ∧ PartitionsKept s t ∧
        t.memory.bytes = s.memory.bytes ∧ t.memory.spill = s.memory.spill) ∧
    (exec (.timeSet o) s = .next t →
      t = { reporting s t with vault := t.vault, timebase := t.timebase } ∧ PartitionsKept s t) ∧
    (exec (.tamperLimitsSet o) s = .next t →
      t = { reporting s t with vault := t.vault, aon := t.aon } ∧ PartitionsKept s t) ∧
    (exec (.fuseBlow o) s = .next t →
      t = { reporting s t with vault := t.vault, boot := t.boot } ∧ PartitionsKept s t) ∧
    (exec (.ledgerAttest o) s = .next t →
      t = { reporting s t with fresh := t.fresh } ∧ PartitionsKept s t) ∧
    (exec (.restartFromHeldOff o) s = .next t →
      t = { reporting s t with boot := t.boot, aon := t.aon } ∧ PartitionsKept s t) ∧
    (∀ (passed : Bool), exec (.fenceRelease o passed) s = .next t →
      t = { reporting s t with memory := t.memory, tensor := t.tensor } ∧ PartitionsKept s t) ∧
    (∀ i, i ∈ [
      Instr.keyGenerate o, .ownSlotKeyReplace o] →
      exec i s = .next t →
      t = { reporting s t with fresh := t.fresh, memory := t.memory, keys := t.keys } ∧ PartitionsKept s t ∧
        t.memory.bytes = s.memory.bytes ∧ t.memory.spill = s.memory.spill) ∧
    (∀ hostData fault, exec (.storageWrite o hostData fault) s = .next t →
      t = { reporting s t with
        driveCmds := t.driveCmds, memory := t.memory, keys := t.keys, keysLost := t.keysLost } ∧ PartitionsKept s t ∧
        t.memory.bytes = s.memory.bytes ∧ t.memory.spill = s.memory.spill) ∧
    (∀ aad input fault, exec (.cipherOperation o aad input fault) s = .next t →
      t = { reporting s t with
        memory := t.memory, convoys := t.convoys, keys := t.keys, keysLost := t.keysLost } ∧ PartitionsKept s t) ∧
    (exec (.transportKeyGet o) s = .next t →
      t = { reporting s t with fresh := t.fresh, vault := t.vault } ∧ PartitionsKept s t) ∧
    (∀ input spillFault, exec (.modelRun o input spillFault) s = .next t →
      t = { reporting s t with fresh := t.fresh, memory := t.memory, tensor := t.tensor, aon := t.aon } ∧ PartitionsKept s t ∧
        t.memory.bytes = s.memory.bytes ∧ t.memory.spill = s.memory.spill) ∧
    (∀ frame fault, exec (.frameTransmit o frame fault) s = .next t →
      t = { reporting s t with
        now := t.now, nets := t.nets, memory := t.memory, convoys := t.convoys, keys := t.keys, keysLost := t.keysLost } ∧
        PartitionsKept s t ∧ t.memory.bytes = s.memory.bytes ∧ t.memory.spill = s.memory.spill) ∧
    (exec (.partnerPortDisable o) s = .next t →
      t = { reporting s t with
        domains := t.domains, queues := t.queues, streams := t.streams, convoys := t.convoys, memory := t.memory,
        ports := t.ports } ∧ PartitionsKept s t ∧
        t.memory.bytes = s.memory.bytes ∧ t.memory.spill = s.memory.spill) ∧
    (∀ (c : Ctx) a, ctxOf s o = some c →
      (exec (.ledgerRead o) s = .next t →
        (∀ r x, (c.desc 8).kind = 2 → regionOf s c.p ((c.desc 8).loc % 4294967296) = some r →
          x < (ledgerSlice s (c.u 0 2) (c.u 2 2)).length → a ≠ r.address ((c.desc 8).loc / 4294967296 + x)) →
        Mem.read t.memory.bytes a = Mem.read s.memory.bytes a) ∧
      (∀ aadHost inputHost fault word aad input, exec (.cipherOperation o aadHost ⟨inputHost, word⟩ fault) s = .next t →
        input = (if descEmpty c 0x28 then [] else readDesc s c.p (c.desc 0x28) inputHost) →
        aad = (if usesAad (c.u 4 1) && !descEmpty c 0x18 then readDesc s c.p (c.desc 0x18) aadHost else []) →
        (∀ k bytes tag r x, keySlotOf s c.p (c.u 0 4) = some k → cipherRun c k.key aad input = some (bytes, tag) →
          (c.desc 0x38).kind = 2 → regionOf s c.p ((c.desc 0x38).loc % 4294967296) = some r → x < bytes.length →
          a ≠ r.address ((c.desc 0x38).loc / 4294967296 + x)) →
        Mem.read t.memory.bytes a = Mem.read s.memory.bytes a))

/-- For the commands named, if exec answers a next state, every piece of state but the named ones is as it was. Where it
says so every partition keeps state, binding, masks, quotas, keys and windows, and every byte of node and spill memory is as
it was. Where a command may answer a request, it is held to this where the partition has no response under a wrong tag, and
the loss of the vault supply where VAON has gone before it (with VAON still there all three domains fall, and only the time,
the count of fresh values and the queue of commands stay). A drive's completion leaves every byte of node memory outside the
read data it stores. -/
def Obligations.BlockCommandsTouchOnlyTheirUnit : Prop :=
  ∀ (s t : State),
    (∀ (port lane : Fin 8),
      (exec (.partnerTrainingSignal port lane) s = .next t → t = { s with out := t.out, ports := t.ports }) ∧
      (exec (.trainingBurstEnd port) s = .next t → t = { s with now := t.now, out := t.out, ports := t.ports }) ∧
      (exec (.restripeComplete port) s = .next t →
        t = { s with out := t.out, ports := t.ports, queues := t.queues, convoys := t.convoys, ctr := t.ctr })) ∧
    (∀ i, i ∈ [
      Instr.nodeDoneFall, .pllALock, .testLogicReset] →
      exec i s = .next t →
      t = { s with out := t.out, boot := t.boot }) ∧
    (∀ (host : Fin 2) (fn : Fin 32) i, i ∈ [
      Instr.msixUnmask host fn, .flrComplete host fn] →
      exec i s = .next t →
      t = { s with out := t.out, fns := t.fns }) ∧
    (∀ (above rising : Bool) (input : Fin 2) i, i ∈ [
      Instr.vaonReturn above, .evtCapture input rising] →
      exec i s = .next t →
      t = { s with out := t.out, vault := t.vault }) ∧
    (∀ (frame : List Byte) (pecOk : Bool) i, i ∈ [
      Instr.twtRequest frame pecOk, .twtResponseRead] →
      exec i s = .next t →
      t = { s with out := t.out, twt := t.twt }) ∧
    (∀ (p : Fin 32) (size : Nat) (value : Word32) (poisoned : Bool), exec (.doorbell p size value poisoned) s = .next t →
      t = { s with out := t.out, parts := t.parts }) ∧
    (∀ (unit : Fin 10), exec (.sweepEnd unit) s = .next t →
      t = { s with out := t.out, memory := t.memory } ∧
        t.memory.bytes = s.memory.bytes ∧ t.memory.spill = s.memory.spill) ∧
    (∀ (p : Fin 32) (ctx : Fin 2) (value : Word32) (alg : Fin 3) (value' : Word64) i, i ∈ [
      Instr.digestInitialise p ctx value, .digestHmacInitialise p ctx alg, .digestClear p ctx, .digestData p ctx value',
      .digestTailData p ctx value', .digestFinish p ctx value, .digestExport p ctx value, .digestImport p ctx] →
      exec i s = .next t →
      t = { s with out := t.out, parts := t.parts, ctr := t.ctr }) ∧
    (∀ (rail : Option (Fin 24)) (axis : Fin 4) i, i ∈ [
      Instr.retryOffTimeExpiry rail, .collapseWindowExpiry, .homingRetryExpiry axis, .axisCalibrationStart axis] →
      exec i s = .next t →
      t = { s with now := t.now, out := t.out, aon := t.aon }) ∧
    (∀ (rail : Fin 24) i, i ∈ [
      Instr.ktSwitch, .ktIdleExpiry, .setpointPowerGood rail] →
      exec i s = .next t →
      t = { s with out := t.out, tensor := t.tensor, aon := t.aon }) ∧
    (∀ (p : Fin 32) (ctx : Fin 2) i, i ∈ [
      Instr.digestHmacInitEnd p ctx, .digestSaveEnd p ctx] →
      exec i s = .next t →
      t = { s with now := t.now, out := t.out, parts := t.parts }) ∧
    (∀ (p : Fin 32), Untagged s p → exec (.partitionControlEnable p) s = .next t →
      t = { s with out := t.out, parts := t.parts, fns := t.fns }) ∧
    (∀ (p : Fin 32) (value : Word32), exec (.eventRingConsumerWrite p value) s = .next t →
      t = { s with out := t.out, parts := t.parts, fns := t.fns } ∧ PartitionsKept s t) ∧
    (∀ (host : Fin 2), exec (.perstRelease host) s = .next t →
      t = { s with out := t.out, domains := t.domains, hosts := t.hosts }) ∧
    (∀ (axis : Fin 4) (pos vel acc : Int), exec (.trajectoryUpdate axis pos vel acc) s = .next t →
      t = { s with out := t.out, ctr := t.ctr, aon := t.aon }) ∧
    (exec .twtEventRead s = .next t →
      t = { s with fresh := t.fresh, out := t.out, twt := t.twt }) ∧
    (∀ (host : Fin 2) (request : List Byte), exec (.spdmRequest host request) s = .next t →
      t = { s with fresh := t.fresh, out := t.out, hosts := t.hosts }) ∧
    (∀ (mv : BitVec 16) i, i ∈ [
      Instr.trimInterval, .vbatMeasurement mv, .crystalAmplitudeReached] →
      exec i s = .next t →
      t = { s with out := t.out, parts := t.parts, vault := t.vault, fns := t.fns } ∧ PartitionsKept s t) ∧
    (exec .stagedEntryCommit s = .next t →
      t = { s with
        out := t.out, parts := t.parts, faults := t.faults, ctr := t.ctr, vault := t.vault, fns := t.fns, twt := t.twt } ∧
        PartitionsKept s t) ∧
    (∀ (host : Fin 2) (fn : Fin 32) (status : Word32), exec (.aerUncorrectable host fn status) s = .next t →
      t = { s with out := t.out, parts := t.parts, hosts := t.hosts, fns := t.fns } ∧ PartitionsKept s t) ∧
    (∀ (host : Fin 2) (width : Fin 5) (rate : Fin 6), exec (.hostPortReady host width rate) s = .next t →
      t = { s with
        out := t.out, parts := t.parts, hosts := t.hosts, fns := t.fns, queues := t.queues, convoys := t.convoys } ∧
        PartitionsKept s t) ∧
    (∀ (port : Fin 2),
      (exec (.networkLinkUp port) s = .next t →
        t = { s with out := t.out, parts := t.parts, fns := t.fns, nets := t.nets } ∧ PartitionsKept s t) ∧
      (exec (.networkLinkDown port) s = .next t →
        t = { s with
          out := t.out, parts := t.parts, faults := t.faults, ctr := t.ctr, fns := t.fns, nets := t.nets, twt := t.twt } ∧
          PartitionsKept s t)) ∧
    (∀ (fan : Fin 12) i, i ∈ [
      Instr.fanPauseExpiry fan, .tachLostLasting fan] →
      exec i s = .next t →
      t = { s with now := t.now, out := t.out, ctr := t.ctr, aon := t.aon }) ∧
    (∀ (host : Fin 2) (fn : Fin 32) (offset : Fin 524288) (data : List Byte) (poisoned : Bool),
      (∀ p off, barWindow s host fn offset = some (p, off) → Untagged s p) →
      exec (.registerWrite ⟨host, fn⟩ offset data poisoned) s = .next t →
      t = { s with out := t.out, parts := t.parts, ctr := t.ctr, fns := t.fns }) ∧
    (∀ (p : Fin 32), exec (.msixHoldoffExpiry p) s = .next t →
      t = { s with now := t.now, out := t.out, parts := t.parts, fns := t.fns } ∧ PartitionsKept s t) ∧
    (∀ (d : Fin 19), exec (.domainLeaveReset d) s = .next t →
      t = { s with
        out := t.out, domains := t.domains, queues := t.queues, streams := t.streams, convoys := t.convoys,
        ports := t.ports }) ∧
    (∀ (convoy : Fin 256) (cluster : Fin 8) (tile : Fin 16) (pass : TilePass), exec (.tilePassComplete convoy cluster tile
        pass) s = .next t →
      t = { s with
        out := t.out, parts := t.parts, queues := t.queues, streams := t.streams, convoys := t.convoys, ctr := t.ctr,
        fns := t.fns, memory := t.memory, ports := t.ports, tensor := t.tensor } ∧ PartitionsKept s t ∧
        t.memory.bytes = s.memory.bytes ∧ t.memory.spill = s.memory.spill) ∧
    (∀ (port : Fin 8), exec (.exchangeTimeout port) s = .next t →
      t = { s with now := t.now, out := t.out, parts := t.parts, fns := t.fns, ports := t.ports } ∧ PartitionsKept s t) ∧
    (exec .restartQualified s = .next t →
      t = { s with out := t.out, ctr := t.ctr, boot := t.boot, aon := t.aon }) ∧
    (∀ (cls : Fin 24) (number : Fin 16) (cycles : Nat), exec (.creditStall cls number cycles) s = .next t →
      t = { s with out := t.out, parts := t.parts, queues := t.queues, ctr := t.ctr, fns := t.fns } ∧ PartitionsKept s t) ∧
    (∀ (port : Fin 8), exec (.retrainTimeout port) s = .next t →
      t = { s with now := t.now, out := t.out, parts := t.parts, ctr := t.ctr, fns := t.fns, ports := t.ports } ∧
        PartitionsKept s t) ∧
    (exec .nodeDoneHigh s = .next t →
      t = { s with out := t.out, parts := t.parts, boot := t.boot, fns := t.fns, ports := t.ports } ∧ PartitionsKept s t) ∧
    (exec .soloMode s = .next t →
      t = { s with now := t.now, out := t.out, parts := t.parts, boot := t.boot, fns := t.fns } ∧ PartitionsKept s t) ∧
    (∀ (port : Fin 2), exec (.telemetryPeriod port) s = .next t →
      t = { s with
        out := t.out, parts := t.parts, faults := t.faults, ctr := t.ctr, fns := t.fns, nets := t.nets, twt := t.twt } ∧
        PartitionsKept s t) ∧
    (∀ (link : Fin 4) (found : Option DriveInfo), exec (.driveReady link found) s = .next t →
      t = { s with
        out := t.out, parts := t.parts, faults := t.faults, ctr := t.ctr, fns := t.fns, twt := t.twt, drives := t.drives,
        driveCmds := t.driveCmds } ∧ PartitionsKept s t) ∧
    (∀ (straps : Fin 4), exec (.vaonValid straps) s = .next t →
      t = { s with out := t.out, domains := t.domains, boot := t.boot, memory := t.memory, aon := t.aon } ∧
        t.memory.bytes = s.memory.bytes ∧ t.memory.spill = s.memory.spill) ∧
    (∀ (vaonValid : Bool), exec (.vaultPowerOnReset vaonValid) s = .next t →
      t = { s with out := t.out, parts := t.parts, domains := t.domains, vault := t.vault, fns := t.fns } ∧ PartitionsKept s t) ∧
    (∀ (p : Fin 32) (value : Word32) (granule : Fin 320) i, Untagged s p → i ∈ [
      Instr.receiptRingConsumerWrite p value, .granuleCleared granule] →
      exec i s = .next t →
      t = { s with
        out := t.out, parts := t.parts, faults := t.faults, ctr := t.ctr, fns := t.fns, twt := t.twt, extents := t.extents,
        memory := t.memory, keys := t.keys }) ∧
    (∀ (b : Fin 3) (answer : Option (Fin 128)) i, i ∈ [
      Instr.alertResponse b answer, .twtTargetTimeout] →
      exec i s = .next t →
      t = { s with
        out := t.out, parts := t.parts, faults := t.faults, ctr := t.ctr, fns := t.fns, twt := t.twt } ∧ PartitionsKept s t) ∧
    (∀ (p : Fin 32) (ctx : Fin 2) (fault : Option Bool), exec (.digestBlockComplete p ctx fault) s = .next t →
      t = { s with out := t.out, parts := t.parts, faults := t.faults, ctr := t.ctr, fns := t.fns, twt := t.twt }) ∧
    (∀ (n : Fin 256) (p slot : Fin 32), exec (.convoyOpen n p slot) s = .next t →
      t = { s with
        out := t.out, parts := t.parts, queues := t.queues, streams := t.streams, convoys := t.convoys, faults := t.faults,
        ctr := t.ctr, fns := t.fns, twt := t.twt, ports := t.ports, tensor := t.tensor } ∧ PartitionsKept s t) ∧
    (∀ (granule : Fin 320), exec (.granuleRetirementEnd granule) s = .next t →
      t = { s with
        out := t.out, parts := t.parts, faults := t.faults, ctr := t.ctr, fns := t.fns, twt := t.twt, extents := t.extents,
        memory := t.memory, keys := t.keys }) ∧
    (∀ (port : Fin 8) (payload : List Byte) (convoy : Option (Fin 256 × Bool)), exec (.syncSignalParcel port payload convoy) s =
        .next t →
      t = { s with
        out := t.out, parts := t.parts, convoys := t.convoys, faults := t.faults, ctr := t.ctr, fns := t.fns, twt := t.twt,
        memory := t.memory } ∧
        PartitionsKept s t ∧
        t.memory.bytes = s.memory.bytes ∧ t.memory.spill = s.memory.spill) ∧
    (∀ (port : Fin 8), exec (.seekWindowEnd port) s = .next t →
      t = { s with
        now := t.now, out := t.out, parts := t.parts, faults := t.faults, ctr := t.ctr, fns := t.fns, twt := t.twt,
        memory := t.memory, ports := t.ports } ∧ PartitionsKept s t ∧
        t.memory.bytes = s.memory.bytes ∧ t.memory.spill = s.memory.spill) ∧
    (∀ (link : Fin 4) (found : Option DriveInfo), exec (.driveProbe link found) s = .next t →
      t = { s with
        now := t.now, out := t.out, parts := t.parts, faults := t.faults, ctr := t.ctr, fns := t.fns, twt := t.twt,
        drives := t.drives, driveCmds := t.driveCmds } ∧ PartitionsKept s t) ∧
    (exec .vaultOff s = .next t → t.now = s.now ∧ t.fresh = s.fresh ∧ t.pending = s.pending) ∧
    (s.boot.vaon = false → exec .vaultOff s = .next t →
      t = { s with out := t.out, domains := t.domains, faults := t.faults, vault := t.vault, tensor := t.tensor, aon := t.aon }) ∧
    (∀ (gain : Int), exec (.rtcSecond gain) s = .next t →
      t = { s with
        now := t.now, out := t.out, parts := t.parts, faults := t.faults, ctr := t.ctr, vault := t.vault,
        timebase := t.timebase, fns := t.fns, twt := t.twt } ∧ PartitionsKept s t) ∧
    (∀ (sensor : Fin 33) (failA failB : Bool) i, i ∈ [
      Instr.sensorDisagreement sensor failA failB, .calibrationDrift, .managementCoreResumed] →
      exec i s = .next t →
      t = { s with
        out := t.out, parts := t.parts, faults := t.faults, ctr := t.ctr, fns := t.fns, twt := t.twt, aon := t.aon } ∧
        PartitionsKept s t) ∧
    (∀ (source : Fin 6) (result : Fin 3) i, i ∈ [
      Instr.vaultSwitchToVbat, .insertedSample source result] →
      exec i s = .next t →
      t = { s with
        out := t.out, parts := t.parts, faults := t.faults, ctr := t.ctr, vault := t.vault, fns := t.fns, twt := t.twt } ∧
        PartitionsKept s t) ∧
    (∀ (b : Fin 3) (try_ : TwTry) i, i ∈ [
      Instr.busFreeStart b try_, .arbitrationLost b] →
      exec i s = .next t →
      t = { s with
        out := t.out, parts := t.parts, faults := t.faults, ctr := t.ctr, fns := t.fns, buses := t.buses, twt := t.twt } ∧
        PartitionsKept s t) ∧
    (∀ (p : Fin 32), exec (.teardownDiscardExpiry p) s = .next t →
      t = { s with
        now := t.now, out := t.out, parts := t.parts, faults := t.faults, ctr := t.ctr, fns := t.fns, twt := t.twt,
        extents := t.extents, memory := t.memory, keys := t.keys }) ∧
    (∀ (n : Fin 256), exec (.convoySeal n) s = .next t →
      t = { s with
        out := t.out, parts := t.parts, queues := t.queues, streams := t.streams, convoys := t.convoys, ctr := t.ctr, fns := t.fns,
        ports := t.ports } ∧ PartitionsKept s t) ∧
    (∀ (unit : Fin 9) (found : WordRead), exec (.scrubRead unit found) s = .next t →
      t = { s with
        out := t.out, parts := t.parts, faults := t.faults, ctr := t.ctr, fns := t.fns, twt := t.twt, memory := t.memory } ∧
        PartitionsKept s t ∧
        t.memory.bytes = s.memory.bytes ∧ t.memory.spill = s.memory.spill) ∧
    (∀ (port lane : Fin 8) (passed : Bool), exec (.laneRelockEnd port lane passed) s = .next t →
      t = { s with
        out := t.out, parts := t.parts, faults := t.faults, ctr := t.ctr, fns := t.fns, twt := t.twt, ports := t.ports } ∧
        PartitionsKept s t) ∧
    (∀ (link : Fin 4) (fatal resetOk : Bool), exec (.driveCommandTimeout link fatal resetOk) s = .next t →
      t = { s with
        now := t.now, out := t.out, parts := t.parts, faults := t.faults, ctr := t.ctr, fns := t.fns, twt := t.twt,
        drives := t.drives, driveCmds := t.driveCmds } ∧ PartitionsKept s t) ∧
    (∀ (axis : Fin 4) (sin cos : Int) (angle : Fin 4096) (amplitude rpm : Nat) (fan : Fin 12) i, i ∈ [
      Instr.axisFeedbackSample axis sin cos angle, .referenceMark axis sin cos angle, .homingAttemptFailed axis,
      .axisCalibrationEnd axis sin cos amplitude, .fanTachPulse fan rpm] →
      exec i s = .next t →
      t = { s with
        out := t.out, parts := t.parts, faults := t.faults, ctr := t.ctr, fns := t.fns, twt := t.twt, tensor := t.tensor,
        aon := t.aon } ∧ PartitionsKept s t) ∧
    (∀ (rail : Fin 24) (fan : Fin 12) i, i ∈ [
      Instr.railProvingExpiry rail, .tachLost fan, .calibrationPeriodic] →
      exec i s = .next t →
      t = { s with
        now := t.now, out := t.out, parts := t.parts, faults := t.faults, ctr := t.ctr, fns := t.fns, twt := t.twt,
        aon := t.aon } ∧ PartitionsKept s t) ∧
    (∀ (n : Fin 256) (cause : CancelCause) (group : Fin 23) (index : Fin 1024) (port : Fin 8) (payload : List Byte) i, i ∈ [
      Instr.convoyCancel n cause group index, .convoyControlReceived port payload] →
      exec i s = .next t →
      t = { s with
        out := t.out, parts := t.parts, queues := t.queues, streams := t.streams, convoys := t.convoys, ctr := t.ctr,
        fns := t.fns, memory := t.memory, ports := t.ports } ∧ PartitionsKept s t ∧
        t.memory.bytes = s.memory.bytes ∧ t.memory.spill = s.memory.spill) ∧
    (∀ (sensor : Fin 16) (reading : Option Int) (b : Fin 3) (sda : Bool) i, i ∈ [
      Instr.boardSensorRead sensor reading, .busHung b sda] →
      exec i s = .next t →
      t = { s with
        out := t.out, parts := t.parts, faults := t.faults, ctr := t.ctr, fns := t.fns, buses := t.buses, twt := t.twt,
        aon := t.aon } ∧ PartitionsKept s t) ∧
    (∀ (p slot : Fin 32) (read : StoreRead), Untagged s p → exec (.commandStart p slot read) s = .next t →
      t = { s with
        out := t.out, parts := t.parts, fencedSlots := t.fencedSlots, faults := t.faults, ctr := t.ctr, fns := t.fns,
        twt := t.twt, cls := t.cls }) ∧
    (∀ (p slot : Fin 32), Untagged s p → exec (.refusalCompletion p ⟨slot, none, false⟩) s = .next t →
      t = { s with
        now := t.now, out := t.out, parts := t.parts, faults := t.faults, ctr := t.ctr, fns := t.fns, twt := t.twt,
        extents := t.extents, memory := t.memory, keys := t.keys }) ∧
    (∀ (port : Fin 8), exec (.exchangeComplete port) s = .next t →
      t = { s with
        out := t.out, parts := t.parts, queues := t.queues, streams := t.streams, convoys := t.convoys, faults := t.faults,
        ctr := t.ctr, fns := t.fns, twt := t.twt, memory := t.memory, ports := t.ports } ∧ PartitionsKept s t ∧
        t.memory.bytes = s.memory.bytes ∧ t.memory.spill = s.memory.spill) ∧
    (∀ (port : Fin 2) (frame : List Byte) (fcsOk fecOk : Bool) (fault : Option Bool), exec (.frameReceive port frame fcsOk
        fecOk fault) s = .next t →
      t = { s with
        out := t.out, parts := t.parts, queues := t.queues, faults := t.faults, ctr := t.ctr, fns := t.fns, nets := t.nets,
        twt := t.twt, cls := t.cls } ∧ PartitionsKept s t) ∧
    (exec .vaultReturnToMain s = .next t →
      t = { s with
        now := t.now, out := t.out, parts := t.parts, faults := t.faults, ctr := t.ctr, vault := t.vault, fns := t.fns,
        twt := t.twt } ∧ PartitionsKept s t) ∧
    (∀ (b : Fin 3) (addr : Fin 128) (result : PollResult), exec (.absentPoll b addr result) s = .next t →
      t = { s with
        now := t.now, out := t.out, parts := t.parts, faults := t.faults, ctr := t.ctr, fns := t.fns, buses := t.buses,
        twt := t.twt } ∧ PartitionsKept s t) ∧
    (∀ (item : Fin 9) (measured : List Int), exec (.calibrationItemEnd item measured) s = .next t →
      t = { s with
        out := t.out, parts := t.parts, faults := t.faults, ctr := t.ctr, vault := t.vault, fns := t.fns, twt := t.twt,
        aon := t.aon } ∧ PartitionsKept s t) ∧
    (∀ (port lane : Fin 8) (convoy : Fin 256) i, i ∈ [
      Instr.ackTimeout port convoy, .replayTimeout port, .linkSilence port, .laneLossOfLock port lane] →
      exec i s = .next t →
      t = { s with
        now := t.now, queues := t.queues, out := t.out, parts := t.parts, domains := t.domains, streams := t.streams, convoys := t.convoys, ctr := t.ctr,
        fns := t.fns, memory := t.memory, ports := t.ports } ∧ PartitionsKept s t ∧
        t.memory.bytes = s.memory.bytes ∧ t.memory.spill = s.memory.spill) ∧
    (∀ (fan : Fin 12) (final : Bool) (axis : Fin 4) i, i ∈ [
      Instr.spinUpCheck fan final, .tachRestored fan, .axisFaultRecovery axis] →
      exec i s = .next t →
      t = { s with
        now := t.now, out := t.out, parts := t.parts, faults := t.faults, ctr := t.ctr, fns := t.fns, twt := t.twt,
        tensor := t.tensor, aon := t.aon } ∧ PartitionsKept s t) ∧
    (∀ (d : Fin 19), exec (.clockLoss d) s = .next t →
      t = { s with
        out := t.out, parts := t.parts, domains := t.domains, faults := t.faults, ctr := t.ctr, vault := t.vault,
        boot := t.boot, fns := t.fns, twt := t.twt } ∧ PartitionsKept s t) ∧
    (∀ (n : Fin 256), exec (.convoyDeadlineExpiry n) s = .next t →
      t = { s with
        now := t.now, out := t.out, parts := t.parts, queues := t.queues, streams := t.streams, convoys := t.convoys,
        ctr := t.ctr, fns := t.fns, memory := t.memory, ports := t.ports } ∧ PartitionsKept s t ∧
        t.memory.bytes = s.memory.bytes ∧ t.memory.spill = s.memory.spill) ∧
    (∀ (ext : Extension), exec (.slotRepairEnd ext) s = .next t →
      t = { s with
        out := t.out, parts := t.parts, queues := t.queues, streams := t.streams, convoys := t.convoys, faults := t.faults,
        ctr := t.ctr, fns := t.fns, nets := t.nets, twt := t.twt, ports := t.ports, cls := t.cls }) ∧
    (∀ (p slot : Fin 32) status data fault a c, exec (.driveCompletion p slot status data fault) s = .next t →
      c = slotCtx p slot (slotAt s p slot) →
      (∀ d e plain r x, Tbl.get? s.driveCmds (p.val * 32 + slot.val) = some d → extentOf s p (c.u 0 4) = some e →
        (xtsRun s e false d.lba (slice data 0 (c.desc 0x10).len) fault).1 = some plain → (c.desc 0x10).kind = 2 →
        regionOf s p ((c.desc 0x10).loc % 4294967296) = some r → x < plain.length →
        a ≠ r.address ((c.desc 0x10).loc / 4294967296 + x)) →
      Mem.read t.memory.bytes a = Mem.read s.memory.bytes a)
end

