-- ==== Sys2Proof/Laws/Table.lean ====
section
/-! SUPPORT. Laws of sparse tables and of memory: read after write, what a write leaves alone, and the canonical form. -/

namespace Sys2Proof.Machine

open Sys2Proof

/-! ### Tables -/

@[simp] theorem Tbl.get?_nil {α : Type} (k : Nat) : Tbl.get? ([] : Tbl α) k = none := rfl

@[simp] theorem Tbl.get?_set_self {α : Type} (t : Tbl α) (k : Nat) (v : α) : Tbl.get? (Tbl.set t k v) k = some v := by
  induction t with
  | nil => simp [Tbl.set, Tbl.get?]
  | cons e t ih =>
    obtain ⟨k', v'⟩ := e
    unfold Tbl.set
    split
    · simp [Tbl.get?]
    · split
      · simp [Tbl.get?]
      · next h => simp [Tbl.get?, h, ih]

@[simp] theorem Tbl.get?_set_ne {α : Type} (t : Tbl α) {k j : Nat} (v : α) (h : j ≠ k) :
    Tbl.get? (Tbl.set t k v) j = Tbl.get? t j := by
  induction t with
  | nil => simp [Tbl.set, Tbl.get?, h]
  | cons e t ih =>
    obtain ⟨k', v'⟩ := e
    unfold Tbl.set
    split
    · simp [Tbl.get?, h]
    · split
      · next hk => subst hk; simp [Tbl.get?, h]
      · simp [Tbl.get?, ih]

/-- What a table filtered by key holds under a key. -/
theorem Tbl.get?_filter_key {α : Type} (t : Tbl α) (p : Nat → Bool) (k : Nat) :
    Tbl.get? (t.filter (fun e => p e.1)) k = if p k then Tbl.get? t k else none := by
  induction t with
  | nil => simp
  | cons e t ih =>
    obtain ⟨k', v'⟩ := e
    rw [List.filter_cons]
    by_cases h : k = k'
    · subst h
      cases hp : p k <;> simp_all [Tbl.get?]
    · cases hp : p k' <;> simp [Tbl.get?, h, ih]

@[simp] theorem Tbl.get?_erase_self {α : Type} (t : Tbl α) (k : Nat) : Tbl.get? (Tbl.erase t k) k = none := by
  unfold Tbl.erase
  rw [Tbl.get?_filter_key t (fun j => j != k)]
  simp

@[simp] theorem Tbl.get?_erase_ne {α : Type} (t : Tbl α) {k j : Nat} (h : j ≠ k) :
    Tbl.get? (Tbl.erase t k) j = Tbl.get? t j := by
  unfold Tbl.erase
  rw [Tbl.get?_filter_key t (fun j => j != k)]
  simp [h]

@[simp] theorem Tbl.getD_set_self {α : Type} (t : Tbl α) (k : Nat) (v d : α) : Tbl.getD (Tbl.set t k v) k d = v := by
  simp [Tbl.getD]

@[simp] theorem Tbl.getD_set_ne {α : Type} (t : Tbl α) {k j : Nat} (v d : α) (h : j ≠ k) :
    Tbl.getD (Tbl.set t k v) j d = Tbl.getD t j d := by simp [Tbl.getD, h]

@[simp] theorem Tbl.getD_erase_self {α : Type} (t : Tbl α) (k : Nat) (d : α) : Tbl.getD (Tbl.erase t k) k d = d := by
  simp [Tbl.getD]

@[simp] theorem Tbl.getD_erase_ne {α : Type} (t : Tbl α) {k j : Nat} (d : α) (h : j ≠ k) :
    Tbl.getD (Tbl.erase t k) j d = Tbl.getD t j d := by simp [Tbl.getD, h]

@[simp] theorem Tbl.getD_modify_self {α : Type} (t : Tbl α) (k : Nat) (d : α) (f : α → α) :
    Tbl.getD (Tbl.modify t k d f) k d = f (Tbl.getD t k d) := by simp [Tbl.modify]

@[simp] theorem Tbl.getD_modify_ne {α : Type} (t : Tbl α) {k j : Nat} (d : α) (f : α → α) (h : j ≠ k) :
    Tbl.getD (Tbl.modify t k d f) j d = Tbl.getD t j d := by simp [Tbl.modify, h]

theorem Tbl.get?_mapAll {α β : Type} (t : Tbl α) (f : Nat → α → β) (k : Nat) :
    Tbl.get? (Tbl.mapAll t f) k = (Tbl.get? t k).map (f k) := by
  induction t with
  | nil => rfl
  | cons e t ih =>
    obtain ⟨k', v'⟩ := e
    by_cases h : k = k'
    · subst h; simp [Tbl.mapAll, Tbl.get?]
    · simpa [Tbl.mapAll, Tbl.get?, h] using ih

/-! ### Rising keys -/

theorem Tbl.sorted_cons {α : Type} (k : Nat) (v : α) (t : Tbl α) :
    Tbl.sorted ((k, v) :: t) = true ↔ (∀ e ∈ t, k < e.1) ∧ Tbl.sorted t = true := by
  induction t generalizing k v with
  | nil => simp [Tbl.sorted]
  | cons e t ih =>
    obtain ⟨k', v'⟩ := e
    rw [Tbl.sorted, Bool.and_eq_true, ih k' v']
    simp only [decide_eq_true_eq, List.mem_cons, forall_eq_or_imp]
    constructor
    · rintro ⟨h1, h2, h3⟩
      exact ⟨⟨h1, fun e he => lt_trans h1 (h2 e he)⟩, h2, h3⟩
    · rintro ⟨⟨h1, -⟩, h2, h3⟩
      exact ⟨h1, h2, h3⟩

theorem Tbl.mem_set {α : Type} {t : Tbl α} {k : Nat} {v : α} {e : Nat × α} (h : e ∈ Tbl.set t k v) :
    e = (k, v) ∨ e ∈ t := by
  induction t with
  | nil => simpa [Tbl.set] using h
  | cons d t ih =>
    obtain ⟨k', v'⟩ := d
    unfold Tbl.set at h
    split at h
    · simpa using h
    · split at h
      · rcases List.mem_cons.mp h with h | h
        · exact .inl h
        · exact .inr (List.mem_cons_of_mem _ h)
      · rcases List.mem_cons.mp h with h | h
        · exact .inr (h ▸ List.mem_cons_self)
        · exact (ih h).imp id (List.mem_cons_of_mem _)

theorem Tbl.sorted_set {α : Type} {t : Tbl α} (k : Nat) (v : α) (h : Tbl.sorted t = true) :
    Tbl.sorted (Tbl.set t k v) = true := by
  induction t with
  | nil => rfl
  | cons e t ih =>
    obtain ⟨k', v'⟩ := e
    have ht := (Tbl.sorted_cons k' v' t).mp h
    unfold Tbl.set
    split
    · next hk =>
      refine (Tbl.sorted_cons k v _).mpr ⟨?_, h⟩
      simp only [List.mem_cons, forall_eq_or_imp]
      exact ⟨hk, fun e he => lt_trans hk (ht.1 e he)⟩
    · split
      · next hk => subst hk; exact (Tbl.sorted_cons _ _ _).mpr ht
      · next h1 h2 =>
        refine (Tbl.sorted_cons _ _ _).mpr ⟨fun e he => ?_, ih ht.2⟩
        rcases Tbl.mem_set he with rfl | he
        · simp only; omega
        · exact ht.1 e he

theorem Tbl.sorted_filter {α : Type} {t : Tbl α} (p : Nat × α → Bool) (h : Tbl.sorted t = true) :
    Tbl.sorted (t.filter p) = true := by
  induction t with
  | nil => rfl
  | cons e t ih =>
    obtain ⟨k, v⟩ := e
    have ht := (Tbl.sorted_cons k v t).mp h
    rw [List.filter_cons]
    split
    · exact (Tbl.sorted_cons _ _ _).mpr ⟨fun e he => ht.1 e (List.mem_of_mem_filter he), ih ht.2⟩
    · exact ih ht.2

/-! ### Memory -/

@[simp] theorem Mem.read_write_self (m : Mem) (a : Nat) (b : Byte) : Mem.read (Mem.write m a b) a = b := by
  unfold Mem.read Mem.write
  split <;> simp_all

@[simp] theorem Mem.read_write_ne (m : Mem) {a x : Nat} (b : Byte) (h : x ≠ a) :
    Mem.read (Mem.write m a b) x = Mem.read m x := by
  unfold Mem.read Mem.write
  split <;> simp [h]

/-- Bytes written from an address up leave every byte below it and beyond them alone. -/
theorem Mem.read_writeBytes_outside (m : Mem) (a : Nat) (bs : List Byte) (x : Nat) (h : x < a ∨ a + bs.length ≤ x) :
    Mem.read (Mem.writeBytes m a bs) x = Mem.read m x := by
  induction bs generalizing m a with
  | nil => rfl
  | cons b bs ih =>
    simp only [List.length_cons] at h
    rw [Mem.writeBytes, ih _ _ (by omega), Mem.read_write_ne _ _ (by omega)]

/-- Each of the bytes written is read where it was written. -/
theorem Mem.read_writeBytes_inside (m : Mem) (a : Nat) (bs : List Byte) (i : Nat) (h : i < bs.length) :
    Mem.read (Mem.writeBytes m a bs) (a + i) = bs[i] := by
  induction bs generalizing m a i with
  | nil => simp at h
  | cons b bs ih =>
    rw [Mem.writeBytes]
    cases i with
    | zero => rw [Mem.read_writeBytes_outside _ _ _ _ (by omega)]; simp
    | succ i => simpa [Nat.add_assoc, Nat.add_comm 1 i] using ih (Mem.write m a b) (a + 1) i (by simpa using h)

@[simp] theorem Mem.read_clear (m : Mem) (a n x : Nat) :
    Mem.read (Mem.clear m a n) x = if a ≤ x ∧ x < a + n then 0 else Mem.read m x := by
  unfold Mem.read Mem.clear Tbl.getD
  rw [Tbl.get?_filter_key m (fun k => !(decide (a ≤ k) && decide (k < a + n)))]
  by_cases h : a ≤ x ∧ x < a + n
  · simp [h]
  · rw [if_neg h, if_pos (by simp; omega)]

theorem Mem.wf_iff (m : Mem) : Mem.wf m = true ↔ Tbl.sorted m = true ∧ ∀ e ∈ m, e.2 ≠ 0 := by
  simp [Mem.wf]

theorem Mem.wf_filter {m : Mem} (p : Nat × Byte → Bool) (h : Mem.wf m = true) : Mem.wf (m.filter p) = true := by
  rw [Mem.wf_iff] at h ⊢
  exact ⟨Tbl.sorted_filter p h.1, fun e he => h.2 e (List.mem_of_mem_filter he)⟩

theorem Mem.wf_write {m : Mem} (a : Nat) (b : Byte) (h : Mem.wf m = true) : Mem.wf (Mem.write m a b) = true := by
  unfold Mem.write
  split
  · exact Mem.wf_filter _ h
  · next hb =>
    rw [Mem.wf_iff] at h ⊢
    refine ⟨Tbl.sorted_set a b h.1, fun e he => ?_⟩
    rcases Tbl.mem_set he with rfl | he
    · exact hb
    · exact h.2 e he

theorem Mem.wf_writeBytes {m : Mem} (a : Nat) (bs : List Byte) (h : Mem.wf m = true) :
    Mem.wf (Mem.writeBytes m a bs) = true := by
  induction bs generalizing m a with
  | nil => exact h
  | cons b bs ih => exact ih _ (Mem.wf_write a b h)

theorem Mem.wf_clear {m : Mem} (a n : Nat) (h : Mem.wf m = true) : Mem.wf (Mem.clear m a n) = true := Mem.wf_filter _ h

/-- A fold of byte writes, as a region is written, keeps the canonical form. -/
theorem Mem.wf_foldl_write {β : Type} (l : List β) (a : β → Nat) (b : β → Byte) {m : Mem} (h : Mem.wf m = true) :
    Mem.wf (l.foldl (fun m x => Mem.write m (a x) (b x)) m) = true := by
  induction l generalizing m with
  | nil => exact h
  | cons x l ih => exact ih (Mem.wf_write _ _ h)

/-- A fold of clearings keeps the canonical form. -/
theorem Mem.wf_foldl_clear {β : Type} (l : List β) (a n : β → Nat) {m : Mem} (h : Mem.wf m = true) :
    Mem.wf (l.foldl (fun m x => Mem.clear m (a x) (n x)) m) = true := by
  induction l generalizing m with
  | nil => exact h
  | cons x l ih => exact ih (Mem.wf_clear _ _ h)

/-- A fold of byte writes leaves alone every byte that none of them writes. -/
theorem Mem.read_foldl_write_outside {β : Type} (l : List β) (a : β → Nat) (b : β → Byte) (m : Mem) (x : Nat)
    (h : ∀ y ∈ l, x ≠ a y) : Mem.read (l.foldl (fun m y => Mem.write m (a y) (b y)) m) x = Mem.read m x := by
  induction l generalizing m with
  | nil => rfl
  | cons y l ih =>
    rw [List.foldl_cons, ih _ (fun z hz => h z (List.mem_cons_of_mem _ hz)), Mem.read_write_ne _ _ (h y List.mem_cons_self)]

/-- The canonical form is unique: two memories in it that read the same everywhere are the same list. -/
theorem Mem.ext_of_wf {m n : Mem} (hm : Mem.wf m = true) (hn : Mem.wf n = true)
    (h : ∀ a, Mem.read m a = Mem.read n a) : m = n := by
  have low : ∀ (l : Mem) (a : Nat), (∀ e ∈ l, a < e.1) → Mem.read l a = 0 := by
    intro l a hl
    induction l with
    | nil => rfl
    | cons e l ih =>
      have h1 := hl e List.mem_cons_self
      have h2 := ih (fun d hd => hl d (List.mem_cons_of_mem _ hd))
      obtain ⟨k, v⟩ := e
      simp only [Mem.read, Tbl.getD, Tbl.get?] at h2 ⊢
      rw [if_neg (by simp only at h1; omega)]
      exact h2
  induction m generalizing n with
  | nil =>
    cases n with
    | nil => rfl
    | cons e n =>
      obtain ⟨k, v⟩ := e
      have := h k
      have hv := ((Mem.wf_iff _).mp hn).2 (k, v) List.mem_cons_self
      simp [Mem.read, Tbl.getD, Tbl.get?] at this
      exact absurd this.symm hv
  | cons d m ih =>
    obtain ⟨k, v⟩ := d
    have hm' := (Mem.wf_iff _).mp hm
    have sm := (Tbl.sorted_cons k v m).mp hm'.1
    have hv : v ≠ 0 := hm'.2 (k, v) List.mem_cons_self
    cases n with
    | nil =>
      have := h k
      simp [Mem.read, Tbl.getD, Tbl.get?] at this
      exact absurd this hv
    | cons e n =>
      obtain ⟨j, w⟩ := e
      have hn' := (Mem.wf_iff _).mp hn
      have sn := (Tbl.sorted_cons j w n).mp hn'.1
      have hw : w ≠ 0 := hn'.2 (j, w) List.mem_cons_self
      have hk : k = j := by
        rcases lt_trichotomy k j with hlt | heq | hgt
        · have := h k
          rw [low ((j, w) :: n) k (by
            simp only [List.mem_cons, forall_eq_or_imp]
            exact ⟨hlt, fun e he => lt_trans hlt (sn.1 e he)⟩)] at this
          simp [Mem.read, Tbl.getD, Tbl.get?] at this
          exact absurd this hv
        · exact heq
        · have := h j
          rw [low ((k, v) :: m) j (by
            simp only [List.mem_cons, forall_eq_or_imp]
            exact ⟨hgt, fun e he => lt_trans hgt (sm.1 e he)⟩)] at this
          simp [Mem.read, Tbl.getD, Tbl.get?] at this
          exact absurd this.symm hw
      subst hk
      have hvw : v = w := by simpa [Mem.read, Tbl.getD, Tbl.get?] using h k
      subst hvw
      congr 1
      refine ih ((Mem.wf_iff _).mpr ⟨sm.2, fun e he => hm'.2 e (List.mem_cons_of_mem _ he)⟩)
        ((Mem.wf_iff _).mpr ⟨sn.2, fun e he => hn'.2 e (List.mem_cons_of_mem _ he)⟩) (fun a => ?_)
      by_cases ha : a = k
      · subst ha; rw [low m a sm.1, low n a sn.1]
      · simpa [Mem.read, Tbl.getD, Tbl.get?, ha] using h a

/-! ### Bytes -/

@[simp] theorem leBytes_length (n v : Nat) : (leBytes n v).length = n := by
  induction n generalizing v with
  | zero => rfl
  | succ n ih => simp [leBytes, ih]

@[simp] theorem slice_length (bs : List Byte) (off n : Nat) : (slice bs off n).length = n := by
  simp [slice]

end Sys2Proof.Machine
end

