-- ==== Sys2Proof/Laws/State.lean ====
section
/-! SUPPORT. What each update of the state leaves alone, field by field, and what it leaves under the number it sets. -/

namespace Sys2Proof.Machine

open Sys2Proof

/-! ### State.fresh_ -/

@[simp] theorem freshState_now (s : State) : s.fresh_.now = s.now := rfl
@[simp] theorem freshState_fresh (s : State) : s.fresh_.fresh = s.fresh := rfl
@[simp] theorem freshState_pending (s : State) : s.fresh_.pending = s.pending := rfl
@[simp] theorem freshState_parts (s : State) : s.fresh_.parts = s.parts := rfl
@[simp] theorem freshState_fencedSlots (s : State) : s.fresh_.fencedSlots = s.fencedSlots := rfl
@[simp] theorem freshState_domains (s : State) : s.fresh_.domains = s.domains := rfl
@[simp] theorem freshState_queues (s : State) : s.fresh_.queues = s.queues := rfl
@[simp] theorem freshState_streams (s : State) : s.fresh_.streams = s.streams := rfl
@[simp] theorem freshState_convoys (s : State) : s.fresh_.convoys = s.convoys := rfl
@[simp] theorem freshState_faults (s : State) : s.fresh_.faults = s.faults := rfl
@[simp] theorem freshState_ctr (s : State) : s.fresh_.ctr = s.ctr := rfl
@[simp] theorem freshState_vault (s : State) : s.fresh_.vault = s.vault := rfl
@[simp] theorem freshState_timebase (s : State) : s.fresh_.timebase = s.timebase := rfl
@[simp] theorem freshState_boot (s : State) : s.fresh_.boot = s.boot := rfl
@[simp] theorem freshState_hosts (s : State) : s.fresh_.hosts = s.hosts := rfl
@[simp] theorem freshState_fns (s : State) : s.fresh_.fns = s.fns := rfl
@[simp] theorem freshState_drives (s : State) : s.fresh_.drives = s.drives := rfl
@[simp] theorem freshState_extents (s : State) : s.fresh_.extents = s.extents := rfl
@[simp] theorem freshState_driveCmds (s : State) : s.fresh_.driveCmds = s.driveCmds := rfl
@[simp] theorem freshState_nets (s : State) : s.fresh_.nets = s.nets := rfl
@[simp] theorem freshState_buses (s : State) : s.fresh_.buses = s.buses := rfl
@[simp] theorem freshState_twt (s : State) : s.fresh_.twt = s.twt := rfl
@[simp] theorem freshState_memory (s : State) : s.fresh_.memory = s.memory := rfl
@[simp] theorem freshState_ports (s : State) : s.fresh_.ports = s.ports := rfl
@[simp] theorem freshState_tensor (s : State) : s.fresh_.tensor = s.tensor := rfl
@[simp] theorem freshState_aon (s : State) : s.fresh_.aon = s.aon := rfl
@[simp] theorem freshState_cls (s : State) : s.fresh_.cls = s.cls := rfl
@[simp] theorem freshState_keys (s : State) : s.fresh_.keys = s.keys := rfl
@[simp] theorem freshState_keysLost (s : State) : s.fresh_.keysLost = s.keysLost := rfl

/-! ### send -/

@[simp] theorem send_now (s : State) (o) : (send s o).now = s.now := rfl
@[simp] theorem send_fresh (s : State) (o) : (send s o).fresh = s.fresh := rfl
@[simp] theorem send_pending (s : State) (o) : (send s o).pending = s.pending := rfl
@[simp] theorem send_parts (s : State) (o) : (send s o).parts = s.parts := rfl
@[simp] theorem send_fencedSlots (s : State) (o) : (send s o).fencedSlots = s.fencedSlots := rfl
@[simp] theorem send_domains (s : State) (o) : (send s o).domains = s.domains := rfl
@[simp] theorem send_queues (s : State) (o) : (send s o).queues = s.queues := rfl
@[simp] theorem send_streams (s : State) (o) : (send s o).streams = s.streams := rfl
@[simp] theorem send_convoys (s : State) (o) : (send s o).convoys = s.convoys := rfl
@[simp] theorem send_faults (s : State) (o) : (send s o).faults = s.faults := rfl
@[simp] theorem send_ctr (s : State) (o) : (send s o).ctr = s.ctr := rfl
@[simp] theorem send_vault (s : State) (o) : (send s o).vault = s.vault := rfl
@[simp] theorem send_timebase (s : State) (o) : (send s o).timebase = s.timebase := rfl
@[simp] theorem send_boot (s : State) (o) : (send s o).boot = s.boot := rfl
@[simp] theorem send_hosts (s : State) (o) : (send s o).hosts = s.hosts := rfl
@[simp] theorem send_fns (s : State) (o) : (send s o).fns = s.fns := rfl
@[simp] theorem send_drives (s : State) (o) : (send s o).drives = s.drives := rfl
@[simp] theorem send_extents (s : State) (o) : (send s o).extents = s.extents := rfl
@[simp] theorem send_driveCmds (s : State) (o) : (send s o).driveCmds = s.driveCmds := rfl
@[simp] theorem send_nets (s : State) (o) : (send s o).nets = s.nets := rfl
@[simp] theorem send_buses (s : State) (o) : (send s o).buses = s.buses := rfl
@[simp] theorem send_twt (s : State) (o) : (send s o).twt = s.twt := rfl
@[simp] theorem send_memory (s : State) (o) : (send s o).memory = s.memory := rfl
@[simp] theorem send_ports (s : State) (o) : (send s o).ports = s.ports := rfl
@[simp] theorem send_tensor (s : State) (o) : (send s o).tensor = s.tensor := rfl
@[simp] theorem send_aon (s : State) (o) : (send s o).aon = s.aon := rfl
@[simp] theorem send_cls (s : State) (o) : (send s o).cls = s.cls := rfl
@[simp] theorem send_keys (s : State) (o) : (send s o).keys = s.keys := rfl
@[simp] theorem send_keysLost (s : State) (o) : (send s o).keysLost = s.keysLost := rfl

/-! ### advanceTo -/

@[simp] theorem advanceTo_fresh (s : State) (m) : (advanceTo s m).fresh = s.fresh := rfl
@[simp] theorem advanceTo_out (s : State) (m) : (advanceTo s m).out = s.out := rfl
@[simp] theorem advanceTo_pending (s : State) (m) : (advanceTo s m).pending = s.pending := rfl
@[simp] theorem advanceTo_parts (s : State) (m) : (advanceTo s m).parts = s.parts := rfl
@[simp] theorem advanceTo_fencedSlots (s : State) (m) : (advanceTo s m).fencedSlots = s.fencedSlots := rfl
@[simp] theorem advanceTo_domains (s : State) (m) : (advanceTo s m).domains = s.domains := rfl
@[simp] theorem advanceTo_queues (s : State) (m) : (advanceTo s m).queues = s.queues := rfl
@[simp] theorem advanceTo_streams (s : State) (m) : (advanceTo s m).streams = s.streams := rfl
@[simp] theorem advanceTo_convoys (s : State) (m) : (advanceTo s m).convoys = s.convoys := rfl
@[simp] theorem advanceTo_faults (s : State) (m) : (advanceTo s m).faults = s.faults := rfl
@[simp] theorem advanceTo_ctr (s : State) (m) : (advanceTo s m).ctr = s.ctr := rfl
@[simp] theorem advanceTo_vault (s : State) (m) : (advanceTo s m).vault = s.vault := rfl
@[simp] theorem advanceTo_timebase (s : State) (m) : (advanceTo s m).timebase = s.timebase := rfl
@[simp] theorem advanceTo_boot (s : State) (m) : (advanceTo s m).boot = s.boot := rfl
@[simp] theorem advanceTo_hosts (s : State) (m) : (advanceTo s m).hosts = s.hosts := rfl
@[simp] theorem advanceTo_fns (s : State) (m) : (advanceTo s m).fns = s.fns := rfl
@[simp] theorem advanceTo_drives (s : State) (m) : (advanceTo s m).drives = s.drives := rfl
@[simp] theorem advanceTo_extents (s : State) (m) : (advanceTo s m).extents = s.extents := rfl
@[simp] theorem advanceTo_driveCmds (s : State) (m) : (advanceTo s m).driveCmds = s.driveCmds := rfl
@[simp] theorem advanceTo_nets (s : State) (m) : (advanceTo s m).nets = s.nets := rfl
@[simp] theorem advanceTo_buses (s : State) (m) : (advanceTo s m).buses = s.buses := rfl
@[simp] theorem advanceTo_twt (s : State) (m) : (advanceTo s m).twt = s.twt := rfl
@[simp] theorem advanceTo_memory (s : State) (m) : (advanceTo s m).memory = s.memory := rfl
@[simp] theorem advanceTo_ports (s : State) (m) : (advanceTo s m).ports = s.ports := rfl
@[simp] theorem advanceTo_tensor (s : State) (m) : (advanceTo s m).tensor = s.tensor := rfl
@[simp] theorem advanceTo_aon (s : State) (m) : (advanceTo s m).aon = s.aon := rfl
@[simp] theorem advanceTo_cls (s : State) (m) : (advanceTo s m).cls = s.cls := rfl
@[simp] theorem advanceTo_keys (s : State) (m) : (advanceTo s m).keys = s.keys := rfl
@[simp] theorem advanceTo_keysLost (s : State) (m) : (advanceTo s m).keysLost = s.keysLost := rfl

/-! ### setPart -/

@[simp] theorem setPart_now (s : State) (p f) : (setPart s p f).now = s.now := rfl
@[simp] theorem setPart_fresh (s : State) (p f) : (setPart s p f).fresh = s.fresh := rfl
@[simp] theorem setPart_out (s : State) (p f) : (setPart s p f).out = s.out := rfl
@[simp] theorem setPart_pending (s : State) (p f) : (setPart s p f).pending = s.pending := rfl
@[simp] theorem setPart_fencedSlots (s : State) (p f) : (setPart s p f).fencedSlots = s.fencedSlots := rfl
@[simp] theorem setPart_domains (s : State) (p f) : (setPart s p f).domains = s.domains := rfl
@[simp] theorem setPart_queues (s : State) (p f) : (setPart s p f).queues = s.queues := rfl
@[simp] theorem setPart_streams (s : State) (p f) : (setPart s p f).streams = s.streams := rfl
@[simp] theorem setPart_convoys (s : State) (p f) : (setPart s p f).convoys = s.convoys := rfl
@[simp] theorem setPart_faults (s : State) (p f) : (setPart s p f).faults = s.faults := rfl
@[simp] theorem setPart_ctr (s : State) (p f) : (setPart s p f).ctr = s.ctr := rfl
@[simp] theorem setPart_vault (s : State) (p f) : (setPart s p f).vault = s.vault := rfl
@[simp] theorem setPart_timebase (s : State) (p f) : (setPart s p f).timebase = s.timebase := rfl
@[simp] theorem setPart_boot (s : State) (p f) : (setPart s p f).boot = s.boot := rfl
@[simp] theorem setPart_hosts (s : State) (p f) : (setPart s p f).hosts = s.hosts := rfl
@[simp] theorem setPart_fns (s : State) (p f) : (setPart s p f).fns = s.fns := rfl
@[simp] theorem setPart_drives (s : State) (p f) : (setPart s p f).drives = s.drives := rfl
@[simp] theorem setPart_extents (s : State) (p f) : (setPart s p f).extents = s.extents := rfl
@[simp] theorem setPart_driveCmds (s : State) (p f) : (setPart s p f).driveCmds = s.driveCmds := rfl
@[simp] theorem setPart_nets (s : State) (p f) : (setPart s p f).nets = s.nets := rfl
@[simp] theorem setPart_buses (s : State) (p f) : (setPart s p f).buses = s.buses := rfl
@[simp] theorem setPart_twt (s : State) (p f) : (setPart s p f).twt = s.twt := rfl
@[simp] theorem setPart_memory (s : State) (p f) : (setPart s p f).memory = s.memory := rfl
@[simp] theorem setPart_ports (s : State) (p f) : (setPart s p f).ports = s.ports := rfl
@[simp] theorem setPart_tensor (s : State) (p f) : (setPart s p f).tensor = s.tensor := rfl
@[simp] theorem setPart_aon (s : State) (p f) : (setPart s p f).aon = s.aon := rfl
@[simp] theorem setPart_cls (s : State) (p f) : (setPart s p f).cls = s.cls := rfl
@[simp] theorem setPart_keys (s : State) (p f) : (setPart s p f).keys = s.keys := rfl
@[simp] theorem setPart_keysLost (s : State) (p f) : (setPart s p f).keysLost = s.keysLost := rfl

/-! ### setSlot -/

@[simp] theorem setSlot_now (s : State) (p k f) : (setSlot s p k f).now = s.now := rfl
@[simp] theorem setSlot_fresh (s : State) (p k f) : (setSlot s p k f).fresh = s.fresh := rfl
@[simp] theorem setSlot_out (s : State) (p k f) : (setSlot s p k f).out = s.out := rfl
@[simp] theorem setSlot_pending (s : State) (p k f) : (setSlot s p k f).pending = s.pending := rfl
@[simp] theorem setSlot_fencedSlots (s : State) (p k f) : (setSlot s p k f).fencedSlots = s.fencedSlots := rfl
@[simp] theorem setSlot_domains (s : State) (p k f) : (setSlot s p k f).domains = s.domains := rfl
@[simp] theorem setSlot_queues (s : State) (p k f) : (setSlot s p k f).queues = s.queues := rfl
@[simp] theorem setSlot_streams (s : State) (p k f) : (setSlot s p k f).streams = s.streams := rfl
@[simp] theorem setSlot_convoys (s : State) (p k f) : (setSlot s p k f).convoys = s.convoys := rfl
@[simp] theorem setSlot_faults (s : State) (p k f) : (setSlot s p k f).faults = s.faults := rfl
@[simp] theorem setSlot_ctr (s : State) (p k f) : (setSlot s p k f).ctr = s.ctr := rfl
@[simp] theorem setSlot_vault (s : State) (p k f) : (setSlot s p k f).vault = s.vault := rfl
@[simp] theorem setSlot_timebase (s : State) (p k f) : (setSlot s p k f).timebase = s.timebase := rfl
@[simp] theorem setSlot_boot (s : State) (p k f) : (setSlot s p k f).boot = s.boot := rfl
@[simp] theorem setSlot_hosts (s : State) (p k f) : (setSlot s p k f).hosts = s.hosts := rfl
@[simp] theorem setSlot_fns (s : State) (p k f) : (setSlot s p k f).fns = s.fns := rfl
@[simp] theorem setSlot_drives (s : State) (p k f) : (setSlot s p k f).drives = s.drives := rfl
@[simp] theorem setSlot_extents (s : State) (p k f) : (setSlot s p k f).extents = s.extents := rfl
@[simp] theorem setSlot_driveCmds (s : State) (p k f) : (setSlot s p k f).driveCmds = s.driveCmds := rfl
@[simp] theorem setSlot_nets (s : State) (p k f) : (setSlot s p k f).nets = s.nets := rfl
@[simp] theorem setSlot_buses (s : State) (p k f) : (setSlot s p k f).buses = s.buses := rfl
@[simp] theorem setSlot_twt (s : State) (p k f) : (setSlot s p k f).twt = s.twt := rfl
@[simp] theorem setSlot_memory (s : State) (p k f) : (setSlot s p k f).memory = s.memory := rfl
@[simp] theorem setSlot_ports (s : State) (p k f) : (setSlot s p k f).ports = s.ports := rfl
@[simp] theorem setSlot_tensor (s : State) (p k f) : (setSlot s p k f).tensor = s.tensor := rfl
@[simp] theorem setSlot_aon (s : State) (p k f) : (setSlot s p k f).aon = s.aon := rfl
@[simp] theorem setSlot_cls (s : State) (p k f) : (setSlot s p k f).cls = s.cls := rfl
@[simp] theorem setSlot_keys (s : State) (p k f) : (setSlot s p k f).keys = s.keys := rfl
@[simp] theorem setSlot_keysLost (s : State) (p k f) : (setSlot s p k f).keysLost = s.keysLost := rfl

/-! ### bumpBy -/

@[simp] theorem bumpBy_now (s : State) (i n w k) : (bumpBy s i n w k).now = s.now := rfl
@[simp] theorem bumpBy_fresh (s : State) (i n w k) : (bumpBy s i n w k).fresh = s.fresh := rfl
@[simp] theorem bumpBy_out (s : State) (i n w k) : (bumpBy s i n w k).out = s.out := rfl
@[simp] theorem bumpBy_pending (s : State) (i n w k) : (bumpBy s i n w k).pending = s.pending := rfl
@[simp] theorem bumpBy_parts (s : State) (i n w k) : (bumpBy s i n w k).parts = s.parts := rfl
@[simp] theorem bumpBy_fencedSlots (s : State) (i n w k) : (bumpBy s i n w k).fencedSlots = s.fencedSlots := rfl
@[simp] theorem bumpBy_domains (s : State) (i n w k) : (bumpBy s i n w k).domains = s.domains := rfl
@[simp] theorem bumpBy_queues (s : State) (i n w k) : (bumpBy s i n w k).queues = s.queues := rfl
@[simp] theorem bumpBy_streams (s : State) (i n w k) : (bumpBy s i n w k).streams = s.streams := rfl
@[simp] theorem bumpBy_convoys (s : State) (i n w k) : (bumpBy s i n w k).convoys = s.convoys := rfl
@[simp] theorem bumpBy_faults (s : State) (i n w k) : (bumpBy s i n w k).faults = s.faults := rfl
@[simp] theorem bumpBy_vault (s : State) (i n w k) : (bumpBy s i n w k).vault = s.vault := rfl
@[simp] theorem bumpBy_timebase (s : State) (i n w k) : (bumpBy s i n w k).timebase = s.timebase := rfl
@[simp] theorem bumpBy_boot (s : State) (i n w k) : (bumpBy s i n w k).boot = s.boot := rfl
@[simp] theorem bumpBy_hosts (s : State) (i n w k) : (bumpBy s i n w k).hosts = s.hosts := rfl
@[simp] theorem bumpBy_fns (s : State) (i n w k) : (bumpBy s i n w k).fns = s.fns := rfl
@[simp] theorem bumpBy_drives (s : State) (i n w k) : (bumpBy s i n w k).drives = s.drives := rfl
@[simp] theorem bumpBy_extents (s : State) (i n w k) : (bumpBy s i n w k).extents = s.extents := rfl
@[simp] theorem bumpBy_driveCmds (s : State) (i n w k) : (bumpBy s i n w k).driveCmds = s.driveCmds := rfl
@[simp] theorem bumpBy_nets (s : State) (i n w k) : (bumpBy s i n w k).nets = s.nets := rfl
@[simp] theorem bumpBy_buses (s : State) (i n w k) : (bumpBy s i n w k).buses = s.buses := rfl
@[simp] theorem bumpBy_twt (s : State) (i n w k) : (bumpBy s i n w k).twt = s.twt := rfl
@[simp] theorem bumpBy_memory (s : State) (i n w k) : (bumpBy s i n w k).memory = s.memory := rfl
@[simp] theorem bumpBy_ports (s : State) (i n w k) : (bumpBy s i n w k).ports = s.ports := rfl
@[simp] theorem bumpBy_tensor (s : State) (i n w k) : (bumpBy s i n w k).tensor = s.tensor := rfl
@[simp] theorem bumpBy_aon (s : State) (i n w k) : (bumpBy s i n w k).aon = s.aon := rfl
@[simp] theorem bumpBy_cls (s : State) (i n w k) : (bumpBy s i n w k).cls = s.cls := rfl
@[simp] theorem bumpBy_keys (s : State) (i n w k) : (bumpBy s i n w k).keys = s.keys := rfl
@[simp] theorem bumpBy_keysLost (s : State) (i n w k) : (bumpBy s i n w k).keysLost = s.keysLost := rfl

/-! ### bump -/

@[simp] theorem bump_now (s : State) (i n w) : (bump s i n w).now = s.now := rfl
@[simp] theorem bump_fresh (s : State) (i n w) : (bump s i n w).fresh = s.fresh := rfl
@[simp] theorem bump_out (s : State) (i n w) : (bump s i n w).out = s.out := rfl
@[simp] theorem bump_pending (s : State) (i n w) : (bump s i n w).pending = s.pending := rfl
@[simp] theorem bump_parts (s : State) (i n w) : (bump s i n w).parts = s.parts := rfl
@[simp] theorem bump_fencedSlots (s : State) (i n w) : (bump s i n w).fencedSlots = s.fencedSlots := rfl
@[simp] theorem bump_domains (s : State) (i n w) : (bump s i n w).domains = s.domains := rfl
@[simp] theorem bump_queues (s : State) (i n w) : (bump s i n w).queues = s.queues := rfl
@[simp] theorem bump_streams (s : State) (i n w) : (bump s i n w).streams = s.streams := rfl
@[simp] theorem bump_convoys (s : State) (i n w) : (bump s i n w).convoys = s.convoys := rfl
@[simp] theorem bump_faults (s : State) (i n w) : (bump s i n w).faults = s.faults := rfl
@[simp] theorem bump_vault (s : State) (i n w) : (bump s i n w).vault = s.vault := rfl
@[simp] theorem bump_timebase (s : State) (i n w) : (bump s i n w).timebase = s.timebase := rfl
@[simp] theorem bump_boot (s : State) (i n w) : (bump s i n w).boot = s.boot := rfl
@[simp] theorem bump_hosts (s : State) (i n w) : (bump s i n w).hosts = s.hosts := rfl
@[simp] theorem bump_fns (s : State) (i n w) : (bump s i n w).fns = s.fns := rfl
@[simp] theorem bump_drives (s : State) (i n w) : (bump s i n w).drives = s.drives := rfl
@[simp] theorem bump_extents (s : State) (i n w) : (bump s i n w).extents = s.extents := rfl
@[simp] theorem bump_driveCmds (s : State) (i n w) : (bump s i n w).driveCmds = s.driveCmds := rfl
@[simp] theorem bump_nets (s : State) (i n w) : (bump s i n w).nets = s.nets := rfl
@[simp] theorem bump_buses (s : State) (i n w) : (bump s i n w).buses = s.buses := rfl
@[simp] theorem bump_twt (s : State) (i n w) : (bump s i n w).twt = s.twt := rfl
@[simp] theorem bump_memory (s : State) (i n w) : (bump s i n w).memory = s.memory := rfl
@[simp] theorem bump_ports (s : State) (i n w) : (bump s i n w).ports = s.ports := rfl
@[simp] theorem bump_tensor (s : State) (i n w) : (bump s i n w).tensor = s.tensor := rfl
@[simp] theorem bump_aon (s : State) (i n w) : (bump s i n w).aon = s.aon := rfl
@[simp] theorem bump_cls (s : State) (i n w) : (bump s i n w).cls = s.cls := rfl
@[simp] theorem bump_keys (s : State) (i n w) : (bump s i n w).keys = s.keys := rfl
@[simp] theorem bump_keysLost (s : State) (i n w) : (bump s i n w).keysLost = s.keysLost := rfl

/-! ### clearCounter -/

@[simp] theorem clearCounter_now (s : State) (i n) : (clearCounter s i n).now = s.now := rfl
@[simp] theorem clearCounter_fresh (s : State) (i n) : (clearCounter s i n).fresh = s.fresh := rfl
@[simp] theorem clearCounter_out (s : State) (i n) : (clearCounter s i n).out = s.out := rfl
@[simp] theorem clearCounter_pending (s : State) (i n) : (clearCounter s i n).pending = s.pending := rfl
@[simp] theorem clearCounter_parts (s : State) (i n) : (clearCounter s i n).parts = s.parts := rfl
@[simp] theorem clearCounter_fencedSlots (s : State) (i n) : (clearCounter s i n).fencedSlots = s.fencedSlots := rfl
@[simp] theorem clearCounter_domains (s : State) (i n) : (clearCounter s i n).domains = s.domains := rfl
@[simp] theorem clearCounter_queues (s : State) (i n) : (clearCounter s i n).queues = s.queues := rfl
@[simp] theorem clearCounter_streams (s : State) (i n) : (clearCounter s i n).streams = s.streams := rfl
@[simp] theorem clearCounter_convoys (s : State) (i n) : (clearCounter s i n).convoys = s.convoys := rfl
@[simp] theorem clearCounter_faults (s : State) (i n) : (clearCounter s i n).faults = s.faults := rfl
@[simp] theorem clearCounter_vault (s : State) (i n) : (clearCounter s i n).vault = s.vault := rfl
@[simp] theorem clearCounter_timebase (s : State) (i n) : (clearCounter s i n).timebase = s.timebase := rfl
@[simp] theorem clearCounter_boot (s : State) (i n) : (clearCounter s i n).boot = s.boot := rfl
@[simp] theorem clearCounter_hosts (s : State) (i n) : (clearCounter s i n).hosts = s.hosts := rfl
@[simp] theorem clearCounter_fns (s : State) (i n) : (clearCounter s i n).fns = s.fns := rfl
@[simp] theorem clearCounter_drives (s : State) (i n) : (clearCounter s i n).drives = s.drives := rfl
@[simp] theorem clearCounter_extents (s : State) (i n) : (clearCounter s i n).extents = s.extents := rfl
@[simp] theorem clearCounter_driveCmds (s : State) (i n) : (clearCounter s i n).driveCmds = s.driveCmds := rfl
@[simp] theorem clearCounter_nets (s : State) (i n) : (clearCounter s i n).nets = s.nets := rfl
@[simp] theorem clearCounter_buses (s : State) (i n) : (clearCounter s i n).buses = s.buses := rfl
@[simp] theorem clearCounter_twt (s : State) (i n) : (clearCounter s i n).twt = s.twt := rfl
@[simp] theorem clearCounter_memory (s : State) (i n) : (clearCounter s i n).memory = s.memory := rfl
@[simp] theorem clearCounter_ports (s : State) (i n) : (clearCounter s i n).ports = s.ports := rfl
@[simp] theorem clearCounter_tensor (s : State) (i n) : (clearCounter s i n).tensor = s.tensor := rfl
@[simp] theorem clearCounter_aon (s : State) (i n) : (clearCounter s i n).aon = s.aon := rfl
@[simp] theorem clearCounter_cls (s : State) (i n) : (clearCounter s i n).cls = s.cls := rfl
@[simp] theorem clearCounter_keys (s : State) (i n) : (clearCounter s i n).keys = s.keys := rfl
@[simp] theorem clearCounter_keysLost (s : State) (i n) : (clearCounter s i n).keysLost = s.keysLost := rfl

/-! ### setHost -/

@[simp] theorem setHost_now (s : State) (h f) : (setHost s h f).now = s.now := rfl
@[simp] theorem setHost_fresh (s : State) (h f) : (setHost s h f).fresh = s.fresh := rfl
@[simp] theorem setHost_out (s : State) (h f) : (setHost s h f).out = s.out := rfl
@[simp] theorem setHost_pending (s : State) (h f) : (setHost s h f).pending = s.pending := rfl
@[simp] theorem setHost_parts (s : State) (h f) : (setHost s h f).parts = s.parts := rfl
@[simp] theorem setHost_fencedSlots (s : State) (h f) : (setHost s h f).fencedSlots = s.fencedSlots := rfl
@[simp] theorem setHost_domains (s : State) (h f) : (setHost s h f).domains = s.domains := rfl
@[simp] theorem setHost_queues (s : State) (h f) : (setHost s h f).queues = s.queues := rfl
@[simp] theorem setHost_streams (s : State) (h f) : (setHost s h f).streams = s.streams := rfl
@[simp] theorem setHost_convoys (s : State) (h f) : (setHost s h f).convoys = s.convoys := rfl
@[simp] theorem setHost_faults (s : State) (h f) : (setHost s h f).faults = s.faults := rfl
@[simp] theorem setHost_ctr (s : State) (h f) : (setHost s h f).ctr = s.ctr := rfl
@[simp] theorem setHost_vault (s : State) (h f) : (setHost s h f).vault = s.vault := rfl
@[simp] theorem setHost_timebase (s : State) (h f) : (setHost s h f).timebase = s.timebase := rfl
@[simp] theorem setHost_boot (s : State) (h f) : (setHost s h f).boot = s.boot := rfl
@[simp] theorem setHost_fns (s : State) (h f) : (setHost s h f).fns = s.fns := rfl
@[simp] theorem setHost_drives (s : State) (h f) : (setHost s h f).drives = s.drives := rfl
@[simp] theorem setHost_extents (s : State) (h f) : (setHost s h f).extents = s.extents := rfl
@[simp] theorem setHost_driveCmds (s : State) (h f) : (setHost s h f).driveCmds = s.driveCmds := rfl
@[simp] theorem setHost_nets (s : State) (h f) : (setHost s h f).nets = s.nets := rfl
@[simp] theorem setHost_buses (s : State) (h f) : (setHost s h f).buses = s.buses := rfl
@[simp] theorem setHost_twt (s : State) (h f) : (setHost s h f).twt = s.twt := rfl
@[simp] theorem setHost_memory (s : State) (h f) : (setHost s h f).memory = s.memory := rfl
@[simp] theorem setHost_ports (s : State) (h f) : (setHost s h f).ports = s.ports := rfl
@[simp] theorem setHost_tensor (s : State) (h f) : (setHost s h f).tensor = s.tensor := rfl
@[simp] theorem setHost_aon (s : State) (h f) : (setHost s h f).aon = s.aon := rfl
@[simp] theorem setHost_cls (s : State) (h f) : (setHost s h f).cls = s.cls := rfl
@[simp] theorem setHost_keys (s : State) (h f) : (setHost s h f).keys = s.keys := rfl
@[simp] theorem setHost_keysLost (s : State) (h f) : (setHost s h f).keysLost = s.keysLost := rfl

/-! ### setFn -/

@[simp] theorem setFn_now (s : State) (h n f) : (setFn s h n f).now = s.now := rfl
@[simp] theorem setFn_fresh (s : State) (h n f) : (setFn s h n f).fresh = s.fresh := rfl
@[simp] theorem setFn_out (s : State) (h n f) : (setFn s h n f).out = s.out := rfl
@[simp] theorem setFn_pending (s : State) (h n f) : (setFn s h n f).pending = s.pending := rfl
@[simp] theorem setFn_parts (s : State) (h n f) : (setFn s h n f).parts = s.parts := rfl
@[simp] theorem setFn_fencedSlots (s : State) (h n f) : (setFn s h n f).fencedSlots = s.fencedSlots := rfl
@[simp] theorem setFn_domains (s : State) (h n f) : (setFn s h n f).domains = s.domains := rfl
@[simp] theorem setFn_queues (s : State) (h n f) : (setFn s h n f).queues = s.queues := rfl
@[simp] theorem setFn_streams (s : State) (h n f) : (setFn s h n f).streams = s.streams := rfl
@[simp] theorem setFn_convoys (s : State) (h n f) : (setFn s h n f).convoys = s.convoys := rfl
@[simp] theorem setFn_faults (s : State) (h n f) : (setFn s h n f).faults = s.faults := rfl
@[simp] theorem setFn_ctr (s : State) (h n f) : (setFn s h n f).ctr = s.ctr := rfl
@[simp] theorem setFn_vault (s : State) (h n f) : (setFn s h n f).vault = s.vault := rfl
@[simp] theorem setFn_timebase (s : State) (h n f) : (setFn s h n f).timebase = s.timebase := rfl
@[simp] theorem setFn_boot (s : State) (h n f) : (setFn s h n f).boot = s.boot := rfl
@[simp] theorem setFn_hosts (s : State) (h n f) : (setFn s h n f).hosts = s.hosts := rfl
@[simp] theorem setFn_drives (s : State) (h n f) : (setFn s h n f).drives = s.drives := rfl
@[simp] theorem setFn_extents (s : State) (h n f) : (setFn s h n f).extents = s.extents := rfl
@[simp] theorem setFn_driveCmds (s : State) (h n f) : (setFn s h n f).driveCmds = s.driveCmds := rfl
@[simp] theorem setFn_nets (s : State) (h n f) : (setFn s h n f).nets = s.nets := rfl
@[simp] theorem setFn_buses (s : State) (h n f) : (setFn s h n f).buses = s.buses := rfl
@[simp] theorem setFn_twt (s : State) (h n f) : (setFn s h n f).twt = s.twt := rfl
@[simp] theorem setFn_memory (s : State) (h n f) : (setFn s h n f).memory = s.memory := rfl
@[simp] theorem setFn_ports (s : State) (h n f) : (setFn s h n f).ports = s.ports := rfl
@[simp] theorem setFn_tensor (s : State) (h n f) : (setFn s h n f).tensor = s.tensor := rfl
@[simp] theorem setFn_aon (s : State) (h n f) : (setFn s h n f).aon = s.aon := rfl
@[simp] theorem setFn_cls (s : State) (h n f) : (setFn s h n f).cls = s.cls := rfl
@[simp] theorem setFn_keys (s : State) (h n f) : (setFn s h n f).keys = s.keys := rfl
@[simp] theorem setFn_keysLost (s : State) (h n f) : (setFn s h n f).keysLost = s.keysLost := rfl

/-! ### setBoot -/

@[simp] theorem setBoot_now (s : State) (f) : (setBoot s f).now = s.now := rfl
@[simp] theorem setBoot_fresh (s : State) (f) : (setBoot s f).fresh = s.fresh := rfl
@[simp] theorem setBoot_out (s : State) (f) : (setBoot s f).out = s.out := rfl
@[simp] theorem setBoot_pending (s : State) (f) : (setBoot s f).pending = s.pending := rfl
@[simp] theorem setBoot_parts (s : State) (f) : (setBoot s f).parts = s.parts := rfl
@[simp] theorem setBoot_fencedSlots (s : State) (f) : (setBoot s f).fencedSlots = s.fencedSlots := rfl
@[simp] theorem setBoot_domains (s : State) (f) : (setBoot s f).domains = s.domains := rfl
@[simp] theorem setBoot_queues (s : State) (f) : (setBoot s f).queues = s.queues := rfl
@[simp] theorem setBoot_streams (s : State) (f) : (setBoot s f).streams = s.streams := rfl
@[simp] theorem setBoot_convoys (s : State) (f) : (setBoot s f).convoys = s.convoys := rfl
@[simp] theorem setBoot_faults (s : State) (f) : (setBoot s f).faults = s.faults := rfl
@[simp] theorem setBoot_ctr (s : State) (f) : (setBoot s f).ctr = s.ctr := rfl
@[simp] theorem setBoot_vault (s : State) (f) : (setBoot s f).vault = s.vault := rfl
@[simp] theorem setBoot_timebase (s : State) (f) : (setBoot s f).timebase = s.timebase := rfl
@[simp] theorem setBoot_hosts (s : State) (f) : (setBoot s f).hosts = s.hosts := rfl
@[simp] theorem setBoot_fns (s : State) (f) : (setBoot s f).fns = s.fns := rfl
@[simp] theorem setBoot_drives (s : State) (f) : (setBoot s f).drives = s.drives := rfl
@[simp] theorem setBoot_extents (s : State) (f) : (setBoot s f).extents = s.extents := rfl
@[simp] theorem setBoot_driveCmds (s : State) (f) : (setBoot s f).driveCmds = s.driveCmds := rfl
@[simp] theorem setBoot_nets (s : State) (f) : (setBoot s f).nets = s.nets := rfl
@[simp] theorem setBoot_buses (s : State) (f) : (setBoot s f).buses = s.buses := rfl
@[simp] theorem setBoot_twt (s : State) (f) : (setBoot s f).twt = s.twt := rfl
@[simp] theorem setBoot_memory (s : State) (f) : (setBoot s f).memory = s.memory := rfl
@[simp] theorem setBoot_ports (s : State) (f) : (setBoot s f).ports = s.ports := rfl
@[simp] theorem setBoot_tensor (s : State) (f) : (setBoot s f).tensor = s.tensor := rfl
@[simp] theorem setBoot_aon (s : State) (f) : (setBoot s f).aon = s.aon := rfl
@[simp] theorem setBoot_cls (s : State) (f) : (setBoot s f).cls = s.cls := rfl
@[simp] theorem setBoot_keys (s : State) (f) : (setBoot s f).keys = s.keys := rfl
@[simp] theorem setBoot_keysLost (s : State) (f) : (setBoot s f).keysLost = s.keysLost := rfl

/-! ### setTensor -/

@[simp] theorem setTensor_now (s : State) (f) : (setTensor s f).now = s.now := rfl
@[simp] theorem setTensor_fresh (s : State) (f) : (setTensor s f).fresh = s.fresh := rfl
@[simp] theorem setTensor_out (s : State) (f) : (setTensor s f).out = s.out := rfl
@[simp] theorem setTensor_pending (s : State) (f) : (setTensor s f).pending = s.pending := rfl
@[simp] theorem setTensor_parts (s : State) (f) : (setTensor s f).parts = s.parts := rfl
@[simp] theorem setTensor_fencedSlots (s : State) (f) : (setTensor s f).fencedSlots = s.fencedSlots := rfl
@[simp] theorem setTensor_domains (s : State) (f) : (setTensor s f).domains = s.domains := rfl
@[simp] theorem setTensor_queues (s : State) (f) : (setTensor s f).queues = s.queues := rfl
@[simp] theorem setTensor_streams (s : State) (f) : (setTensor s f).streams = s.streams := rfl
@[simp] theorem setTensor_convoys (s : State) (f) : (setTensor s f).convoys = s.convoys := rfl
@[simp] theorem setTensor_faults (s : State) (f) : (setTensor s f).faults = s.faults := rfl
@[simp] theorem setTensor_ctr (s : State) (f) : (setTensor s f).ctr = s.ctr := rfl
@[simp] theorem setTensor_vault (s : State) (f) : (setTensor s f).vault = s.vault := rfl
@[simp] theorem setTensor_timebase (s : State) (f) : (setTensor s f).timebase = s.timebase := rfl
@[simp] theorem setTensor_boot (s : State) (f) : (setTensor s f).boot = s.boot := rfl
@[simp] theorem setTensor_hosts (s : State) (f) : (setTensor s f).hosts = s.hosts := rfl
@[simp] theorem setTensor_fns (s : State) (f) : (setTensor s f).fns = s.fns := rfl
@[simp] theorem setTensor_drives (s : State) (f) : (setTensor s f).drives = s.drives := rfl
@[simp] theorem setTensor_extents (s : State) (f) : (setTensor s f).extents = s.extents := rfl
@[simp] theorem setTensor_driveCmds (s : State) (f) : (setTensor s f).driveCmds = s.driveCmds := rfl
@[simp] theorem setTensor_nets (s : State) (f) : (setTensor s f).nets = s.nets := rfl
@[simp] theorem setTensor_buses (s : State) (f) : (setTensor s f).buses = s.buses := rfl
@[simp] theorem setTensor_twt (s : State) (f) : (setTensor s f).twt = s.twt := rfl
@[simp] theorem setTensor_memory (s : State) (f) : (setTensor s f).memory = s.memory := rfl
@[simp] theorem setTensor_ports (s : State) (f) : (setTensor s f).ports = s.ports := rfl
@[simp] theorem setTensor_aon (s : State) (f) : (setTensor s f).aon = s.aon := rfl
@[simp] theorem setTensor_cls (s : State) (f) : (setTensor s f).cls = s.cls := rfl
@[simp] theorem setTensor_keys (s : State) (f) : (setTensor s f).keys = s.keys := rfl
@[simp] theorem setTensor_keysLost (s : State) (f) : (setTensor s f).keysLost = s.keysLost := rfl

/-! ### setAon -/

@[simp] theorem setAon_now (s : State) (f) : (setAon s f).now = s.now := rfl
@[simp] theorem setAon_fresh (s : State) (f) : (setAon s f).fresh = s.fresh := rfl
@[simp] theorem setAon_out (s : State) (f) : (setAon s f).out = s.out := rfl
@[simp] theorem setAon_pending (s : State) (f) : (setAon s f).pending = s.pending := rfl
@[simp] theorem setAon_parts (s : State) (f) : (setAon s f).parts = s.parts := rfl
@[simp] theorem setAon_fencedSlots (s : State) (f) : (setAon s f).fencedSlots = s.fencedSlots := rfl
@[simp] theorem setAon_domains (s : State) (f) : (setAon s f).domains = s.domains := rfl
@[simp] theorem setAon_queues (s : State) (f) : (setAon s f).queues = s.queues := rfl
@[simp] theorem setAon_streams (s : State) (f) : (setAon s f).streams = s.streams := rfl
@[simp] theorem setAon_convoys (s : State) (f) : (setAon s f).convoys = s.convoys := rfl
@[simp] theorem setAon_faults (s : State) (f) : (setAon s f).faults = s.faults := rfl
@[simp] theorem setAon_ctr (s : State) (f) : (setAon s f).ctr = s.ctr := rfl
@[simp] theorem setAon_vault (s : State) (f) : (setAon s f).vault = s.vault := rfl
@[simp] theorem setAon_timebase (s : State) (f) : (setAon s f).timebase = s.timebase := rfl
@[simp] theorem setAon_boot (s : State) (f) : (setAon s f).boot = s.boot := rfl
@[simp] theorem setAon_hosts (s : State) (f) : (setAon s f).hosts = s.hosts := rfl
@[simp] theorem setAon_fns (s : State) (f) : (setAon s f).fns = s.fns := rfl
@[simp] theorem setAon_drives (s : State) (f) : (setAon s f).drives = s.drives := rfl
@[simp] theorem setAon_extents (s : State) (f) : (setAon s f).extents = s.extents := rfl
@[simp] theorem setAon_driveCmds (s : State) (f) : (setAon s f).driveCmds = s.driveCmds := rfl
@[simp] theorem setAon_nets (s : State) (f) : (setAon s f).nets = s.nets := rfl
@[simp] theorem setAon_buses (s : State) (f) : (setAon s f).buses = s.buses := rfl
@[simp] theorem setAon_twt (s : State) (f) : (setAon s f).twt = s.twt := rfl
@[simp] theorem setAon_memory (s : State) (f) : (setAon s f).memory = s.memory := rfl
@[simp] theorem setAon_ports (s : State) (f) : (setAon s f).ports = s.ports := rfl
@[simp] theorem setAon_tensor (s : State) (f) : (setAon s f).tensor = s.tensor := rfl
@[simp] theorem setAon_cls (s : State) (f) : (setAon s f).cls = s.cls := rfl
@[simp] theorem setAon_keys (s : State) (f) : (setAon s f).keys = s.keys := rfl
@[simp] theorem setAon_keysLost (s : State) (f) : (setAon s f).keysLost = s.keysLost := rfl

/-! ### setRail -/

@[simp] theorem setRail_now (s : State) (v f) : (setRail s v f).now = s.now := rfl
@[simp] theorem setRail_fresh (s : State) (v f) : (setRail s v f).fresh = s.fresh := rfl
@[simp] theorem setRail_out (s : State) (v f) : (setRail s v f).out = s.out := rfl
@[simp] theorem setRail_pending (s : State) (v f) : (setRail s v f).pending = s.pending := rfl
@[simp] theorem setRail_parts (s : State) (v f) : (setRail s v f).parts = s.parts := rfl
@[simp] theorem setRail_fencedSlots (s : State) (v f) : (setRail s v f).fencedSlots = s.fencedSlots := rfl
@[simp] theorem setRail_domains (s : State) (v f) : (setRail s v f).domains = s.domains := rfl
@[simp] theorem setRail_queues (s : State) (v f) : (setRail s v f).queues = s.queues := rfl
@[simp] theorem setRail_streams (s : State) (v f) : (setRail s v f).streams = s.streams := rfl
@[simp] theorem setRail_convoys (s : State) (v f) : (setRail s v f).convoys = s.convoys := rfl
@[simp] theorem setRail_faults (s : State) (v f) : (setRail s v f).faults = s.faults := rfl
@[simp] theorem setRail_ctr (s : State) (v f) : (setRail s v f).ctr = s.ctr := rfl
@[simp] theorem setRail_vault (s : State) (v f) : (setRail s v f).vault = s.vault := rfl
@[simp] theorem setRail_timebase (s : State) (v f) : (setRail s v f).timebase = s.timebase := rfl
@[simp] theorem setRail_boot (s : State) (v f) : (setRail s v f).boot = s.boot := rfl
@[simp] theorem setRail_hosts (s : State) (v f) : (setRail s v f).hosts = s.hosts := rfl
@[simp] theorem setRail_fns (s : State) (v f) : (setRail s v f).fns = s.fns := rfl
@[simp] theorem setRail_drives (s : State) (v f) : (setRail s v f).drives = s.drives := rfl
@[simp] theorem setRail_extents (s : State) (v f) : (setRail s v f).extents = s.extents := rfl
@[simp] theorem setRail_driveCmds (s : State) (v f) : (setRail s v f).driveCmds = s.driveCmds := rfl
@[simp] theorem setRail_nets (s : State) (v f) : (setRail s v f).nets = s.nets := rfl
@[simp] theorem setRail_buses (s : State) (v f) : (setRail s v f).buses = s.buses := rfl
@[simp] theorem setRail_twt (s : State) (v f) : (setRail s v f).twt = s.twt := rfl
@[simp] theorem setRail_memory (s : State) (v f) : (setRail s v f).memory = s.memory := rfl
@[simp] theorem setRail_ports (s : State) (v f) : (setRail s v f).ports = s.ports := rfl
@[simp] theorem setRail_tensor (s : State) (v f) : (setRail s v f).tensor = s.tensor := rfl
@[simp] theorem setRail_cls (s : State) (v f) : (setRail s v f).cls = s.cls := rfl
@[simp] theorem setRail_keys (s : State) (v f) : (setRail s v f).keys = s.keys := rfl
@[simp] theorem setRail_keysLost (s : State) (v f) : (setRail s v f).keysLost = s.keysLost := rfl

/-! ### setSeq -/

@[simp] theorem setSeq_now (s : State) (f) : (setSeq s f).now = s.now := rfl
@[simp] theorem setSeq_fresh (s : State) (f) : (setSeq s f).fresh = s.fresh := rfl
@[simp] theorem setSeq_out (s : State) (f) : (setSeq s f).out = s.out := rfl
@[simp] theorem setSeq_pending (s : State) (f) : (setSeq s f).pending = s.pending := rfl
@[simp] theorem setSeq_parts (s : State) (f) : (setSeq s f).parts = s.parts := rfl
@[simp] theorem setSeq_fencedSlots (s : State) (f) : (setSeq s f).fencedSlots = s.fencedSlots := rfl
@[simp] theorem setSeq_domains (s : State) (f) : (setSeq s f).domains = s.domains := rfl
@[simp] theorem setSeq_queues (s : State) (f) : (setSeq s f).queues = s.queues := rfl
@[simp] theorem setSeq_streams (s : State) (f) : (setSeq s f).streams = s.streams := rfl
@[simp] theorem setSeq_convoys (s : State) (f) : (setSeq s f).convoys = s.convoys := rfl
@[simp] theorem setSeq_faults (s : State) (f) : (setSeq s f).faults = s.faults := rfl
@[simp] theorem setSeq_ctr (s : State) (f) : (setSeq s f).ctr = s.ctr := rfl
@[simp] theorem setSeq_vault (s : State) (f) : (setSeq s f).vault = s.vault := rfl
@[simp] theorem setSeq_timebase (s : State) (f) : (setSeq s f).timebase = s.timebase := rfl
@[simp] theorem setSeq_boot (s : State) (f) : (setSeq s f).boot = s.boot := rfl
@[simp] theorem setSeq_hosts (s : State) (f) : (setSeq s f).hosts = s.hosts := rfl
@[simp] theorem setSeq_fns (s : State) (f) : (setSeq s f).fns = s.fns := rfl
@[simp] theorem setSeq_drives (s : State) (f) : (setSeq s f).drives = s.drives := rfl
@[simp] theorem setSeq_extents (s : State) (f) : (setSeq s f).extents = s.extents := rfl
@[simp] theorem setSeq_driveCmds (s : State) (f) : (setSeq s f).driveCmds = s.driveCmds := rfl
@[simp] theorem setSeq_nets (s : State) (f) : (setSeq s f).nets = s.nets := rfl
@[simp] theorem setSeq_buses (s : State) (f) : (setSeq s f).buses = s.buses := rfl
@[simp] theorem setSeq_twt (s : State) (f) : (setSeq s f).twt = s.twt := rfl
@[simp] theorem setSeq_memory (s : State) (f) : (setSeq s f).memory = s.memory := rfl
@[simp] theorem setSeq_ports (s : State) (f) : (setSeq s f).ports = s.ports := rfl
@[simp] theorem setSeq_tensor (s : State) (f) : (setSeq s f).tensor = s.tensor := rfl
@[simp] theorem setSeq_cls (s : State) (f) : (setSeq s f).cls = s.cls := rfl
@[simp] theorem setSeq_keys (s : State) (f) : (setSeq s f).keys = s.keys := rfl
@[simp] theorem setSeq_keysLost (s : State) (f) : (setSeq s f).keysLost = s.keysLost := rfl

/-! ### setFan -/

@[simp] theorem setFan_now (s : State) (i f) : (setFan s i f).now = s.now := rfl
@[simp] theorem setFan_fresh (s : State) (i f) : (setFan s i f).fresh = s.fresh := rfl
@[simp] theorem setFan_out (s : State) (i f) : (setFan s i f).out = s.out := rfl
@[simp] theorem setFan_pending (s : State) (i f) : (setFan s i f).pending = s.pending := rfl
@[simp] theorem setFan_parts (s : State) (i f) : (setFan s i f).parts = s.parts := rfl
@[simp] theorem setFan_fencedSlots (s : State) (i f) : (setFan s i f).fencedSlots = s.fencedSlots := rfl
@[simp] theorem setFan_domains (s : State) (i f) : (setFan s i f).domains = s.domains := rfl
@[simp] theorem setFan_queues (s : State) (i f) : (setFan s i f).queues = s.queues := rfl
@[simp] theorem setFan_streams (s : State) (i f) : (setFan s i f).streams = s.streams := rfl
@[simp] theorem setFan_convoys (s : State) (i f) : (setFan s i f).convoys = s.convoys := rfl
@[simp] theorem setFan_faults (s : State) (i f) : (setFan s i f).faults = s.faults := rfl
@[simp] theorem setFan_ctr (s : State) (i f) : (setFan s i f).ctr = s.ctr := rfl
@[simp] theorem setFan_vault (s : State) (i f) : (setFan s i f).vault = s.vault := rfl
@[simp] theorem setFan_timebase (s : State) (i f) : (setFan s i f).timebase = s.timebase := rfl
@[simp] theorem setFan_boot (s : State) (i f) : (setFan s i f).boot = s.boot := rfl
@[simp] theorem setFan_hosts (s : State) (i f) : (setFan s i f).hosts = s.hosts := rfl
@[simp] theorem setFan_fns (s : State) (i f) : (setFan s i f).fns = s.fns := rfl
@[simp] theorem setFan_drives (s : State) (i f) : (setFan s i f).drives = s.drives := rfl
@[simp] theorem setFan_extents (s : State) (i f) : (setFan s i f).extents = s.extents := rfl
@[simp] theorem setFan_driveCmds (s : State) (i f) : (setFan s i f).driveCmds = s.driveCmds := rfl
@[simp] theorem setFan_nets (s : State) (i f) : (setFan s i f).nets = s.nets := rfl
@[simp] theorem setFan_buses (s : State) (i f) : (setFan s i f).buses = s.buses := rfl
@[simp] theorem setFan_twt (s : State) (i f) : (setFan s i f).twt = s.twt := rfl
@[simp] theorem setFan_memory (s : State) (i f) : (setFan s i f).memory = s.memory := rfl
@[simp] theorem setFan_ports (s : State) (i f) : (setFan s i f).ports = s.ports := rfl
@[simp] theorem setFan_tensor (s : State) (i f) : (setFan s i f).tensor = s.tensor := rfl
@[simp] theorem setFan_cls (s : State) (i f) : (setFan s i f).cls = s.cls := rfl
@[simp] theorem setFan_keys (s : State) (i f) : (setFan s i f).keys = s.keys := rfl
@[simp] theorem setFan_keysLost (s : State) (i f) : (setFan s i f).keysLost = s.keysLost := rfl

/-! ### setAxis -/

@[simp] theorem setAxis_now (s : State) (i f) : (setAxis s i f).now = s.now := rfl
@[simp] theorem setAxis_fresh (s : State) (i f) : (setAxis s i f).fresh = s.fresh := rfl
@[simp] theorem setAxis_out (s : State) (i f) : (setAxis s i f).out = s.out := rfl
@[simp] theorem setAxis_pending (s : State) (i f) : (setAxis s i f).pending = s.pending := rfl
@[simp] theorem setAxis_parts (s : State) (i f) : (setAxis s i f).parts = s.parts := rfl
@[simp] theorem setAxis_fencedSlots (s : State) (i f) : (setAxis s i f).fencedSlots = s.fencedSlots := rfl
@[simp] theorem setAxis_domains (s : State) (i f) : (setAxis s i f).domains = s.domains := rfl
@[simp] theorem setAxis_queues (s : State) (i f) : (setAxis s i f).queues = s.queues := rfl
@[simp] theorem setAxis_streams (s : State) (i f) : (setAxis s i f).streams = s.streams := rfl
@[simp] theorem setAxis_convoys (s : State) (i f) : (setAxis s i f).convoys = s.convoys := rfl
@[simp] theorem setAxis_faults (s : State) (i f) : (setAxis s i f).faults = s.faults := rfl
@[simp] theorem setAxis_ctr (s : State) (i f) : (setAxis s i f).ctr = s.ctr := rfl
@[simp] theorem setAxis_vault (s : State) (i f) : (setAxis s i f).vault = s.vault := rfl
@[simp] theorem setAxis_timebase (s : State) (i f) : (setAxis s i f).timebase = s.timebase := rfl
@[simp] theorem setAxis_boot (s : State) (i f) : (setAxis s i f).boot = s.boot := rfl
@[simp] theorem setAxis_hosts (s : State) (i f) : (setAxis s i f).hosts = s.hosts := rfl
@[simp] theorem setAxis_fns (s : State) (i f) : (setAxis s i f).fns = s.fns := rfl
@[simp] theorem setAxis_drives (s : State) (i f) : (setAxis s i f).drives = s.drives := rfl
@[simp] theorem setAxis_extents (s : State) (i f) : (setAxis s i f).extents = s.extents := rfl
@[simp] theorem setAxis_driveCmds (s : State) (i f) : (setAxis s i f).driveCmds = s.driveCmds := rfl
@[simp] theorem setAxis_nets (s : State) (i f) : (setAxis s i f).nets = s.nets := rfl
@[simp] theorem setAxis_buses (s : State) (i f) : (setAxis s i f).buses = s.buses := rfl
@[simp] theorem setAxis_twt (s : State) (i f) : (setAxis s i f).twt = s.twt := rfl
@[simp] theorem setAxis_memory (s : State) (i f) : (setAxis s i f).memory = s.memory := rfl
@[simp] theorem setAxis_ports (s : State) (i f) : (setAxis s i f).ports = s.ports := rfl
@[simp] theorem setAxis_tensor (s : State) (i f) : (setAxis s i f).tensor = s.tensor := rfl
@[simp] theorem setAxis_cls (s : State) (i f) : (setAxis s i f).cls = s.cls := rfl
@[simp] theorem setAxis_keys (s : State) (i f) : (setAxis s i f).keys = s.keys := rfl
@[simp] theorem setAxis_keysLost (s : State) (i f) : (setAxis s i f).keysLost = s.keysLost := rfl

/-! ### setCal -/

@[simp] theorem setCal_now (s : State) (f) : (setCal s f).now = s.now := rfl
@[simp] theorem setCal_fresh (s : State) (f) : (setCal s f).fresh = s.fresh := rfl
@[simp] theorem setCal_out (s : State) (f) : (setCal s f).out = s.out := rfl
@[simp] theorem setCal_pending (s : State) (f) : (setCal s f).pending = s.pending := rfl
@[simp] theorem setCal_parts (s : State) (f) : (setCal s f).parts = s.parts := rfl
@[simp] theorem setCal_fencedSlots (s : State) (f) : (setCal s f).fencedSlots = s.fencedSlots := rfl
@[simp] theorem setCal_domains (s : State) (f) : (setCal s f).domains = s.domains := rfl
@[simp] theorem setCal_queues (s : State) (f) : (setCal s f).queues = s.queues := rfl
@[simp] theorem setCal_streams (s : State) (f) : (setCal s f).streams = s.streams := rfl
@[simp] theorem setCal_convoys (s : State) (f) : (setCal s f).convoys = s.convoys := rfl
@[simp] theorem setCal_faults (s : State) (f) : (setCal s f).faults = s.faults := rfl
@[simp] theorem setCal_ctr (s : State) (f) : (setCal s f).ctr = s.ctr := rfl
@[simp] theorem setCal_vault (s : State) (f) : (setCal s f).vault = s.vault := rfl
@[simp] theorem setCal_timebase (s : State) (f) : (setCal s f).timebase = s.timebase := rfl
@[simp] theorem setCal_boot (s : State) (f) : (setCal s f).boot = s.boot := rfl
@[simp] theorem setCal_hosts (s : State) (f) : (setCal s f).hosts = s.hosts := rfl
@[simp] theorem setCal_fns (s : State) (f) : (setCal s f).fns = s.fns := rfl
@[simp] theorem setCal_drives (s : State) (f) : (setCal s f).drives = s.drives := rfl
@[simp] theorem setCal_extents (s : State) (f) : (setCal s f).extents = s.extents := rfl
@[simp] theorem setCal_driveCmds (s : State) (f) : (setCal s f).driveCmds = s.driveCmds := rfl
@[simp] theorem setCal_nets (s : State) (f) : (setCal s f).nets = s.nets := rfl
@[simp] theorem setCal_buses (s : State) (f) : (setCal s f).buses = s.buses := rfl
@[simp] theorem setCal_twt (s : State) (f) : (setCal s f).twt = s.twt := rfl
@[simp] theorem setCal_memory (s : State) (f) : (setCal s f).memory = s.memory := rfl
@[simp] theorem setCal_ports (s : State) (f) : (setCal s f).ports = s.ports := rfl
@[simp] theorem setCal_tensor (s : State) (f) : (setCal s f).tensor = s.tensor := rfl
@[simp] theorem setCal_cls (s : State) (f) : (setCal s f).cls = s.cls := rfl
@[simp] theorem setCal_keys (s : State) (f) : (setCal s f).keys = s.keys := rfl
@[simp] theorem setCal_keysLost (s : State) (f) : (setCal s f).keysLost = s.keysLost := rfl

/-! ### setVault -/

@[simp] theorem setVault_now (s : State) (f) : (setVault s f).now = s.now := rfl
@[simp] theorem setVault_fresh (s : State) (f) : (setVault s f).fresh = s.fresh := rfl
@[simp] theorem setVault_out (s : State) (f) : (setVault s f).out = s.out := rfl
@[simp] theorem setVault_pending (s : State) (f) : (setVault s f).pending = s.pending := rfl
@[simp] theorem setVault_parts (s : State) (f) : (setVault s f).parts = s.parts := rfl
@[simp] theorem setVault_fencedSlots (s : State) (f) : (setVault s f).fencedSlots = s.fencedSlots := rfl
@[simp] theorem setVault_domains (s : State) (f) : (setVault s f).domains = s.domains := rfl
@[simp] theorem setVault_queues (s : State) (f) : (setVault s f).queues = s.queues := rfl
@[simp] theorem setVault_streams (s : State) (f) : (setVault s f).streams = s.streams := rfl
@[simp] theorem setVault_convoys (s : State) (f) : (setVault s f).convoys = s.convoys := rfl
@[simp] theorem setVault_faults (s : State) (f) : (setVault s f).faults = s.faults := rfl
@[simp] theorem setVault_ctr (s : State) (f) : (setVault s f).ctr = s.ctr := rfl
@[simp] theorem setVault_timebase (s : State) (f) : (setVault s f).timebase = s.timebase := rfl
@[simp] theorem setVault_boot (s : State) (f) : (setVault s f).boot = s.boot := rfl
@[simp] theorem setVault_hosts (s : State) (f) : (setVault s f).hosts = s.hosts := rfl
@[simp] theorem setVault_fns (s : State) (f) : (setVault s f).fns = s.fns := rfl
@[simp] theorem setVault_drives (s : State) (f) : (setVault s f).drives = s.drives := rfl
@[simp] theorem setVault_extents (s : State) (f) : (setVault s f).extents = s.extents := rfl
@[simp] theorem setVault_driveCmds (s : State) (f) : (setVault s f).driveCmds = s.driveCmds := rfl
@[simp] theorem setVault_nets (s : State) (f) : (setVault s f).nets = s.nets := rfl
@[simp] theorem setVault_buses (s : State) (f) : (setVault s f).buses = s.buses := rfl
@[simp] theorem setVault_twt (s : State) (f) : (setVault s f).twt = s.twt := rfl
@[simp] theorem setVault_memory (s : State) (f) : (setVault s f).memory = s.memory := rfl
@[simp] theorem setVault_ports (s : State) (f) : (setVault s f).ports = s.ports := rfl
@[simp] theorem setVault_tensor (s : State) (f) : (setVault s f).tensor = s.tensor := rfl
@[simp] theorem setVault_aon (s : State) (f) : (setVault s f).aon = s.aon := rfl
@[simp] theorem setVault_cls (s : State) (f) : (setVault s f).cls = s.cls := rfl
@[simp] theorem setVault_keys (s : State) (f) : (setVault s f).keys = s.keys := rfl
@[simp] theorem setVault_keysLost (s : State) (f) : (setVault s f).keysLost = s.keysLost := rfl

/-! ### setSource -/

@[simp] theorem setSource_now (s : State) (i f) : (setSource s i f).now = s.now := rfl
@[simp] theorem setSource_fresh (s : State) (i f) : (setSource s i f).fresh = s.fresh := rfl
@[simp] theorem setSource_out (s : State) (i f) : (setSource s i f).out = s.out := rfl
@[simp] theorem setSource_pending (s : State) (i f) : (setSource s i f).pending = s.pending := rfl
@[simp] theorem setSource_parts (s : State) (i f) : (setSource s i f).parts = s.parts := rfl
@[simp] theorem setSource_fencedSlots (s : State) (i f) : (setSource s i f).fencedSlots = s.fencedSlots := rfl
@[simp] theorem setSource_domains (s : State) (i f) : (setSource s i f).domains = s.domains := rfl
@[simp] theorem setSource_queues (s : State) (i f) : (setSource s i f).queues = s.queues := rfl
@[simp] theorem setSource_streams (s : State) (i f) : (setSource s i f).streams = s.streams := rfl
@[simp] theorem setSource_convoys (s : State) (i f) : (setSource s i f).convoys = s.convoys := rfl
@[simp] theorem setSource_faults (s : State) (i f) : (setSource s i f).faults = s.faults := rfl
@[simp] theorem setSource_ctr (s : State) (i f) : (setSource s i f).ctr = s.ctr := rfl
@[simp] theorem setSource_timebase (s : State) (i f) : (setSource s i f).timebase = s.timebase := rfl
@[simp] theorem setSource_boot (s : State) (i f) : (setSource s i f).boot = s.boot := rfl
@[simp] theorem setSource_hosts (s : State) (i f) : (setSource s i f).hosts = s.hosts := rfl
@[simp] theorem setSource_fns (s : State) (i f) : (setSource s i f).fns = s.fns := rfl
@[simp] theorem setSource_drives (s : State) (i f) : (setSource s i f).drives = s.drives := rfl
@[simp] theorem setSource_extents (s : State) (i f) : (setSource s i f).extents = s.extents := rfl
@[simp] theorem setSource_driveCmds (s : State) (i f) : (setSource s i f).driveCmds = s.driveCmds := rfl
@[simp] theorem setSource_nets (s : State) (i f) : (setSource s i f).nets = s.nets := rfl
@[simp] theorem setSource_buses (s : State) (i f) : (setSource s i f).buses = s.buses := rfl
@[simp] theorem setSource_twt (s : State) (i f) : (setSource s i f).twt = s.twt := rfl
@[simp] theorem setSource_memory (s : State) (i f) : (setSource s i f).memory = s.memory := rfl
@[simp] theorem setSource_ports (s : State) (i f) : (setSource s i f).ports = s.ports := rfl
@[simp] theorem setSource_tensor (s : State) (i f) : (setSource s i f).tensor = s.tensor := rfl
@[simp] theorem setSource_aon (s : State) (i f) : (setSource s i f).aon = s.aon := rfl
@[simp] theorem setSource_cls (s : State) (i f) : (setSource s i f).cls = s.cls := rfl
@[simp] theorem setSource_keys (s : State) (i f) : (setSource s i f).keys = s.keys := rfl
@[simp] theorem setSource_keysLost (s : State) (i f) : (setSource s i f).keysLost = s.keysLost := rfl

/-! ### setCls -/

@[simp] theorem setCls_now (s : State) (f) : (setCls s f).now = s.now := rfl
@[simp] theorem setCls_fresh (s : State) (f) : (setCls s f).fresh = s.fresh := rfl
@[simp] theorem setCls_out (s : State) (f) : (setCls s f).out = s.out := rfl
@[simp] theorem setCls_pending (s : State) (f) : (setCls s f).pending = s.pending := rfl
@[simp] theorem setCls_parts (s : State) (f) : (setCls s f).parts = s.parts := rfl
@[simp] theorem setCls_fencedSlots (s : State) (f) : (setCls s f).fencedSlots = s.fencedSlots := rfl
@[simp] theorem setCls_domains (s : State) (f) : (setCls s f).domains = s.domains := rfl
@[simp] theorem setCls_queues (s : State) (f) : (setCls s f).queues = s.queues := rfl
@[simp] theorem setCls_streams (s : State) (f) : (setCls s f).streams = s.streams := rfl
@[simp] theorem setCls_convoys (s : State) (f) : (setCls s f).convoys = s.convoys := rfl
@[simp] theorem setCls_faults (s : State) (f) : (setCls s f).faults = s.faults := rfl
@[simp] theorem setCls_ctr (s : State) (f) : (setCls s f).ctr = s.ctr := rfl
@[simp] theorem setCls_vault (s : State) (f) : (setCls s f).vault = s.vault := rfl
@[simp] theorem setCls_timebase (s : State) (f) : (setCls s f).timebase = s.timebase := rfl
@[simp] theorem setCls_boot (s : State) (f) : (setCls s f).boot = s.boot := rfl
@[simp] theorem setCls_hosts (s : State) (f) : (setCls s f).hosts = s.hosts := rfl
@[simp] theorem setCls_fns (s : State) (f) : (setCls s f).fns = s.fns := rfl
@[simp] theorem setCls_drives (s : State) (f) : (setCls s f).drives = s.drives := rfl
@[simp] theorem setCls_extents (s : State) (f) : (setCls s f).extents = s.extents := rfl
@[simp] theorem setCls_driveCmds (s : State) (f) : (setCls s f).driveCmds = s.driveCmds := rfl
@[simp] theorem setCls_nets (s : State) (f) : (setCls s f).nets = s.nets := rfl
@[simp] theorem setCls_buses (s : State) (f) : (setCls s f).buses = s.buses := rfl
@[simp] theorem setCls_twt (s : State) (f) : (setCls s f).twt = s.twt := rfl
@[simp] theorem setCls_memory (s : State) (f) : (setCls s f).memory = s.memory := rfl
@[simp] theorem setCls_ports (s : State) (f) : (setCls s f).ports = s.ports := rfl
@[simp] theorem setCls_tensor (s : State) (f) : (setCls s f).tensor = s.tensor := rfl
@[simp] theorem setCls_aon (s : State) (f) : (setCls s f).aon = s.aon := rfl
@[simp] theorem setCls_keys (s : State) (f) : (setCls s f).keys = s.keys := rfl
@[simp] theorem setCls_keysLost (s : State) (f) : (setCls s f).keysLost = s.keysLost := rfl

/-! ### setClsPort -/

@[simp] theorem setClsPort_now (s : State) (j f) : (setClsPort s j f).now = s.now := rfl
@[simp] theorem setClsPort_fresh (s : State) (j f) : (setClsPort s j f).fresh = s.fresh := rfl
@[simp] theorem setClsPort_out (s : State) (j f) : (setClsPort s j f).out = s.out := rfl
@[simp] theorem setClsPort_pending (s : State) (j f) : (setClsPort s j f).pending = s.pending := rfl
@[simp] theorem setClsPort_parts (s : State) (j f) : (setClsPort s j f).parts = s.parts := rfl
@[simp] theorem setClsPort_fencedSlots (s : State) (j f) : (setClsPort s j f).fencedSlots = s.fencedSlots := rfl
@[simp] theorem setClsPort_domains (s : State) (j f) : (setClsPort s j f).domains = s.domains := rfl
@[simp] theorem setClsPort_queues (s : State) (j f) : (setClsPort s j f).queues = s.queues := rfl
@[simp] theorem setClsPort_streams (s : State) (j f) : (setClsPort s j f).streams = s.streams := rfl
@[simp] theorem setClsPort_convoys (s : State) (j f) : (setClsPort s j f).convoys = s.convoys := rfl
@[simp] theorem setClsPort_faults (s : State) (j f) : (setClsPort s j f).faults = s.faults := rfl
@[simp] theorem setClsPort_ctr (s : State) (j f) : (setClsPort s j f).ctr = s.ctr := rfl
@[simp] theorem setClsPort_vault (s : State) (j f) : (setClsPort s j f).vault = s.vault := rfl
@[simp] theorem setClsPort_timebase (s : State) (j f) : (setClsPort s j f).timebase = s.timebase := rfl
@[simp] theorem setClsPort_boot (s : State) (j f) : (setClsPort s j f).boot = s.boot := rfl
@[simp] theorem setClsPort_hosts (s : State) (j f) : (setClsPort s j f).hosts = s.hosts := rfl
@[simp] theorem setClsPort_fns (s : State) (j f) : (setClsPort s j f).fns = s.fns := rfl
@[simp] theorem setClsPort_drives (s : State) (j f) : (setClsPort s j f).drives = s.drives := rfl
@[simp] theorem setClsPort_extents (s : State) (j f) : (setClsPort s j f).extents = s.extents := rfl
@[simp] theorem setClsPort_driveCmds (s : State) (j f) : (setClsPort s j f).driveCmds = s.driveCmds := rfl
@[simp] theorem setClsPort_nets (s : State) (j f) : (setClsPort s j f).nets = s.nets := rfl
@[simp] theorem setClsPort_buses (s : State) (j f) : (setClsPort s j f).buses = s.buses := rfl
@[simp] theorem setClsPort_twt (s : State) (j f) : (setClsPort s j f).twt = s.twt := rfl
@[simp] theorem setClsPort_memory (s : State) (j f) : (setClsPort s j f).memory = s.memory := rfl
@[simp] theorem setClsPort_ports (s : State) (j f) : (setClsPort s j f).ports = s.ports := rfl
@[simp] theorem setClsPort_tensor (s : State) (j f) : (setClsPort s j f).tensor = s.tensor := rfl
@[simp] theorem setClsPort_aon (s : State) (j f) : (setClsPort s j f).aon = s.aon := rfl
@[simp] theorem setClsPort_keys (s : State) (j f) : (setClsPort s j f).keys = s.keys := rfl
@[simp] theorem setClsPort_keysLost (s : State) (j f) : (setClsPort s j f).keysLost = s.keysLost := rfl

/-! ### setNet -/

@[simp] theorem setNet_now (s : State) (j f) : (setNet s j f).now = s.now := rfl
@[simp] theorem setNet_fresh (s : State) (j f) : (setNet s j f).fresh = s.fresh := rfl
@[simp] theorem setNet_out (s : State) (j f) : (setNet s j f).out = s.out := rfl
@[simp] theorem setNet_pending (s : State) (j f) : (setNet s j f).pending = s.pending := rfl
@[simp] theorem setNet_parts (s : State) (j f) : (setNet s j f).parts = s.parts := rfl
@[simp] theorem setNet_fencedSlots (s : State) (j f) : (setNet s j f).fencedSlots = s.fencedSlots := rfl
@[simp] theorem setNet_domains (s : State) (j f) : (setNet s j f).domains = s.domains := rfl
@[simp] theorem setNet_queues (s : State) (j f) : (setNet s j f).queues = s.queues := rfl
@[simp] theorem setNet_streams (s : State) (j f) : (setNet s j f).streams = s.streams := rfl
@[simp] theorem setNet_convoys (s : State) (j f) : (setNet s j f).convoys = s.convoys := rfl
@[simp] theorem setNet_faults (s : State) (j f) : (setNet s j f).faults = s.faults := rfl
@[simp] theorem setNet_ctr (s : State) (j f) : (setNet s j f).ctr = s.ctr := rfl
@[simp] theorem setNet_vault (s : State) (j f) : (setNet s j f).vault = s.vault := rfl
@[simp] theorem setNet_timebase (s : State) (j f) : (setNet s j f).timebase = s.timebase := rfl
@[simp] theorem setNet_boot (s : State) (j f) : (setNet s j f).boot = s.boot := rfl
@[simp] theorem setNet_hosts (s : State) (j f) : (setNet s j f).hosts = s.hosts := rfl
@[simp] theorem setNet_fns (s : State) (j f) : (setNet s j f).fns = s.fns := rfl
@[simp] theorem setNet_drives (s : State) (j f) : (setNet s j f).drives = s.drives := rfl
@[simp] theorem setNet_extents (s : State) (j f) : (setNet s j f).extents = s.extents := rfl
@[simp] theorem setNet_driveCmds (s : State) (j f) : (setNet s j f).driveCmds = s.driveCmds := rfl
@[simp] theorem setNet_buses (s : State) (j f) : (setNet s j f).buses = s.buses := rfl
@[simp] theorem setNet_twt (s : State) (j f) : (setNet s j f).twt = s.twt := rfl
@[simp] theorem setNet_memory (s : State) (j f) : (setNet s j f).memory = s.memory := rfl
@[simp] theorem setNet_ports (s : State) (j f) : (setNet s j f).ports = s.ports := rfl
@[simp] theorem setNet_tensor (s : State) (j f) : (setNet s j f).tensor = s.tensor := rfl
@[simp] theorem setNet_aon (s : State) (j f) : (setNet s j f).aon = s.aon := rfl
@[simp] theorem setNet_cls (s : State) (j f) : (setNet s j f).cls = s.cls := rfl
@[simp] theorem setNet_keys (s : State) (j f) : (setNet s j f).keys = s.keys := rfl
@[simp] theorem setNet_keysLost (s : State) (j f) : (setNet s j f).keysLost = s.keysLost := rfl

/-! ### setBus -/

@[simp] theorem setBus_now (s : State) (b f) : (setBus s b f).now = s.now := rfl
@[simp] theorem setBus_fresh (s : State) (b f) : (setBus s b f).fresh = s.fresh := rfl
@[simp] theorem setBus_out (s : State) (b f) : (setBus s b f).out = s.out := rfl
@[simp] theorem setBus_pending (s : State) (b f) : (setBus s b f).pending = s.pending := rfl
@[simp] theorem setBus_parts (s : State) (b f) : (setBus s b f).parts = s.parts := rfl
@[simp] theorem setBus_fencedSlots (s : State) (b f) : (setBus s b f).fencedSlots = s.fencedSlots := rfl
@[simp] theorem setBus_domains (s : State) (b f) : (setBus s b f).domains = s.domains := rfl
@[simp] theorem setBus_queues (s : State) (b f) : (setBus s b f).queues = s.queues := rfl
@[simp] theorem setBus_streams (s : State) (b f) : (setBus s b f).streams = s.streams := rfl
@[simp] theorem setBus_convoys (s : State) (b f) : (setBus s b f).convoys = s.convoys := rfl
@[simp] theorem setBus_faults (s : State) (b f) : (setBus s b f).faults = s.faults := rfl
@[simp] theorem setBus_ctr (s : State) (b f) : (setBus s b f).ctr = s.ctr := rfl
@[simp] theorem setBus_vault (s : State) (b f) : (setBus s b f).vault = s.vault := rfl
@[simp] theorem setBus_timebase (s : State) (b f) : (setBus s b f).timebase = s.timebase := rfl
@[simp] theorem setBus_boot (s : State) (b f) : (setBus s b f).boot = s.boot := rfl
@[simp] theorem setBus_hosts (s : State) (b f) : (setBus s b f).hosts = s.hosts := rfl
@[simp] theorem setBus_fns (s : State) (b f) : (setBus s b f).fns = s.fns := rfl
@[simp] theorem setBus_drives (s : State) (b f) : (setBus s b f).drives = s.drives := rfl
@[simp] theorem setBus_extents (s : State) (b f) : (setBus s b f).extents = s.extents := rfl
@[simp] theorem setBus_driveCmds (s : State) (b f) : (setBus s b f).driveCmds = s.driveCmds := rfl
@[simp] theorem setBus_nets (s : State) (b f) : (setBus s b f).nets = s.nets := rfl
@[simp] theorem setBus_twt (s : State) (b f) : (setBus s b f).twt = s.twt := rfl
@[simp] theorem setBus_memory (s : State) (b f) : (setBus s b f).memory = s.memory := rfl
@[simp] theorem setBus_ports (s : State) (b f) : (setBus s b f).ports = s.ports := rfl
@[simp] theorem setBus_tensor (s : State) (b f) : (setBus s b f).tensor = s.tensor := rfl
@[simp] theorem setBus_aon (s : State) (b f) : (setBus s b f).aon = s.aon := rfl
@[simp] theorem setBus_cls (s : State) (b f) : (setBus s b f).cls = s.cls := rfl
@[simp] theorem setBus_keys (s : State) (b f) : (setBus s b f).keys = s.keys := rfl
@[simp] theorem setBus_keysLost (s : State) (b f) : (setBus s b f).keysLost = s.keysLost := rfl

/-! ### setConvoy -/

@[simp] theorem setConvoy_now (s : State) (n f) : (setConvoy s n f).now = s.now := rfl
@[simp] theorem setConvoy_fresh (s : State) (n f) : (setConvoy s n f).fresh = s.fresh := rfl
@[simp] theorem setConvoy_out (s : State) (n f) : (setConvoy s n f).out = s.out := rfl
@[simp] theorem setConvoy_pending (s : State) (n f) : (setConvoy s n f).pending = s.pending := rfl
@[simp] theorem setConvoy_parts (s : State) (n f) : (setConvoy s n f).parts = s.parts := rfl
@[simp] theorem setConvoy_fencedSlots (s : State) (n f) : (setConvoy s n f).fencedSlots = s.fencedSlots := rfl
@[simp] theorem setConvoy_domains (s : State) (n f) : (setConvoy s n f).domains = s.domains := rfl
@[simp] theorem setConvoy_queues (s : State) (n f) : (setConvoy s n f).queues = s.queues := rfl
@[simp] theorem setConvoy_streams (s : State) (n f) : (setConvoy s n f).streams = s.streams := rfl
@[simp] theorem setConvoy_faults (s : State) (n f) : (setConvoy s n f).faults = s.faults := rfl
@[simp] theorem setConvoy_ctr (s : State) (n f) : (setConvoy s n f).ctr = s.ctr := rfl
@[simp] theorem setConvoy_vault (s : State) (n f) : (setConvoy s n f).vault = s.vault := rfl
@[simp] theorem setConvoy_timebase (s : State) (n f) : (setConvoy s n f).timebase = s.timebase := rfl
@[simp] theorem setConvoy_boot (s : State) (n f) : (setConvoy s n f).boot = s.boot := rfl
@[simp] theorem setConvoy_hosts (s : State) (n f) : (setConvoy s n f).hosts = s.hosts := rfl
@[simp] theorem setConvoy_fns (s : State) (n f) : (setConvoy s n f).fns = s.fns := rfl
@[simp] theorem setConvoy_drives (s : State) (n f) : (setConvoy s n f).drives = s.drives := rfl
@[simp] theorem setConvoy_extents (s : State) (n f) : (setConvoy s n f).extents = s.extents := rfl
@[simp] theorem setConvoy_driveCmds (s : State) (n f) : (setConvoy s n f).driveCmds = s.driveCmds := rfl
@[simp] theorem setConvoy_nets (s : State) (n f) : (setConvoy s n f).nets = s.nets := rfl
@[simp] theorem setConvoy_buses (s : State) (n f) : (setConvoy s n f).buses = s.buses := rfl
@[simp] theorem setConvoy_twt (s : State) (n f) : (setConvoy s n f).twt = s.twt := rfl
@[simp] theorem setConvoy_memory (s : State) (n f) : (setConvoy s n f).memory = s.memory := rfl
@[simp] theorem setConvoy_ports (s : State) (n f) : (setConvoy s n f).ports = s.ports := rfl
@[simp] theorem setConvoy_tensor (s : State) (n f) : (setConvoy s n f).tensor = s.tensor := rfl
@[simp] theorem setConvoy_aon (s : State) (n f) : (setConvoy s n f).aon = s.aon := rfl
@[simp] theorem setConvoy_cls (s : State) (n f) : (setConvoy s n f).cls = s.cls := rfl
@[simp] theorem setConvoy_keys (s : State) (n f) : (setConvoy s n f).keys = s.keys := rfl
@[simp] theorem setConvoy_keysLost (s : State) (n f) : (setConvoy s n f).keysLost = s.keysLost := rfl

/-! ### setQueue -/

@[simp] theorem setQueue_now (s : State) (c n f) : (setQueue s c n f).now = s.now := rfl
@[simp] theorem setQueue_fresh (s : State) (c n f) : (setQueue s c n f).fresh = s.fresh := rfl
@[simp] theorem setQueue_out (s : State) (c n f) : (setQueue s c n f).out = s.out := rfl
@[simp] theorem setQueue_pending (s : State) (c n f) : (setQueue s c n f).pending = s.pending := rfl
@[simp] theorem setQueue_parts (s : State) (c n f) : (setQueue s c n f).parts = s.parts := rfl
@[simp] theorem setQueue_fencedSlots (s : State) (c n f) : (setQueue s c n f).fencedSlots = s.fencedSlots := rfl
@[simp] theorem setQueue_domains (s : State) (c n f) : (setQueue s c n f).domains = s.domains := rfl
@[simp] theorem setQueue_streams (s : State) (c n f) : (setQueue s c n f).streams = s.streams := rfl
@[simp] theorem setQueue_convoys (s : State) (c n f) : (setQueue s c n f).convoys = s.convoys := rfl
@[simp] theorem setQueue_faults (s : State) (c n f) : (setQueue s c n f).faults = s.faults := rfl
@[simp] theorem setQueue_ctr (s : State) (c n f) : (setQueue s c n f).ctr = s.ctr := rfl
@[simp] theorem setQueue_vault (s : State) (c n f) : (setQueue s c n f).vault = s.vault := rfl
@[simp] theorem setQueue_timebase (s : State) (c n f) : (setQueue s c n f).timebase = s.timebase := rfl
@[simp] theorem setQueue_boot (s : State) (c n f) : (setQueue s c n f).boot = s.boot := rfl
@[simp] theorem setQueue_hosts (s : State) (c n f) : (setQueue s c n f).hosts = s.hosts := rfl
@[simp] theorem setQueue_fns (s : State) (c n f) : (setQueue s c n f).fns = s.fns := rfl
@[simp] theorem setQueue_drives (s : State) (c n f) : (setQueue s c n f).drives = s.drives := rfl
@[simp] theorem setQueue_extents (s : State) (c n f) : (setQueue s c n f).extents = s.extents := rfl
@[simp] theorem setQueue_driveCmds (s : State) (c n f) : (setQueue s c n f).driveCmds = s.driveCmds := rfl
@[simp] theorem setQueue_nets (s : State) (c n f) : (setQueue s c n f).nets = s.nets := rfl
@[simp] theorem setQueue_buses (s : State) (c n f) : (setQueue s c n f).buses = s.buses := rfl
@[simp] theorem setQueue_twt (s : State) (c n f) : (setQueue s c n f).twt = s.twt := rfl
@[simp] theorem setQueue_memory (s : State) (c n f) : (setQueue s c n f).memory = s.memory := rfl
@[simp] theorem setQueue_ports (s : State) (c n f) : (setQueue s c n f).ports = s.ports := rfl
@[simp] theorem setQueue_tensor (s : State) (c n f) : (setQueue s c n f).tensor = s.tensor := rfl
@[simp] theorem setQueue_aon (s : State) (c n f) : (setQueue s c n f).aon = s.aon := rfl
@[simp] theorem setQueue_cls (s : State) (c n f) : (setQueue s c n f).cls = s.cls := rfl
@[simp] theorem setQueue_keys (s : State) (c n f) : (setQueue s c n f).keys = s.keys := rfl
@[simp] theorem setQueue_keysLost (s : State) (c n f) : (setQueue s c n f).keysLost = s.keysLost := rfl

/-! ### setDomain -/

@[simp] theorem setDomain_now (s : State) (d f) : (setDomain s d f).now = s.now := rfl
@[simp] theorem setDomain_fresh (s : State) (d f) : (setDomain s d f).fresh = s.fresh := rfl
@[simp] theorem setDomain_out (s : State) (d f) : (setDomain s d f).out = s.out := rfl
@[simp] theorem setDomain_pending (s : State) (d f) : (setDomain s d f).pending = s.pending := rfl
@[simp] theorem setDomain_parts (s : State) (d f) : (setDomain s d f).parts = s.parts := rfl
@[simp] theorem setDomain_fencedSlots (s : State) (d f) : (setDomain s d f).fencedSlots = s.fencedSlots := rfl
@[simp] theorem setDomain_queues (s : State) (d f) : (setDomain s d f).queues = s.queues := rfl
@[simp] theorem setDomain_streams (s : State) (d f) : (setDomain s d f).streams = s.streams := rfl
@[simp] theorem setDomain_convoys (s : State) (d f) : (setDomain s d f).convoys = s.convoys := rfl
@[simp] theorem setDomain_faults (s : State) (d f) : (setDomain s d f).faults = s.faults := rfl
@[simp] theorem setDomain_ctr (s : State) (d f) : (setDomain s d f).ctr = s.ctr := rfl
@[simp] theorem setDomain_vault (s : State) (d f) : (setDomain s d f).vault = s.vault := rfl
@[simp] theorem setDomain_timebase (s : State) (d f) : (setDomain s d f).timebase = s.timebase := rfl
@[simp] theorem setDomain_boot (s : State) (d f) : (setDomain s d f).boot = s.boot := rfl
@[simp] theorem setDomain_hosts (s : State) (d f) : (setDomain s d f).hosts = s.hosts := rfl
@[simp] theorem setDomain_fns (s : State) (d f) : (setDomain s d f).fns = s.fns := rfl
@[simp] theorem setDomain_drives (s : State) (d f) : (setDomain s d f).drives = s.drives := rfl
@[simp] theorem setDomain_extents (s : State) (d f) : (setDomain s d f).extents = s.extents := rfl
@[simp] theorem setDomain_driveCmds (s : State) (d f) : (setDomain s d f).driveCmds = s.driveCmds := rfl
@[simp] theorem setDomain_nets (s : State) (d f) : (setDomain s d f).nets = s.nets := rfl
@[simp] theorem setDomain_buses (s : State) (d f) : (setDomain s d f).buses = s.buses := rfl
@[simp] theorem setDomain_twt (s : State) (d f) : (setDomain s d f).twt = s.twt := rfl
@[simp] theorem setDomain_memory (s : State) (d f) : (setDomain s d f).memory = s.memory := rfl
@[simp] theorem setDomain_ports (s : State) (d f) : (setDomain s d f).ports = s.ports := rfl
@[simp] theorem setDomain_tensor (s : State) (d f) : (setDomain s d f).tensor = s.tensor := rfl
@[simp] theorem setDomain_aon (s : State) (d f) : (setDomain s d f).aon = s.aon := rfl
@[simp] theorem setDomain_cls (s : State) (d f) : (setDomain s d f).cls = s.cls := rfl
@[simp] theorem setDomain_keys (s : State) (d f) : (setDomain s d f).keys = s.keys := rfl
@[simp] theorem setDomain_keysLost (s : State) (d f) : (setDomain s d f).keysLost = s.keysLost := rfl

/-! ### setPort -/

@[simp] theorem setPort_now (s : State) (n f) : (setPort s n f).now = s.now := rfl
@[simp] theorem setPort_fresh (s : State) (n f) : (setPort s n f).fresh = s.fresh := rfl
@[simp] theorem setPort_out (s : State) (n f) : (setPort s n f).out = s.out := rfl
@[simp] theorem setPort_pending (s : State) (n f) : (setPort s n f).pending = s.pending := rfl
@[simp] theorem setPort_parts (s : State) (n f) : (setPort s n f).parts = s.parts := rfl
@[simp] theorem setPort_fencedSlots (s : State) (n f) : (setPort s n f).fencedSlots = s.fencedSlots := rfl
@[simp] theorem setPort_domains (s : State) (n f) : (setPort s n f).domains = s.domains := rfl
@[simp] theorem setPort_queues (s : State) (n f) : (setPort s n f).queues = s.queues := rfl
@[simp] theorem setPort_streams (s : State) (n f) : (setPort s n f).streams = s.streams := rfl
@[simp] theorem setPort_convoys (s : State) (n f) : (setPort s n f).convoys = s.convoys := rfl
@[simp] theorem setPort_faults (s : State) (n f) : (setPort s n f).faults = s.faults := rfl
@[simp] theorem setPort_ctr (s : State) (n f) : (setPort s n f).ctr = s.ctr := rfl
@[simp] theorem setPort_vault (s : State) (n f) : (setPort s n f).vault = s.vault := rfl
@[simp] theorem setPort_timebase (s : State) (n f) : (setPort s n f).timebase = s.timebase := rfl
@[simp] theorem setPort_boot (s : State) (n f) : (setPort s n f).boot = s.boot := rfl
@[simp] theorem setPort_hosts (s : State) (n f) : (setPort s n f).hosts = s.hosts := rfl
@[simp] theorem setPort_fns (s : State) (n f) : (setPort s n f).fns = s.fns := rfl
@[simp] theorem setPort_drives (s : State) (n f) : (setPort s n f).drives = s.drives := rfl
@[simp] theorem setPort_extents (s : State) (n f) : (setPort s n f).extents = s.extents := rfl
@[simp] theorem setPort_driveCmds (s : State) (n f) : (setPort s n f).driveCmds = s.driveCmds := rfl
@[simp] theorem setPort_nets (s : State) (n f) : (setPort s n f).nets = s.nets := rfl
@[simp] theorem setPort_buses (s : State) (n f) : (setPort s n f).buses = s.buses := rfl
@[simp] theorem setPort_twt (s : State) (n f) : (setPort s n f).twt = s.twt := rfl
@[simp] theorem setPort_memory (s : State) (n f) : (setPort s n f).memory = s.memory := rfl
@[simp] theorem setPort_tensor (s : State) (n f) : (setPort s n f).tensor = s.tensor := rfl
@[simp] theorem setPort_aon (s : State) (n f) : (setPort s n f).aon = s.aon := rfl
@[simp] theorem setPort_cls (s : State) (n f) : (setPort s n f).cls = s.cls := rfl
@[simp] theorem setPort_keys (s : State) (n f) : (setPort s n f).keys = s.keys := rfl
@[simp] theorem setPort_keysLost (s : State) (n f) : (setPort s n f).keysLost = s.keysLost := rfl

/-! ### setMemory -/

@[simp] theorem setMemory_now (s : State) (f) : (setMemory s f).now = s.now := rfl
@[simp] theorem setMemory_fresh (s : State) (f) : (setMemory s f).fresh = s.fresh := rfl
@[simp] theorem setMemory_out (s : State) (f) : (setMemory s f).out = s.out := rfl
@[simp] theorem setMemory_pending (s : State) (f) : (setMemory s f).pending = s.pending := rfl
@[simp] theorem setMemory_parts (s : State) (f) : (setMemory s f).parts = s.parts := rfl
@[simp] theorem setMemory_fencedSlots (s : State) (f) : (setMemory s f).fencedSlots = s.fencedSlots := rfl
@[simp] theorem setMemory_domains (s : State) (f) : (setMemory s f).domains = s.domains := rfl
@[simp] theorem setMemory_queues (s : State) (f) : (setMemory s f).queues = s.queues := rfl
@[simp] theorem setMemory_streams (s : State) (f) : (setMemory s f).streams = s.streams := rfl
@[simp] theorem setMemory_convoys (s : State) (f) : (setMemory s f).convoys = s.convoys := rfl
@[simp] theorem setMemory_faults (s : State) (f) : (setMemory s f).faults = s.faults := rfl
@[simp] theorem setMemory_ctr (s : State) (f) : (setMemory s f).ctr = s.ctr := rfl
@[simp] theorem setMemory_vault (s : State) (f) : (setMemory s f).vault = s.vault := rfl
@[simp] theorem setMemory_timebase (s : State) (f) : (setMemory s f).timebase = s.timebase := rfl
@[simp] theorem setMemory_boot (s : State) (f) : (setMemory s f).boot = s.boot := rfl
@[simp] theorem setMemory_hosts (s : State) (f) : (setMemory s f).hosts = s.hosts := rfl
@[simp] theorem setMemory_fns (s : State) (f) : (setMemory s f).fns = s.fns := rfl
@[simp] theorem setMemory_drives (s : State) (f) : (setMemory s f).drives = s.drives := rfl
@[simp] theorem setMemory_extents (s : State) (f) : (setMemory s f).extents = s.extents := rfl
@[simp] theorem setMemory_driveCmds (s : State) (f) : (setMemory s f).driveCmds = s.driveCmds := rfl
@[simp] theorem setMemory_nets (s : State) (f) : (setMemory s f).nets = s.nets := rfl
@[simp] theorem setMemory_buses (s : State) (f) : (setMemory s f).buses = s.buses := rfl
@[simp] theorem setMemory_twt (s : State) (f) : (setMemory s f).twt = s.twt := rfl
@[simp] theorem setMemory_ports (s : State) (f) : (setMemory s f).ports = s.ports := rfl
@[simp] theorem setMemory_tensor (s : State) (f) : (setMemory s f).tensor = s.tensor := rfl
@[simp] theorem setMemory_aon (s : State) (f) : (setMemory s f).aon = s.aon := rfl
@[simp] theorem setMemory_cls (s : State) (f) : (setMemory s f).cls = s.cls := rfl
@[simp] theorem setMemory_keys (s : State) (f) : (setMemory s f).keys = s.keys := rfl
@[simp] theorem setMemory_keysLost (s : State) (f) : (setMemory s f).keysLost = s.keysLost := rfl

/-! ### setGranule -/

@[simp] theorem setGranule_now (s : State) (g f) : (setGranule s g f).now = s.now := rfl
@[simp] theorem setGranule_fresh (s : State) (g f) : (setGranule s g f).fresh = s.fresh := rfl
@[simp] theorem setGranule_out (s : State) (g f) : (setGranule s g f).out = s.out := rfl
@[simp] theorem setGranule_pending (s : State) (g f) : (setGranule s g f).pending = s.pending := rfl
@[simp] theorem setGranule_parts (s : State) (g f) : (setGranule s g f).parts = s.parts := rfl
@[simp] theorem setGranule_fencedSlots (s : State) (g f) : (setGranule s g f).fencedSlots = s.fencedSlots := rfl
@[simp] theorem setGranule_domains (s : State) (g f) : (setGranule s g f).domains = s.domains := rfl
@[simp] theorem setGranule_queues (s : State) (g f) : (setGranule s g f).queues = s.queues := rfl
@[simp] theorem setGranule_streams (s : State) (g f) : (setGranule s g f).streams = s.streams := rfl
@[simp] theorem setGranule_convoys (s : State) (g f) : (setGranule s g f).convoys = s.convoys := rfl
@[simp] theorem setGranule_faults (s : State) (g f) : (setGranule s g f).faults = s.faults := rfl
@[simp] theorem setGranule_ctr (s : State) (g f) : (setGranule s g f).ctr = s.ctr := rfl
@[simp] theorem setGranule_vault (s : State) (g f) : (setGranule s g f).vault = s.vault := rfl
@[simp] theorem setGranule_timebase (s : State) (g f) : (setGranule s g f).timebase = s.timebase := rfl
@[simp] theorem setGranule_boot (s : State) (g f) : (setGranule s g f).boot = s.boot := rfl
@[simp] theorem setGranule_hosts (s : State) (g f) : (setGranule s g f).hosts = s.hosts := rfl
@[simp] theorem setGranule_fns (s : State) (g f) : (setGranule s g f).fns = s.fns := rfl
@[simp] theorem setGranule_drives (s : State) (g f) : (setGranule s g f).drives = s.drives := rfl
@[simp] theorem setGranule_extents (s : State) (g f) : (setGranule s g f).extents = s.extents := rfl
@[simp] theorem setGranule_driveCmds (s : State) (g f) : (setGranule s g f).driveCmds = s.driveCmds := rfl
@[simp] theorem setGranule_nets (s : State) (g f) : (setGranule s g f).nets = s.nets := rfl
@[simp] theorem setGranule_buses (s : State) (g f) : (setGranule s g f).buses = s.buses := rfl
@[simp] theorem setGranule_twt (s : State) (g f) : (setGranule s g f).twt = s.twt := rfl
@[simp] theorem setGranule_ports (s : State) (g f) : (setGranule s g f).ports = s.ports := rfl
@[simp] theorem setGranule_tensor (s : State) (g f) : (setGranule s g f).tensor = s.tensor := rfl
@[simp] theorem setGranule_aon (s : State) (g f) : (setGranule s g f).aon = s.aon := rfl
@[simp] theorem setGranule_cls (s : State) (g f) : (setGranule s g f).cls = s.cls := rfl
@[simp] theorem setGranule_keys (s : State) (g f) : (setGranule s g f).keys = s.keys := rfl
@[simp] theorem setGranule_keysLost (s : State) (g f) : (setGranule s g f).keysLost = s.keysLost := rfl

/-! ### setSync -/

@[simp] theorem setSync_now (s : State) (i x) : (setSync s i x).now = s.now := rfl
@[simp] theorem setSync_fresh (s : State) (i x) : (setSync s i x).fresh = s.fresh := rfl
@[simp] theorem setSync_out (s : State) (i x) : (setSync s i x).out = s.out := rfl
@[simp] theorem setSync_pending (s : State) (i x) : (setSync s i x).pending = s.pending := rfl
@[simp] theorem setSync_parts (s : State) (i x) : (setSync s i x).parts = s.parts := rfl
@[simp] theorem setSync_fencedSlots (s : State) (i x) : (setSync s i x).fencedSlots = s.fencedSlots := rfl
@[simp] theorem setSync_domains (s : State) (i x) : (setSync s i x).domains = s.domains := rfl
@[simp] theorem setSync_queues (s : State) (i x) : (setSync s i x).queues = s.queues := rfl
@[simp] theorem setSync_streams (s : State) (i x) : (setSync s i x).streams = s.streams := rfl
@[simp] theorem setSync_convoys (s : State) (i x) : (setSync s i x).convoys = s.convoys := rfl
@[simp] theorem setSync_faults (s : State) (i x) : (setSync s i x).faults = s.faults := rfl
@[simp] theorem setSync_ctr (s : State) (i x) : (setSync s i x).ctr = s.ctr := rfl
@[simp] theorem setSync_vault (s : State) (i x) : (setSync s i x).vault = s.vault := rfl
@[simp] theorem setSync_timebase (s : State) (i x) : (setSync s i x).timebase = s.timebase := rfl
@[simp] theorem setSync_boot (s : State) (i x) : (setSync s i x).boot = s.boot := rfl
@[simp] theorem setSync_hosts (s : State) (i x) : (setSync s i x).hosts = s.hosts := rfl
@[simp] theorem setSync_fns (s : State) (i x) : (setSync s i x).fns = s.fns := rfl
@[simp] theorem setSync_drives (s : State) (i x) : (setSync s i x).drives = s.drives := rfl
@[simp] theorem setSync_extents (s : State) (i x) : (setSync s i x).extents = s.extents := rfl
@[simp] theorem setSync_driveCmds (s : State) (i x) : (setSync s i x).driveCmds = s.driveCmds := rfl
@[simp] theorem setSync_nets (s : State) (i x) : (setSync s i x).nets = s.nets := rfl
@[simp] theorem setSync_buses (s : State) (i x) : (setSync s i x).buses = s.buses := rfl
@[simp] theorem setSync_twt (s : State) (i x) : (setSync s i x).twt = s.twt := rfl
@[simp] theorem setSync_ports (s : State) (i x) : (setSync s i x).ports = s.ports := rfl
@[simp] theorem setSync_tensor (s : State) (i x) : (setSync s i x).tensor = s.tensor := rfl
@[simp] theorem setSync_aon (s : State) (i x) : (setSync s i x).aon = s.aon := rfl
@[simp] theorem setSync_cls (s : State) (i x) : (setSync s i x).cls = s.cls := rfl
@[simp] theorem setSync_keys (s : State) (i x) : (setSync s i x).keys = s.keys := rfl
@[simp] theorem setSync_keysLost (s : State) (i x) : (setSync s i x).keysLost = s.keysLost := rfl

/-! ### setDrive -/

@[simp] theorem setDrive_now (s : State) (k f) : (setDrive s k f).now = s.now := rfl
@[simp] theorem setDrive_fresh (s : State) (k f) : (setDrive s k f).fresh = s.fresh := rfl
@[simp] theorem setDrive_out (s : State) (k f) : (setDrive s k f).out = s.out := rfl
@[simp] theorem setDrive_pending (s : State) (k f) : (setDrive s k f).pending = s.pending := rfl
@[simp] theorem setDrive_parts (s : State) (k f) : (setDrive s k f).parts = s.parts := rfl
@[simp] theorem setDrive_fencedSlots (s : State) (k f) : (setDrive s k f).fencedSlots = s.fencedSlots := rfl
@[simp] theorem setDrive_domains (s : State) (k f) : (setDrive s k f).domains = s.domains := rfl
@[simp] theorem setDrive_queues (s : State) (k f) : (setDrive s k f).queues = s.queues := rfl
@[simp] theorem setDrive_streams (s : State) (k f) : (setDrive s k f).streams = s.streams := rfl
@[simp] theorem setDrive_convoys (s : State) (k f) : (setDrive s k f).convoys = s.convoys := rfl
@[simp] theorem setDrive_faults (s : State) (k f) : (setDrive s k f).faults = s.faults := rfl
@[simp] theorem setDrive_ctr (s : State) (k f) : (setDrive s k f).ctr = s.ctr := rfl
@[simp] theorem setDrive_vault (s : State) (k f) : (setDrive s k f).vault = s.vault := rfl
@[simp] theorem setDrive_timebase (s : State) (k f) : (setDrive s k f).timebase = s.timebase := rfl
@[simp] theorem setDrive_boot (s : State) (k f) : (setDrive s k f).boot = s.boot := rfl
@[simp] theorem setDrive_hosts (s : State) (k f) : (setDrive s k f).hosts = s.hosts := rfl
@[simp] theorem setDrive_fns (s : State) (k f) : (setDrive s k f).fns = s.fns := rfl
@[simp] theorem setDrive_extents (s : State) (k f) : (setDrive s k f).extents = s.extents := rfl
@[simp] theorem setDrive_driveCmds (s : State) (k f) : (setDrive s k f).driveCmds = s.driveCmds := rfl
@[simp] theorem setDrive_nets (s : State) (k f) : (setDrive s k f).nets = s.nets := rfl
@[simp] theorem setDrive_buses (s : State) (k f) : (setDrive s k f).buses = s.buses := rfl
@[simp] theorem setDrive_twt (s : State) (k f) : (setDrive s k f).twt = s.twt := rfl
@[simp] theorem setDrive_memory (s : State) (k f) : (setDrive s k f).memory = s.memory := rfl
@[simp] theorem setDrive_ports (s : State) (k f) : (setDrive s k f).ports = s.ports := rfl
@[simp] theorem setDrive_tensor (s : State) (k f) : (setDrive s k f).tensor = s.tensor := rfl
@[simp] theorem setDrive_aon (s : State) (k f) : (setDrive s k f).aon = s.aon := rfl
@[simp] theorem setDrive_cls (s : State) (k f) : (setDrive s k f).cls = s.cls := rfl
@[simp] theorem setDrive_keys (s : State) (k f) : (setDrive s k f).keys = s.keys := rfl
@[simp] theorem setDrive_keysLost (s : State) (k f) : (setDrive s k f).keysLost = s.keysLost := rfl

/-! ### setTeardown -/

@[simp] theorem setTeardown_now (s : State) (p f) : (setTeardown s p f).now = s.now := rfl
@[simp] theorem setTeardown_fresh (s : State) (p f) : (setTeardown s p f).fresh = s.fresh := rfl
@[simp] theorem setTeardown_out (s : State) (p f) : (setTeardown s p f).out = s.out := rfl
@[simp] theorem setTeardown_pending (s : State) (p f) : (setTeardown s p f).pending = s.pending := rfl
@[simp] theorem setTeardown_fencedSlots (s : State) (p f) : (setTeardown s p f).fencedSlots = s.fencedSlots := rfl
@[simp] theorem setTeardown_domains (s : State) (p f) : (setTeardown s p f).domains = s.domains := rfl
@[simp] theorem setTeardown_queues (s : State) (p f) : (setTeardown s p f).queues = s.queues := rfl
@[simp] theorem setTeardown_streams (s : State) (p f) : (setTeardown s p f).streams = s.streams := rfl
@[simp] theorem setTeardown_convoys (s : State) (p f) : (setTeardown s p f).convoys = s.convoys := rfl
@[simp] theorem setTeardown_faults (s : State) (p f) : (setTeardown s p f).faults = s.faults := rfl
@[simp] theorem setTeardown_ctr (s : State) (p f) : (setTeardown s p f).ctr = s.ctr := rfl
@[simp] theorem setTeardown_vault (s : State) (p f) : (setTeardown s p f).vault = s.vault := rfl
@[simp] theorem setTeardown_timebase (s : State) (p f) : (setTeardown s p f).timebase = s.timebase := rfl
@[simp] theorem setTeardown_boot (s : State) (p f) : (setTeardown s p f).boot = s.boot := rfl
@[simp] theorem setTeardown_hosts (s : State) (p f) : (setTeardown s p f).hosts = s.hosts := rfl
@[simp] theorem setTeardown_fns (s : State) (p f) : (setTeardown s p f).fns = s.fns := rfl
@[simp] theorem setTeardown_drives (s : State) (p f) : (setTeardown s p f).drives = s.drives := rfl
@[simp] theorem setTeardown_extents (s : State) (p f) : (setTeardown s p f).extents = s.extents := rfl
@[simp] theorem setTeardown_driveCmds (s : State) (p f) : (setTeardown s p f).driveCmds = s.driveCmds := rfl
@[simp] theorem setTeardown_nets (s : State) (p f) : (setTeardown s p f).nets = s.nets := rfl
@[simp] theorem setTeardown_buses (s : State) (p f) : (setTeardown s p f).buses = s.buses := rfl
@[simp] theorem setTeardown_twt (s : State) (p f) : (setTeardown s p f).twt = s.twt := rfl
@[simp] theorem setTeardown_memory (s : State) (p f) : (setTeardown s p f).memory = s.memory := rfl
@[simp] theorem setTeardown_ports (s : State) (p f) : (setTeardown s p f).ports = s.ports := rfl
@[simp] theorem setTeardown_tensor (s : State) (p f) : (setTeardown s p f).tensor = s.tensor := rfl
@[simp] theorem setTeardown_aon (s : State) (p f) : (setTeardown s p f).aon = s.aon := rfl
@[simp] theorem setTeardown_cls (s : State) (p f) : (setTeardown s p f).cls = s.cls := rfl
@[simp] theorem setTeardown_keys (s : State) (p f) : (setTeardown s p f).keys = s.keys := rfl
@[simp] theorem setTeardown_keysLost (s : State) (p f) : (setTeardown s p f).keysLost = s.keysLost := rfl

/-! ### setTile -/

@[simp] theorem setTile_now (s : State) (c l n) : (setTile s c l n).now = s.now := rfl
@[simp] theorem setTile_fresh (s : State) (c l n) : (setTile s c l n).fresh = s.fresh := rfl
@[simp] theorem setTile_out (s : State) (c l n) : (setTile s c l n).out = s.out := rfl
@[simp] theorem setTile_pending (s : State) (c l n) : (setTile s c l n).pending = s.pending := rfl
@[simp] theorem setTile_parts (s : State) (c l n) : (setTile s c l n).parts = s.parts := rfl
@[simp] theorem setTile_fencedSlots (s : State) (c l n) : (setTile s c l n).fencedSlots = s.fencedSlots := rfl
@[simp] theorem setTile_domains (s : State) (c l n) : (setTile s c l n).domains = s.domains := rfl
@[simp] theorem setTile_queues (s : State) (c l n) : (setTile s c l n).queues = s.queues := rfl
@[simp] theorem setTile_streams (s : State) (c l n) : (setTile s c l n).streams = s.streams := rfl
@[simp] theorem setTile_convoys (s : State) (c l n) : (setTile s c l n).convoys = s.convoys := rfl
@[simp] theorem setTile_faults (s : State) (c l n) : (setTile s c l n).faults = s.faults := rfl
@[simp] theorem setTile_ctr (s : State) (c l n) : (setTile s c l n).ctr = s.ctr := rfl
@[simp] theorem setTile_vault (s : State) (c l n) : (setTile s c l n).vault = s.vault := rfl
@[simp] theorem setTile_timebase (s : State) (c l n) : (setTile s c l n).timebase = s.timebase := rfl
@[simp] theorem setTile_boot (s : State) (c l n) : (setTile s c l n).boot = s.boot := rfl
@[simp] theorem setTile_hosts (s : State) (c l n) : (setTile s c l n).hosts = s.hosts := rfl
@[simp] theorem setTile_fns (s : State) (c l n) : (setTile s c l n).fns = s.fns := rfl
@[simp] theorem setTile_drives (s : State) (c l n) : (setTile s c l n).drives = s.drives := rfl
@[simp] theorem setTile_extents (s : State) (c l n) : (setTile s c l n).extents = s.extents := rfl
@[simp] theorem setTile_driveCmds (s : State) (c l n) : (setTile s c l n).driveCmds = s.driveCmds := rfl
@[simp] theorem setTile_nets (s : State) (c l n) : (setTile s c l n).nets = s.nets := rfl
@[simp] theorem setTile_buses (s : State) (c l n) : (setTile s c l n).buses = s.buses := rfl
@[simp] theorem setTile_twt (s : State) (c l n) : (setTile s c l n).twt = s.twt := rfl
@[simp] theorem setTile_memory (s : State) (c l n) : (setTile s c l n).memory = s.memory := rfl
@[simp] theorem setTile_ports (s : State) (c l n) : (setTile s c l n).ports = s.ports := rfl
@[simp] theorem setTile_aon (s : State) (c l n) : (setTile s c l n).aon = s.aon := rfl
@[simp] theorem setTile_cls (s : State) (c l n) : (setTile s c l n).cls = s.cls := rfl
@[simp] theorem setTile_keys (s : State) (c l n) : (setTile s c l n).keys = s.keys := rfl
@[simp] theorem setTile_keysLost (s : State) (c l n) : (setTile s c l n).keysLost = s.keysLost := rfl

/-! ### unfence -/

@[simp] theorem unfence_now (s : State) (g i) : (unfence s g i).now = s.now := rfl
@[simp] theorem unfence_fresh (s : State) (g i) : (unfence s g i).fresh = s.fresh := rfl
@[simp] theorem unfence_out (s : State) (g i) : (unfence s g i).out = s.out := rfl
@[simp] theorem unfence_pending (s : State) (g i) : (unfence s g i).pending = s.pending := rfl
@[simp] theorem unfence_parts (s : State) (g i) : (unfence s g i).parts = s.parts := rfl
@[simp] theorem unfence_fencedSlots (s : State) (g i) : (unfence s g i).fencedSlots = s.fencedSlots := rfl
@[simp] theorem unfence_domains (s : State) (g i) : (unfence s g i).domains = s.domains := rfl
@[simp] theorem unfence_queues (s : State) (g i) : (unfence s g i).queues = s.queues := rfl
@[simp] theorem unfence_streams (s : State) (g i) : (unfence s g i).streams = s.streams := rfl
@[simp] theorem unfence_convoys (s : State) (g i) : (unfence s g i).convoys = s.convoys := rfl
@[simp] theorem unfence_ctr (s : State) (g i) : (unfence s g i).ctr = s.ctr := rfl
@[simp] theorem unfence_vault (s : State) (g i) : (unfence s g i).vault = s.vault := rfl
@[simp] theorem unfence_timebase (s : State) (g i) : (unfence s g i).timebase = s.timebase := rfl
@[simp] theorem unfence_boot (s : State) (g i) : (unfence s g i).boot = s.boot := rfl
@[simp] theorem unfence_hosts (s : State) (g i) : (unfence s g i).hosts = s.hosts := rfl
@[simp] theorem unfence_fns (s : State) (g i) : (unfence s g i).fns = s.fns := rfl
@[simp] theorem unfence_drives (s : State) (g i) : (unfence s g i).drives = s.drives := rfl
@[simp] theorem unfence_extents (s : State) (g i) : (unfence s g i).extents = s.extents := rfl
@[simp] theorem unfence_driveCmds (s : State) (g i) : (unfence s g i).driveCmds = s.driveCmds := rfl
@[simp] theorem unfence_nets (s : State) (g i) : (unfence s g i).nets = s.nets := rfl
@[simp] theorem unfence_buses (s : State) (g i) : (unfence s g i).buses = s.buses := rfl
@[simp] theorem unfence_twt (s : State) (g i) : (unfence s g i).twt = s.twt := rfl
@[simp] theorem unfence_memory (s : State) (g i) : (unfence s g i).memory = s.memory := rfl
@[simp] theorem unfence_ports (s : State) (g i) : (unfence s g i).ports = s.ports := rfl
@[simp] theorem unfence_tensor (s : State) (g i) : (unfence s g i).tensor = s.tensor := rfl
@[simp] theorem unfence_aon (s : State) (g i) : (unfence s g i).aon = s.aon := rfl
@[simp] theorem unfence_cls (s : State) (g i) : (unfence s g i).cls = s.cls := rfl
@[simp] theorem unfence_keys (s : State) (g i) : (unfence s g i).keys = s.keys := rfl
@[simp] theorem unfence_keysLost (s : State) (g i) : (unfence s g i).keysLost = s.keysLost := rfl

/-! ### What is read back -/

@[simp] theorem freshState_out (s : State) : s.fresh_.out = [] := rfl
@[simp] theorem send_out (s : State) (o) : (send s o).out = s.out ++ o := rfl
@[simp] theorem advanceTo_now (s : State) (m) : (advanceTo s m).now = max s.now m := rfl
@[simp] theorem setBoot_boot (s : State) (f) : (setBoot s f).boot = f s.boot := rfl
@[simp] theorem setTensor_tensor (s : State) (f) : (setTensor s f).tensor = f s.tensor := rfl
@[simp] theorem setAon_aon (s : State) (f) : (setAon s f).aon = f s.aon := rfl
@[simp] theorem setVault_vault (s : State) (f) : (setVault s f).vault = f s.vault := rfl
@[simp] theorem setCls_cls (s : State) (f) : (setCls s f).cls = f s.cls := rfl
@[simp] theorem setMemory_memory (s : State) (f) : (setMemory s f).memory = f s.memory := rfl

@[simp] theorem part_setPart_self (s : State) (p : Nat) (f : Partition → Partition) : part (setPart s p f) p = f (part s p) := by
  simp [part, setPart]
@[simp] theorem part_setPart_ne (s : State) {p q : Nat} (f : Partition → Partition) (h : q ≠ p) : part (setPart s p f) q = part s q := by
  simp [part, setPart, h]

@[simp] theorem hostPort_setHost_self (s : State) (p : Nat) (f : HostPort → HostPort) : hostPort (setHost s p f) p = f (hostPort s p) := by
  simp [hostPort, setHost]
@[simp] theorem hostPort_setHost_ne (s : State) {p q : Nat} (f : HostPort → HostPort) (h : q ≠ p) : hostPort (setHost s p f) q = hostPort s q := by
  simp [hostPort, setHost, h]

@[simp] theorem netAt_setNet_self (s : State) (p : Nat) (f : NetPort → NetPort) : netAt (setNet s p f) p = f (netAt s p) := by
  simp [netAt, setNet]
@[simp] theorem netAt_setNet_ne (s : State) {p q : Nat} (f : NetPort → NetPort) (h : q ≠ p) : netAt (setNet s p f) q = netAt s q := by
  simp [netAt, setNet, h]

@[simp] theorem bus_setBus_self (s : State) (p : Nat) (f : Bus → Bus) : bus (setBus s p f) p = f (bus s p) := by
  simp [bus, setBus]
@[simp] theorem bus_setBus_ne (s : State) {p q : Nat} (f : Bus → Bus) (h : q ≠ p) : bus (setBus s p f) q = bus s q := by
  simp [bus, setBus, h]

@[simp] theorem convoy_setConvoy_self (s : State) (p : Nat) (f : Convoy → Convoy) : convoy (setConvoy s p f) p = (f (convoy s p)).mirrored := by
  simp [convoy, setConvoy]
@[simp] theorem convoy_setConvoy_ne (s : State) {p q : Nat} (f : Convoy → Convoy) (h : q ≠ p) : convoy (setConvoy s p f) q = convoy s q := by
  simp [convoy, setConvoy, h]

@[simp] theorem domain_setDomain_self (s : State) (p : Nat) (f : Domain → Domain) : domain (setDomain s p f) p = f (domain s p) := by
  simp [domain, setDomain]
@[simp] theorem domain_setDomain_ne (s : State) {p q : Nat} (f : Domain → Domain) (h : q ≠ p) : domain (setDomain s p f) q = domain s q := by
  simp [domain, setDomain, h]

@[simp] theorem portAt_setPort_self (s : State) (p : Nat) (f : Port → Port) : portAt (setPort s p f) p = f (portAt s p) := by
  simp [portAt, setPort]
@[simp] theorem portAt_setPort_ne (s : State) {p q : Nat} (f : Port → Port) (h : q ≠ p) : portAt (setPort s p f) q = portAt s q := by
  simp [portAt, setPort, h]

@[simp] theorem drive_setDrive_self (s : State) (p : Nat) (f : Drive → Drive) : drive (setDrive s p f) p = f (drive s p) := by
  simp [drive, setDrive]
@[simp] theorem drive_setDrive_ne (s : State) {p q : Nat} (f : Drive → Drive) (h : q ≠ p) : drive (setDrive s p f) q = drive s q := by
  simp [drive, setDrive, h]

@[simp] theorem rail_setRail_self (s : State) (p : Nat) (f : Rail → Rail) : rail (setRail s p f) p = f (rail s p) := by
  simp [rail, setRail]
@[simp] theorem rail_setRail_ne (s : State) {p q : Nat} (f : Rail → Rail) (h : q ≠ p) : rail (setRail s p f) q = rail s q := by
  simp [rail, setRail, h]

@[simp] theorem clsPort_setClsPort_self (s : State) (p : Nat) (f : ClsPort → ClsPort) : clsPort (setClsPort s p f) p = f (clsPort s p) := by
  simp [clsPort, setClsPort]
@[simp] theorem clsPort_setClsPort_ne (s : State) {p q : Nat} (f : ClsPort → ClsPort) (h : q ≠ p) : clsPort (setClsPort s p f) q = clsPort s q := by
  simp [clsPort, setClsPort, h]

@[simp] theorem granule_setGranule_self (s : State) (p : Nat) (f : Granule → Granule) : granule (setGranule s p f) p = f (granule s p) := by
  simp [granule, setGranule]
@[simp] theorem granule_setGranule_ne (s : State) {p q : Nat} (f : Granule → Granule) (h : q ≠ p) : granule (setGranule s p f) q = granule s q := by
  simp [granule, setGranule, h]

@[simp] theorem source_setSource_self (s : State) (p : Nat) (f : Source → Source) : source (setSource s p f) p = f (source s p) := by
  simp [source, setSource]
@[simp] theorem source_setSource_ne (s : State) {p q : Nat} (f : Source → Source) (h : q ≠ p) : source (setSource s p f) q = source s q := by
  simp [source, setSource, h]

@[simp] theorem axis_setAxis_self (s : State) (p : Nat) (f : Axis → Axis) : axis (setAxis s p f) p = f (axis s p) := by
  simp [axis, setAxis]
@[simp] theorem axis_setAxis_ne (s : State) {p q : Nat} (f : Axis → Axis) (h : q ≠ p) : axis (setAxis s p f) q = axis s q := by
  simp [axis, setAxis, h]

@[simp] theorem fan_setFan_self (s : State) (p : Nat) (f : Fan → Fan) : fan (setFan s p f) p = f (fan s p) := by
  simp [fan, setFan]
@[simp] theorem fan_setFan_ne (s : State) {p q : Nat} (f : Fan → Fan) (h : q ≠ p) : fan (setFan s p f) q = fan s q := by
  simp [fan, setFan, h]

@[simp] theorem slotAt_setSlot_self (s : State) (p k : Nat) (f : Slot → Slot) : slotAt (setSlot s p k f) p k = f (slotAt s p k) := by
  simp [slotAt, setSlot]
theorem slotAt_setSlot_ne (s : State) {p k q j : Nat} (f : Slot → Slot) (h : q ≠ p ∨ j ≠ k) :
    slotAt (setSlot s p k f) q j = slotAt s q j := by
  by_cases hq : q = p
  · subst hq
    simp [slotAt, setSlot, h.resolve_left (by simp)]
  · simp [slotAt, setSlot, hq]

@[simp] theorem hostFn_setFn_self (s : State) (h n : Nat) (f : HostFn → HostFn) : hostFn (setFn s h n f) h n = f (hostFn s h n) := by
  simp [hostFn, setFn]

/-! ### Counters -/

theorem counterKey_ne {i j n m : Nat} (hn : n < 65536) (hm : m < 65536) (h : i ≠ j ∨ n ≠ m) : counterKey i n ≠ counterKey j m := by
  unfold counterKey
  omega

@[simp] theorem counter_bumpBy_self (s : State) (i n w k : Nat) : counter (bumpBy s i n w k) i n = satAdd w (counter s i n) k := by
  simp [counter, bumpBy]
@[simp] theorem counter_bump_self (s : State) (i n w : Nat) : counter (bump s i n w) i n = satAdd w (counter s i n) 1 := by
  simp [bump]
theorem counter_bumpBy_ne (s : State) {i j n m : Nat} (w k : Nat) (h : counterKey j m ≠ counterKey i n) :
    counter (bumpBy s i n w k) j m = counter s j m := by
  simp [counter, bumpBy, h]
theorem counter_bump_ne (s : State) {i j n m : Nat} (w : Nat) (h : counterKey j m ≠ counterKey i n) :
    counter (bump s i n w) j m = counter s j m := counter_bumpBy_ne s w 1 h
@[simp] theorem counter_clearCounter_self (s : State) (i n : Nat) : counter (clearCounter s i n) i n = 0 := by
  simp [counter, clearCounter]

/-! ### Fences -/

theorem isFenced_fence_self (s : State) (g i : Nat) : isFenced (fence s g i) g i = true := by
  unfold fence
  split
  · assumption
  · split <;> simp [isFenced]

@[simp] theorem isFenced_unfence_self (s : State) (g i : Nat) : isFenced (unfence s g i) g i = false := by
  simp [isFenced, unfence]

end Sys2Proof.Machine
end

