-- ==== Sys2Proof/Laws/Ops.lean ====
section
/-! SUPPORT. What each shared operation can do, said once: events and interrupts, the fault record, fault classification,
outcomes of requests, the common course of the command set, queues, and the convoys of data commands. -/

namespace Sys2Proof.Machine

open Sys2Proof

/-! ### Events and interrupts -/

/-- What posting an event may change: what goes out, host functions, and of each partition its event ring and interrupts. -/
def EventsOnly (s t : State) : Prop :=
  (∃ o q f, t = { s with out := o, parts := q, fns := f }) ∧
  ∀ p, ∃ e r h, part t p = { part s p with events := e, raises := r, holdoffFrom := h }

theorem EventsOnly.refl (s : State) : EventsOnly s s := ⟨⟨_, _, _, rfl⟩, fun _ => ⟨_, _, _, rfl⟩⟩

theorem EventsOnly.trans {s t u : State} (h : EventsOnly s t) (g : EventsOnly t u) : EventsOnly s u := by
  obtain ⟨⟨o, q, f, rfl⟩, hp⟩ := h
  obtain ⟨⟨o', q', f', rfl⟩, gp⟩ := g
  refine ⟨⟨o', q', f', rfl⟩, fun p => ?_⟩
  obtain ⟨e, r, k, h1⟩ := hp p
  obtain ⟨e', r', k', h2⟩ := gp p
  exact ⟨e', r', k', by rw [h2, h1]⟩

/-- An event ring, raises and holdoff set in one partition. -/
theorem EventsOnly.setPart (s : State) (p : Nat) (f : Partition → Partition)
    (hf : ∀ q, ∃ e r h, f q = { q with events := e, raises := r, holdoffFrom := h }) : EventsOnly s (setPart s p f) := by
  refine ⟨⟨_, _, _, rfl⟩, fun q => ?_⟩
  by_cases h : q = p
  · subst h; simpa using hf (part s q)
  · exact ⟨_, _, _, part_setPart_ne s f h⟩

theorem EventsOnly.send (s : State) (o : List Output) : EventsOnly s (send s o) := ⟨⟨_, _, _, rfl⟩, fun _ => ⟨_, _, _, rfl⟩⟩

theorem EventsOnly.setFn (s : State) (h n : Nat) (f : HostFn → HostFn) : EventsOnly s (setFn s h n f) :=
  ⟨⟨_, _, _, rfl⟩, fun _ => ⟨_, _, _, rfl⟩⟩

theorem sendMsix_spec (s : State) (h n : Nat) : EventsOnly s (sendMsix s h n) := by
  unfold sendMsix
  split
  · exact EventsOnly.send ..
  · exact EventsOnly.setFn ..

theorem raiseMsix_spec (s : State) (p : Nat) : EventsOnly s (raiseMsix s p) := by
  unfold raiseMsix
  simp only
  split
  · exact EventsOnly.refl s
  · split
    · exact (EventsOnly.setPart s p _ fun _ => ⟨_, _, _, rfl⟩).trans (sendMsix_spec ..)
    · exact EventsOnly.setPart s p _ fun _ => ⟨_, _, _, rfl⟩

theorem writeEntry_spec (s : State) (p : Nat) (e : Event) : EventsOnly s (writeEntry s p e) := by
  unfold writeEntry
  simp only
  have h := (EventsOnly.send s [.hostWrite (part s p).port (part s p).fn false
    ((part s p).events.base + 32 * (part s p).events.producer)
    (eventBytes (part s p).events.number (part s p).events.phase e)]).trans
    (EventsOnly.setPart _ p (fun q => { q with events := { q.events with
      producer := ((part s p).events.producer + 1) % eventEntries p
      number := ((part s p).events.number + 1) % 4294967296
      phase := if ((part s p).events.producer + 1) % eventEntries p = 0 then !(part s p).events.phase else (part s p).events.phase } })
      fun _ => ⟨_, _, _, rfl⟩)
  split
  · exact h.trans (raiseMsix_spec ..)
  · exact h

theorem drainFuel_spec (f : Nat) (s : State) (p : Nat) : EventsOnly s (drainFuel f s p) := by
  induction f generalizing s with
  | zero => exact EventsOnly.refl s
  | succ f ih =>
    unfold drainFuel
    split
    · simp only
      split
      · split
        · exact EventsOnly.refl s
        · exact ((EventsOnly.setPart s p _ fun _ => ⟨_, _, _, rfl⟩).trans (writeEntry_spec ..)).trans (ih _)
      · exact ((EventsOnly.setPart s p _ fun _ => ⟨_, _, _, rfl⟩).trans (writeEntry_spec ..)).trans (ih _)
    · exact EventsOnly.refl s

theorem drain_spec (s : State) (p : Nat) : EventsOnly s (drain s p) := drainFuel_spec ..

theorem postEvent_spec (s : State) (p : Nat) (e : Event) : EventsOnly s (postEvent s p e) := by
  unfold postEvent
  split
  · exact EventsOnly.refl s
  · exact (EventsOnly.setPart s p _ fun _ => ⟨_, _, _, rfl⟩).trans (drain_spec ..)

theorem raiseAdmin_spec (s : State) (code : Nat) (fault : Bool) (subject detail : Nat) :
    EventsOnly s (raiseAdmin s code fault subject detail) := postEvent_spec ..

theorem raiseOwn_spec (s : State) (p code : Nat) (fault : Bool) (detail : Nat) :
    EventsOnly s (raiseOwn s p code fault detail) := postEvent_spec ..

theorem raiseBoth_spec (s : State) (p code : Nat) (fault : Bool) (detail : Nat) :
    EventsOnly s (raiseBoth s p code fault detail) := by
  unfold raiseBoth
  simp only
  split
  · exact raiseAdmin_spec ..
  · exact (raiseAdmin_spec ..).trans (raiseOwn_spec ..)

/-- No event touches a request slot. -/
theorem EventsOnly.slotAt {s t : State} (h : EventsOnly s t) (p k : Nat) : slotAt t p k = slotAt s p k := by
  obtain ⟨e, r, m, hp⟩ := h.2 p
  simp [Machine.slotAt, hp]

/-- No event touches a counter. -/
theorem EventsOnly.counter {s t : State} (h : EventsOnly s t) (i n : Nat) : counter t i n = counter s i n := by
  obtain ⟨⟨o, q, f, rfl⟩, -⟩ := h
  rfl

/-! ### Events of the management core -/

/-- What an event of the management core may change: what an event changes, the fault record, the events TWT keeps, and the
counts of those that no room was left for. -/
def ReportsOnly (s t : State) : Prop :=
  (∃ o q f r d c e, t = { s with
    out := o, parts := q, fns := f, faults := { s.faults with record := r, dropped := d }, ctr := c, twt := { s.twt with events := e } }) ∧
  (∀ p, ∃ e r h, part t p = { part s p with events := e, raises := r, holdoffFrom := h }) ∧
  ∀ k, k ≠ counterKey 0x0E06 0 → k ≠ counterKey 0x0305 0 → Tbl.get? t.ctr k = Tbl.get? s.ctr k

theorem ReportsOnly.refl (s : State) : ReportsOnly s s :=
  ⟨⟨_, _, _, _, _, _, _, rfl⟩, fun _ => ⟨_, _, _, rfl⟩, fun _ _ _ => rfl⟩

theorem ReportsOnly.trans {s t u : State} (h : ReportsOnly s t) (g : ReportsOnly t u) : ReportsOnly s u := by
  obtain ⟨⟨o, q, f, r, d, c, e, rfl⟩, hp, hc⟩ := h
  obtain ⟨⟨o', q', f', r', d', c', e', rfl⟩, gp, gc⟩ := g
  refine ⟨⟨o', q', f', r', d', c', e', rfl⟩, fun p => ?_, fun k h1 h2 => (gc k h1 h2).trans (hc k h1 h2)⟩
  obtain ⟨x, y, z, h1⟩ := hp p
  obtain ⟨x', y', z', h2⟩ := gp p
  exact ⟨x', y', z', by rw [h2, h1]⟩

theorem EventsOnly.reports {s t : State} (h : EventsOnly s t) : ReportsOnly s t := by
  obtain ⟨⟨o, q, f, rfl⟩, hp⟩ := h
  exact ⟨⟨o, q, f, _, _, _, _, rfl⟩, hp, fun _ _ _ => rfl⟩

theorem twtEvent_spec (s : State) (e : Event) : ReportsOnly s (twtEvent s e) := by
  unfold twtEvent
  split
  · exact ⟨⟨_, _, _, _, _, _, _, rfl⟩, fun _ => ⟨_, _, _, rfl⟩, fun _ _ _ => rfl⟩
  · exact ⟨⟨_, _, _, _, _, _, _, rfl⟩, fun _ => ⟨_, _, _, rfl⟩, fun k h _ => by
      simp [bump, bumpBy, Tbl.modify, h]⟩

theorem raiseAon_spec (s : State) (code : Nat) (fault : Bool) (detail : Nat) : ReportsOnly s (raiseAon s code fault detail) := by
  unfold raiseAon
  split
  · exact (raiseAdmin_spec ..).reports
  · refine (twtEvent_spec s ⟨code, fault, 0, rtcNs s, 0, 0, 0xFF, detail⟩).trans ?_
    simp only
    split
    · exact ⟨⟨_, _, _, _, _, _, _, rfl⟩, fun _ => ⟨_, _, _, rfl⟩, fun _ _ _ => rfl⟩
    · exact ⟨⟨_, _, _, _, _, _, _, rfl⟩, fun _ => ⟨_, _, _, rfl⟩, fun k _ h => by
        simp [bump, bumpBy, Tbl.modify, h]⟩

theorem ReportsOnly.slotAt {s t : State} (h : ReportsOnly s t) (p k : Nat) : slotAt t p k = slotAt s p k := by
  obtain ⟨e, r, m, hp⟩ := h.2.1 p
  simp [Machine.slotAt, hp]

theorem ReportsOnly.counter {s t : State} (h : ReportsOnly s t) {i n : Nat} (h1 : counterKey i n ≠ counterKey 0x0E06 0)
    (h2 : counterKey i n ≠ counterKey 0x0305 0) : counter t i n = counter s i n := by
  simp [Machine.counter, Tbl.getD, h.2.2 _ h1 h2]

/-- Whether a resource is fenced is no matter of an event. -/
theorem ReportsOnly.isFenced {s t : State} (h : ReportsOnly s t) (g i : Nat) : isFenced t g i = isFenced s g i := by
  obtain ⟨⟨o, q, f, r, d, c, e, rfl⟩, -, -⟩ := h
  rfl

/-! ### Fault classification -/

theorem guard_spec (s : State) : ∃ v, EventsOnly { s with faults := { s.faults with status := v } } (guard s) := by
  unfold guard
  split
  · exact ⟨s.faults.status, EventsOnly.refl s⟩
  · next old _ =>
    simp only
    split
    · exact ⟨s.faults.status, EventsOnly.refl s⟩
    · exact ⟨_, raiseAdmin_spec ..⟩

theorem fence_spec (s : State) (g i : Nat) :
    ∃ a b, fence s g i = { s with faults := { s.faults with fenceMap := a, mainFences := b } } := by
  unfold fence
  simp only
  split
  · exact ⟨_, _, rfl⟩
  · split <;> exact ⟨_, _, rfl⟩

/-- A lasting fault fences its resource. -/
theorem isFenced_lastingFault (s : State) (g i : Nat) : isFenced (lastingFault s g i) g i = true := by
  unfold lastingFault
  obtain ⟨v, ⟨o, q, f, h⟩, -⟩ := guard_spec (fence (bump s 0x0301 g 16) g i)
  have hf := isFenced_fence_self (bump s 0x0301 g 16) g i
  rw [h]
  exact hf

/-- A transient fault is counted, and told at the sixteenth. -/
theorem transient_spec (s : State) (g i : Nat) : ∃ a b,
    ReportsOnly { bump s 0x0300 (g * 1024 + i) 16 with faults := { s.faults with transients := a, advised := b } } (transient s g i) := by
  unfold transient
  simp only
  split
  · exact ⟨_, _, ReportsOnly.refl _⟩
  · exact ⟨_, _, raiseAon_spec ..⟩

/-! ### Outcomes -/

theorem countHop_spec (s : State) (st : Status) (hop : Option Nat) : ∃ c x y,
    ReportsOnly { s with ctr := c, faults := { s.faults with transients := x, advised := y } } (countHop s st hop) := by
  unfold countHop
  split
  · next h =>
    obtain ⟨x, y, hr⟩ := transient_spec s 0x0C h
    exact ⟨_, x, y, hr⟩
  · exact ⟨_, _, _, ReportsOnly.refl _⟩

@[simp] theorem slotAt_countHop (s : State) (st : Status) (hop : Option Nat) (p k : Nat) :
    slotAt (countHop s st hop) p k = slotAt s p k := by
  obtain ⟨_, _, _, hr⟩ := countHop_spec s st hop
  exact hr.slotAt p k

/-- What deciding a slot leaves: beside the count and the event of a hop's transient fault where a layer retried there, only its
partition changes, of that only its receipt number, slots, seal order and history, and of the slots only this one. -/
theorem decideWith_spec (s : State) (p k : Nat) (a : Answer) :
    ∃ s', (∃ c x y, ReportsOnly { s with ctr := c, faults := { s.faults with transients := x, advised := y } } s') ∧
    (∃ q, decideWith s p k a = { s' with parts := q }) ∧
    (∀ j, j ≠ p → part (decideWith s p k a) j = part s' j) ∧
    (∃ n sl o h, part (decideWith s p k a) p = { part s' p with receiptNo := n, slots := sl, sealOrder := o, history := h }) ∧
    (∀ q j, q ≠ p ∨ j ≠ k → slotAt (decideWith s p k a) q j = slotAt s q j) ∧
    ((slotAt (decideWith s p k a) p k).phase = .decided ∧ ∃ e, (slotAt (decideWith s p k a) p k).ending = some e ∧
      statusFor a.status e.status ∧ e.result = a.result.take 48) := by
  unfold decideWith
  simp only
  refine ⟨_, countHop_spec .., ⟨_, rfl⟩, fun j h => part_setPart_ne _ _ h, ⟨_, _, _, _, part_setPart_self ..⟩, fun q j h => ?_, ?_⟩
  · rw [← slotAt_countHop s (if (a.status == .ok && ((slotAt s p k).retried || (slotAt s p k).lower)) = true then .recovered
      else a.status) (slotAt s p k).lostHop q j]
    by_cases hp : q = p
    · subst hp
      simp [Machine.slotAt, h.resolve_left (by simp)]
    · simp only [Machine.slotAt, part_setPart_ne _ _ hp]
  · unfold Machine.slotAt
    simp only [part_setPart_self, Tbl.getD_modify_self, Option.some.injEq, exists_eq_left', true_and, and_true]
    unfold statusFor
    cases a.status <;> simp

/-- A slot that runs ends with its answer; one that is decided, delivered or free is left as it was. -/
theorem endSlot_eq (s : State) (p k : Nat) (a : Answer) :
    endSlot s p k a = if (slotAt s p k).phase = .running ∨ (slotAt s p k).phase = .registered ∨ (slotAt s p k).phase = .refusing
      then decideWith s p k a else s := by
  unfold endSlot
  split <;> simp_all

theorem endSlot_running {s : State} {p k : Nat} (a : Answer) (h : (slotAt s p k).phase = .running) :
    endSlot s p k a = decideWith s p k a := by
  rw [endSlot_eq, if_pos (.inl h)]

/-- A running mailbox request that ends has ended. -/
theorem ended_endSlot {s : State} {p k : Fin 32} (a : Answer) (h : (slotAt s p k).phase = .running) :
    Ended (endSlot s p k a) (.mbx p k) a.status a.result := by
  rw [endSlot_running a h]
  obtain ⟨_, -, -, -, -, -, he⟩ := decideWith_spec s p k a
  exact he

/-- TWT's request that ends has ended. -/
theorem ended_twtAnswer {s : State} {f : List Byte} (st : Status) (result : List Byte) (h : s.twt.request = some f) :
    Ended (twtAnswer s st result) .twt st result := by
  unfold twtAnswer
  rw [h]
  refine ⟨rfl, _, rfl, by simp [leBytes], ?_⟩
  rw [List.drop_append_of_le_length (by simp [leBytes]), List.drop_of_length_le (by simp [leBytes]), List.nil_append]

/-- What a request's context says of where it came from. -/
theorem ctxOf_some {s : State} {o : Origin} {c : Ctx} (h : ctxOf s o = some c) :
    match o with
    | .mbx p k => (slotAt s p k).phase = .running ∧ c.p = p ∧ c.k = k ∧ c.twt = false
    | .twt => s.twt.running = true ∧ c.twt = true ∧ ∃ f, s.twt.request = some f := by
  cases o with
  | mbx p k =>
    simp only [ctxOf] at h
    split at h
    · next hp =>
      cases h
      exact ⟨by simpa using hp, rfl, rfl, rfl⟩
    · cases h
  | twt =>
    simp only [ctxOf] at h
    split at h
    · next hp =>
      cases hf : s.twt.request with
      | none => simp [hf] at h
      | some f =>
        simp only [hf, Option.map_some, Option.some.injEq] at h
        exact ⟨hp, h ▸ rfl, f, rfl⟩
    · cases h

/-- A request still running that is finished has ended with its answer. -/
theorem ended_finish {s : State} {o : Origin} {c : Ctx} (a : Answer) (h : ctxOf s o = some c) :
    Ended (finish s c a) o a.status a.result := by
  have hc := ctxOf_some h
  cases o with
  | mbx p k =>
    obtain ⟨h1, h2, h3, h4⟩ := hc
    simp only [finish, h4, h2, h3, Bool.false_eq_true, if_false]
    exact ended_endSlot a h1
  | twt =>
    obtain ⟨-, h4, f, hf⟩ := hc
    simp only [finish, h4, if_true]
    exact ended_twtAnswer _ _ hf

/-! ### Node memory -/

/-- Bytes written to a region: memory keeps its form, only bytes at the region's addresses change, and nothing else of the
state but the tags of the lines written. -/
theorem regionWrite_spec (s : State) (r : Region) (off : Nat) (bs : List Byte) :
    (∃ m g, regionWrite s r off bs = { s with memory := { s.memory with bytes := m, tags := g } }) ∧
    (MemoryCanonical s → MemoryCanonical (regionWrite s r off bs)) ∧
    ∀ a, (∀ i, i < bs.length → a ≠ r.address (off + i)) →
      Mem.read (regionWrite s r off bs).memory.bytes a = Mem.read s.memory.bytes a := by
  refine ⟨⟨_, _, rfl⟩, fun h => ⟨?_, h.2⟩, fun a ha => ?_⟩
  · exact Mem.wf_foldl_write _ (fun i => r.address (off + i)) (fun i => bs.getD i 0) h.1
  · exact Mem.read_foldl_write_outside _ (fun i => r.address (off + i)) (fun i => bs.getD i 0) _ _
      (fun i hi => ha i (List.mem_range.mp hi))

/-- What an operation writes to its destination: host memory gets one write and node memory stays, or a region is written. -/
theorem writeDesc_cases (s : State) (p : Nat) (d : Desc) (bs : List Byte) :
    (d.kind ≠ 2 ∧ writeDesc s p d bs = send s [.hostWrite (part s p).port (part s p).fn (relaxedFor s p) d.loc bs]) ∨
    (d.kind = 2 ∧ regionOf s p (d.loc % 4294967296) = none ∧ writeDesc s p d bs = s) ∨
    ∃ r, d.kind = 2 ∧ regionOf s p (d.loc % 4294967296) = some r ∧ writeDesc s p d bs = regionWrite s r (d.loc / 4294967296) bs := by
  unfold writeDesc
  by_cases h : d.kind = 2
  · simp only [h, beq_self_eq_true, if_true]
    cases hr : regionOf s p (d.loc % 4294967296) with
    | none => exact .inr (.inl ⟨trivial, rfl, rfl⟩)
    | some r => exact .inr (.inr ⟨r, trivial, rfl, rfl⟩)
  · exact .inl ⟨h, by simp [h]⟩

theorem writeDesc_canonical {s : State} (p : Nat) (d : Desc) (bs : List Byte) (h : MemoryCanonical s) :
    MemoryCanonical (writeDesc s p d bs) := by
  rcases writeDesc_cases s p d bs with ⟨-, e⟩ | ⟨-, -, e⟩ | ⟨r, -, -, e⟩ <;> rw [e]
  · exact h
  · exact h
  · exact (regionWrite_spec s r _ bs).2.1 h

/-! ### The common course of a command -/

/-- A ready request gets its effect. -/
theorem runOp_ready {op : Nat} {o : Origin} {s : State} {bop : State → Ctx → Nat} {chk : State → Ctx → Checks} {c : Ctx}
    (eff : State → Ctx → State) (h : Ready op bop chk o s c) : runOp op o s bop chk eff = eff s.fresh_ c := by
  obtain ⟨h1, h2, h3⟩ := h
  have h1' : ctxOf s.fresh_ o = some c := by cases o <;> exact h1
  simp [runOp, h1', h2, h3]

/-- Whatever a command of the command set does: nothing, the effect, or turning the request away. -/
theorem runOp_cases (op : Nat) (o : Origin) (s : State) (bop : State → Ctx → Nat) (chk : State → Ctx → Checks)
    (eff : State → Ctx → State) :
    runOp op o s bop chk eff = s.fresh_ ∨
    ∃ c, ctxOf s o = some c ∧ c.op = op ∧
      ((Ready op bop chk o s c ∧ runOp op o s bop chk eff = eff s.fresh_ c) ∨
        ∃ st ch, runOp op o s bop chk eff = turnBack s.fresh_ c ch st) := by
  have hf : ctxOf s.fresh_ o = ctxOf s o := by cases o <;> rfl
  unfold runOp
  simp only [hf]
  cases h : ctxOf s o with
  | none => exact .inl rfl
  | some c =>
    simp only
    split
    · exact .inl rfl
    · next hop =>
      have hop : c.op = op := by simpa using hop
      refine .inr ⟨c, rfl, hop, ?_⟩
      cases hv : ((commonChecks s.fresh_ c (bop s.fresh_ c)).both (chk s.fresh_ c)).verdict with
      | some st => exact .inr ⟨st, _, rfl⟩
      | none => exact .inl ⟨⟨h, hop, hv⟩, rfl⟩

theorem runOnce_ready {op : Nat} {o : Origin} {s : State} {bop : State → Ctx → Nat} {chk : State → Ctx → Checks} {c : Ctx}
    (eff : State → Ctx → State) (h : Ready op bop chk o s c) (hb : begun s o = false) :
    runOnce op o s bop chk eff = markBegun (eff s.fresh_ c) o := by
  simp [runOnce, hb, runOp_ready _ h]

/-- A request marked as begun goes on. -/
theorem goesOn_markBegun {s : State} {o : Origin} {c : Ctx} (h : ctxOf s o = some c) : GoesOn (markBegun s o) o := by
  have hc := ctxOf_some h
  unfold markBegun
  rw [h]
  cases o with
  | mbx p k => simp [GoesOn, hc.1]
  | twt => simp [GoesOn, hc.1]

/-- No step touches what waits in the queue but by taking its front: the step is exec on the queue's rest. -/
theorem step_cons {s : State} {c : Instr} {rest : List Instr} (h : s.pending = c :: rest) :
    step s = exec c { s with pending := rest } := by
  simp [step, h]

/-! ### Queues, and the convoys of data commands -/

/-- Sending a unit touches the queues alone. -/
theorem takeCredit_spec (s : State) (cls n : Nat) : ∃ q, takeCredit s cls n = { s with queues := q } := ⟨_, rfl⟩

/-- Freeing entries touches the queues alone. -/
theorem freeEntries_spec (s : State) (cls n k : Nat) : ∃ q, freeEntries s cls n k = { s with queues := q } := ⟨_, rfl⟩

/-- A unit that crosses a queue and is read at once touches the queues alone. -/
theorem crossQueue_spec (s : State) (cls n : Nat) : ∃ q, crossQueue s cls n = { s with queues := q } := by
  unfold crossQueue
  split
  · exact ⟨_, rfl⟩
  · exact ⟨s.queues, rfl⟩

/-- A data command waits for the quota and a number, or has its effect, after which it may have turned a number's generation. -/
theorem inConvoy_cases (eff : State → Ctx → State) (s : State) (c : Ctx) :
    inConvoy eff s c = s ∨ inConvoy eff s c = eff s c ∨
      ∃ n, freeNumber s = some n ∧
        inConvoy eff s c = setConvoy (eff s c) n (fun x => { x with generation := !x.generation }) := by
  unfold inConvoy
  split
  · exact .inl rfl
  · split
    · exact .inl rfl
    · rename_i n hn
      dsimp only
      split
      · exact .inr (.inl rfl)
      · exact .inr (.inr ⟨n, hn, rfl⟩)

/-- A data command within its quota, with a number free, has its effect and turns the number's generation once it is over. -/
theorem inConvoy_ends {eff : State → Ctx → State} {s : State} {c : Ctx} {n : Nat} (hq : quotaReached s c.p = false)
    (hn : freeNumber s = some n) (he : (slotAt (eff s c) c.p c.k).phase ≠ .running) :
    inConvoy eff s c = setConvoy (eff s c) n (fun x => { x with generation := !x.generation }) := by
  simp [inConvoy, hq, hn, he]

/-- With no word error on the way a command has its plain effect. -/
@[simp] theorem onWord_none (hit : State → Ctx → Nat → Bool) (eff : State → Ctx → State) : onWord hit none eff = eff := rfl

end Sys2Proof.Machine
end

