-- ==== Sys2Proof/Laws/Memory.lean ====
section
/-! SUPPORT. Every operation on node memory and spill memory keeps their canonical form. -/

namespace Sys2Proof.Machine

open Sys2Proof

theorem copyGranule_canonical {s : State} (g r : Nat) (h : MemoryCanonical s) : MemoryCanonical (copyGranule s g r) :=
  ⟨Mem.wf_foldl_write _ _ _ (Mem.wf_clear _ _ (Mem.wf_clear _ _ h.1)), h.2⟩

theorem storePlace_wf {m : Memory} (pl : Place2) (bs : List Byte) (h : m.bytes.wf = true ∧ m.spill.wf = true) :
    (storePlace m pl bs).bytes.wf = true ∧ (storePlace m pl bs).spill.wf = true := by
  cases pl with
  | node g => exact ⟨Mem.wf_writeBytes _ _ (Mem.wf_clear _ _ h.1), h.2⟩
  | spill g => exact ⟨h.1, Mem.wf_writeBytes _ _ (Mem.wf_clear _ _ h.2)⟩
  | partner n g => exact ⟨h.1, Mem.wf_writeBytes _ _ (Mem.wf_clear _ _ h.2)⟩

theorem storeLayer_wf {m : Memory} (ps : List Place2) (bs : List Byte) (h : m.bytes.wf = true ∧ m.spill.wf = true) :
    (storeLayer m ps bs).bytes.wf = true ∧ (storeLayer m ps bs).spill.wf = true := by
  unfold storeLayer
  generalize List.range ps.length = l
  induction l generalizing m with
  | nil => exact h
  | cons i l ih => exact ih (storePlace_wf _ _ h)

theorem clearSpill_canonical {s : State} (p : Nat) (h : MemoryCanonical s) : MemoryCanonical (clearSpill s p) :=
  ⟨h.1, Mem.wf_foldl_clear _ _ _ h.2⟩

theorem tagLines_canonical {s : State} (a n : Nat) (t : Option Tag) (h : MemoryCanonical s) :
    MemoryCanonical (tagLines s a n t) := h

theorem endSlot_canonical {s : State} (p k : Nat) (a : Answer) (h : MemoryCanonical s) : MemoryCanonical (endSlot s p k a) := by
  rw [endSlot_eq]
  split
  · obtain ⟨s', ⟨_, _, _, ⟨⟨_, _, _, _, _, _, _, hs⟩, -, -⟩⟩, ⟨q, hq⟩, -⟩ := decideWith_spec s p k a
    rw [hq, hs]
    exact h
  · exact h

theorem parcelToMemory_canonical {s : State} (w payload : List Byte) (h : MemoryCanonical s) :
    MemoryCanonical (parcelToMemory s w payload) := by
  have blocked : MemoryCanonical (match slotOfParcel s (field w 4 1 % 32) (field w 12 4) with
      | none => s
      | some k => endSlot s (field w 4 1 % 32) k { status := .integrity }) := by
    split
    · exact h
    · exact endSlot_canonical _ _ _ h
  unfold parcelToMemory
  simp only
  split
  · split
    · split
      · exact blocked
      · exact ⟨Mem.wf_writeBytes _ _ h.1, h.2⟩
    · exact h
  · split
    · split
      · exact blocked
      · exact ⟨h.1, Mem.wf_writeBytes _ _ h.2⟩
    · exact h

theorem reset_canonical : MemoryCanonical State.reset := ⟨rfl, rfl⟩

end Sys2Proof.Machine
end

