-- ==== Sys2Proof/Tests/Slice0.lean ====
section
/-! SUPPORT. Tests of the model's own: what WellFormed refuses, small facts the spec states, and for every obligation with
hypotheses a state and operands that meet them. -/

namespace Sys2Proof.Tests

set_option Elab.async false
set_option linter.unusedVariables false

open Sys2Proof Sys2Proof.Machine

/-! ### Small states -/

/-- Start-up is over and every part of it passed. -/
def started : Boot :=
  { Boot.init 1 0 with
    vaon := true
    phase := .ready
    mainOn := true
    copy := some 0
    sections := [0, 1, 2, 3, 4, 5]
    loaded := [0, 1, 2, 3, 4, 5]
    selfTestDone := true
    classifierLoaded := true
    synfyReady := true
    nodeDoneDriven := true
    nodeDoneHigh := true
    pllA := true
    testLogicReset := false }

/-- Partition 0, active behind function 0 of port 0, its receipt ring of 64 entries. -/
def partZero : Partition :=
  { Partition.absent with
    state := .active
    receiptBase := 0x10000
    receiptSize := 6 }

/-- A node that has started: main domain on, every clock running, host port 0 up. -/
def live : State :=
  { State.reset with
    now := 2000000000
    boot := started
    parts := [(0, partZero)]
    domains := (List.range 19).map (fun d => (d, { Domain.off with clock := true, inReset := false }))
    hosts := [(0, { HostPort.init with perst := false, linkUp := true, ready := true })]
    fns := [(0, { HostFn.init with bme := true, masked := false })]
    vault := { Vault.init with supply := .main, timeSet := true, crystalOk := true, leaf := true } }

/-- A request with tag `k` (R132, R133): opcode, sequence number 7, body. -/
def req (op k : Nat) (body : List Byte) : List Byte :=
  leBytes 2 op ++ leBytes 2 k ++ leBytes 4 7 ++ leBytes 2 body.length ++ leBytes 6 0 ++ body

/-- Slot `k` of partition `p` in a phase, with a request. -/
def withSlot (p k : Nat) (ph : Phase) (r : List Byte) (s : State) : State :=
  setSlot s p k (fun _ => { Slot.empty with phase := ph, request := r, busy := true, at_ := s.now, limitUs := 1000 })

/-- Slot 31 of partition 0 runs a request. -/
def adm (op : Nat) (body : List Byte) (s : State) : State := withSlot 0 31 .running (req op 31 body) s

/-- The request in slot 31 of partition 0. -/
def reqOf (s : State) : Ctx := slotCtx 0 31 (slotAt s 0 31)

/-- A host-memory descriptor (R477). -/
def hostAt (len : Nat) : List Byte := leBytes 8 0x100000 ++ leBytes 4 len ++ [1, 0, 0, 0]

/-- The little-endian bytes of a field. -/
def le (n v : Nat) : List Byte := leBytes n v

/-- A convoy in a state. -/
def withConvoy (n : Nat) (f : Convoy → Convoy) (s : State) : State :=
  { s with convoys := Tbl.set s.convoys n (f (Tbl.getD s.convoys n Convoy.init)).mirrored }

/-- A convoy of slot 31 of partition 0. -/
def ofSlot (st : ConvoyState) (x : Convoy) : Convoy := { x with state := st, owner := some 31, openedAt := 1000000000 }

/-- A region descriptor of region 0 of partition 0 (R477). -/
def regionAt (off len : Nat) : List Byte := leBytes 8 (off * 4294967296) ++ leBytes 4 len ++ [2, 0, 0, 0]

/-- The tamper fuses as blown. -/
def withFuses (n : Nat) (s : State) : State := { s with boot := { s.boot with fuses := n } }

/-- Partition 0 holds region 0, of granule 319. -/
def withRegion (s : State) : State :=
  { s with memory := { s.memory with
    regions := [(0, ⟨[319], false⟩)]
    granules := [(319, { Granule.init with holder := some (.region 0 0) })] } }

/-- Where no slot in use has a response under a wrong tag, no slot has. -/
theorem untagged (s : State) (p : Nat) (h : (part s p).slots.all (fun e => !e.2.mistagged) = true) : Untagged s p := by
  intro k
  have go : ∀ l : Tbl Slot, l.all (fun e => !e.2.mistagged) = true → (Tbl.getD l k Slot.empty).mistagged = false := by
    intro l
    induction l with
    | nil => intro _; rfl
    | cons e t ih =>
      intro hl
      simp only [List.all_cons, Bool.and_eq_true, Bool.not_eq_true'] at hl
      by_cases hk : k = e.1
      · simpa [Tbl.getD, Tbl.get?, hk] using hl.1
      · simpa [Tbl.getD, Tbl.get?, hk] using ih hl.2
  exact go _ h

/-- A model of one layer of one pass, loaded as model 0 of partition 0. -/
def withModel (s : State) : State :=
  { s with memory := { s.memory with models := [(0, ⟨[⟨0, 0, 0, 0, 1, 1000, 0, []⟩], [], [], false, 0, []⟩)] } }

/-- A tile pass of one product, and one with an error of one in its only cell. -/
def goodPass : TilePass := ⟨0, 0, 1, 1, 1, [1], [1], [], [], ⟨[], false, none⟩⟩
def badPass : TilePass := { goodPass with errors := ⟨[⟨0, 0, 0, 1⟩], false, none⟩ }

/-- A parcel whose two CRCs are right (R63). -/
def parcelOf (head payload : List Byte) : List Byte :=
  let h := head ++ leBytes 4 (crc32c payload).toNat ++ [0, 0]
  h ++ leBytes 2 (crc16 h).toNat ++ payload

/-- A queue with an end on either side, granted one credit. -/
def withQueue (cls n : Nat) (s : State) : State :=
  { s with queues := Tbl.set s.queues (queueKey cls n) { Queue.init with granted := true, credit := 1 } }

/-- Partner port 7 in Run, all eight lanes in service; its partner takes every format and every check. -/
def withPort (f : Port → Port) (s : State) : State :=
  { s with ports := [(7, f { Port.init with
    state := .run
    lanes := 0xFF
    capability := some ([1, 0x0F, 0xFF, 0x1F] ++ List.replicate 60 0) })] }

/-- An offload of slot 31 on partner port 7. -/
def offload : Offload := ⟨7, 0, 0, 0, 0, 1, 1, [], false, 0, [], [], [], [], [], [], [], [], [], []⟩
def withOffload (x : Offload) (s : State) : State :=
  withConvoy 255 (ofSlot .opened) { s with tensor := { s.tensor with offloads := [(31, x)] } }

/-- Digest context 1 of partition 0. -/
def withDigest (f : DigestCtx → DigestCtx) (s : State) : State :=
  setPart s 0 (fun q => { q with digests := [(1, f DigestCtx.init)] })

/-- Key slot 0, of partition 0. -/
def withKey (kind usage : Nat) (key : List Byte) (s : State) : State := { s with keys := [(0, ⟨0, kind, usage, key⟩)] }

/-- A drive on link 0 with one namespace of 1,024 blocks of 512 bytes, and an extent of partition 0 on it under key slot 0. -/
def withDrive (s : State) : State := { s with drives := [(0, { Drive.init with ready := true, namespaces := [(1, (512, 1024))] })] }
def withExtent (s : State) : State := { withDrive (withKey 4 0x10 (le 64 1) s) with extents := [(0, ⟨0, 0, 1, 0, 1024, 0⟩)] }

/-- A command in hand at the drive, of slot 31. -/
def withDriveCmd (op : Nat) (reissued : Bool) (s : State) : State :=
  { s with driveCmds := [(31, ⟨0, op, 1, 0, 1, [], s.now, reissued⟩)] }

/-- Sync object 0 of partition 0. -/
def withSync (f : SyncObj → SyncObj) (s : State) : State :=
  { s with memory := { s.memory with sync := [(0, f ⟨0, 0, none, false, []⟩)] } }

/-- The image of a model of one layer with no weights, given the digest its manifest names (R206a). -/
def oneLayer (digest : List Byte) : List Byte :=
  [0x4E, 0x56, 0x4D, 0x46, 1, 0] ++ le 2 1 ++ le 8 0 ++ le 8 160 ++ le 40 0
    ++ le 48 0 ++ digest ++ le 16 0

/-- SHA-256 of no bytes (FIPS 180-4). -/
def emptyDigest : List Byte :=
  [0xE3, 0xB0, 0xC4, 0x42, 0x98, 0xFC, 0x1C, 0x14, 0x9A, 0xFB, 0xF4, 0xC8, 0x99, 0x6F, 0xB9, 0x24,
   0x27, 0xAE, 0x41, 0xE4, 0x64, 0x9B, 0x93, 0x4C, 0xA4, 0x95, 0x99, 0x1B, 0x78, 0x52, 0xB8, 0x55]

/-- Twenty-four main rails of one-stage response; the last carries the tensor setpoint of 800 mV. -/
def mainRails : AonTables :=
  { AonTables.none with
    rails := (List.range 24).map (fun v => ⟨if v = 23 then 800 else 1000, 5, 5, 0, none, true, 0, false⟩)
    setpoints := [800, 850, 900, 950] }

/-- Tables that use everything: 24 rails, a step for each, 12 fans, 16 board sensors, 4 axes. -/
def board : AonTables :=
  { AonTables.none with
    rails := (List.range 24).map (fun v => ⟨1000, 50, 50, 1, some (v, 0), false, 1, true⟩)
    steps := (List.range 24).map (fun v => ⟨v, 1, 0, 10, 0⟩)
    fans := List.replicate 12 ⟨true, 2, 1200, 20, 0⟩
    rows := [⟨0, [50, 50, 50, 50], 1, [40, 40, 40, 40]⟩]
    boardZones := List.replicate 16 3
    boardAddresses := (List.range 16).map (fun i => 0x40 + i)
    axes := List.replicate 4 ⟨true, 1, -100000, 100000, 1000, 1000, 1000, 4096, 49, 169, [], true, 1000, 100, 0, none, false, false, 1000⟩ }

/-- The always-on unit of a board, the sequencer on. -/
def onBoard (s : State) : State :=
  { s with aon := { AlwaysOn.init with tables := board, seq := { Sequencer.init with state := .on } } }

def withFan (f : Fan → Fan) (s : State) : State := { s with aon := { s.aon with fans := [(11, f Fan.init)] } }
def withAxis (f : Axis → Axis) (s : State) : State :=
  { s with aon := { s.aon with axes := [(3, f { Axis.init with lower := -1000, upper := 1000 })] } }
def withSeq (f : Sequencer → Sequencer) (s : State) : State := { s with aon := { s.aon with seq := f s.aon.seq } }
def withRail (f : Rail → Rail) (s : State) : State := { s with aon := { s.aon with rails := [(23, f Rail.init)] } }
def withCal (r : CalRun) (s : State) : State := { s with aon := { s.aon with cal := { s.aon.cal with run := some r } } }

/-- TWT's controller has put a request, and it runs. -/
def withTwt (frame : List Byte) (s : State) : State := { s with twt := { Twt.init with request := some frame, running := true } }

/-- The all-zero AKEK is established; `wrapped` is a key of 32 bytes of 0x11 wrapped under it (SP 800-38F). -/
def withAkek (s : State) : State := { s with vault := { s.vault with akek := some (le 32 0) } }
def wrapped : List Byte :=
  [186, 132, 4, 74, 190, 152, 125, 180, 110, 129, 20, 21, 14, 36, 177, 211, 109, 214, 175, 32,
   206, 91, 37, 155, 51, 145, 130, 52, 19, 117, 104, 232, 76, 44, 80, 70, 140, 178, 110, 164]

/-- Tamper source 3 is armed. -/
def withSource (x : Source) (s : State) : State := { s with vault := { s.vault with sources := [(3, x)] } }

/-- Network port 1 enabled with its link up. -/
def withNet (f : NetPort → NetPort) (s : State) : State :=
  { s with nets := [(1, f { NetPort.init with enabled := true, linkUp := true })] }

/-- A frame of 60 zero bytes. -/
def shortFrame : List Byte := le 60 0
def withFrame (x : RxFrame) (s : State) : State :=
  { s with cls := { s.cls with ports := [(1, { ClsPort.init with frames := [(5, x)], timer := some s.now })] } }
def rxFrame : RxFrame := ⟨15, shortFrame, 0, false, none, false, none⟩

/-- An action that drops, and an entry of table 3 with the longest key. -/
def dropAction : List Byte := dropCounting 0
def withEntry (s : State) : State :=
  { s with cls := { s.cls with shadow := [(3 * 262144, ⟨15, le 64 1, dropAction⟩)] } }

/-- A link parcel whose CRC is right. -/
def linkParcel (head : List Byte) : List Byte :=
  let b := head ++ le (296 - head.length) 0
  b ++ leBytes 4 (crc32c b).toNat

/-- The header of an image whose sections 1 and 2 are empty (R494): `digest` is what it gives as SHA-384 of each. -/
def imageHeader (digest : List Byte) : List Byte :=
  [0x41, 0x47, 0x49, 0x4D, 1, 0] ++ le 26 0 ++ ([1] ++ le 15 0 ++ digest) ++ ([2] ++ le 15 0 ++ digest) ++ le 256 0 ++ le 96 0
    ++ List.replicate 3580 0xFF ++ le 4 0x5AA5C33C

/-- SHA-384 of no bytes (FIPS 180-4). -/
def emptyDigest384 : List Byte :=
  [0x38, 0xB0, 0x60, 0xA7, 0x51, 0xAC, 0x96, 0x38, 0x4C, 0xD9, 0x32, 0x7E, 0xB1, 0xB1, 0xE3, 0x6A,
   0x21, 0xFD, 0xB7, 0x11, 0x14, 0xBE, 0x07, 0x43, 0x4C, 0x0C, 0xC7, 0xBF, 0x63, 0xF6, 0xE1, 0xDA,
   0x27, 0x4E, 0xDE, 0xBF, 0xE7, 0x6F, 0x65, 0xFB, 0xD5, 0x1A, 0xD2, 0xF1, 0x48, 0x98, 0xB9, 0x5B]

/-- Tables an image may carry: a last step and one plan row. -/
def leastTables : AonTables :=
  { AonTables.none with
    steps := [⟨0x1F, 4, 0, 0, 0⟩]
    rows := [⟨-40, [100, 100, 100, 100], 4, []⟩]
    mainOff := [0, 0, 0, 0]
    restartCode := 10 }

def goodCopy : ImageCopy := ⟨imageHeader emptyDigest384, true, [1], [1], leastTables⟩
def badCopy : ImageCopy := ⟨le 4096 0, false, [], [], AonTables.none⟩

/-- Bus 2 with one Read Byte of target 0x50 queued by slot 31. -/
def readByte : TwJob := ⟨.mbx 0 31, 0x50, 3, 0, false, [], 1, 1, 0⟩
def withBus (f : Bus → Bus) (s : State) : State := { s with buses := [(2, f Bus.init)] }

/-- Slot 31 runs model 0, none of its one layer done. -/
def onRun : State :=
  setSlot (adm 0x0110 (le 56 0) (withModel live)) 0 31 (fun x => { x with begun := true, job := [0, 1, 0, 0, 0, 0] })
/-! ### What WellFormed refuses, one ill-formed term for each check -/

theorem wellFormed_refuses :
    [Instr.doorbell 0 0 0 false, .doorbell 0 4097 0 false, .registerWrite ⟨0, 0⟩ 0 [] false, .registerWrite ⟨0, 0⟩ 524287 [0, 0] false,
     .commandStart 0 0 (.twice [] true), .parcelCheck 0 0 (le 289 0), .driveProbe 0 (some ⟨1, [], []⟩),
     .driveReady 0 (some ⟨1, [], []⟩), .imageSelection badCopy ⟨[], true, [], [], leastTables⟩, .imageSelection ⟨[], true, [], [], leastTables⟩ badCopy,
     .classifierLoadComplete [(0x0309, [])], .tamperSample 0 0 [] 0 0, .railWindowScan [] (List.replicate 24 0) (0, 0) 0,
     .railWindowScan (List.replicate 24 0) [] (0, 0) 0, .thermalPlanEvaluation [] (List.replicate 8 0),
     .thermalPlanEvaluation (List.replicate 8 0) [], .receiveRingPost .twt [[]], .syncSignalParcel 0 (le 257 0) none,
     .convoyControlReceived 0 (le 257 0), .linkParcelReceive 0 [] ⟨false, []⟩, .linkParcelReceive 0 (le 300 0) ⟨false, List.replicate 9 0⟩,
     .controlParcelReceive 0 [] ⟨false, []⟩, .controlParcelReceive 0 (le 300 0) ⟨false, List.replicate 9 0⟩,
     .tilePassComplete 0 0 0 { goodPass with a := [] }, .tilePassComplete 0 0 0 { goodPass with b := [] }].all
      (fun i => !i.wf) = true := by decide +kernel

theorem wellFormed_accepts :
    [Instr.doorbell 31 4 31 false, .registerWrite ⟨1, 31⟩ 524284 [1, 2, 3, 4] false, .commandStart 31 31 (.twice (le 128 0) false),
     .driveReady 3 (some ⟨1, le 20 0, []⟩), .imageSelection goodCopy badCopy, .linkParcelReceive 7 (linkParcel []) ⟨false, []⟩,
     .tilePassComplete 255 7 15 goodPass].all (fun i => i.wf) = true := by decide +kernel

/-! ### Published answers: the checks and algorithms the spec names -/

/-- The check values of the three CRCs for the digits 1 to 9. -/
def digits : List Byte := [0x31, 0x32, 0x33, 0x34, 0x35, 0x36, 0x37, 0x38, 0x39]
theorem test_crc32c : crc32c digits = 0xE3069283 := by decide +kernel
theorem test_crc32Ethernet : crc32Ethernet digits = 0xCBF43926 := by decide +kernel
theorem test_crc16 : crc16 digits = 0x29B1 := by decide +kernel
theorem test_crc8 : crc8 digits = 0xF4 := by decide +kernel

/-- FIPS 180-4 and FIPS 202, the digests of "abc" and of nothing: first four bytes. -/
theorem test_digests :
    (sha256 [0x61, 0x62, 0x63]).take 4 = [0xBA, 0x78, 0x16, 0xBF] ∧ (sha384 [0x61, 0x62, 0x63]).take 4 = [0xCB, 0x00, 0x75, 0x3F] ∧
    (sha512 [0x61, 0x62, 0x63]).take 4 = [0xDD, 0xAF, 0x35, 0xA1] ∧ (sha3of256 []).take 4 = [0xA7, 0xFF, 0xC6, 0xF8] := by
  decide +kernel

/-- FIPS 197, appendix C.1. -/
theorem test_aes : aesEnc ((List.range 16).map (BitVec.ofNat 8)) ((List.range 16).map (fun i => BitVec.ofNat 8 (17 * i))) =
    [0x69, 0xC4, 0xE0, 0xD8, 0x6A, 0x7B, 0x04, 0x30, 0xD8, 0xCD, 0xB7, 0x80, 0x70, 0xB4, 0xC5, 0x5A] := by decide +kernel

/-- RFC 4493, example 1: CMAC of the empty message. -/
theorem test_cmac : cmac [0x2B, 0x7E, 0x15, 0x16, 0x28, 0xAE, 0xD2, 0xA6, 0xAB, 0xF7, 0x15, 0x88, 0x09, 0xCF, 0x4F, 0x3C] [] =
    [0xBB, 0x1D, 0x69, 0x29, 0xE9, 0x59, 0x37, 0x28, 0x7F, 0xA3, 0x7D, 0x12, 0x9B, 0x75, 0x67, 0x46] := by decide +kernel

/-- SP 800-186: the base point of P-384 is on the curve. -/
theorem test_basePoint : pointOf (pointBytes (some (baseX, baseY))) = some (baseX, baseY) := by decide +kernel

/-! ### Single commands, their results read off the rules named -/

/-- A condition on the state a command leaves. -/
def after (i : Instr) (s : State) (f : State → Bool) : Bool :=
  match exec i s with
  | .next t => f t
  | _ => false

/-- R112: T_min is 2 × (2 + 0.5 + B_op + 50) µs; class I has B_op = 10 µs (R480). -/
theorem test_leastTimeout : tMin Latency.immediate.budgetNs = 125 := by decide +kernel

/-- R132, R136: a doorbell of slot 31 registers it; one of slot 32 is discarded and counted. -/
theorem test_doorbell_registers : after (.doorbell 0 4 31 false) live (fun t => (slotAt t 0 31).phase == .registered) = true := by
  decide +kernel
theorem test_doorbell_discarded :
    after (.doorbell 0 4 32 false) live (fun t => (part t 0).discards == 1 && (part t 0).slots.isEmpty) = true := by decide +kernel

/-- R476: a body longer than the command's ends BAD_PARAMETER, and no time is set. -/
theorem test_timeSet_tooLong : after (.timeSet (.mbx 0 31)) (adm 0x0602 (le 11 0) live)
    (fun t => (slotAt t 0 31).ending.any (fun e => e.status == .badParameter)) = true := by decide +kernel

/-- R149: a tenant that asks for an administrator's command is refused. -/
theorem test_tenant_refused :
    after (.commandStart 31 31 .good) (withSlot 31 31 .registered (req 0x0602 31 (le 10 0))
        (setPart live 31 (fun q => { q with state := .active })))
      (fun t => (slotAt t 31 31).phase == .refusing && counter t 0x0403 (31 * 256 + 1) == 1) = true := by decide +kernel

/-- R5: a fuse is blown by its number and the complementary code, and stays blown. -/
theorem test_fuseBlow : after (.fuseBlow (.mbx 0 31)) (adm 0x0609 [5, 0xA0] live) (fun t => bit t.boot.fuses 5) = true := by
  decide +kernel

/-- R79: a convoy cancelled at its first attempt by its deadline opens again as attempt 2 with the other generation. -/
theorem test_convoy_rerun :
    after (.convoyResolved 255 []) (withConvoy 255 (fun x => { ofSlot .cancelling x with cause := some .deadline }) live)
      (fun t => (convoy t 255).state == .opened && (convoy t 255).attempt == 2 && (convoy t 255).generation) = true := by decide +kernel

/-- R65: a parcel of another waybill version advances no stream, and is counted. -/
theorem test_parcel_version :
    after (.parcelCheck 23 0 (parcelOf ([2, 1, 0x24, 1, 0, 0] ++ le 2 1 ++ le 16 0) [0xFF])) (withQueue 23 0 live)
      (fun t => t.streams.isEmpty && counter t 0x0200 (23 * 256 + 2) == 1) = true := by decide +kernel

/-- R199: an allocation that names "any" takes the lowest-numbered unit that can supply it. -/
theorem test_region_lowestUnit :
    after (.regionAllocate (.mbx 0 31)) (adm 0x0201 ([0xFF, 0] ++ le 2 36) live)
      (fun t => (Tbl.get? t.memory.regions 0).any (fun r => r.granules.all (fun g => decide (g < 36)))) = true := by decide +kernel

/-- R219: a wait on a counter that has reached its value ends at once. -/
theorem test_syncWait_reached :
    after (.syncWait (.mbx 0 31)) (adm 0x0213 (le 8 0 ++ le 8 1) (withSync (fun x => { x with counter := 1 }) live))
      (fun t => (slotAt t 0 31).phase == .decided) = true := by decide +kernel

/-- R18: a check that needs a byte the body does not have is not made; the length fails first. -/
theorem test_axisTarget_short : after (.axisTarget (.mbx 0 31)) (adm 0x0720 [] live)
    (fun t => (slotAt t 0 31).ending.any (fun e => e.status == .badParameter)) = true := by decide +kernel

/-- R5: with both temperature detectors fused their limits are not configured. -/
theorem test_tamperLimits_fused :
    after (.commandStart 0 31 .good) (withSlot 0 31 .registered (req 0x0606 31 [0, 20]) (withFuses 0x30 live))
      (fun t => (slotAt t 0 31).ending.any (fun e => e.status == .refused)) = true := by decide +kernel

/-- R22: the main and always-on domains fall with the vault supply. -/
theorem test_vaultOff_all : after .vaultOff live (fun t => !t.boot.vaon && !t.boot.mainOn && !vaultOn t) = true := by decide +kernel

/-- R179: an error in a held cell fails the pass; the same pass without it does not. -/
theorem test_cellFailure : cellFailure badPass (heldCells badPass) = some (0, 0) ∧ cellFailure goodPass (heldCells goodPass) = none := by
  decide +kernel

/-- An empty queue idles for one microsecond (the model's own choice, log 6). -/
theorem test_idle : (match step live with | .next t => t.now == live.now + 1000 | _ => false) = true := by decide +kernel

/-! ### Every command answers a next state -/

/-- A command other than PARCEL_CHECK answers a next state in every state: no statement that begins `exec i s = .next t` about
another command is empty. -/
theorem exec_answers (i : Instr) (s : State) (h : ∀ cls n parcel, i ≠ .parcelCheck cls n parcel) : ∃ t, exec i s = .next t := by
  cases i <;> first | exact ⟨_, rfl⟩ | exact absurd rfl (h _ _ _)

theorem witness_frames (s : State) :
    (∃ t, exec (.deviceIdentity (.mbx 0 31)) s = .next t) ∧ (∃ t, exec (.syncWait (.mbx 0 31)) s = .next t) ∧
    (∃ t, exec (.nodeDoneFall) s = .next t) ∧ (∃ t, exec (.scrubRead 8 .clean) s = .next t) :=
  ⟨exec_answers _ s (by simp), exec_answers _ s (by simp), exec_answers _ s (by simp), exec_answers _ s (by simp)⟩

/-- The premises of the frames of commands that may answer at once or that fell with the supplies. -/
theorem witness_frame_premises :
    Untagged live (originPart (.mbx 0 31)) ∧ Untagged live 31 ∧ State.reset.boot.vaon = false ∧
    (∀ p off, barWindow live 0 0 0x3FFF = some (p, off) → Untagged live p) :=
  ⟨untagged _ _ (by decide +kernel), untagged _ _ (by decide +kernel), by decide +kernel, fun p off h => by
    have hw : barWindow live 0 0 0x3FFF = some (0, 0x3FFF) := by decide +kernel
    obtain ⟨rfl, -⟩ := Prod.mk.inj (Option.some.inj (hw.symm.trans h))
    exact untagged _ _ (by decide +kernel)⟩

/-! ### For every obligation with hypotheses, states and operands that meet them, clause by clause -/


/-- The wrapped key unwraps to 32 bytes of 0x11. -/
theorem wrapped_unwraps : kwUnwrap (le 32 0) wrapped = some (List.replicate 32 0x11) := by decide +kernel

theorem unwraps_with (s : State) (w : List Byte) (h : s.vault.akek = some (le 32 0)) (hw : w = wrapped) :
    unwrapKey s w = some (List.replicate 32 0x11) := by
  subst hw
  unfold unwrapKey
  rw [h]
  exact wrapped_unwraps

theorem witness_StepRunsFrontCommand :
    (∃ (s : State) (c : Instr) (rest : List Instr),
      s.pending = c :: rest) ∧
    (∃ (s : State),
      s.pending = []) :=
  ⟨⟨{ live with pending := [.doorbell 31 4 0 false] }, .doorbell 31 4 0 false, [], (by decide +kernel)⟩,
   ⟨live, (by decide +kernel)⟩⟩

theorem witness_QueueIsFirstInFirstOut :
    (∃ (s : State) (t : State) (c : Instr) (rest : List Instr),
      s.pending = c :: rest ∧
      step s = .next t) :=
  ⟨{ live with pending := [.doorbell 31 4 0 false] }, _, .doorbell 31 4 0 false, [], (by decide +kernel), rfl⟩

theorem witness_PartIdentityAndLedgerKept :
    (∃ (n : Nat) (m : Nat) (s : State) (t : State),
      PartIs n m s ∧
      step s = .next t) :=
  ⟨1, 0, live, _, (by unfold PartIs; decide +kernel), rfl⟩

theorem witness_MemoryFormKept :
    (∃ (s : State) (t : State),
      MemoryCanonical s ∧
      step s = .next t) :=
  ⟨live, _, (by unfold MemoryCanonical; decide +kernel), rfl⟩

theorem witness_DoorbellRegistersOrIsDiscarded :
    (∃ (p : Fin 32) (size : Nat) (value : Word32) (poisoned : Bool) (s : State),
      (part s ↑p).state ≠ PartitionState.free ∧
      s.faults.mailboxFenced = false ∧
      doorbellTaken s (↑p) size (BitVec.toNat value) poisoned = true) ∧
    (∃ (p : Fin 32) (size : Nat) (value : Word32) (poisoned : Bool) (s : State),
      (part s ↑p).state ≠ PartitionState.free ∧
      s.faults.mailboxFenced = false ∧
      doorbellTaken s (↑p) size (BitVec.toNat value) poisoned = false) :=
  ⟨⟨0, 4, 31, false, live, (by decide +kernel)⟩,
   ⟨0, 4, 32, false, live, (by decide +kernel)⟩⟩

theorem witness_WindowRegistersHoldWhatTheHostWrites :
    (∃ (h : Fin 2) (fn : Fin 32) (at_ : Fin 524288) (s : State) (p : Nat) (off : Nat) (v : Word32),
      barWindow s ↑h ↑fn ↑at_ = some (p, off) ∧
      s.faults.mailboxFenced = false ∧
      Untagged s p ∧
      off = 32) ∧
    (∃ (h : Fin 2) (fn : Fin 32) (at_ : Fin 524288) (s : State) (p : Nat) (off : Nat) (v : Word32),
      barWindow s ↑h ↑fn ↑at_ = some (p, off) ∧
      s.faults.mailboxFenced = false ∧
      Untagged s p ∧
      off = 72) ∧
    (∃ (h : Fin 2) (fn : Fin 32) (at_ : Fin 524288) (s : State) (p : Nat) (off : Nat) (v : Word64),
      barWindow s ↑h ↑fn ↑at_ = some (p, off) ∧
      s.faults.mailboxFenced = false ∧
      Untagged s p ∧
      off = 64) ∧
    (∃ (h : Fin 2) (fn : Fin 32) (at_ : Fin 524288) (s : State) (p : Nat) (off : Nat) (v : Word64),
      barWindow s ↑h ↑fn ↑at_ = some (p, off) ∧
      s.faults.mailboxFenced = false ∧
      Untagged s p ∧
      off = 12288) ∧
    (∃ (h : Fin 2) (fn : Fin 32) (at_ : Fin 524288) (s : State) (p : Nat) (off : Nat) (v : Word32),
      barWindow s ↑h ↑fn ↑at_ = some (p, off) ∧
      s.faults.mailboxFenced = false ∧
      Untagged s p ∧
      off = 12300) ∧
    (∃ (h : Fin 2) (fn : Fin 32) (at_ : Fin 524288) (s : State) (p : Nat) (off : Nat) (a : Fin 4096) (b : Byte),
      barWindow s ↑h ↑fn ↑at_ = some (p, off) ∧
      s.faults.mailboxFenced = false ∧
      Untagged s p ∧
      off = 4096 + ↑a) ∧
    (∃ (h : Fin 2) (fn : Fin 32) (at_ : Fin 524288) (s : State) (bs : List Byte) (poisoned : Bool),
      barWindow s ↑h ↑fn ↑at_ = none) ∧
    (∃ (h : Fin 2) (fn : Fin 32) (at_ : Fin 524288) (s : State) (n : Nat),
      barWindow s ↑h ↑fn ↑at_ = none ∧
      0 < n) :=
  ⟨⟨0, 0, 0x20, live, 0, 0x20, 0xFFFFFFFF, by decide +kernel, by decide +kernel, untagged _ _ (by decide +kernel), rfl⟩,
   ⟨0, 0, 0x48, live, 0, 0x48, 0xFFFFFFFF, by decide +kernel, by decide +kernel, untagged _ _ (by decide +kernel), rfl⟩,
   ⟨0, 0, 0x40, live, 0, 0x40, 0xFFFFFFFFFFFFFFFF, by decide +kernel, by decide +kernel, untagged _ _ (by decide +kernel), rfl⟩,
   ⟨0, 0, 0x3000, live, 0, 0x3000, 0xFFFFFFFFFFFFFFFF, by decide +kernel, by decide +kernel, untagged _ _ (by decide +kernel), rfl⟩,
   ⟨0, 0, 0x300C, live, 0, 0x300C, 0xFFFFFFFF, by decide +kernel, by decide +kernel, untagged _ _ (by decide +kernel), rfl⟩,
   ⟨0, 0, 0x1FFF, live, 0, 0x1FFF, 4095, 0xFF, by decide +kernel, by decide +kernel, untagged _ _ (by decide +kernel), by decide +kernel⟩,
   ⟨1, 0, 0, live, [1], false, by decide +kernel⟩,
   ⟨0, 0, 0x4000, live, 1, by decide +kernel, by decide +kernel⟩⟩

theorem witness_RingIndicesAndControlAreWritten :
    (∃ (p : Fin 32) (s : State) (v : Word32),
      s.faults.mailboxFenced = false ∧
      Untagged s ↑p ∧
      ((part s ↑p).state = PartitionState.active ∨ (part s ↑p).state = PartitionState.quiesced)) ∧
    (∃ (p : Fin 32) (s : State),
      s.faults.mailboxFenced = false ∧
      (part s ↑p).state = PartitionState.quiesced ∧
      (receiptEntries (part s ↑p)).isSome = true ∧
      hostOut s (part s ↑p).port = false ∧
      Untagged s ↑p) ∧
    (∃ (p : Fin 32) (s : State),
      s.faults.mailboxFenced = false ∧
      (part s ↑p).state ≠ PartitionState.quiesced) :=
  ⟨⟨0, live, 0xFFFFFFFF, by decide +kernel, untagged _ _ (by decide +kernel), by decide +kernel⟩,
   ⟨0, { live with parts := [(0, { partZero with state := .quiesced })] }, by decide +kernel, by decide +kernel, by decide +kernel, by decide +kernel, untagged _ _ (by decide +kernel)⟩,
   ⟨0, live, (by decide +kernel)⟩⟩

theorem witness_CompletionDeliversReceiptAndResponse :
    (∃ (p : Fin 32) (k : Fin 32) (s : State) (n : Nat) (e : Ending),
      (part s ↑p).state = PartitionState.active ∧
      s.faults.mailboxFenced = false ∧
      receiptEntries (part s ↑p) = some n ∧
      receiptFree (part s ↑p) = true ∧
      Untagged s ↑p ∧
      (slotAt s ↑p ↑k).phase = Phase.decided ∧
      (slotAt s ↑p ↑k).ending = some e ∧
      (part s ↑p).sealOrder.head? = some ↑k) ∧
    (∃ (p : Fin 32) (k : Fin 32) (s : State) (n : Nat),
      (part s ↑p).state = PartitionState.active ∧
      s.faults.mailboxFenced = false ∧
      receiptEntries (part s ↑p) = some n ∧
      receiptFree (part s ↑p) = true ∧
      Untagged s ↑p ∧
      (slotAt s ↑p ↑k).phase = Phase.refusing ∧
      (slotAt s ↑p ↑k).refusal ≠ returnedRefusal ∧
      (part s ↑p).sealOrder = []) :=
  ⟨⟨0, 31, setPart (setSlot live 0 31 (fun x => { x with phase := .decided, ending := some ⟨.ok, [], List.replicate 96 0, false, false⟩ })) 0 (fun q => { q with sealOrder := [31] }), 64, ⟨.ok, [], List.replicate 96 0, false, false⟩, by decide +kernel, by decide +kernel, by decide +kernel, by decide +kernel, untagged _ _ (by decide +kernel), by decide +kernel⟩,
   ⟨0, 31, setSlot live 0 31 (fun x => { x with phase := .refusing, refusal := 1 }), 64, by decide +kernel, by decide +kernel, by decide +kernel, by decide +kernel, untagged _ _ (by decide +kernel), by decide +kernel⟩⟩

theorem witness_TimeoutsAndCancelsDecide :
    (∃ (p : Fin 32) (k : Fin 32) (s : State),
      (slotAt s ↑p ↑k).phase = Phase.running ∧
      ((slotAt s ↑p ↑k).inRepair = false ∨ (slotAt s ↑p ↑k).extended = true) ∧
      (slotAt s ↑p ↑k).limitUs ≠ 0) ∧
    (∃ (p : Fin 32) (k : Fin 32) (s : State),
      (slotAt s ↑p ↑k).phase = Phase.running ∧
      (slotAt s ↑p ↑k).inRepair = true ∧
      (slotAt s ↑p ↑k).extended = false) ∧
    (∃ (o : Origin) (s : State) (c : Ctx) (sl : Slot),
      Ready 8 (fixed Latency.immediate) cancelChecks o s c ∧
      sl = slotAt s c.p (c.u 0 1)) :=
  ⟨⟨0, 31, adm 0x0901 (le 4 0) live, (by decide +kernel)⟩,
   ⟨0, 31, setSlot (adm 0x0901 (le 4 0) live) 0 31 (fun x => { x with inRepair := true }), (by decide +kernel)⟩,
   ⟨.mbx 0 31, adm 0x0008 (le 4 30 ++ le 4 7) (withSlot 0 30 .running (req 0x0213 30 (le 16 0)) live), reqOf (adm 0x0008 (le 4 30 ++ le 4 7) (withSlot 0 30 .running (req 0x0213 30 (le 16 0)) live)), slotAt (adm 0x0008 (le 4 30 ++ le 4 7) (withSlot 0 30 .running (req 0x0213 30 (le 16 0)) live)) 0 30, (by unfold Ready; decide +kernel)⟩⟩

theorem witness_MsixVectorsAreSent :
    (∃ (h : Fin 2) (fn : Fin 32) (s : State),
      (hostFn s ↑h ↑fn).pendingBit = true ∧
      fnCanSend s ↑h ↑fn = true) ∧
    (∃ (h : Fin 2) (fn : Fin 32) (s : State),
      (hostFn s ↑h ↑fn).pendingBit = false) ∧
    (∃ (p : Fin 32) (s : State) (from_ : Nat),
      (part s ↑p).holdoffFrom = some from_) :=
  ⟨⟨0, 0, { live with fns := [(0, { HostFn.init with bme := true, pendingBit := true })] }, (by decide +kernel)⟩,
   ⟨1, 31, live, (by decide +kernel)⟩,
   ⟨0, { live with parts := [(0, { partZero with holdoffFrom := some 1999999000, raises := 1 })] }, 1999999000, (by decide +kernel)⟩⟩

theorem witness_CommandStartChecksAndLooksUp :
    (∃ (p : Fin 32) (k : Fin 32) (s : State) (c : Ctx),
      (slotAt s ↑p ↑k).phase = Phase.registered ∧
      c = slotCtx (↑p) (↑k) (slotAt s ↑p ↑k) ∧
      (startChecks s.fresh_ c).verdict = none ∧
      s.boot.synfyReady = true ∧
      ((part s ↑p).history.place c.seq = Place.new ∨ (part s ↑p).history.place c.seq = Place.unseen) ∧
      Untagged s ↑p) ∧
    (∃ (p : Fin 32) (k : Fin 32) (s : State) (c : Ctx) (st : Status),
      (slotAt s ↑p ↑k).phase = Phase.registered ∧
      c = slotCtx (↑p) (↑k) (slotAt s ↑p ↑k) ∧
      (startChecks s.fresh_ c).verdict = some st ∧
      st ≠ Status.refused) ∧
    (∃ (p : Fin 32) (k : Fin 32) (s : State) (c : Ctx),
      (slotAt s ↑p ↑k).phase = Phase.registered ∧
      c = slotCtx (↑p) (↑k) (slotAt s ↑p ↑k) ∧
      (startChecks s.fresh_ c).verdict = none ∧
      s.boot.synfyReady = true ∧
      (slotAt s ↑p ↑k).inHistory = false ∧
      (part s ↑p).history.place c.seq = Place.inFlight) ∧
    (∃ (p : Fin 32) (k : Fin 32) (s : State) (c : Ctx),
      (slotAt s ↑p ↑k).phase = Phase.registered ∧
      c = slotCtx (↑p) (↑k) (slotAt s ↑p ↑k) ∧
      (startChecks s.fresh_ c).verdict = none ∧
      s.boot.synfyReady = true ∧
      (slotAt s ↑p ↑k).inHistory = false ∧
      (part s ↑p).history.place c.seq = Place.behind) ∧
    (∃ (p : Fin 32) (k : Fin 32) (s : State) (c : Ctx) (digest : List Byte) (st : Status) (result : List Byte) (receipt : List Byte),
      (slotAt s ↑p ↑k).phase = Phase.registered ∧
      c = slotCtx (↑p) (↑k) (slotAt s ↑p ↑k) ∧
      (startChecks s.fresh_ c).verdict = none ∧
      s.boot.synfyReady = true ∧
      (part s ↑p).history.place c.seq = Place.completed digest st result receipt ∧
      st ≠ Status.refused) ∧
    (∃ (p : Fin 32) (k : Fin 32) (s : State) (c : Ctx) (bytes : List Byte),
      (slotAt s ↑p ↑k).phase = Phase.registered ∧
      c = slotCtx (↑p) (↑k) (slotAt s ↑p ↑k)) :=
  ⟨⟨0, 31, withSlot 0 31 .registered (req 0x0001 31 []) live, reqOf (withSlot 0 31 .registered (req 0x0001 31 []) live), by decide +kernel, by decide +kernel, by decide +kernel, by decide +kernel, by decide +kernel, untagged _ _ (by decide +kernel)⟩,
   ⟨0, 31, withSlot 0 31 .registered (req 0x0001 30 []) live, reqOf (withSlot 0 31 .registered (req 0x0001 30 []) live), .badParameter, (by decide +kernel)⟩,
   ⟨0, 31, setPart (withSlot 0 31 .registered (req 0x0001 31 []) live) 0 (fun q => { q with history := ⟨some 7, [(7, .inFlight)]⟩ }), reqOf (setPart (withSlot 0 31 .registered (req 0x0001 31 []) live) 0 (fun q => { q with history := ⟨some 7, [(7, .inFlight)]⟩ })), (by decide +kernel)⟩,
   ⟨0, 31, setPart (withSlot 0 31 .registered (req 0x0001 31 []) live) 0 (fun q => { q with history := ⟨some 4103, []⟩ }), reqOf (setPart (withSlot 0 31 .registered (req 0x0001 31 []) live) 0 (fun q => { q with history := ⟨some 4103, []⟩ })), (by decide +kernel)⟩,
   ⟨0, 31, setPart (withSlot 0 31 .registered (req 0x0001 31 []) live) 0 (fun q => { q with history := ⟨some 7, [(7, .completed [] .ok [] [])]⟩ }), reqOf (setPart (withSlot 0 31 .registered (req 0x0001 31 []) live) 0 (fun q => { q with history := ⟨some 7, [(7, .completed [] .ok [] [])]⟩ })), [], .ok, [], [], (by decide +kernel)⟩,
   ⟨0, 31, withSlot 0 31 .registered (req 0x0001 31 []) live, reqOf (withSlot 0 31 .registered (req 0x0001 31 []) live), le 128 0, (by decide +kernel)⟩⟩

theorem witness_PartitionSettingsTakeEffect :
    (∃ (o : Origin) (s : State) (c : Ctx),
      Ready 5 (fixed Latency.immediate) grantMaskSetChecks o s c) ∧
    (∃ (o : Origin) (s : State) (c : Ctx),
      Ready 6 (fixed Latency.immediate) deadlineChecks o s c) ∧
    (∃ (o : Origin) (s : State) (c : Ctx),
      Ready 7 (fixed Latency.immediate) loadingModeSetChecks o s c) ∧
    (∃ (o : Origin) (s : State) (c : Ctx),
      Ready 288 (fixed Latency.immediate) clusterMaskSetChecks o s c) ∧
    (∃ (o : Origin) (s : State) (c : Ctx),
      Ready 4 (fixed Latency.control) quotaSetChecks o s c) :=
  ⟨⟨.mbx 0 31, adm 5 (le 2 0 ++ le 2 0x7FF) live, reqOf (adm 5 (le 2 0 ++ le 2 0x7FF) live), (by unfold Ready; decide +kernel)⟩,
   ⟨.mbx 0 31, adm 6 [0x21, 100] live, reqOf (adm 6 [0x21, 100] live), (by unfold Ready; decide +kernel)⟩,
   ⟨.mbx 0 31, adm 7 [0, 1] live, reqOf (adm 7 [0, 1] live), (by unfold Ready; decide +kernel)⟩,
   ⟨.mbx 0 31, adm 288 [0, 0xFF] live, reqOf (adm 288 [0, 0xFF] live), (by unfold Ready; decide +kernel)⟩,
   ⟨.mbx 0 31, adm 4 ([0, 13, 0, 0] ++ le 4 192) live, reqOf (adm 4 ([0, 13, 0, 0] ++ le 4 192) live), (by unfold Ready; decide +kernel)⟩⟩

theorem witness_IdentityAndStatusAreReported :
    (∃ (o : Origin) (s : State) (c : Ctx),
      Ready 1 (fixed Latency.immediate) noChecks o s c) ∧
    (∃ (o : Origin) (s : State) (c : Ctx),
      Ready 1545 (fixed Latency.management) fuseBlowChecks o s c) :=
  ⟨⟨.mbx 0 31, adm 1 [] live, reqOf (adm 1 [] live), (by unfold Ready; decide +kernel)⟩,
   ⟨.mbx 0 31, adm 1545 [5, 0xA0] live, reqOf (adm 1545 [5, 0xA0] live), (by unfold Ready; decide +kernel)⟩⟩

theorem witness_PartitionsComeAndGo :
    (∃ (o : Origin) (s : State) (c : Ctx) (key : List Byte),
      Ready 2 (fixed Latency.control) createChecks o s c ∧
      unwrapKey s (slice c.body 36 40) = some key) ∧
    (∃ (o : Origin) (s : State) (c : Ctx),
      Ready 3 teardownBudget teardownChecks o s c ∧
      begun s o = false ∧
      (part s (c.u 0 1)).slots = [] ∧
      partitionGranules s (c.u 0 1) = [] ∧
      clearingFor s (c.u 0 1) = [] ∧
      (s.memory.sync.keysWhere fun x x_1 => x_1.owner == c.u 0 1) = []) ∧
    (∃ (p : Fin 32) (s : State) (d : Teardown),
      (part s ↑p).teardown = some d) ∧
    (∃ (g : Fin 320) (s : State),
      (granule s ↑g).clearing = true ∧
      (granule s ↑g).retiring = none ∧
      (∀ e ∈ s.parts, ∀ (d : Teardown), e.2.state = PartitionState.tearing → e.2.teardown = some d → d.released = true)) :=
  ⟨⟨.mbx 0 31, adm 2 ([31, 1, 0, 0] ++ le 2 0x7FF ++ [1, 100, 192, 144] ++ le 2 4096 ++ le 2 8192 ++ le 2 4096 ++ le 16 0 ++ le 4 32 ++ wrapped) (withAkek { live with fns := [(0, { HostFn.init with bme := true, masked := false }), (32, { HostFn.init with bme := true })] }), reqOf (adm 2 ([31, 1, 0, 0] ++ le 2 0x7FF ++ [1, 100, 192, 144] ++ le 2 4096 ++ le 2 8192 ++ le 2 4096 ++ le 16 0 ++ le 4 32 ++ wrapped) (withAkek { live with fns := [(0, { HostFn.init with bme := true, masked := false }), (32, { HostFn.init with bme := true })] })), List.replicate 32 0x11, (by unfold Ready; decide +kernel), unwraps_with _ _ (by decide +kernel) (by decide +kernel)⟩,
   ⟨.mbx 0 31, adm 3 [31] (setPart live 31 (fun q => { q with state := .active, port := 1 })), reqOf (adm 3 [31] (setPart live 31 (fun q => { q with state := .active, port := 1 }))), (by unfold Ready; decide +kernel)⟩,
   ⟨31, setPart live 31 (fun q => { q with state := .tearing, teardown := some ⟨0, 0, true, 0, 0, 0, 0, false, false⟩ }), ⟨0, 0, true, 0, 0, 0, 0, false, false⟩, (by decide +kernel)⟩,
   ⟨319, { live with memory := { Memory.init with granules := [(319, { Granule.init with clearing := true })] } }, (by decide +kernel), (by decide +kernel), (by intro e he d ht; obtain rfl := List.mem_singleton.mp he; exact absurd ht (by decide))⟩⟩

theorem witness_ConvoysOpenSealAndConfirm :
    (∃ (n : Fin 256) (p : Fin 32) (k : Fin 32) (s : State),
      ↑n < 192 ∧
      needsConvoy s ↑p ↑k = true ∧
      convoysOpen s ↑p < (part s ↑p).quotas.convoys ∧
      (convoy s ↑n).state = ConvoyState.free ∧
      s.tensor.offloads.get? (↑p * 32 + ↑k) = none ∧
      runHurt s (↑p * 32 + ↑k) = false ∧
      (∀ (l : Layer), runLayer s (↑p * 32 + ↑k) = some l → layerReads (↑p * 32 + ↑k) (runCtx s (↑p * 32 + ↑k)).seq l = []) ∧
      (∀ w ∈ s.memory.sweeps, w.convoy = ↑n → w.generation = (convoy s ↑n).generation)) ∧
    (∃ (n : Fin 256) (s : State),
      (convoy s ↑n).state = ConvoyState.opened ∧
      (∀ (o : Nat), runOf s ↑n = some o → (convoy s ↑n).reads = [] ∧ ∃ l, runLayer s o = some l ∧ (jobAt s o 6 + (convoy s ↑n).members = l.passes ∨ (convoy s ↑n).full = true))) ∧
    (∃ (n : Fin 256) (s : State),
      confirmable (convoy s ↑n) = true ∧
      ownerTorn s ↑n = false ∧
      outputWaits s ↑n = false ∧
      runLost s ↑n = false) :=
  ⟨⟨191, 0, 31, onRun, by decide +kernel, by decide +kernel, by decide +kernel, by decide +kernel, by decide +kernel, by decide +kernel, (by intro l h; have hl : runLayer onRun 31 = some ⟨0, 0, 0, 0, 1, 1000, 0, []⟩ := (by decide +kernel); obtain rfl := Option.some.inj (hl.symm.trans h); rfl), by decide +kernel⟩,
   ⟨255, withConvoy 255 (fun x => { ofSlot .opened x with members := 1 }) onRun, (by decide +kernel), (by intro o h; have hn : runOf (withConvoy 255 (fun x => { ofSlot .opened x with members := 1 }) onRun) 255 = some 31 := (by decide +kernel); obtain rfl : 31 = o := Option.some.inj (hn.symm.trans h); exact ⟨by decide +kernel, ⟨0, 0, 0, 0, 1, 1000, 0, []⟩, by decide +kernel⟩)⟩,
   ⟨255, withConvoy 255 (ofSlot .sealed) live, (by decide +kernel)⟩⟩

theorem witness_ConvoysAreCancelledAndRerunOnce :
    (∃ (n : Fin 256) (cause : CancelCause) (group : Fin 23) (index : Fin 1024) (s : State),
      ((convoy s ↑n).state = ConvoyState.opened ∨ (convoy s ↑n).state = ConvoyState.sealed)) ∧
    (∃ (n : Fin 256) (s : State) (d : Nat),
      (convoy s ↑n).state = ConvoyState.sealed ∧
      (convoy s ↑n).deadlineAt = some d) ∧
    (∃ (n : Fin 256) (hostData : List Byte) (s : State) (o : Nat) (cause : CancelCause),
      (convoy s ↑n).acksOwed = [] ∧
      (convoy s ↑n).owner = some o ∧
      (convoy s ↑n).state = ConvoyState.cancelling ∧
      (convoy s ↑n).cause = some cause ∧
      allowsRerun cause = true ∧
      (convoy s ↑n).attempt < 2 ∧
      s.tensor.offloads.get? o = none ∧
      rerunBarred s (convoy s ↑n) = none ∧
      (∀ w ∈ s.memory.sweeps, w.convoy = ↑n → w.generation = (convoy s ↑n).generation)) ∧
    (∃ (n : Fin 256) (hostData : List Byte) (s : State) (o : Nat) (cause : CancelCause),
      (convoy s ↑n).acksOwed = [] ∧
      (convoy s ↑n).owner = some o ∧
      (convoy s ↑n).state = ConvoyState.confirmed ∧
      (convoy s ↑n).signals = [] ∧
      parcelsWait s (↑n) (convoy s ↑n).generation = false ∧
      runOf s ↑n = none ∧
      (slotAt s (o / 32) (o % 32)).phase = Phase.running) :=
  ⟨⟨255, .deadline, 22, 1023, withConvoy 255 (ofSlot .opened) live, (by decide +kernel)⟩,
   ⟨255, withConvoy 255 (fun x => { ofSlot .sealed x with deadlineAt := some 2000020000 }) live, 2000020000, (by decide +kernel)⟩,
   ⟨255, [], withConvoy 255 (fun x => { ofSlot .cancelling x with cause := some .deadline }) live, 31, .deadline, (by decide +kernel)⟩,
   ⟨255, [], withConvoy 255 (ofSlot .confirmed) (adm 0x0203 (hostAt 1 ++ hostAt 1) live), 31, .deadline, (by decide +kernel)⟩⟩

theorem witness_QueuesKeepCreditAndStreams :
    (∃ (cls : Fin 24) (n : Fin 16) (parcel : List Byte) (s : State) (w : List Byte),
      ↑n < classInstances.getD (↑cls) 0 ∧
      (queueAt s ↑cls ↑n).granted = true ∧
      (queueAt s ↑cls ↑n).credit ≠ 0 ∧
      (queueAt s ↑cls ↑n).fenced = false ∧
      endUp s (producerDomain ↑cls ↑n) = true ∧
      endUp s (consumerDomain ↑cls ↑n) = true ∧
      w = slice parcel 0 32 ∧
      failedCondition s (↑cls) (↑n) w (List.drop 32 parcel) = none) ∧
    (∃ (cls : Fin 24) (n : Fin 16) (parcel : List Byte) (s : State) (w : List Byte) (cond : Nat) (m : Nat),
      ↑n < classInstances.getD (↑cls) 0 ∧
      (queueAt s ↑cls ↑n).granted = true ∧
      (queueAt s ↑cls ↑n).credit ≠ 0 ∧
      (queueAt s ↑cls ↑n).fenced = false ∧
      endUp s (producerDomain ↑cls ↑n) = true ∧
      endUp s (consumerDomain ↑cls ↑n) = true ∧
      w = slice parcel 0 32 ∧
      failedCondition s (↑cls) (↑n) w (List.drop 32 parcel) = some cond ∧
      parcelConvoy s w = some m) ∧
    (∃ (cls : Fin 24) (n : Fin 16) (parcel : List Byte) (s : State),
      classInstances.getD (↑cls) 0 ≤ ↑n) ∧
    (∃ (cls : Fin 24) (n : Fin 16) (cycles : Nat) (s : State),
      ↑n < classInstances.getD (↑cls) 0 ∧
      producerStalled s ↑cls ↑n = true) ∧
    (∃ (d : Fin 19) (s : State),
      (domain s ↑d).inReset = true ∧
      (domain s ↑d).restarting = false ∧
      (domain s ↑d).clock = true ∧
      (domain s ↑d).fenced = false) :=
  ⟨⟨23, 0, parcelOf ([1, 1, 0x24, 1, 0, 0] ++ le 2 1 ++ le 16 0) [0xFF], withQueue 23 0 live, slice (parcelOf ([1, 1, 0x24, 1, 0, 0] ++ le 2 1 ++ le 16 0) [0xFF]) 0 32, (by decide +kernel)⟩,
   ⟨23, 0, parcelOf ([1, 1, 0x24, 3, 0, 255] ++ le 2 1 ++ le 16 1) [0xFF], withQueue 23 0 (withConvoy 255 (ofSlot .opened) live), slice (parcelOf ([1, 1, 0x24, 3, 0, 255] ++ le 2 1 ++ le 16 1) [0xFF]) 0 32, 7, 255, (by decide +kernel)⟩,
   ⟨23, 1, [], live, (by decide +kernel)⟩,
   ⟨23, 0, 1, live, (by decide +kernel)⟩,
   ⟨18, { live with domains := [(18, { Domain.off with clock := true })] }, (by decide +kernel)⟩⟩

theorem witness_RunsAndOffloadsStart :
    (∃ (o : Origin) (input : List Byte) (s : State) (c : Ctx) (m : Model),
      Ready 272 modelRunBudget modelRunChecks o s c ∧
      begun s o = false ∧
      modelOf s c.p (c.u 0 2) = some m ∧
      m.damaged = 0 ∧
      modelPoisoned s m = false ∧
      (List.all s.memory.models fun e => e.2.damaged == 0) = true ∧
      tensorFenced s = false ∧
      spillFenced s = false ∧
      descReadMeets s c.p (c.desc 8) = none ∧
      descWriteMeets s c.p (c.desc 24) = none) ∧
    (∃ (o : Origin) (hostData : List Byte) (s : State) (c : Ctx),
      Ready 273 offloadBudget offloadChecks o s c ∧
      begun s o = false ∧
      descReadMeets s c.p (c.desc 16) = none ∧
      descWriteMeets s c.p (c.desc 32) = none) ∧
    (∃ (n : Fin 256) (cluster : Fin 8) (tile : Fin 16) (pass : TilePass) (s : State) (o : Nat) (m : Model) (l : Layer),
      runOf s ↑n = some o ∧
      runModel s o = some m ∧
      runLayer s o = some l ∧
      (convoy s ↑n).state = ConvoyState.opened ∧
      (convoy s ↑n).members < l.passes ∧
      passAdmitted s (convoy s ↑n) m l (↑cluster) (tileOf s ↑cluster ↑tile) pass = true ∧
      runRetiring s o = false ∧
      runHurt s o = false) ∧
    (∃ (o : Origin) (s : State) (c : Ctx),
      Ready 290 (fixed Latency.immediate) partnerCheckingSetChecks o s c) :=
  ⟨⟨.mbx 0 31, [], adm 0x0110 (le 2 0 ++ le 2 0 ++ le 4 1 ++ hostAt 1 ++ hostAt 1 ++ le 16 0) (withModel live), reqOf (adm 0x0110 (le 2 0 ++ le 2 0 ++ le 4 1 ++ hostAt 1 ++ hostAt 1 ++ le 16 0) (withModel live)), ⟨[⟨0, 0, 0, 0, 1, 1000, 0, []⟩], [], [], false, 0, []⟩, (by unfold Ready; decide +kernel)⟩,
   ⟨.mbx 0 31, [], adm 0x0111 ([7, 0, 0, 0] ++ le 4 1 ++ le 8 1 ++ hostAt (blockBytes 0 1) ++ hostAt 262144) (withPort id live), reqOf (adm 0x0111 ([7, 0, 0, 0] ++ le 4 1 ++ le 8 1 ++ hostAt (blockBytes 0 1) ++ hostAt 262144) (withPort id live)), (by unfold Ready; decide +kernel)⟩,
   ⟨255, 7, 15, goodPass, withConvoy 255 (ofSlot .opened) onRun, 31, ⟨[⟨0, 0, 0, 0, 1, 1000, 0, []⟩], [], [], false, 0, []⟩, ⟨0, 0, 0, 0, 1, 1000, 0, []⟩, (by decide +kernel)⟩,
   ⟨.mbx 0 31, adm 290 ([7, 1] ++ le 2 1024) live, reqOf (adm 290 ([7, 1] ++ le 2 1024) live), (by unfold Ready; decide +kernel)⟩⟩

theorem witness_ResultsAreChecked :
    (∃ (cluster : Fin 8) (s : State) (x : PendingPass),
      List.find? (fun x => x.cluster == ↑cluster) s.tensor.passes = some x ∧
      ((convoy s x.convoy).state = ConvoyState.opened ∨ (convoy s x.convoy).state = ConvoyState.sealed) ∧
      (convoy s x.convoy).generation = x.generation ∧
      cellFailure x.pass x.cells = none ∧
      x.pass.errors.readoutDiffers = false ∧
      x.pass.errors.lane = none) ∧
    (∃ (cluster : Fin 8) (s : State) (x : PendingPass) (f : Nat × Nat),
      List.find? (fun x => x.cluster == ↑cluster) s.tensor.passes = some x ∧
      ((convoy s x.convoy).state = ConvoyState.opened ∨ (convoy s x.convoy).state = ConvoyState.sealed) ∧
      (convoy s x.convoy).generation = x.generation ∧
      cellFailure x.pass x.cells = some f) ∧
    (∃ (n : Fin 8) (s : State) (o : Nat) (x : Offload) (m : Nat),
      (checkable s ↑n fun x => !x.ready.isEmpty) = some (o, x) ∧
      offloadConvoy s o = some m) ∧
    (∃ (n : Fin 8) (cluster : Fin 8) (tile : Fin 17) (s : State) (o : Nat) (x : Offload) (m : Nat) (b : Nat),
      (checkable s ↑n fun x => !x.drawn.isEmpty) = some (o, x) ∧
      offloadConvoy s o = some m ∧
      mayRecompute s o ↑cluster ↑tile = true ∧
      recomputedBlock s o x ↑cluster ↑tile = some b) :=
  ⟨⟨7, withConvoy 255 (ofSlot .opened) { live with tensor := { Tensor.init with passes := [⟨7, 15, 255, false, goodPass, heldCells goodPass⟩] } }, ⟨7, 15, 255, false, goodPass, heldCells goodPass⟩, (by decide +kernel)⟩,
   ⟨7, withConvoy 255 (ofSlot .opened) { live with tensor := { Tensor.init with passes := [⟨7, 15, 255, false, badPass, heldCells badPass⟩] } }, ⟨7, 15, 255, false, badPass, heldCells badPass⟩, (0, 0), (by decide +kernel)⟩,
   ⟨7, withOffload { offload with ready := [0] } live, 31, { offload with ready := [0] }, 255, (by decide +kernel)⟩,
   ⟨7, 7, 16, withOffload { offload with drawn := [0], running := [(7 * 17 + 16, 0)] } live, 31, { offload with drawn := [0], running := [(7 * 17 + 16, 0)] }, 255, 0, (by decide +kernel)⟩⟩

theorem witness_CheckersReportAndClassify :
    (∃ (d : Fin 19) (s : State),
      clockRuns s ↑d = true) ∧
    (∃ (d : Fin 19) (s : State),
      (domain s ↑d).restarting = true ∧
      (domain s ↑d).fenced = false) ∧
    (∃ (d : Fin 19) (s : State),
      (domain s ↑d).restarting = true ∧
      (domain s ↑d).fenced = false ∧
      ↑d ∈ [1, 5, 6, 7, 18]) ∧
    (∃ (cls : Fin 24) (n : Fin 16) (parity : Bool) (s : State),
      queueInUse s ↑cls ↑n = true ∧
      (queueAt s ↑cls ↑n).fenced = false ∧
      (queueAt s ↑cls ↑n).lastFault = none) ∧
    (∃ (pair : Fin 2) (o : Fin 1024) (s : State),
      s.faults.pairs = [0, 1] ∧
      (slotAt s (↑o / 32) (↑o % 32)).phase = Phase.running) ∧
    (∃ (s : State),
      managementRuns s = true ∧
      s.faults.resuming = false) ∧
    (∃ (s : State),
      s.faults.resuming = true) ∧
    (∃ (s : State),
      s.boot.mainOn = true ∧
      s.faults.tableMismatch = none) ∧
    (∃ (checker : Fin 12) (number : Fin 1024) (group : Fin 23) (index : Fin 1024) (s : State),
      ↑group ≠ 0 ∧
      s.boot.mainOn = true) :=
  ⟨⟨18, live, (by decide +kernel)⟩,
   ⟨18, { live with domains := [(18, { Domain.off with restarting := true })] }, (by decide +kernel)⟩,
   ⟨18, { live with domains := [(18, { Domain.off with restarting := true })] }, (by decide +kernel)⟩,
   ⟨23, 0, true, { live with queues := [(368, { Queue.init with granted := true, credit := 1 })] }, (by decide +kernel)⟩,
   ⟨1, 31, adm 0x0901 (le 4 0) live, (by decide +kernel)⟩,
   ⟨live, (by decide +kernel)⟩,
   ⟨{ live with faults := { Faults.init with resuming := true } }, (by decide +kernel)⟩,
   ⟨live, (by decide +kernel)⟩,
   ⟨9, 1023, 22, 1023, live, (by decide +kernel)⟩⟩

theorem witness_HostPortsAndFunctionsReset :
    (∃ (h : Fin 2) (s : State),
      s.boot.mainOn = true ∧
      (hostPort s ↑h).perst = true ∧
      hostOut s ↑h = false) ∧
    (∃ (h : Fin 2) (s : State) (w : Fin 5) (r : Fin 6),
      s.boot.mainOn = true ∧
      (hostPort s ↑h).training = true ∧
      (hostPort s ↑h).perst = false ∧
      hostOut s ↑h = false) ∧
    (∃ (h : Fin 2) (s : State) (cause : Fin 4),
      s.boot.mainOn = true ∧
      (hostPort s ↑h).linkUp = true) ∧
    (∃ (h : Fin 2) (s : State),
      s.boot.mainOn = true ∧
      (hostPort s ↑h).perst = false) ∧
    (∃ (h : Fin 2) (s : State) (fn : Fin 32) (status : Word32),
      s.boot.mainOn = true ∧
      (hostPort s ↑h).linkUp = true) ∧
    (∃ (h : Fin 2) (fn : Fin 32) (s : State),
      fnPresent s ↑h ↑fn = true ∧
      (hostFn s ↑h ↑fn).flr = false) ∧
    (∃ (h : Fin 2) (fn : Fin 32) (s : State),
      fnPresent s ↑h ↑fn = true ∧
      (hostFn s ↑h ↑fn).flr = false ∧
      (hostFn s ↑h ↑fn).bme = true) ∧
    (∃ (h : Fin 2) (fn : Fin 32) (s : State) (n : Fin 32),
      fnPresent s ↑h ↑fn = true ∧
      (hostFn s ↑h ↑fn).flr = false ∧
      fn = 0 ∧
      (hostPort s ↑h).vfEnable = false) ∧
    (∃ (h : Fin 2) (fn : Fin 32) (s : State),
      (hostFn s ↑h ↑fn).flr = true) ∧
    (∃ (p : Fin 32) (k : Fin 32) (poisoned : Bool) (s : State),
      (slotAt s ↑p ↑k).phase = Phase.running ∧
      fnCanSend s (part s ↑p).port (part s ↑p).fn = true) :=
  ⟨⟨1, { live with hosts := [] }, (by decide +kernel)⟩,
   ⟨1, { live with hosts := [(1, { HostPort.init with perst := false, training := true })] }, 4, 5, (by decide +kernel)⟩,
   ⟨0, live, 3, (by decide +kernel)⟩,
   ⟨0, live, (by decide +kernel)⟩,
   ⟨0, live, 31, 0xFFFFFFFF, (by decide +kernel)⟩,
   ⟨0, 31, { live with hosts := [(0, { HostPort.init with perst := false, linkUp := true, ready := true, vfEnable := true, numVfs := 31 })] }, (by decide +kernel)⟩,
   ⟨0, 0, live, (by decide +kernel)⟩,
   ⟨0, 0, live, 31, (by decide +kernel)⟩,
   ⟨1, 31, { live with fns := [(63, { HostFn.init with flr := true })] }, (by decide +kernel)⟩,
   ⟨0, 31, true, adm 0x0901 (le 4 0) live, (by decide +kernel)⟩⟩

theorem witness_DigestContextsFollowTheirWrites :
    (∃ (p : Fin 32) (x : Fin 2) (s : State) (v : Word32),
      digestLive s ↑p = true ∧
      noDigestEngine s = false ∧
      (digestAt s ↑p ↑x).busy = false ∧
      1 ≤ BitVec.toNat v ∧
      BitVec.toNat v ≤ 5) ∧
    (∃ (p : Fin 32) (x : Fin 2) (s : State) (a : Fin 3),
      digestLive s ↑p = true ∧
      noDigestEngine s = false ∧
      (digestAt s ↑p ↑x).busy = false) ∧
    (∃ (p : Fin 32) (x : Fin 2) (s : State),
      digestLive s ↑p = true ∧
      noDigestEngine s = false ∧
      (digestAt s ↑p ↑x).busy = false) ∧
    (∃ (p : Fin 32) (x : Fin 2) (s : State),
      digestLive s ↑p = true ∧
      noDigestEngine s = false ∧
      (digestAt s ↑p ↑x).busy = false ∧
      (digestAt s ↑p ↑x).state ≠ DigestState.overrun) ∧
    (∃ (p : Fin 32) (x : Fin 2) (s : State) (v : Word64),
      digestLive s ↑p = true ∧
      noDigestEngine s = false ∧
      (digestAt s ↑p ↑x).busy = false ∧
      (digestAt s ↑p ↑x).state = DigestState.absorbing) ∧
    (∃ (p : Fin 32) (x : Fin 2) (s : State) (v : Word32),
      digestLive s ↑p = true ∧
      noDigestEngine s = false ∧
      (digestAt s ↑p ↑x).busy = false ∧
      (digestAt s ↑p ↑x).state = DigestState.absorbing ∧
      BitVec.toNat v ≤ 7) ∧
    (∃ (p : Fin 32) (x : Fin 2) (s : State),
      digestLive s ↑p = true ∧
      noDigestEngine s = false ∧
      (digestAt s ↑p ↑x).busy = false ∧
      (digestAt s ↑p ↑x).state = DigestState.absorbing) ∧
    (∃ (p : Fin 32) (x : Fin 2) (s : State) (v : Word64),
      digestLive s ↑p = true ∧
      noDigestEngine s = false ∧
      (digestAt s ↑p ↑x).busy = true) :=
  ⟨⟨0, 1, live, 5, (by decide +kernel)⟩,
   ⟨0, 1, live, 2, (by decide +kernel)⟩,
   ⟨0, 1, live, (by decide +kernel)⟩,
   ⟨0, 1, live, (by decide +kernel)⟩,
   ⟨0, 1, withDigest (fun x => { x with state := .absorbing }) live, 0xFFFFFFFFFFFFFFFF, (by decide +kernel)⟩,
   ⟨0, 1, withDigest (fun x => { x with state := .absorbing }) live, 7, (by decide +kernel)⟩,
   ⟨0, 1, withDigest (fun x => { x with state := .absorbing }) live, (by decide +kernel)⟩,
   ⟨0, 1, withDigest (fun x => { x with state := .absorbing, busy := true }) live, 0xFFFFFFFFFFFFFFFF, (by decide +kernel)⟩⟩

theorem witness_DigestWorkEnds :
    (∃ (p : Fin 32) (x : Fin 2) (s : State) (d : DigestCtx),
      digestAt s ↑p ↑x = d ∧
      d.busy = true ∧
      d.state ≠ DigestState.overrun ∧
      d.pendingWork = 1) ∧
    (∃ (p : Fin 32) (x : Fin 2) (s : State) (d : DigestCtx),
      digestAt s ↑p ↑x = d ∧
      d.busy = true ∧
      d.state ≠ DigestState.overrun ∧
      d.pendingWork = 5) ∧
    (∃ (p : Fin 32) (x : Fin 2) (s : State) (d : DigestCtx) (k : KeySlot),
      digestAt s ↑p ↑x = d ∧
      d.busy = true ∧
      d.state ≠ DigestState.overrun ∧
      d.pendingWork = 2 ∧
      keySlotOf s (↑p) d.keySlot = some k ∧
      k.kind = 6 ∧
      bit k.usage 7 = true) ∧
    (∃ (p : Fin 32) (x : Fin 2) (s : State) (d : DigestCtx),
      digestAt s ↑p ↑x = d ∧
      d.busy = true ∧
      d.state ≠ DigestState.overrun ∧
      d.pendingWork = 2 ∧
      keySlotOf s (↑p) d.keySlot = none) ∧
    (∃ (p : Fin 32) (x : Fin 2) (s : State) (d : DigestCtx),
      digestAt s ↑p ↑x = d ∧
      d.busy = true ∧
      d.state ≠ DigestState.overrun ∧
      d.pendingWork = 3 ∧
      keyedAlg d.alg = false) ∧
    (∃ (p : Fin 32) (x : Fin 2) (s : State) (d : DigestCtx),
      digestAt s ↑p ↑x = d ∧
      d.busy = true ∧
      d.state ≠ DigestState.overrun ∧
      d.pendingWork = 4) :=
  ⟨⟨0, 1, withDigest (fun x => { x with state := .absorbing, busy := true, alg := 1, pendingWork := 1 }) live, digestAt (withDigest (fun x => { x with state := .absorbing, busy := true, alg := 1, pendingWork := 1 }) live) 0 1, (by decide +kernel)⟩,
   ⟨0, 1, withDigest (fun x => { x with state := .absorbing, busy := true, alg := 1, pendingWork := 5 }) live, digestAt (withDigest (fun x => { x with state := .absorbing, busy := true, alg := 1, pendingWork := 5 }) live) 0 1, (by decide +kernel)⟩,
   ⟨0, 1, withKey 6 0x80 (le 32 1) (withDigest (fun x => { x with state := .absorbing, busy := true, alg := 6, pendingWork := 2 }) live), digestAt (withKey 6 0x80 (le 32 1) (withDigest (fun x => { x with state := .absorbing, busy := true, alg := 6, pendingWork := 2 }) live)) 0 1, ⟨0, 6, 0x80, le 32 1⟩, (by decide +kernel)⟩,
   ⟨0, 1, withDigest (fun x => { x with state := .absorbing, busy := true, alg := 6, pendingWork := 2 }) live, digestAt (withDigest (fun x => { x with state := .absorbing, busy := true, alg := 6, pendingWork := 2 }) live) 0 1, (by decide +kernel)⟩,
   ⟨0, 1, withDigest (fun x => { x with state := .absorbing, busy := true, alg := 1, pendingWork := 3 }) live, digestAt (withDigest (fun x => { x with state := .absorbing, busy := true, alg := 1, pendingWork := 3 }) live) 0 1, (by decide +kernel)⟩,
   ⟨0, 1, withDigest (fun x => { x with state := .done, busy := true, alg := 1, pendingWork := 4 }) live, digestAt (withDigest (fun x => { x with state := .done, busy := true, alg := 1, pendingWork := 4 }) live) 0 1, (by decide +kernel)⟩⟩

theorem witness_ExtentsAndDrivesAreManaged :
    (∃ (o : Origin) (s : State) (c : Ctx) (i : Nat),
      Ready 1025 (fixed Latency.control) extentCreateChecks o s c ∧
      i < 64 ∧
      s.extents.get? i = none ∧
      (∀ j < i, (s.extents.get? j).isSome = true)) ∧
    (∃ (o : Origin) (s : State) (c : Ctx),
      Ready 1026 (fixed Latency.immediate) extentDestroyChecks o s c) ∧
    (∃ (o : Origin) (s : State) (c : Ctx) (d : Drive),
      Ready 1031 (fixed Latency.immediate) driveQueryChecks o s c ∧
      d = drive s (c.u 0 1)) ∧
    (∃ (k : Fin 4) (s : State) (i : DriveInfo),
      storageOut s = false ∧
      s.boot.synfyReady = true ∧
      linkExists s ↑k = true ∧
      (drive s ↑k).ready = false ∧
      (drive s ↑k).absent = false) ∧
    (∃ (k : Fin 4) (s : State) (i : DriveInfo),
      storageOut s = false ∧
      (drive s ↑k).absent = true) :=
  ⟨⟨.mbx 0 31, adm 0x0401 ([0, 0] ++ le 2 1 ++ le 4 0 ++ le 8 0 ++ le 8 1024) (withDrive (withKey 4 0x10 (le 64 1) live)), reqOf (adm 0x0401 ([0, 0] ++ le 2 1 ++ le 4 0 ++ le 8 0 ++ le 8 1024) (withDrive (withKey 4 0x10 (le 64 1) live))), 0, (by unfold Ready; decide +kernel)⟩,
   ⟨.mbx 0 31, adm 0x0402 (le 4 0) (withExtent live), reqOf (adm 0x0402 (le 4 0) (withExtent live)), (by unfold Ready; decide +kernel)⟩,
   ⟨.mbx 0 31, adm 0x0407 [3] live, reqOf (adm 0x0407 [3] live), Drive.init, (by unfold Ready; decide +kernel)⟩,
   ⟨3, { live with aon := { AlwaysOn.init with tables := { AonTables.none with bifurcation := 2 } } }, ⟨1, le 20 0, []⟩, (by decide +kernel)⟩,
   ⟨3, { live with drives := [(3, { Drive.init with absent := true })] }, ⟨1, le 20 0, []⟩, (by decide +kernel)⟩⟩

theorem witness_StorageCommandsReachTheDrive :
    (∃ (o : Origin) (s : State) (c : Ctx) (e : Extent) (d : DriveCmd),
      begun s o = false ∧
      extentOf s c.p (c.u 0 4) = some e ∧
      Ready 1027 (fixed Latency.storage) storageReadChecks o s c ∧
      d = { link := e.link, opcode := 2, ns := e.ns, lba := e.start + c.u 8 8 / lbaSize s e, len := (c.desc 16).len / lbaSize s e, data := [], issuedAt := s.now, reissued := false }) ∧
    (∃ (o : Origin) (s : State) (c : Ctx) (e : Extent) (hostData : List Byte) (key : List Byte) (bs : List Byte) (lba : Nat),
      begun s o = false ∧
      extentOf s c.p (c.u 0 4) = some e ∧
      Ready 1028 (fixed Latency.storage) storageWriteChecks o s c ∧
      descReadMeets s c.p (c.desc 16) = none ∧
      keyBytes s e.keySlot = some key ∧
      (cipherEngine s).isSome = true ∧
      bs = readDesc s c.p (c.desc 16) hostData ∧
      lba = e.start + c.u 8 8 / lbaSize s e) ∧
    (∃ (o : Origin) (s : State) (c : Ctx) (e : Extent),
      begun s o = false ∧
      extentOf s c.p (c.u 0 4) = some e ∧
      Ready 1029 (fixed Latency.storage) flushChecks o s c) ∧
    (∃ (o : Origin) (s : State) (c : Ctx) (e : Extent) (d : DriveCmd),
      begun s o = false ∧
      extentOf s c.p (c.u 0 4) = some e ∧
      Ready 1030 (fixed Latency.storage) deallocateChecks o s c ∧
      d = { link := e.link, opcode := 9, ns := e.ns, lba := e.start + c.u 8 8 / lbaSize s e, len := c.u 16 8 / lbaSize s e, data := [], issuedAt := s.now, reissued := false }) :=
  ⟨⟨.mbx 0 31, adm 0x0403 (le 8 0 ++ le 8 (1023 * 512) ++ hostAt 512) (withExtent live), reqOf (adm 0x0403 (le 8 0 ++ le 8 (1023 * 512) ++ hostAt 512) (withExtent live)), ⟨0, 0, 1, 0, 1024, 0⟩, ⟨0, 2, 1, 1023, 1, [], 2000000000, false⟩, (by unfold Ready; decide +kernel)⟩,
   ⟨.mbx 0 31, adm 0x0404 (le 8 0 ++ le 8 (1023 * 512) ++ hostAt 512) (withExtent live), reqOf (adm 0x0404 (le 8 0 ++ le 8 (1023 * 512) ++ hostAt 512) (withExtent live)), ⟨0, 0, 1, 0, 1024, 0⟩, [], le 64 1, readDesc (adm 0x0404 (le 8 0 ++ le 8 (1023 * 512) ++ hostAt 512) (withExtent live)) 0 ((reqOf (adm 0x0404 (le 8 0 ++ le 8 (1023 * 512) ++ hostAt 512) (withExtent live))).desc 16) [], 1023, (by unfold Ready; decide +kernel)⟩,
   ⟨.mbx 0 31, adm 0x0405 (le 4 0) (withExtent live), reqOf (adm 0x0405 (le 4 0) (withExtent live)), ⟨0, 0, 1, 0, 1024, 0⟩, (by unfold Ready; decide +kernel)⟩,
   ⟨.mbx 0 31, adm 0x0406 (le 8 0 ++ le 8 (1023 * 512) ++ le 8 512) (withExtent live), reqOf (adm 0x0406 (le 8 0 ++ le 8 (1023 * 512) ++ le 8 512) (withExtent live)), ⟨0, 0, 1, 0, 1024, 0⟩, ⟨0, 9, 1, 1023, 1, [], 2000000000, false⟩, (by unfold Ready; decide +kernel)⟩⟩

theorem witness_DrivesCompleteFailAndRecover :
    (∃ (p : Fin 32) (k : Fin 32) (status : BitVec 15) (data : List Byte) (s : State) (d : DriveCmd),
      s.driveCmds.get? (↑p * 32 + ↑k) = some d ∧
      (slotAt s ↑p ↑k).phase = Phase.running ∧
      status.toNat % 2048 = 0 ∧
      d.opcode ≠ 2) ∧
    (∃ (p : Fin 32) (k : Fin 32) (status : BitVec 15) (data : List Byte) (s : State) (d : DriveCmd) (c : Ctx) (e : Extent) (key : List Byte) (bs : List Byte),
      s.driveCmds.get? (↑p * 32 + ↑k) = some d ∧
      (slotAt s ↑p ↑k).phase = Phase.running ∧
      c = slotCtx (↑p) (↑k) (slotAt s ↑p ↑k) ∧
      extentOf s (↑p) (c.u 0 4) = some e ∧
      keyBytes s e.keySlot = some key ∧
      (cipherEngine s).isSome = true ∧
      descWriteMeets s (↑p) (c.desc 16) = none ∧
      status.toNat % 2048 = 0 ∧
      d.opcode = 2 ∧
      (slotAt s ↑p ↑k).lostHop = none ∧
      bs = slice data 0 (c.desc 16).len) ∧
    (∃ (p : Fin 32) (k : Fin 32) (status : BitVec 15) (data : List Byte) (s : State) (d : DriveCmd),
      s.driveCmds.get? (↑p * 32 + ↑k) = some d ∧
      (slotAt s ↑p ↑k).phase = Phase.running ∧
      status.toNat % 2048 ≠ 0 ∧
      (bit status.toNat 14 = true ∨ d.reissued = true)) ∧
    (∃ (p : Fin 32) (k : Fin 32) (status : BitVec 15) (data : List Byte) (s : State) (d : DriveCmd),
      s.driveCmds.get? (↑p * 32 + ↑k) = some d ∧
      (slotAt s ↑p ↑k).phase = Phase.running ∧
      status.toNat % 2048 ≠ 0 ∧
      bit status.toNat 14 = false ∧
      d.reissued = false) ∧
    (∃ (k : Fin 4) (s : State),
      (drive s ↑k).ready = true ∧
      ((drive s ↑k).resetAt = none ∨ ∃ r, (drive s ↑k).resetAt = some r ∧ r + 1000000000 < s.now)) ∧
    (∃ (k : Fin 4) (s : State) (r : Nat),
      (drive s ↑k).ready = true ∧
      (drive s ↑k).resetAt = some r ∧
      s.now ≤ r + 1000000000) :=
  ⟨⟨0, 31, 0, [], withDriveCmd 1 false (adm 0x0405 (le 4 0) live), ⟨0, 1, 1, 0, 1, [], 2000000000, false⟩, (by decide +kernel)⟩,
   ⟨0, 31, 0, [], withDriveCmd 2 false (adm 0x0403 (le 8 0 ++ le 8 (1023 * 512) ++ hostAt 512) (withExtent live)), ⟨0, 2, 1, 0, 1, [], 2000000000, false⟩, reqOf (withDriveCmd 2 false (adm 0x0403 (le 8 0 ++ le 8 (1023 * 512) ++ hostAt 512) (withExtent live))), ⟨0, 0, 1, 0, 1024, 0⟩, le 64 1, slice [] 0 512, (by decide +kernel)⟩,
   ⟨0, 31, 0x7FFF, [], withDriveCmd 1 false (adm 0x0405 (le 4 0) live), ⟨0, 1, 1, 0, 1, [], 2000000000, false⟩, (by decide +kernel)⟩,
   ⟨0, 31, 1, [], withDriveCmd 1 false (adm 0x0405 (le 4 0) live), ⟨0, 1, 1, 0, 1, [], 2000000000, false⟩, (by decide +kernel)⟩,
   ⟨3, { live with drives := [(3, { Drive.init with ready := true, resetAt := some 999999999 })] }, (by decide +kernel)⟩,
   ⟨3, { live with drives := [(3, { Drive.init with ready := true, resetAt := some 1000000000 })] }, 1000000000, (by decide +kernel)⟩⟩

theorem witness_RegionsAreAllocatedFreedAndCopied :
    (∃ (o : Origin) (s : State) (c : Ctx) (u : Nat) (i : Nat),
      Ready 513 (fixed Latency.immediate) regionAllocateChecks o s c ∧
      regionUnit s c = some u ∧
      (firstIndex 256 fun i => (s.memory.regions.get? (c.p * 256 + i)).isNone) = some i) ∧
    (∃ (o : Origin) (s : State) (c : Ctx) (r : Region),
      Ready 514 (fixed Latency.immediate) regionFreeChecks o s c ∧
      regionOf s c.p (c.u 0 4) = some r) ∧
    (∃ (o : Origin) (s : State) (c : Ctx) (hostData : List Byte) (bs : List Byte),
      Ready 515 memoryTransferBudget memoryTransferChecks o s c ∧
      descReadMeets s c.p (c.desc 0) = none ∧
      descWriteMeets s c.p (c.desc 16) = none ∧
      quotaReached s c.p = false ∧
      (freeNumber s).isSome = true ∧
      (slotAt s c.p c.k).lostHop = none ∧
      bs = readDesc s c.p (c.desc 0) hostData) :=
  ⟨⟨.mbx 0 31, adm 0x0201 ([8, 0] ++ le 2 32) live, reqOf (adm 0x0201 ([8, 0] ++ le 2 32) live), 8, 0, (by unfold Ready; decide +kernel)⟩,
   ⟨.mbx 0 31, adm 0x0202 (le 4 0) (withRegion live), reqOf (adm 0x0202 (le 4 0) (withRegion live)), ⟨[319], false⟩, (by unfold Ready; decide +kernel)⟩,
   ⟨.mbx 0 31, adm 0x0203 (hostAt 1 ++ regionAt 2097151 1) (withRegion live), reqOf (adm 0x0203 (hostAt 1 ++ regionAt 2097151 1) (withRegion live)), [], readDesc (adm 0x0203 (hostAt 1 ++ regionAt 2097151 1) (withRegion live)) 0 ((reqOf (adm 0x0203 (hostAt 1 ++ regionAt 2097151 1) (withRegion live))).desc 0) [], (by unfold Ready; decide +kernel)⟩⟩

theorem witness_MemoryIsScrubbedSweptAndRetired :
    (∃ (u : Fin 9) (s : State),
      s.boot.mainOn = true ∧
      s.boot.selfTestDone = true ∧
      s.faults.scrubOff = false) ∧
    (∃ (u : Fin 9) (s : State) (line : Nat),
      s.boot.mainOn = true ∧
      s.boot.selfTestDone = true ∧
      s.faults.scrubOff = false ∧
      line = (unitGranules ↑u).getD 0 0 * 8192 + s.memory.scrubAt.getD (↑u) 0 / 16) ∧
    (∃ (u : Fin 10) (s : State) (w : Sweep),
      List.find? (fun w => w.unit == ↑u) s.memory.sweeps = some w) ∧
    (∃ (g : Fin 320) (s : State) (lost : Bool) (r : Nat),
      MemoryCanonical s ∧
      (granule s ↑g).retiring = some lost ∧
      (∀ e ∈ s.parts, ∀ (d : Teardown), e.2.state = PartitionState.tearing → e.2.teardown = some d → d.released = true) ∧
      (List.filter (fun r => r != ↑g && granuleUnreserved s r) (unitGranules (unitOf ↑g))).head? = some r) ∧
    (∃ (g : Fin 320) (s : State) (lost : Bool),
      MemoryCanonical s ∧
      (granule s ↑g).retiring = some lost ∧
      (∀ e ∈ s.parts, ∀ (d : Teardown), e.2.state = PartitionState.tearing → e.2.teardown = some d → d.released = true) ∧
      (List.filter (fun r => r != ↑g && granuleUnreserved s r) (unitGranules (unitOf ↑g))).head? = none) :=
  ⟨⟨8, live, (by decide +kernel)⟩,
   ⟨8, live, (unitGranules 8).getD 0 0 * 8192, (by decide +kernel)⟩,
   ⟨9, { live with memory := { Memory.init with sweeps := [⟨9, 255, false, true⟩] } }, ⟨9, 255, false, true⟩, (by decide +kernel)⟩,
   ⟨319, { live with memory := { Memory.init with granules := [(319, { Granule.init with retiring := some true })] } }, true, 288, (by unfold MemoryCanonical; decide +kernel), (by decide +kernel), (by intro e he d ht; obtain rfl := List.mem_singleton.mp he; exact absurd ht (by decide)), (by decide +kernel)⟩,
   ⟨319, { live with memory := { Memory.init with granules := (List.range 32).map (fun i => (288 + i, { Granule.init with bound := some 1, retiring := if i = 31 then some true else none })) } }, true, (by unfold MemoryCanonical; decide +kernel), (by decide +kernel), (by intro e he d ht; obtain rfl := List.mem_singleton.mp he; exact absurd ht (by decide)), (by decide +kernel)⟩⟩

theorem witness_SyncObjectsCountAndWake :
    (∃ (o : Origin) (s : State) (c : Ctx) (i : Nat),
      Ready 528 (fixed Latency.immediate) syncCreateChecks o s c ∧
      (firstIndex 4096 fun i => (s.memory.sync.get? i).isNone) = some i) ∧
    (∃ (o : Origin) (s : State) (c : Ctx) (x : SyncObj),
      syncOf s c.p (c.u 0 4) = some x ∧
      (∀ w ∈ x.waiters, w.2 ≠ c.p * 32 + c.k) ∧
      Ready 529 (fixed Latency.immediate) syncDestroyChecks o s c) ∧
    (∃ (o : Origin) (s : State) (c : Ctx) (x : SyncObj),
      syncOf s c.p (c.u 0 4) = some x ∧
      (∀ w ∈ x.waiters, w.2 ≠ c.p * 32 + c.k) ∧
      Ready 530 (fixed Latency.immediate) syncSignalChecks o s c) ∧
    (∃ (o : Origin) (s : State) (c : Ctx) (x : SyncObj),
      syncOf s c.p (c.u 0 4) = some x ∧
      (∀ w ∈ x.waiters, w.2 ≠ c.p * 32 + c.k) ∧
      Ready 531 (fixed Latency.long) syncWaitChecks o s c ∧
      Untagged s (originPart o) ∧
      x.absent = true) ∧
    (∃ (o : Origin) (s : State) (c : Ctx) (x : SyncObj),
      syncOf s c.p (c.u 0 4) = some x ∧
      (∀ w ∈ x.waiters, w.2 ≠ c.p * 32 + c.k) ∧
      Ready 531 (fixed Latency.long) syncWaitChecks o s c ∧
      Untagged s (originPart o) ∧
      x.absent = false ∧
      c.u 8 8 ≤ x.counter) ∧
    (∃ (o : Origin) (s : State) (c : Ctx) (x : SyncObj),
      syncOf s c.p (c.u 0 4) = some x ∧
      (∀ w ∈ x.waiters, w.2 ≠ c.p * 32 + c.k) ∧
      Ready 531 (fixed Latency.long) syncWaitChecks o s c ∧
      Untagged s (originPart o) ∧
      x.absent = false ∧
      x.counter < c.u 8 8) ∧
    (∃ (o : Origin) (s : State) (c : Ctx) (x : SyncObj),
      syncOf s c.p (c.u 0 4) = some x ∧
      (∀ w ∈ x.waiters, w.2 ≠ c.p * 32 + c.k) ∧
      Ready 532 (fixed Latency.immediate) syncReadChecks o s c) ∧
    (∃ (o : Origin) (s : State) (c : Ctx) (x : SyncObj),
      syncOf s c.p (c.u 0 4) = some x ∧
      (∀ w ∈ x.waiters, w.2 ≠ c.p * 32 + c.k) ∧
      Ready 533 (fixed Latency.immediate) syncBindChecks o s c) ∧
    (∃ (port : Fin 8) (payload : List Byte) (s : State) (h : Nat) (v : Nat) (x : SyncObj),
      inRun s ↑port = true ∧
      h = field payload 0 4 ∧
      v = field payload 8 8 ∧
      syncAny s h = some x ∧
      x.port = some ↑port ∧
      x.counter + v ≤ syncTop) ∧
    (∃ (port : Fin 8) (payload : List Byte) (s : State) (h : Nat) (v : Nat),
      inRun s ↑port = true ∧
      h = field payload 0 4 ∧
      v = field payload 8 8 ∧
      syncAny s h = none) ∧
    (∃ (port : Fin 8) (payload : List Byte) (s : State) (h : Nat) (v : Nat) (n : Fin 256),
      inRun s ↑port = true ∧
      h = field payload 0 4 ∧
      v = field payload 8 8 ∧
      ((convoy s ↑n).state = ConvoyState.opened ∨ (convoy s ↑n).state = ConvoyState.sealed)) ∧
    (∃ (port : Fin 8) (payload : List Byte) (s : State) (h : Nat) (v : Nat) (n : Fin 256),
      inRun s ↑port = true ∧
      h = field payload 0 4 ∧
      v = field payload 8 8) :=
  ⟨⟨.mbx 0 31, adm 0x0210 (le 8 0 ++ [7]) live, reqOf (adm 0x0210 (le 8 0 ++ [7]) live), 0, (by unfold Ready; decide +kernel)⟩,
   ⟨.mbx 0 31, adm 0x0211 (le 4 0) (withSync id live), reqOf (adm 0x0211 (le 4 0) (withSync id live)), ⟨0, 0, none, false, []⟩, (by unfold Ready; decide +kernel)⟩,
   ⟨.mbx 0 31, adm 0x0212 (le 8 0 ++ le 8 syncTop) (withSync id live), reqOf (adm 0x0212 (le 8 0 ++ le 8 syncTop) (withSync id live)), ⟨0, 0, none, false, []⟩, (by unfold Ready; decide +kernel)⟩,
   ⟨.mbx 0 31, adm 0x0213 (le 8 0 ++ le 8 1) (withSync (fun x => { x with port := some 7, absent := true }) live), reqOf (adm 0x0213 (le 8 0 ++ le 8 1) (withSync (fun x => { x with port := some 7, absent := true }) live)), ⟨0, 0, some 7, true, []⟩, by decide +kernel, by decide +kernel, (by unfold Ready; decide +kernel), untagged _ _ (by decide +kernel), by decide +kernel⟩,
   ⟨.mbx 0 31, adm 0x0213 (le 8 0 ++ le 8 1) (withSync (fun x => { x with counter := 1 }) live), reqOf (adm 0x0213 (le 8 0 ++ le 8 1) (withSync (fun x => { x with counter := 1 }) live)), ⟨0, 1, none, false, []⟩, by decide +kernel, by decide +kernel, (by unfold Ready; decide +kernel), untagged _ _ (by decide +kernel), by decide +kernel⟩,
   ⟨.mbx 0 31, adm 0x0213 (le 8 0 ++ le 8 1) (withSync id live), reqOf (adm 0x0213 (le 8 0 ++ le 8 1) (withSync id live)), ⟨0, 0, none, false, []⟩, by decide +kernel, by decide +kernel, (by unfold Ready; decide +kernel), untagged _ _ (by decide +kernel), by decide +kernel⟩,
   ⟨.mbx 0 31, adm 0x0214 (le 4 0) (withSync id live), reqOf (adm 0x0214 (le 4 0) (withSync id live)), ⟨0, 0, none, false, []⟩, (by unfold Ready; decide +kernel)⟩,
   ⟨.mbx 0 31, adm 0x0215 (le 4 0 ++ [7]) (withSync id live), reqOf (adm 0x0215 (le 4 0 ++ [7]) (withSync id live)), ⟨0, 0, none, false, []⟩, (by unfold Ready; decide +kernel)⟩,
   ⟨7, le 8 0 ++ le 8 1, withPort id (withSync (fun x => { x with port := some 7, counter := syncTop - 1 }) live), 0, 1, ⟨0, syncTop - 1, some 7, false, []⟩, (by decide +kernel)⟩,
   ⟨7, le 8 0 ++ le 8 1, withPort id live, 0, 1, (by decide +kernel)⟩,
   ⟨7, le 8 0 ++ le 8 1, withConvoy 255 (ofSlot .sealed) (withPort id live), 0, 1, 255, (by decide +kernel)⟩,
   ⟨7, le 8 0 ++ le 8 1, withPort id live, 0, 1, 255, (by decide +kernel)⟩⟩

theorem witness_ModelsLoadUnloadAndReport :
    (∃ (o : Origin) (s : State) (c : Ctx) (image : List Byte) (reread : Option (List Byte)) (img : List Byte) (i : Nat),
      Ready 257 modelLoadBudget modelLoadChecks o s c ∧
      img = slice image 0 (c.desc 0).len ∧
      loadVerdict s c img = none ∧
      loadBarred s c.p img = false ∧
      Untagged s (originPart o) ∧
      (∀ l < manifestLayers img, layerMatches img l = true) ∧
      (firstIndex 16 fun i => (s.memory.models.get? (c.p * 16 + i)).isNone) = some i) ∧
    (∃ (o : Origin) (s : State) (c : Ctx) (image : List Byte) (reread : Option (List Byte)) (img : List Byte),
      Ready 257 modelLoadBudget modelLoadChecks o s c ∧
      img = slice image 0 (c.desc 0).len ∧
      loadVerdict s c img = none ∧
      loadBarred s c.p img = false ∧
      Untagged s (originPart o) ∧
      (∃ l < manifestLayers img, layerSource img reread l = none)) ∧
    (∃ (o : Origin) (s : State) (c : Ctx) (m : Model),
      modelOf s c.p (c.u 0 2) = some m ∧
      Ready 258 (fixed Latency.control) modelUnloadChecks o s c) ∧
    (∃ (o : Origin) (s : State) (c : Ctx) (m : Model),
      modelOf s c.p (c.u 0 2) = some m ∧
      Ready 259 (fixed Latency.immediate) modelHandleCheck o s c) ∧
    (∃ (o : Origin) (s : State) (c : Ctx),
      Ready 9 (fixed Latency.immediate) partitionStatusChecks o s c) :=
  ⟨⟨.mbx 0 31, adm 0x0101 (hostAt 160) live, reqOf (adm 0x0101 (hostAt 160) live), oneLayer emptyDigest, none, oneLayer emptyDigest, 0, (by unfold Ready; decide +kernel), by decide +kernel, by decide +kernel, by decide +kernel, untagged _ _ (by decide +kernel), by decide +kernel⟩,
   ⟨.mbx 0 31, adm 0x0101 (hostAt 160) live, reqOf (adm 0x0101 (hostAt 160) live), oneLayer (le 32 0), none, oneLayer (le 32 0), (by unfold Ready; decide +kernel), by decide +kernel, by decide +kernel, by decide +kernel, untagged _ _ (by decide +kernel), by decide +kernel⟩,
   ⟨.mbx 0 31, adm 0x0102 (le 2 0) (withModel live), reqOf (adm 0x0102 (le 2 0) (withModel live)), ⟨[⟨0, 0, 0, 0, 1, 1000, 0, []⟩], [], [], false, 0, []⟩, (by unfold Ready; decide +kernel)⟩,
   ⟨.mbx 0 31, adm 0x0103 (le 2 0) (withModel live), reqOf (adm 0x0103 (le 2 0) (withModel live)), ⟨[⟨0, 0, 0, 0, 1, 1000, 0, []⟩], [], [], false, 0, []⟩, (by unfold Ready; decide +kernel)⟩,
   ⟨.mbx 0 31, adm 9 [31] live, reqOf (adm 9 [31] live), (by unfold Ready; decide +kernel)⟩⟩

theorem witness_TensorClockFollowsRequestLimitAndCeiling :
    (∃ (o : Origin) (s : State) (c : Ctx),
      Ready 289 (fixed Latency.immediate) ktLimitSetChecks o s c) ∧
    (∃ (s : State) (w : Nat),
      s.tensor.target = some w) ∧
    (∃ (s : State),
      passesQueued s = false) ∧
    (∃ (s : State),
      passesQueued s = true) ∧
    (∃ (s : State) (v : Fin 24) (w : Nat),
      tensorRail s = some ↑v ∧
      s.tensor.raising = some w) :=
  ⟨⟨.mbx 0 31, adm 0x0121 [4] live, reqOf (adm 0x0121 [4] live), (by unfold Ready; decide +kernel)⟩,
   ⟨{ live with tensor := { Tensor.init with target := some 4 } }, 4, (by decide +kernel)⟩,
   ⟨live, (by decide +kernel)⟩,
   ⟨{ live with tensor := { Tensor.init with passes := [⟨7, 15, 255, false, goodPass, heldCells goodPass⟩] } }, (by decide +kernel)⟩,
   ⟨{ live with aon := { AlwaysOn.init with tables := mainRails }, tensor := { Tensor.init with raising := some 4 } }, 23, 4, (by decide +kernel)⟩⟩

theorem witness_FansSpinUpAndAreSupervised :
    (∃ (o : Origin) (s : State) (c : Ctx),
      Ready 1808 (fixed Latency.management) fanFloorSetChecks o s c) ∧
    (∃ (o : Origin) (s : State) (c : Ctx),
      Ready 1809 (fixed Latency.management) fanRestartChecks o s c) ∧
    (∃ (o : Origin) (s : State) (c : Ctx),
      Ready 1810 (fixed Latency.management) noChecks o s c) ∧
    (∃ (i : Fin 12) (s : State) (final : Bool) (f : Fan),
      f = fan s ↑i ∧
      f.state = 2 ∧
      f.pulse = false) ∧
    (∃ (i : Fin 12) (s : State) (final : Bool) (f : Fan),
      f = fan s ↑i ∧
      f.state = 4 ∧
      f.pulse = false) ∧
    (∃ (i : Fin 12) (s : State) (final : Bool) (f : Fan),
      f = fan s ↑i ∧
      (f.state = 2 ∨ f.state = 4) ∧
      f.pulse = true ∧
      reachedSpeed f = true) ∧
    (∃ (i : Fin 12) (s : State) (final : Bool) (f : Fan),
      f = fan s ↑i ∧
      f.state = 3) ∧
    (∃ (i : Fin 12) (s : State) (final : Bool) (f : Fan) (rpm : Nat),
      f = fan s ↑i ∧
      (fanCfg s ↑i).used = true ∧
      f.state = 5) ∧
    (∃ (i : Fin 12) (s : State) (final : Bool) (f : Fan),
      f = fan s ↑i ∧
      f.state = 5 ∧
      0 < commandedDuty s ↑i) ∧
    (∃ (i : Fin 12) (s : State) (final : Bool) (f : Fan) (m : Nat),
      f = fan s ↑i ∧
      f.state = 6 ∧
      f.lasting = false ∧
      f.fastFrom = some m ∧
      m + 1000000000 ≤ f.lostAt + 10000000000) ∧
    (∃ (i : Fin 12) (s : State) (final : Bool) (f : Fan),
      f = fan s ↑i ∧
      f.state = 6 ∧
      f.lasting = false) :=
  ⟨⟨.mbx 0 31, adm 0x0710 ([11, 0] ++ le 2 1000) (onBoard live), reqOf (adm 0x0710 ([11, 0] ++ le 2 1000) (onBoard live)), (by unfold Ready; decide +kernel)⟩,
   ⟨.mbx 0 31, adm 0x0711 [11] (withFan (fun f => { f with state := 7 }) (onBoard live)), reqOf (adm 0x0711 [11] (withFan (fun f => { f with state := 7 }) (onBoard live))), (by unfold Ready; decide +kernel)⟩,
   ⟨.mbx 0 31, adm 0x0712 [] live, reqOf (adm 0x0712 [] live), (by unfold Ready; decide +kernel)⟩,
   ⟨11, withFan (fun f => { f with state := 2 }) (onBoard live), true, fan (withFan (fun f => { f with state := 2 }) (onBoard live)) 11, (by decide +kernel)⟩,
   ⟨11, withFan (fun f => { f with state := 4 }) (onBoard live), true, fan (withFan (fun f => { f with state := 4 }) (onBoard live)) 11, (by decide +kernel)⟩,
   ⟨11, withFan (fun f => { f with state := 4, pulse := true, fastFrom := some 5000000000 }) (onBoard live), true, fan (withFan (fun f => { f with state := 4, pulse := true, fastFrom := some 5000000000 }) (onBoard live)) 11, (by decide +kernel)⟩,
   ⟨11, withFan (fun f => { f with state := 3 }) (onBoard live), true, fan (withFan (fun f => { f with state := 3 }) (onBoard live)) 11, (by decide +kernel)⟩,
   ⟨11, withFan (fun f => { f with state := 5 }) (onBoard live), true, fan (withFan (fun f => { f with state := 5 }) (onBoard live)) 11, 3000, (by decide +kernel)⟩,
   ⟨11, withFan (fun f => { f with state := 5 }) (onBoard live), true, fan (withFan (fun f => { f with state := 5 }) (onBoard live)) 11, (by decide +kernel)⟩,
   ⟨11, withFan (fun f => { f with state := 6, fastFrom := some 9000000000 }) (onBoard live), true, fan (withFan (fun f => { f with state := 6, fastFrom := some 9000000000 }) (onBoard live)) 11, 9000000000, (by decide +kernel)⟩,
   ⟨11, withFan (fun f => { f with state := 6 }) (onBoard live), true, fan (withFan (fun f => { f with state := 6 }) (onBoard live)) 11, (by decide +kernel)⟩⟩

theorem witness_ThermalPlanActsOnReadings :
    (∃ (i : Fin 16) (s : State) (r : Int),
      ↑i < s.aon.tables.boardAddresses.length ∧
      noTraffic s 1 (s.aon.tables.boardAddresses.getD (↑i) 0) = false) ∧
    (∃ (i : Fin 16) (s : State),
      ↑i < s.aon.tables.boardAddresses.length) ∧
    (∃ (dieA : List Int) (dieB : List Int) (s : State) (s1 : State),
      s.aon.tables.rows ≠ [] ∧
      s.faults.safeState = false ∧
      s1 = { s with aon := { s.aon with thermal := { s.aon.thermal with dieA := dieA, dieB := dieB } } }) ∧
    (∃ (o : Origin) (s : State) (c : Ctx),
      Ready 1840 (fixed Latency.management) noChecks o s c) :=
  ⟨⟨15, onBoard live, 127, (by decide +kernel)⟩,
   ⟨15, onBoard live, (by decide +kernel)⟩,
   ⟨List.replicate 8 45, List.replicate 8 45, onBoard live, { onBoard live with aon := { (onBoard live).aon with thermal := { (onBoard live).aon.thermal with dieA := List.replicate 8 45, dieB := List.replicate 8 45 } } }, (by decide +kernel)⟩,
   ⟨.mbx 0 31, adm 0x0730 [] live, reqOf (adm 0x0730 [] live), (by unfold Ready; decide +kernel)⟩⟩

theorem witness_AxisCommandsAreTaken :
    (∃ (o : Origin) (s : State) (c : Ctx) (n : Nat),
      n = c.u 0 1 ∧
      Ready 1824 (fixed Latency.management) axisTargetChecks o s c) ∧
    (∃ (o : Origin) (s : State) (c : Ctx) (n : Nat),
      n = c.u 0 1 ∧
      Ready 1825 (fixed Latency.management) axisLimitsChecks o s c) ∧
    (∃ (o : Origin) (s : State) (c : Ctx) (n : Nat),
      n = c.u 0 1 ∧
      Ready 1826 (fixed Latency.management) axisModeChecks o s c) ∧
    (∃ (o : Origin) (s : State) (c : Ctx) (n : Nat),
      n = c.u 0 1 ∧
      Ready 1827 (fixed Latency.management) axisHomeChecks o s c) ∧
    (∃ (o : Origin) (s : State) (c : Ctx) (n : Nat),
      n = c.u 0 1 ∧
      Ready 1828 (fixed Latency.management) axisReleaseChecks o s c ∧
      begun s o = false) ∧
    (∃ (o : Origin) (s : State) (c : Ctx) (n : Nat),
      n = c.u 0 1 ∧
      Ready 1829 (fixed Latency.management) axisStatusChecks o s c) :=
  ⟨⟨.mbx 0 31, adm 0x0720 ([3, 0, 0, 0] ++ le 4 1000) (withAxis (fun x => { x with state := 2 }) (onBoard live)), reqOf (adm 0x0720 ([3, 0, 0, 0] ++ le 4 1000) (withAxis (fun x => { x with state := 2 }) (onBoard live))), 3, (by unfold Ready; decide +kernel)⟩,
   ⟨.mbx 0 31, adm 0x0721 ([3, 0, 0, 0] ++ le 4 0xFFFFFFFF ++ le 4 1) (withAxis (fun x => { x with state := 2 }) (onBoard live)), reqOf (adm 0x0721 ([3, 0, 0, 0] ++ le 4 0xFFFFFFFF ++ le 4 1) (withAxis (fun x => { x with state := 2 }) (onBoard live))), 3, (by unfold Ready; decide +kernel)⟩,
   ⟨.mbx 0 31, adm 0x0722 [3, 1] (onBoard live), reqOf (adm 0x0722 [3, 1] (onBoard live)), 3, (by unfold Ready; decide +kernel)⟩,
   ⟨.mbx 0 31, adm 0x0723 [3] (onBoard live), reqOf (adm 0x0723 [3] (onBoard live)), 3, (by unfold Ready; decide +kernel)⟩,
   ⟨.mbx 0 31, adm 0x0724 [3] (withAxis (fun x => { x with state := 7 }) (onBoard live)), reqOf (adm 0x0724 [3] (withAxis (fun x => { x with state := 7 }) (onBoard live))), 3, (by unfold Ready; decide +kernel)⟩,
   ⟨.mbx 0 31, adm 0x0725 [3] (onBoard live), reqOf (adm 0x0725 [3] (onBoard live)), 3, (by unfold Ready; decide +kernel)⟩⟩

theorem witness_AxesMoveHomeAndRecover :
    (∃ (i : Fin 4) (s : State) (x : Axis) (sin : Int) (cos : Int) (angle : Fin 4096),
      x = axis s ↑i ∧
      (axisCfg s ↑i).used = true ∧
      x.state ≠ 3 ∧
      x.badAmplitude = 0 ∧
      x.badFollowing = 0) ∧
    (∃ (i : Fin 4) (s : State) (x : Axis) (pos : Int) (vel : Int) (acc : Int),
      x = axis s ↑i ∧
      x.state = 1 ∧
      (axisCfg s ↑i).used = true ∧
      x.enable = true ∧
      s.faults.safeState = false ∧
      updateAllowed (axisCfg s ↑i) x pos vel acc = true) ∧
    (∃ (i : Fin 4) (s : State) (x : Axis) (pos : Int) (vel : Int) (acc : Int),
      x = axis s ↑i ∧
      x.state = 1 ∧
      updateAllowed (axisCfg s ↑i) x pos vel acc = false) ∧
    (∃ (i : Fin 4) (s : State) (x : Axis) (sin : Int) (cos : Int) (angle : Fin 4096),
      x = axis s ↑i ∧
      x.state = 1 ∧
      x.enable = true ∧
      0 < sin ∧
      0 < cos ∧
      x.planDriven = false ∧
      x.release = none) ∧
    (∃ (i : Fin 4) (s : State) (x : Axis),
      x = axis s ↑i ∧
      x.state = 1 ∧
      x.enable = true ∧
      x.attempt = 1 ∧
      x.fromFault = false ∧
      x.release = none) ∧
    (∃ (i : Fin 4) (s : State) (x : Axis),
      x = axis s ↑i ∧
      x.state = 1 ∧
      x.enable = true ∧
      x.attempt ≠ 1) ∧
    (∃ (i : Fin 4) (s : State) (x : Axis),
      x = axis s ↑i ∧
      x.state = 1 ∧
      x.enable = false ∧
      x.attempt = 2) ∧
    (∃ (i : Fin 4) (s : State) (x : Axis),
      x = axis s ↑i ∧
      x.state = 6 ∧
      x.passFrom = none) ∧
    (∃ (i : Fin 4) (s : State) (x : Axis) (m : Nat),
      x = axis s ↑i ∧
      x.state = 6 ∧
      x.passFrom = some m ∧
      m + 100000000 ≤ x.faultAt + 1000000000) ∧
    (∃ (i : Fin 4) (s : State) (x : Axis),
      x = axis s ↑i ∧
      x.state = 2 ∧
      x.velocity = 0 ∧
      x.calibrate = true) :=
  ⟨⟨3, withAxis (fun x => { x with state := 4 }) (onBoard live), axis (withAxis (fun x => { x with state := 4 }) (onBoard live)) 3, 1000, 0, 4095, (by decide +kernel)⟩,
   ⟨3, withAxis (fun x => { x with state := 1, enable := true }) (onBoard live), axis (withAxis (fun x => { x with state := 1, enable := true }) (onBoard live)) 3, 0, 0, 0, (by decide +kernel)⟩,
   ⟨3, withAxis (fun x => { x with state := 1, enable := true }) (onBoard live), axis (withAxis (fun x => { x with state := 1, enable := true }) (onBoard live)) 3, 0, 1001, 0, (by decide +kernel)⟩,
   ⟨3, withAxis (fun x => { x with state := 1, enable := true }) (onBoard live), axis (withAxis (fun x => { x with state := 1, enable := true }) (onBoard live)) 3, 1, 1, 4095, (by decide +kernel)⟩,
   ⟨3, withAxis (fun x => { x with state := 1, enable := true }) (onBoard live), axis (withAxis (fun x => { x with state := 1, enable := true }) (onBoard live)) 3, (by decide +kernel)⟩,
   ⟨3, withAxis (fun x => { x with state := 1, enable := true, attempt := 2 }) (onBoard live), axis (withAxis (fun x => { x with state := 1, enable := true, attempt := 2 }) (onBoard live)) 3, (by decide +kernel)⟩,
   ⟨3, withAxis (fun x => { x with state := 1, attempt := 2 }) (onBoard live), axis (withAxis (fun x => { x with state := 1, attempt := 2 }) (onBoard live)) 3, (by decide +kernel)⟩,
   ⟨3, withAxis (fun x => { x with state := 6 }) (onBoard live), axis (withAxis (fun x => { x with state := 6 }) (onBoard live)) 3, (by decide +kernel)⟩,
   ⟨3, withAxis (fun x => { x with state := 6, passFrom := some 900000000 }) (onBoard live), axis (withAxis (fun x => { x with state := 6, passFrom := some 900000000 }) (onBoard live)) 3, 900000000, (by decide +kernel)⟩,
   ⟨3, withAxis (fun x => { x with state := 2, calibrate := true }) (onBoard live), axis (withAxis (fun x => { x with state := 2, calibrate := true }) (onBoard live)) 3, (by decide +kernel)⟩⟩

theorem witness_PowerSequenceRuns :
    (∃ (s : State) (i : Fin 48) (v : Nat),
      v = (seqStep s ↑i).rail ∧
      sequencing s = true ∧
      s.aon.seq.step = ↑i ∧
      s.aon.seq.acted = false ∧
      v < 24 ∧
      bit (seqStep s ↑i).flags 0 = true ∧
      bit (seqStep s ↑i).flags 1 = false ∧
      (railCfg s v).nominal ≠ 0) ∧
    (∃ (s : State) (i : Fin 48) (v : Nat) (mv : Nat),
      v = (seqStep s ↑i).rail ∧
      sequencing s = true ∧
      s.aon.seq.step = ↑i ∧
      s.aon.seq.acted = true ∧
      s.aon.seq.proof = none ∧
      v < 24 ∧
      windowSide (railCfg s v) (railCfg s v).nominal mv = 0 ∧
      bit (seqStep s ↑i).flags 2 = false) ∧
    (∃ (s : State) (i : Fin 48) (v : Nat),
      v = (seqStep s ↑i).rail ∧
      sequencing s = true ∧
      s.aon.seq.step = ↑i ∧
      s.aon.seq.acted = true ∧
      s.aon.seq.proof = none ∧
      s.aon.seq.attempt = 1) ∧
    (∃ (s : State) (i : Fin 48) (v : Nat) (to_ : DownTo) (j : Nat) (rest : List Nat),
      v = (seqStep s ↑i).rail ∧
      s.aon.seq.down = some to_ ∧
      s.aon.seq.done = ↑i :: j :: rest ∧
      (seqStep s j).rail < 24) ∧
    (∃ (s : State) (i : Fin 48) (v : Nat),
      v = (seqStep s ↑i).rail ∧
      s.aon.seq.state = SeqState.retry ∧
      s.aon.seq.down = none) ∧
    (∃ (s : State) (i : Fin 48) (v : Nat) (w : Fin 24) (r : RailRun),
      v = (seqStep s ↑i).rail ∧
      (rail s ↑w).run = some r ∧
      r.stage = 3) ∧
    (∃ (s : State) (i : Fin 48) (v : Nat) (w : Fin 24) (m : Nat),
      v = (seqStep s ↑i).rail ∧
      (rail s ↑w).proving = some m) ∧
    (∃ (s : State) (i : Fin 48) (v : Nat),
      v = (seqStep s ↑i).rail ∧
      s.aon.seq.state = SeqState.on ∧
      s.aon.seq.proof = none ∧
      s.aon.seq.down = none ∧
      (List.filter (fun m => decide (s.now < m + 60000000000)) s.aon.seq.collapses).length < 2) ∧
    (∃ (s : State) (i : Fin 48) (v : Nat),
      v = (seqStep s ↑i).rail ∧
      s.aon.seq.state = SeqState.collapsed ∧
      s.boot.scanStopped = false) ∧
    (∃ (s : State) (i : Fin 48) (v : Nat) (m : Nat) (rest : List Nat),
      v = (seqStep s ↑i).rail ∧
      s.aon.seq.collapses = m :: rest) :=
  ⟨⟨withSeq (fun q => { q with state := .sequencing, step := 23 }) (onBoard live), 23, 23, (by decide +kernel)⟩,
   ⟨withSeq (fun q => { q with state := .sequencing, step := 23, acted := true }) (onBoard live), 23, 23, 1050, (by decide +kernel)⟩,
   ⟨withSeq (fun q => { q with state := .sequencing, step := 23, acted := true }) (onBoard live), 23, 23, (by decide +kernel)⟩,
   ⟨withSeq (fun q => { q with done := [23, 22], down := some .off }) (onBoard live), 23, 23, .off, 22, [], (by decide +kernel)⟩,
   ⟨withSeq (fun q => { q with state := .retry }) (onBoard live), 47, 31, (by decide +kernel)⟩,
   ⟨withRail (fun r => { r with run := some ⟨3, 0, 1, none⟩ }) (onBoard live), 47, 31, 23, ⟨3, 0, 1, none⟩, (by decide +kernel)⟩,
   ⟨withRail (fun r => { r with proving := some 2000000000 }) (onBoard live), 47, 31, 23, 2000000000, (by decide +kernel)⟩,
   ⟨onBoard live, 47, 31, (by decide +kernel)⟩,
   ⟨withSeq (fun q => { q with state := .collapsed }) (onBoard live), 47, 31, (by decide +kernel)⟩,
   ⟨withSeq (fun q => { q with collapses := [1, 2] }) (onBoard live), 47, 31, 1, [2], (by decide +kernel)⟩⟩

theorem witness_RailsAreSwitchedSupervisedAndReported :
    (∃ (o : Origin) (s : State) (c : Ctx) (v : Nat),
      v = c.u 0 1 ∧
      begun s o = false ∧
      Ready 1793 railSwitchBudget railSwitchChecks o s c ∧
      (c.u 1 1 = 1 ↔ (rail s v).enabled = true)) ∧
    (∃ (o : Origin) (s : State) (c : Ctx) (v : Nat),
      v = c.u 0 1 ∧
      begun s o = false ∧
      Ready 1793 railSwitchBudget railSwitchChecks o s c ∧
      c.u 1 1 = 1 ∧
      (rail s v).enabled = false) ∧
    (∃ (o : Origin) (s : State) (c : Ctx) (v : Nat),
      v = c.u 0 1 ∧
      begun s o = false ∧
      Ready 1793 railSwitchBudget railSwitchChecks o s c ∧
      c.u 1 1 ≠ 1 ∧
      (rail s v).enabled = true) ∧
    (∃ (o : Origin) (s : State) (c : Ctx) (v : Nat),
      v = c.u 0 1 ∧
      begun s o = false ∧
      Ready 1794 fenceReleaseBudget railFenceReleaseChecks o s c) ∧
    (∃ (o : Origin) (s : State) (c : Ctx) (v : Nat),
      v = c.u 0 1 ∧
      begun s o = false ∧
      Ready 1795 (fixed Latency.management) powerRequestChecks o s c ∧
      c.twt = false ∧
      v = 1) ∧
    (∃ (o : Origin) (s : State) (c : Ctx) (v : Nat),
      v = c.u 0 1 ∧
      begun s o = false ∧
      Ready 1795 (fixed Latency.management) powerRequestChecks o s c ∧
      c.twt = false ∧
      v = 2) ∧
    (∃ (o : Origin) (s : State) (c : Ctx) (v : Nat),
      v = c.u 0 1 ∧
      begun s o = false ∧
      Ready 1796 (fixed Latency.management) restartChecks o s c) ∧
    (∃ (o : Origin) (s : State) (c : Ctx) (v : Nat),
      v = c.u 0 1 ∧
      begun s o = false ∧
      Ready 1797 (fixed Latency.management) snapshotReadChecks o s c) ∧
    (∃ (p : Fin 32) (k : Fin 32) (s : State),
      (slotAt s ↑p ↑k).phase = Phase.free ∧
      s.boot.powerDownDue = 1) ∧
    (∃ (p : Fin 32) (k : Fin 32) (s : State),
      (slotAt s ↑p ↑k).phase = Phase.free ∧
      s.boot.powerDownDue = 2) ∧
    (∃ (v : Fin 24) (s : State),
      supervised s ↑v = true ∧
      s.aon.seq.state = SeqState.on ∧
      s.aon.seq.down = none ∧
      s.aon.seq.proof = none ∧
      s.aon.seq.proving = none ∧
      (rail s ↑v).proving = none ∧
      (railCfg s ↑v).response = 1 ∧
      (railCfg s ↑v).main = false) ∧
    (∃ (v : Fin 24) (s : State),
      supervised s ↑v = false) ∧
    (∃ (v : Fin 24) (s : State) (a : List Nat) (b : List Nat) (vinA : Nat) (vinB : Nat),
      (∀ w < 24, supervised s w = false)) ∧
    (∃ (v : Fin 24) (s : State) (addr : Nat × Nat) (mv : Nat) (current : BitVec 16),
      (railCfg s ↑v).pmbus = some addr ∧
      supervised s ↑v = true ∧
      noTraffic s 0 addr.1 = false ∧
      railSide s (↑v) mv = 0) ∧
    (∃ (v : Fin 24) (s : State) (sensor : Fin 33),
      sensor.val = 8 + v.val ∧
      converterInItem s 0 = false ∧
      converterInItem s 1 = false) :=
  ⟨⟨.mbx 0 31, adm 0x0701 [23, 0] (onBoard live), reqOf (adm 0x0701 [23, 0] (onBoard live)), 23, (by unfold Ready; decide +kernel)⟩,
   ⟨.mbx 0 31, adm 0x0701 [23, 1] (onBoard live), reqOf (adm 0x0701 [23, 1] (onBoard live)), 23, (by unfold Ready; decide +kernel)⟩,
   ⟨.mbx 0 31, adm 0x0701 [23, 0] (withRail (fun r => { r with enabled := true }) (onBoard live)), reqOf (adm 0x0701 [23, 0] (withRail (fun r => { r with enabled := true }) (onBoard live))), 23, (by unfold Ready; decide +kernel)⟩,
   ⟨.mbx 0 31, adm 0x0702 [23] (withRail (fun r => { r with fenced := true }) (onBoard live)), reqOf (adm 0x0702 [23] (withRail (fun r => { r with fenced := true }) (onBoard live))), 23, (by unfold Ready; decide +kernel)⟩,
   ⟨.mbx 0 31, adm 0x0703 [1] (onBoard live), reqOf (adm 0x0703 [1] (onBoard live)), 1, (by unfold Ready; decide +kernel)⟩,
   ⟨.mbx 0 31, adm 0x0703 [2] (onBoard live), reqOf (adm 0x0703 [2] (onBoard live)), 2, (by unfold Ready; decide +kernel)⟩,
   ⟨.twt, withTwt (le 2 0x0704 ++ le 6 0) (withSeq (fun q => { q with state := .heldOff }) (onBoard live)), twtCtx (le 2 0x0704 ++ le 6 0), 0, (by unfold Ready; decide +kernel)⟩,
   ⟨.mbx 0 31, adm 0x0705 (le 2 480 ++ [1]) (onBoard live), reqOf (adm 0x0705 (le 2 480 ++ [1]) (onBoard live)), 0xE0, (by unfold Ready; decide +kernel)⟩,
   ⟨31, 31, { live with boot := { started with powerDownDue := 1 } }, (by decide +kernel)⟩,
   ⟨31, 31, { live with boot := { started with powerDownDue := 2 } }, (by decide +kernel)⟩,
   ⟨23, withRail (fun r => { r with enabled := true, status := 2 }) (onBoard live), (by decide +kernel)⟩,
   ⟨23, onBoard live, (by decide +kernel)⟩,
   ⟨23, onBoard live, List.replicate 24 1000, List.replicate 24 1000, 12000, 12000, (by decide +kernel)⟩,
   ⟨23, withRail (fun r => { r with enabled := true, status := 2 }) (onBoard live), (23, 0), 1050, 0xFFFF, (by decide +kernel)⟩,
   ⟨23, onBoard live, 31, (by decide +kernel)⟩⟩

theorem witness_CalibrationRunsStartAndEnd :
    (∃ (o : Origin) (s : State) (c : Ctx),
      Ready 2561 calibrationRunBudget calibrationRunChecks o s c ∧
      begun s o = false ∧
      c.u 0 2 < 32) ∧
    (∃ (o : Origin) (s : State) (c : Ctx),
      Ready 1542 (fixed Latency.management) tamperLimitsSetChecks o s c) ∧
    (∃ (s : State),
      managementRuns s = true ∧
      s.aon.cal.run = none) ∧
    (∃ (s : State),
      managementRuns s = true ∧
      s.aon.cal.run.isSome = true) ∧
    (∃ (s : State),
      managementRuns s = true ∧
      s.aon.cal.run = none ∧
      30 < (dieTemperature s - s.aon.cal.item3Temp).natAbs) ∧
    (∃ (n : Fin 9) (m : List Int) (s : State) (r : CalRun),
      s.aon.cal.run = some r ∧
      firstItem r.left = ↑n ∧
      ↑n < 5 ∧
      itemPasses s (↑n) m = true) ∧
    (∃ (n : Fin 9) (m : List Int) (s : State) (r : CalRun),
      s.aon.cal.run = some r ∧
      firstItem r.left = ↑n ∧
      ↑n < 5 ∧
      itemPasses s (↑n) m = false ∧
      r.attempt = 1) ∧
    (∃ (i : Fin 4) (sin : Int) (cos : Int) (amplitude : Nat) (s : State),
      (axis s ↑i).state = 3 ∧
      s.aon.cal.run = none ∧
      inTrimRange sin = true ∧
      inTrimRange cos = true ∧
      (axisCfg s ↑i).amplitude ≤ 2 * amplitude ∧
      amplitude ≤ 2 * (axisCfg s ↑i).amplitude ∧
      (axis s ↑i).queued = none) ∧
    (∃ (i : Fin 4) (sin : Int) (cos : Int) (amplitude : Nat) (s : State),
      (axis s ↑i).state = 3 ∧
      inTrimRange sin = false ∧
      (axis s ↑i).frontEndTries = 0) :=
  ⟨⟨.mbx 0 31, adm 0x0A01 (le 2 31) live, reqOf (adm 0x0A01 (le 2 31) live), (by unfold Ready; decide +kernel)⟩,
   ⟨.mbx 0 31, adm 0x0606 [0xE2, 110] live, reqOf (adm 0x0606 [0xE2, 110] live), (by unfold Ready; decide +kernel)⟩,
   ⟨live, (by decide +kernel)⟩,
   ⟨withCal ⟨31, 31, 1, 0, 0, 0, false, true, none⟩ live, (by decide +kernel)⟩,
   ⟨{ live with aon := { AlwaysOn.init with cal := { Calibration.init with item3Temp := 31 } } }, (by decide +kernel)⟩,
   ⟨3, List.replicate 16 127, withCal ⟨8, 8, 1, 0, 0, 0, false, true, none⟩ live, ⟨8, 8, 1, 0, 0, 0, false, true, none⟩, (by decide +kernel)⟩,
   ⟨3, List.replicate 16 128, withCal ⟨8, 8, 1, 0, 0, 0, false, true, none⟩ live, ⟨8, 8, 1, 0, 0, 0, false, true, none⟩, (by decide +kernel)⟩,
   ⟨3, 127, -128, 500, withAxis (fun x => { x with state := 3 }) (onBoard live), (by decide +kernel)⟩,
   ⟨3, 128, -128, 500, withAxis (fun x => { x with state := 3 }) (onBoard live), (by decide +kernel)⟩⟩

theorem witness_KeySlotsHoldTheirKeys :
    (∃ (o : Origin) (s : State) (c : Ctx) (i : Nat) (key : List Byte),
      Ready 1281 (fixed Latency.control) keyInstallChecks o s c ∧
      freeSlotIndex s = some i ∧
      unwrapKey s (slice c.body 8 (c.u 4 1)) = some key ∧
      xtsEqual (c.u 1 1) key = false) ∧
    (∃ (o : Origin) (s : State) (c : Ctx),
      Ready 1281 (fixed Latency.control) keyInstallChecks o s c ∧
      unwrapKey s (slice c.body 8 (c.u 4 1)) = none) ∧
    (∃ (o : Origin) (s : State) (c : Ctx) (i : Nat),
      Ready 1282 (fixed Latency.control) keyGenerateChecks o s c ∧
      freeSlotIndex s = some i) ∧
    (∃ (o : Origin) (s : State) (c : Ctx) (k : KeySlot),
      Ready 1283 (fixed Latency.control) keyReplaceChecks o s c ∧
      slotAny s (c.u 0 4) = some k ∧
      c.u 12 1 = 0) ∧
    (∃ (o : Origin) (s : State) (c : Ctx) (k : KeySlot) (key : List Byte),
      Ready 1283 (fixed Latency.control) keyReplaceChecks o s c ∧
      slotAny s (c.u 0 4) = some k ∧
      c.u 12 1 ≠ 0 ∧
      unwrapKey s (slice c.body 16 (c.u 13 1)) = some key ∧
      xtsEqual (c.u 12 1) key = false) ∧
    (∃ (o : Origin) (s : State) (c : Ctx),
      Ready 1284 (fixed Latency.immediate) ownSlotChecks o s c) ∧
    (∃ (o : Origin) (s : State) (c : Ctx) (k : KeySlot),
      Ready 1285 (fixed Latency.immediate) keyQueryChecks o s c ∧
      keySlotOf s c.p (c.u 0 4) = some k) ∧
    (∃ (o : Origin) (s : State) (c : Ctx),
      Ready 1286 (fixed Latency.control) ownReplaceChecks o s c ∧
      c.u 13 1 = 0) ∧
    (∃ (o : Origin) (s : State) (c : Ctx) (key : List Byte),
      Ready 1286 (fixed Latency.control) ownReplaceChecks o s c ∧
      c.u 13 1 ≠ 0 ∧
      unwrapKey s (slice c.body 16 (c.u 13 1)) = some key ∧
      xtsEqual (c.u 12 1) key = false) :=
  ⟨⟨.mbx 0 31, adm 0x0501 ([0, 3] ++ le 2 3 ++ [40, 0, 0, 0] ++ wrapped) (withAkek live), reqOf (adm 0x0501 ([0, 3] ++ le 2 3 ++ [40, 0, 0, 0] ++ wrapped) (withAkek live)), 0, List.replicate 32 0x11, (by unfold Ready; decide +kernel), (by decide +kernel), unwraps_with _ _ (by decide +kernel) (by decide +kernel), (by decide +kernel)⟩,
   ⟨.mbx 0 31, adm 0x0501 ([0, 1] ++ le 2 3 ++ [24, 0, 0, 0] ++ le 24 0) (withAkek live), reqOf (adm 0x0501 ([0, 1] ++ le 2 3 ++ [24, 0, 0, 0] ++ le 24 0) (withAkek live)), (by unfold Ready; decide +kernel)⟩,
   ⟨.mbx 0 31, adm 0x0502 ([5, 0] ++ le 2 0x13) live, reqOf (adm 0x0502 ([5, 0] ++ le 2 0x13) live), 0, (by unfold Ready; decide +kernel)⟩,
   ⟨.mbx 0 31, adm 0x0503 (le 4 0 ++ le 8 0 ++ le 4 0) (withKey 3 1 (le 32 0) live), reqOf (adm 0x0503 (le 4 0 ++ le 8 0 ++ le 4 0) (withKey 3 1 (le 32 0) live)), ⟨0, 3, 1, le 32 0⟩, (by unfold Ready; decide +kernel)⟩,
   ⟨.mbx 0 31, adm 0x0503 (le 4 0 ++ le 8 0 ++ [3, 40, 3, 0] ++ wrapped) (withKey 3 1 (le 32 0) (withAkek live)), reqOf (adm 0x0503 (le 4 0 ++ le 8 0 ++ [3, 40, 3, 0] ++ wrapped) (withKey 3 1 (le 32 0) (withAkek live))), ⟨0, 3, 1, le 32 0⟩, List.replicate 32 0x11, (by unfold Ready; decide +kernel), (by decide +kernel), (by decide +kernel), unwraps_with _ _ (by decide +kernel) (by decide +kernel), (by decide +kernel)⟩,
   ⟨.mbx 0 31, adm 0x0504 (le 12 0) (withKey 3 1 (le 32 0) live), reqOf (adm 0x0504 (le 12 0) (withKey 3 1 (le 32 0) live)), (by unfold Ready; decide +kernel)⟩,
   ⟨.mbx 0 31, adm 0x0505 (le 4 0) (withKey 3 1 (le 32 0) live), reqOf (adm 0x0505 (le 4 0) (withKey 3 1 (le 32 0) live)), ⟨0, 3, 1, le 32 0⟩, (by unfold Ready; decide +kernel)⟩,
   ⟨.mbx 0 31, adm 0x0506 (le 4 0 ++ le 8 0 ++ [3, 0, 1, 0]) (withKey 3 1 (le 32 0) live), reqOf (adm 0x0506 (le 4 0 ++ le 8 0 ++ [3, 0, 1, 0]) (withKey 3 1 (le 32 0) live)), (by unfold Ready; decide +kernel)⟩,
   ⟨.mbx 0 31, adm 0x0506 (le 4 0 ++ le 8 0 ++ [3, 40, 3, 0] ++ wrapped) (withKey 3 1 (le 32 0) (withAkek live)), reqOf (adm 0x0506 (le 4 0 ++ le 8 0 ++ [3, 40, 3, 0] ++ wrapped) (withKey 3 1 (le 32 0) (withAkek live))), List.replicate 32 0x11, (by unfold Ready; decide +kernel), (by decide +kernel), unwraps_with _ _ (by decide +kernel) (by decide +kernel), (by decide +kernel)⟩⟩

theorem witness_CipherAndAdministratorKeysWork :
    (∃ (o : Origin) (s : State) (c : Ctx) (aadHost : List Byte) (inputHost : List Byte) (aad : List Byte) (input : List Byte) (e : Nat) (k : KeySlot) (bytes : List Byte) (tag : List Byte),
      Ready 1296 cipherOperationBudget cipherChecks o s c ∧
      cipherEngine s = some e ∧
      keySlotOf s c.p (c.u 0 4) = some k ∧
      (descEmpty c 40 = false → descReadMeets s c.p (c.desc 40) = none) ∧
      (usesAad (c.u 4 1) = true → descEmpty c 24 = false → descReadMeets s c.p (c.desc 24) = none) ∧
      (hasOutput (c.u 4 1) = true → descEmpty c 56 = false → descWriteMeets s c.p (c.desc 56) = none) ∧
      quotaReached s c.p = false ∧
      (freeNumber s).isSome = true ∧
      (slotAt s c.p c.k).lostHop = none ∧
      (input = if descEmpty c 40 = true then [] else readDesc s c.p (c.desc 40) inputHost) ∧
      (aad = if (usesAad (c.u 4 1) && !descEmpty c 24) = true then readDesc s c.p (c.desc 24) aadHost else []) ∧
      cipherRun c k.key aad input = some (bytes, tag)) ∧
    (∃ (o : Origin) (s : State) (c : Ctx) (aadHost : List Byte) (inputHost : List Byte) (aad : List Byte) (input : List Byte) (e : Nat) (k : KeySlot),
      Ready 1296 cipherOperationBudget cipherChecks o s c ∧
      cipherEngine s = some e ∧
      keySlotOf s c.p (c.u 0 4) = some k ∧
      (descEmpty c 40 = false → descReadMeets s c.p (c.desc 40) = none) ∧
      (usesAad (c.u 4 1) = true → descEmpty c 24 = false → descReadMeets s c.p (c.desc 24) = none) ∧
      (hasOutput (c.u 4 1) = true → descEmpty c 56 = false → descWriteMeets s c.p (c.desc 56) = none) ∧
      quotaReached s c.p = false ∧
      (freeNumber s).isSome = true ∧
      (slotAt s c.p c.k).lostHop = none ∧
      (input = if descEmpty c 40 = true then [] else readDesc s c.p (c.desc 40) inputHost) ∧
      (aad = if (usesAad (c.u 4 1) && !descEmpty c 24) = true then readDesc s c.p (c.desc 24) aadHost else []) ∧
      cipherRun c k.key aad input = none) ∧
    (∃ (o : Origin) (s : State) (c : Ctx),
      Ready 1312 (fixed Latency.management) transportKeyGetChecks o s c) ∧
    (∃ (o : Origin) (s : State) (c : Ctx) (qe : List Byte) (q : List Byte),
      Ready 1313 (fixed Latency.management) (akekChecks qe) o s c ∧
      q = readDesc s c.p (c.desc 0) qe) ∧
    (∃ (o : Origin) (s : State) (c : Ctx) (key : List Byte),
      Ready 1314 (fixed Latency.control) receiptKeyChecks o s c ∧
      unwrapKey s (slice c.body 4 40) = some key ∧
      c.u 0 1 ≠ 0) ∧
    (∃ (o : Origin) (s : State) (c : Ctx) (key : List Byte),
      Ready 1314 (fixed Latency.control) receiptKeyChecks o s c ∧
      unwrapKey s (slice c.body 4 40) = some key ∧
      c.u 0 1 = 0) :=
  ⟨⟨.mbx 0 31, adm 0x0510 (le 4 0 ++ [3, 0, 32, 0] ++ le 32 0 ++ hostAt 1 ++ hostAt 1 ++ le 16 0) (withKey 1 1 (le 16 0) live), reqOf (adm 0x0510 (le 4 0 ++ [3, 0, 32, 0] ++ le 32 0 ++ hostAt 1 ++ hostAt 1 ++ le 16 0) (withKey 1 1 (le 16 0) live)), [], [0xFF], [], [0xFF], 0, ⟨0, 1, 1, le 16 0⟩, ctr (le 16 0) 32 (le 16 0) [0xFF], [], (by unfold Ready; decide +kernel)⟩,
   ⟨.mbx 0 31, adm 0x0510 (le 4 0 ++ [7, 0, 0, 0] ++ le 32 0 ++ hostAt 16 ++ hostAt 16 ++ le 16 0) (withKey 1 2 (le 16 0) live), reqOf (adm 0x0510 (le 4 0 ++ [7, 0, 0, 0] ++ le 32 0 ++ hostAt 16 ++ hostAt 16 ++ le 16 0) (withKey 1 2 (le 16 0) live)), [], le 16 0, [], le 16 0, 0, ⟨0, 1, 2, le 16 0⟩, (by unfold Ready; decide +kernel)⟩,
   ⟨.mbx 0 31, adm 0x0520 (hostAt 193) live, reqOf (adm 0x0520 (hostAt 193) live), (by unfold Ready; decide +kernel)⟩,
   ⟨.mbx 0 31, adm 0x0521 (hostAt 97 ++ le 8 0) live, reqOf (adm 0x0521 (hostAt 97 ++ le 8 0) live), pointBytes (some (baseX, baseY)), pointBytes (some (baseX, baseY)), (by unfold Ready; decide +kernel)⟩,
   ⟨.mbx 0 31, adm 0x0522 (le 4 31 ++ wrapped) (withAkek (setPart live 31 (fun q => { q with state := .active, port := 1 }))), reqOf (adm 0x0522 (le 4 31 ++ wrapped) (withAkek (setPart live 31 (fun q => { q with state := .active, port := 1 })))), List.replicate 32 0x11, (by unfold Ready; decide +kernel), unwraps_with _ _ (by decide +kernel) (by decide +kernel), (by decide +kernel)⟩,
   ⟨.mbx 0 31, adm 0x0522 (le 4 0 ++ wrapped) (withAkek live), reqOf (adm 0x0522 (le 4 0 ++ wrapped) (withAkek live)), List.replicate 32 0x11, (by unfold Ready; decide +kernel), unwraps_with _ _ (by decide +kernel) (by decide +kernel), (by decide +kernel)⟩⟩

theorem witness_TimeIsSetReadAndCaptured :
    (∃ (o : Origin) (s : State) (c : Ctx),
      Ready 1537 (fixed Latency.management) noChecks o s c) ∧
    (∃ (o : Origin) (s : State) (c : Ctx),
      Ready 1538 (fixed Latency.management) timeSetChecks o s c) ∧
    (∃ (o : Origin) (s : State) (c : Ctx),
      Ready 1539 (fixed Latency.management) trimSetChecks o s c) ∧
    (∃ (o : Origin) (s : State) (c : Ctx),
      Ready 1540 (fixed Latency.management) alarmSetChecks o s c) ∧
    (∃ (o : Origin) (s : State) (c : Ctx) (h : Channel),
      Ready 1541 (fixed Latency.management) timeStampReadChecks o s c ∧
      h = channelRead s (c.u 0 1)) ∧
    (∃ (o : Origin) (s : State) (c : Ctx),
      Ready 1543 (fixed Latency.management) backupRateSetChecks o s c) ∧
    (∃ (s : State) (gain : Int),
      vaultOn s = true) ∧
    (∃ (s : State),
      vaultOn s = true) ∧
    (∃ (s : State),
      vaultOn s = true ∧
      s.vault.trim = 0) ∧
    (∃ (s : State) (i : Fin 2) (rising : Bool),
      vaultOn s = true ∧
      (bit (s.vault.evtEdges.getD (↑i) 0) (if rising = true then 0 else 1) = true)) ∧
    (∃ (s : State) (i : Fin 2) (rising : Bool),
      vaultOn s = true ∧
      (bit (s.vault.evtEdges.getD (↑i) 0) (if rising = true then 0 else 1) = false)) :=
  ⟨⟨.mbx 0 31, adm 0x0601 [] live, reqOf (adm 0x0601 [] live), (by unfold Ready; decide +kernel)⟩,
   ⟨.mbx 0 31, adm 0x0602 (le 8 calendarEnd ++ le 2 32767) live, reqOf (adm 0x0602 (le 8 calendarEnd ++ le 2 32767) live), (by unfold Ready; decide +kernel)⟩,
   ⟨.mbx 0 31, adm 0x0603 (le 2 0xFF01) live, reqOf (adm 0x0603 (le 2 0xFF01) live), (by unfold Ready; decide +kernel)⟩,
   ⟨.mbx 0 31, adm 0x0604 ([3, 7] ++ le 14 0) live, reqOf (adm 0x0604 ([3, 7] ++ le 14 0) live), (by unfold Ready; decide +kernel)⟩,
   ⟨.mbx 0 31, adm 0x0605 [7, 1] live, reqOf (adm 0x0605 [7, 1] live), Channel.init, (by unfold Ready; decide +kernel)⟩,
   ⟨.mbx 0 31, adm 0x0607 [6] live, reqOf (adm 0x0607 [6] live), (by unfold Ready; decide +kernel)⟩,
   ⟨live, -1, (by decide +kernel)⟩,
   ⟨live, (by decide +kernel)⟩,
   ⟨live, (by decide +kernel)⟩,
   ⟨{ live with vault := { live.vault with evtEdges := [3, 3] } }, 1, false, (by decide +kernel)⟩,
   ⟨{ live with vault := { live.vault with evtEdges := [2, 2] } }, 1, true, (by decide +kernel)⟩⟩

theorem witness_VaultSuppliesComeAndGo :
    (∃ (s : State) (v : Bool),
      vaultOn s = false) ∧
    (∃ (s : State),
      s.vault.supply = Supply.main) ∧
    (∃ (s : State),
      s.vault.supply ≠ Supply.main) ∧
    (∃ (s : State),
      s.vault.supply = Supply.backup) ∧
    (∃ (s : State),
      s.vault.supply = Supply.returning) ∧
    (∃ (s : State) (m : Nat),
      s.vault.supply = Supply.returning ∧
      s.vault.returnFrom = some m) ∧
    (∃ (s : State) (mv : BitVec 16),
      s.boot.mainOn = true ∧
      mv.toNat < 2500) ∧
    (∃ (s : State) (mv : BitVec 16),
      (s.boot.mainOn = false ∨ 2500 ≤ mv.toNat)) ∧
    (∃ (s : State),
      vaultOn s = true) :=
  ⟨⟨State.reset, true, (by decide +kernel)⟩,
   ⟨live, (by decide +kernel)⟩,
   ⟨State.reset, (by decide +kernel)⟩,
   ⟨{ live with vault := { live.vault with supply := .backup } }, (by decide +kernel)⟩,
   ⟨{ live with vault := { live.vault with supply := .returning } }, (by decide +kernel)⟩,
   ⟨{ live with vault := { live.vault with supply := .returning, returnFrom := some 0 } }, 0, (by decide +kernel)⟩,
   ⟨live, 2499, (by decide +kernel)⟩,
   ⟨live, 2500, (by decide +kernel)⟩,
   ⟨live, (by decide +kernel)⟩⟩

theorem witness_TamperTripsZeroisesAndIsAcknowledged :
    (∃ (o : Origin) (s : State) (c : Ctx) (first : Bool),
      Ready 1544 (fixed Latency.management) (armingChecks first) o s c) ∧
    (∃ (o : Origin) (s : State) (c : Ctx) (passed : BitVec 6),
      Ready 1546 (fixed Latency.management) tamperSelfTestChecks o s c) ∧
    (∃ (o : Origin) (s : State) (c : Ctx),
      Ready 1547 (fixed Latency.management) tamperAcknowledgeChecks o s c) ∧
    (∃ (o : Origin) (s : State) (c : Ctx),
      Ready 1548 (fixed Latency.management) noChecks o s c) ∧
    (∃ (s : State) (tdA : Fin 3) (tdB : Int) (diffs : List (BitVec 16)) (failA : Fin 3) (failB : Fin 3),
      vaultOn s = true ∧
      (∀ i < 6, (source s i).arming ≠ Arming.armed)) ∧
    (∃ (s : State) (tdA : Fin 3) (tdB : Int) (diffs : List (BitVec 16)) (failA : Fin 3) (failB : Fin 3) (i : Nat),
      vaultOn s = true ∧
      i < 4 ∧
      (source s i).arming = Arming.armed ∧
      (source s i).receiverOff = false ∧
      (List.map (fun d => d.toNat) diffs).getD i 0 ≠ 0 ∧
      s.vault.tripped = false) ∧
    (∃ (s : State) (i : Fin 6),
      vaultOn s = true ∧
      sourceFused s ↑i = false ∧
      4 ≤ ↑i) ∧
    (∃ (s : State) (i : Fin 6),
      vaultOn s = true ∧
      sourceFused s ↑i = false) :=
  ⟨⟨.mbx 0 31, adm 0x0608 [3, 2, 1, 1] live, reqOf (adm 0x0608 [3, 2, 1, 1] live), true, (by unfold Ready; decide +kernel)⟩,
   ⟨.mbx 0 31, adm 0x060A [63] live, reqOf (adm 0x060A [63] live), 0x3F, (by unfold Ready; decide +kernel)⟩,
   ⟨.mbx 0 31, adm 0x060B [] { live with vault := { live.vault with tripped := true } }, reqOf (adm 0x060B [] { live with vault := { live.vault with tripped := true } }), (by unfold Ready; decide +kernel)⟩,
   ⟨.mbx 0 31, adm 0x060C [] live, reqOf (adm 0x060C [] live), (by unfold Ready; decide +kernel)⟩,
   ⟨live, 2, 40, [0, 0, 0, 0], 2, 2, (by decide +kernel)⟩,
   ⟨withSource { Source.init with arming := .armed } live, 2, 40, [0, 0, 0, 1], 2, 2, 3, (by decide +kernel)⟩,
   ⟨live, 5, (by decide +kernel)⟩,
   ⟨live, 5, (by decide +kernel)⟩⟩

theorem witness_LedgerGrowsAndIsReported :
    (∃ (o : Origin) (s : State) (c : Ctx),
      Ready 1552 (fixed Latency.management) noChecks o s c) ∧
    (∃ (o : Origin) (s : State) (c : Ctx),
      Ready 1553 (fixed Latency.management) ledgerReadChecks o s c ∧
      descWriteMeets s c.p { c.desc 8 with len := 32 * c.u 2 2 } = none) ∧
    (∃ (o : Origin) (s : State) (c : Ctx),
      Ready 1554 (fixed Latency.management) ledgerAttestChecks o s c) ∧
    (∃ (o : Origin) (s : State) (c : Ctx),
      Ready 1555 (fixed Latency.management) recordAppendChecks o s c ∧
      begun s o = false) ∧
    (∃ (s : State) (e : Staged) (rest : List Staged),
      s.boot.mainOn = true ∧
      s.vault.staging = e :: rest) :=
  ⟨⟨.mbx 0 31, adm 0x0610 [] live, reqOf (adm 0x0610 [] live), (by unfold Ready; decide +kernel)⟩,
   ⟨.mbx 0 31, adm 0x0611 (le 2 1 ++ le 6 1 ++ hostAt 32) { live with vault := { live.vault with ledger := [le 32 1] } }, reqOf (adm 0x0611 (le 2 1 ++ le 6 1 ++ hostAt 32) { live with vault := { live.vault with ledger := [le 32 1] } }), (by unfold Ready; decide +kernel)⟩,
   ⟨.mbx 0 31, adm 0x0612 (le 32 0 ++ hostAt 96) live, reqOf (adm 0x0612 (le 32 0 ++ hostAt 96) live), (by unfold Ready; decide +kernel)⟩,
   ⟨.mbx 0 31, adm 0x0613 [0, 0, 1, 0] live, reqOf (adm 0x0613 [0, 0, 1, 0] live), (by unfold Ready; decide +kernel)⟩,
   ⟨{ live with vault := { live.vault with staging := [⟨0, 0, 0, 0, 0, 0, true, none⟩] } }, ⟨0, 0, 0, 0, 0, 0, true, none⟩, [], (by decide +kernel)⟩⟩

theorem witness_NetworkPortsCarryFrames :
    (∃ (o : Origin) (s : State) (c : Ctx) (j : Nat) (host : List Byte) (f : List Byte),
      j = c.u 0 1 ∧
      Ready 779 frameTransmitBudget frameTransmitChecks o s c ∧
      begun s o = false ∧
      bit (c.u 1 1) 0 = false ∧
      descReadMeets s c.p (c.desc 8) = none ∧
      quotaReached s c.p = false ∧
      (freeNumber s).isSome = true ∧
      (slotAt s c.p c.k).lostHop = none ∧
      f = readDesc s c.p (c.desc 8) host ∧
      maySend s j (framePriority (netAt s j) f) = true ∧
      ((netAt s j).heldTx.any fun h => framePriority (netAt s j) h.2 == framePriority (netAt s j) f) = false ∧
      (List.any (netAt s j).macTx fun e => e.2.valid) = false) ∧
    (∃ (o : Origin) (s : State) (c : Ctx) (j : Nat) (host : List Byte) (f : List Byte),
      j = c.u 0 1 ∧
      Ready 779 frameTransmitBudget frameTransmitChecks o s c ∧
      begun s o = false ∧
      bit (c.u 1 1) 0 = false ∧
      descReadMeets s c.p (c.desc 8) = none ∧
      quotaReached s c.p = false ∧
      (freeNumber s).isSome = true ∧
      (slotAt s c.p c.k).lostHop = none ∧
      f = readDesc s c.p (c.desc 8) host ∧
      maySend s j (framePriority (netAt s j) f) = false) ∧
    (∃ (o : Origin) (s : State) (c : Ctx) (j : Nat),
      j = c.u 0 1 ∧
      Ready 780 (fixed Latency.control) espSaSetChecks o s c) ∧
    (∃ (o : Origin) (s : State) (c : Ctx) (j : Nat),
      j = c.u 0 1 ∧
      Ready 781 (fixed Latency.control) macsecSaSetChecks o s c) ∧
    (∃ (o : Origin) (s : State) (c : Ctx) (j : Nat),
      j = c.u 0 1 ∧
      Ready 961 (fixed Latency.immediate) portConfigureChecks o s c) ∧
    (∃ (o : Origin) (s : State) (c : Ctx) (j : Nat),
      j = c.u 0 1 ∧
      Ready 962 (fixed Latency.control) networkPortEnableChecks o s c) ∧
    (∃ (o : Origin) (s : State) (c : Ctx) (j : Nat),
      j = c.u 0 1 ∧
      Ready 963 (fixed Latency.immediate) networkPortDisableChecks o s c ∧
      (∀ h ∈ (netAt s j).heldTx, h.1 ≠ c.p * 32 + c.k)) ∧
    (∃ (o : Origin) (s : State) (c : Ctx) (j : Nat) (list : List Byte),
      j = c.u 0 1 ∧
      Ready 2307 (fixed Latency.control) telemetryChecks o s c ∧
      bit (c.u 1 1) 0 = false) ∧
    (∃ (o : Origin) (s : State) (c : Ctx) (j : Nat) (list : List Byte) (bs : List Byte),
      j = c.u 0 1 ∧
      Ready 2307 (fixed Latency.control) telemetryChecks o s c ∧
      bit (c.u 1 1) 0 = true ∧
      descReadMeets s c.p (c.desc 44) = none ∧
      bs = readDesc s c.p (c.desc 44) list ∧
      ((exportList bs).any fun e => (counterRow e.1 e.2).isNone) = false) ∧
    (∃ (j : Fin 2) (s : State),
      linkMayRise s ↑j = true) ∧
    (∃ (j : Fin 2) (s : State),
      linkMayRise s ↑j = false) ∧
    (∃ (j : Fin 2) (s : State),
      (netAt s ↑j).linkUp = true) ∧
    (∃ (j : Fin 2) (s : State),
      (netAt s ↑j).telemetry = none) ∧
    (∃ (j : Fin 2) (s : State) (x : Export),
      (netAt s ↑j).telemetry = some x ∧
      (netAt s ↑j).linkUp = false) ∧
    (∃ (j : Fin 2) (s : State) (x : Export),
      (netAt s ↑j).telemetry = some x ∧
      (netAt s ↑j).linkUp = true ∧
      0 < x.list.length ∧
      x.list.length ≤ 80) :=
  ⟨⟨.mbx 0 31, adm 0x030B ([1, 0, 0, 0] ++ le 4 0 ++ hostAt 60) (withNet id live), reqOf (adm 0x030B ([1, 0, 0, 0] ++ le 4 0 ++ hostAt 60) (withNet id live)), 1, shortFrame, shortFrame, (by unfold Ready; decide +kernel)⟩,
   ⟨.mbx 0 31, adm 0x030B ([1, 0, 0, 0] ++ le 4 0 ++ hostAt 60) (withNet (fun n => { n with paused := [(0, 2000000001)] }) live), reqOf (adm 0x030B ([1, 0, 0, 0] ++ le 4 0 ++ hostAt 60) (withNet (fun n => { n with paused := [(0, 2000000001)] }) live)), 1, shortFrame, shortFrame, (by unfold Ready; decide +kernel)⟩,
   ⟨.mbx 0 31, adm 0x030C ([1, 0] ++ le 2 8191 ++ le 8 0 ++ le 4 0 ++ [1, 0] ++ le 2 1024 ++ le 12 0) (withKey 3 0x20 (le 32 0) live), reqOf (adm 0x030C ([1, 0] ++ le 2 8191 ++ le 8 0 ++ le 4 0 ++ [1, 0] ++ le 2 1024 ++ le 12 0) (withKey 3 0x20 (le 32 0) live)), 1, (by unfold Ready; decide +kernel)⟩,
   ⟨.mbx 0 31, adm 0x030D ([1, 1, 31, 3, 1, 50, 1, 0] ++ le 40 0) (withKey 3 0x40 (le 32 0) live), reqOf (adm 0x030D ([1, 1, 31, 3, 1, 50, 1, 0] ++ le 40 0) (withKey 3 0x40 (le 32 0) live)), 1, (by unfold Ready; decide +kernel)⟩,
   ⟨.mbx 0 31, adm 0x03C1 [1, 3, 2, 95, 90] live, reqOf (adm 0x03C1 [1, 3, 2, 95, 90] live), 1, (by unfold Ready; decide +kernel)⟩,
   ⟨.mbx 0 31, adm 0x03C2 [1] live, reqOf (adm 0x03C2 [1] live), 1, (by unfold Ready; decide +kernel)⟩,
   ⟨.mbx 0 31, adm 0x03C3 [1] live, reqOf (adm 0x03C3 [1] live), 1, (by unfold Ready; decide +kernel)⟩,
   ⟨.mbx 0 31, adm 0x0903 (le 60 1) live, reqOf (adm 0x0903 (le 60 1) live), 1, [], (by unfold Ready; decide +kernel)⟩,
   ⟨.mbx 0 31, adm 0x0903 ([1, 1] ++ le 2 1000 ++ le 40 0 ++ hostAt 4) live, reqOf (adm 0x0903 ([1, 1] ++ le 2 1000 ++ le 40 0 ++ hostAt 4) live), 1, le 2 0x0201 ++ le 2 0, le 2 0x0201 ++ le 2 0, (by unfold Ready; decide +kernel)⟩,
   ⟨1, { live with nets := [(1, { NetPort.init with enabled := true })] }, (by decide +kernel)⟩,
   ⟨1, live, (by decide +kernel)⟩,
   ⟨1, withNet id live, (by decide +kernel)⟩,
   ⟨1, withNet id live, (by decide +kernel)⟩,
   ⟨1, withNet (fun n => { n with linkUp := false, telemetry := some ⟨true, false, 1, 0, 0, 0, [], [], [(0x0201, 0)]⟩ }) live, ⟨true, false, 1, 0, 0, 0, [], [], [(0x0201, 0)]⟩, (by decide +kernel)⟩,
   ⟨1, withNet (fun n => { n with telemetry := some ⟨true, false, 1, 0, 0, 0, [], [], List.replicate 80 (0x0201, 0)⟩ }) live, ⟨true, false, 1, 0, 0, 0, [], [], List.replicate 80 (0x0201, 0)⟩, (by decide +kernel)⟩⟩

theorem witness_ClassifierTablesAndRingsAreSet :
    (∃ (o : Origin) (s : State) (c : Ctx) (j : Nat) (e : Entry),
      j = c.u 0 1 ∧
      e = { profile := c.u 1 1, key := entryKey c 20, action := slice c.body 4 16 } ∧
      Ready 769 (fixed Latency.immediate) entryInsertChecks o s c) ∧
    (∃ (o : Origin) (s : State) (c : Ctx) (j : Nat) (n : Nat),
      j = c.u 0 1 ∧
      Ready 770 (fixed Latency.immediate) entryUpdateChecks o s c ∧
      shadowAt s (c.u 0 1) (c.u 1 1) (entryKey c 20) = some n) ∧
    (∃ (o : Origin) (s : State) (c : Ctx) (j : Nat) (n : Nat),
      j = c.u 0 1 ∧
      Ready 771 (fixed Latency.immediate) entryAbsent o s c ∧
      shadowAt s (c.u 0 1) (c.u 1 1) (entryKey c 4) = some n) ∧
    (∃ (o : Origin) (s : State) (c : Ctx) (j : Nat) (n : Nat) (e : Entry),
      j = c.u 0 1 ∧
      Ready 772 (fixed Latency.immediate) entryAbsent o s c ∧
      shadowAt s (c.u 0 1) (c.u 1 1) (entryKey c 4) = some n ∧
      s.cls.shadow.get? n = some e) ∧
    (∃ (o : Origin) (s : State) (c : Ctx) (j : Nat),
      j = c.u 0 1 ∧
      Ready 773 (fixed Latency.immediate) profileSetChecks o s c) ∧
    (∃ (o : Origin) (s : State) (c : Ctx) (j : Nat),
      j = c.u 0 1 ∧
      Ready 774 (fixed Latency.immediate) patternSetChecks o s c) ∧
    (∃ (o : Origin) (s : State) (c : Ctx) (j : Nat),
      j = c.u 0 1 ∧
      Ready 775 (fixed Latency.immediate) parseLimitsChecks o s c) ∧
    (∃ (o : Origin) (s : State) (c : Ctx) (j : Nat),
      j = c.u 0 1 ∧
      Ready 776 (fixed Latency.immediate) defaultActionChecks o s c) ∧
    (∃ (o : Origin) (s : State) (c : Ctx) (j : Nat),
      j = c.u 0 1 ∧
      Ready 777 (fixed Latency.control) receiveRingSetChecks o s c) ∧
    (∃ (o : Origin) (s : State) (c : Ctx) (j : Nat) (descs : List (List Byte)) (r : RxRing),
      j = c.u 0 1 ∧
      Ready 778 (fixed Latency.immediate) receiveRingPostChecks o s c ∧
      r = rxRing s c.p j) :=
  ⟨⟨.mbx 0 31, adm 0x0301 ([3, 15, 64, 0] ++ dropAction ++ le 64 1) live, reqOf (adm 0x0301 ([3, 15, 64, 0] ++ dropAction ++ le 64 1) live), 3, ⟨15, le 64 1, dropAction⟩, (by unfold Ready; decide +kernel)⟩,
   ⟨.mbx 0 31, adm 0x0302 ([3, 15, 64, 0] ++ dropAction ++ le 64 1) (withEntry live), reqOf (adm 0x0302 ([3, 15, 64, 0] ++ dropAction ++ le 64 1) (withEntry live)), 3, 786432, (by unfold Ready; decide +kernel)⟩,
   ⟨.mbx 0 31, adm 0x0303 ([3, 15, 64, 0] ++ le 64 1) (withEntry live), reqOf (adm 0x0303 ([3, 15, 64, 0] ++ le 64 1) (withEntry live)), 3, 786432, (by unfold Ready; decide +kernel)⟩,
   ⟨.mbx 0 31, adm 0x0304 ([3, 15, 64, 0] ++ le 64 1) (withEntry live), reqOf (adm 0x0304 ([3, 15, 64, 0] ++ le 64 1) (withEntry live)), 3, 786432, ⟨15, le 64 1, dropAction⟩, (by unfold Ready; decide +kernel)⟩,
   ⟨.mbx 0 31, adm 0x0305 ([1, 15, 1, 3] ++ le 8 0 ++ [1, 0, 0, 0] ++ [0x0F, 15, 0, 16] ++ le 60 0) live, reqOf (adm 0x0305 ([1, 15, 1, 3] ++ le 8 0 ++ [1, 0, 0, 0] ++ [0x0F, 15, 0, 16] ++ le 60 0) live), 1, (by unfold Ready; decide +kernel)⟩,
   ⟨.mbx 0 31, adm 0x0306 ([1, 127, 32, 1] ++ le 2 0 ++ le 2 992 ++ le 64 0) live, reqOf (adm 0x0306 ([1, 127, 32, 1] ++ le 2 0 ++ le 2 992 ++ le 64 0) live), 1, (by unfold Ready; decide +kernel)⟩,
   ⟨.mbx 0 31, adm 0x0307 ([1, 16] ++ le 2 512 ++ le 6 0) live, reqOf (adm 0x0307 ([1, 16] ++ le 2 512 ++ le 6 0) live), 1, (by unfold Ready; decide +kernel)⟩,
   ⟨.mbx 0 31, adm 0x0308 ([1, 1, 0, 0] ++ dropAction) live, reqOf (adm 0x0308 ([1, 1, 0, 0] ++ dropAction) live), 1, (by unfold Ready; decide +kernel)⟩,
   ⟨.mbx 0 31, adm 0x0309 ([7, 16] ++ le 14 0) live, reqOf (adm 0x0309 ([7, 16] ++ le 14 0) live), 7, (by unfold Ready; decide +kernel)⟩,
   ⟨.mbx 0 31, adm 0x030A ([7, 0, 0, 0] ++ le 4 65535) (setPart live 0 (fun q => { q with rings := [(7, ⟨16, 0, 0, 0, []⟩)] })), reqOf (adm 0x030A ([7, 0, 0, 0] ++ le 4 65535) (setPart live 0 (fun q => { q with rings := [(7, ⟨16, 0, 0, 0, []⟩)] }))), 7, [], ⟨16, 0, 0, 0, []⟩, (by unfold Ready; decide +kernel)⟩⟩

theorem witness_FramesAreReceivedClassifiedAndReleased :
    (∃ (j : Fin 2) (s : State) (f : List Byte),
      (netAt s ↑j).linkUp = true ∧
      (netAt s ↑j).enabled = true ∧
      60 ≤ f.length ∧
      f.length ≤ 9212 ∧
      field f 12 2 ≠ 2184 ∧
      field f 12 2 ≠ 58760 ∧
      (netAt s ↑j).used + f.length ≤ receiveBuffer ∧
      (List.any (netAt s ↑j).macRx fun e => e.2.valid) = false) ∧
    (∃ (j : Fin 2) (s : State) (f : List Byte),
      (netAt s ↑j).linkUp = true ∧
      (netAt s ↑j).enabled = true ∧
      60 ≤ f.length ∧
      f.length ≤ 9212) ∧
    (∃ (j : Fin 2) (s : State) (pipe : Fin 16) (ext : Extension) (k : Nat) (fr : RxFrame) (v : Verdict),
      List.find? (fun e => e.2.pipeline == ↑pipe && e.2.verdict.isNone && e.2.parked.isNone) (clsPort s ↑j).frames = some (k, fr) ∧
      classify s (↑j) fr.bytes ext = Found.verdict v ∧
      fr.skipped = false) ∧
    (∃ (j : Fin 2) (s : State) (pipe : Fin 16) (ext : Extension) (k : Nat) (fr : RxFrame) (n : Nat),
      List.find? (fun e => e.2.pipeline == ↑pipe && e.2.verdict.isNone && e.2.parked.isNone) (clsPort s ↑j).frames = some (k, fr) ∧
      classify s (↑j) fr.bytes ext = Found.parked n ∧
      (∀ i < 2, (List.all (clsPort s i).frames fun e => e.2.parked.isNone) = true)) ∧
    (∃ (j : Fin 2) (s : State) (m : Nat) (e : Nat × RxFrame),
      (clsPort s ↑j).timer = some m ∧
      List.find? (fun e => !e.2.skipped && e.2.verdict.isSome) (clsPort s ↑j).frames = some e) ∧
    (∃ (j : Fin 2) (s : State) (ext : Extension) (n : Nat) (rest : List Nat),
      s.cls.repairing = n :: rest) :=
  ⟨⟨1, withNet id live, shortFrame, (by decide +kernel)⟩,
   ⟨1, withNet id live, shortFrame, (by decide +kernel)⟩,
   ⟨1, withFrame rxFrame live, 15, ⟨[], false, []⟩, 5, rxFrame, ⟨dropAction, false, 8, 255, 255, 0, 14, none, none⟩, (by decide +kernel)⟩,
   ⟨1, { live with cls := { Classifier.init with ports := [(1, { ClsPort.init with frames := [(5, rxFrame)], profiles := [(0, ⟨true, 3, 0, 0, [(0xFE, 0, 0, 0)]⟩)] })], repairing := [787332] } }, 15, ⟨[], false, []⟩, 5, rxFrame, 787332, (by decide +kernel)⟩,
   ⟨1, withFrame { rxFrame with verdict := some ⟨dropAction, false, 0, 0, 0, 0, 0, none, none⟩ } live, 2000000000, (5, { rxFrame with verdict := some ⟨dropAction, false, 0, 0, 0, 0, 0, none, none⟩ }), (by decide +kernel)⟩,
   ⟨1, { live with cls := { Classifier.init with repairing := [5] } }, ⟨[], false, []⟩, 5, [], (by decide +kernel)⟩⟩

theorem witness_PartnerPortsSeekTrainAndRun :
    (∃ (o : Origin) (s : State) (c : Ctx) (n : Nat),
      n = c.u 0 1 ∧
      Ready 897 (fixed Latency.immediate) partnerPortEnableChecks o s c) ∧
    (∃ (o : Origin) (s : State) (c : Ctx) (n : Nat),
      n = c.u 0 1 ∧
      Ready 898 (fixed Latency.immediate) partnerPortDisableChecks o s c) ∧
    (∃ (o : Origin) (s : State) (c : Ctx) (n : Nat),
      n = c.u 0 1 ∧
      Ready 899 (fixed Latency.immediate) partnerPortStatusChecks o s c) ∧
    (∃ (n : Fin 8) (s : State),
      (portAt s ↑n).state = PortState.seek ∧
      (portAt s ↑n).seen = true) ∧
    (∃ (n : Fin 8) (s : State),
      (portAt s ↑n).state = PortState.seek ∧
      (portAt s ↑n).seen = false) ∧
    (∃ (n : Fin 8) (s : State) (lane : Fin 8),
      (portAt s ↑n).state = PortState.seek ∧
      bit (usableLanes s ↑n) ↑lane = true) ∧
    (∃ (n : Fin 8) (s : State) (trained : BitVec 8) (lanes : Nat),
      (portAt s ↑n).state = PortState.train ∧
      lanes = bothLanes trained.toNat (usableLanes s ↑n)) ∧
    (∃ (n : Fin 8) (s : State),
      (portAt s ↑n).state = PortState.exchange ∧
      (portAt s ↑n).capability.isSome = true) ∧
    (∃ (n : Fin 8) (s : State),
      (portAt s ↑n).state = PortState.exchange) ∧
    (∃ (n : Fin 8) (s : State),
      (portAt s ↑n).state = PortState.retrain) :=
  ⟨⟨.mbx 0 31, adm 0x0381 [7] live, reqOf (adm 0x0381 [7] live), 7, (by unfold Ready; decide +kernel)⟩,
   ⟨.mbx 0 31, adm 0x0382 [7] (withPort id live), reqOf (adm 0x0382 [7] (withPort id live)), 7, (by unfold Ready; decide +kernel)⟩,
   ⟨.mbx 0 31, adm 0x0383 [7] (withPort id live), reqOf (adm 0x0383 [7] (withPort id live)), 7, (by unfold Ready; decide +kernel)⟩,
   ⟨7, withPort (fun x => { x with state := .seek, seen := true }) live, (by decide +kernel)⟩,
   ⟨7, withPort (fun x => { x with state := .seek }) live, (by decide +kernel)⟩,
   ⟨7, withPort (fun x => { x with state := .seek }) live, 7, (by decide +kernel)⟩,
   ⟨7, withPort (fun x => { x with state := .train }) live, 0xFF, 255, (by decide +kernel)⟩,
   ⟨7, withPort (fun x => { x with state := .exchange }) live, (by decide +kernel)⟩,
   ⟨7, withPort (fun x => { x with state := .exchange, capability := none }) live, (by decide +kernel)⟩,
   ⟨7, withPort (fun x => { x with state := .retrain }) live, (by decide +kernel)⟩⟩

set_option maxRecDepth 100000 in
theorem witness_LinkParcelsAreCheckedAndReplayed :
    (∃ (n : Fin 8) (parcel : List Byte) (fec : Fec) (s : State) (good : Bool),
      good = (!fecFails fec && field parcel 296 4 == (crc32c (slice parcel 0 296)).toNat) ∧
      good = true ∧
      field parcel 2 1 = 0 ∧
      (∀ l < 8, fec.symbols.getD l 0 = 0)) ∧
    (∃ (n : Fin 8) (parcel : List Byte) (fec : Fec) (s : State) (good : Bool),
      good = (!fecFails fec && field parcel 296 4 == (crc32c (slice parcel 0 296)).toNat) ∧
      good = true ∧
      field parcel 2 1 = 11 ∧
      field parcel 0 2 = (portAt s ↑n).rxExpected ∧
      (portAt s ↑n).state = PortState.run ∧
      (portAt s ↑n).asked = none ∧
      ((portAt s ↑n).received.getD 3 0 + 65536 - (portAt s ↑n).freed.getD 3 0) % 65536 < 32) ∧
    (∃ (n : Fin 8) (parcel : List Byte) (fec : Fec) (s : State) (good : Bool),
      good = (!fecFails fec && field parcel 296 4 == (crc32c (slice parcel 0 296)).toNat) ∧
      good = false ∧
      inRun s ↑n = true ∧
      (portAt s ↑n).asked = none) ∧
    (∃ (n : Fin 8) (parcel : List Byte) (fec : Fec) (s : State) (good : Bool),
      good = (!fecFails fec && field parcel 296 4 == (crc32c (slice parcel 0 296)).toNat) ∧
      good = true ∧
      field parcel 0 1 = 128 ∧
      inRun s ↑n = true ∧
      (field parcel 1 1 = 4 ∨ field parcel 1 1 = 5) ∧
      field parcel 6 1 = 0 ∧
      (portAt s ↑n).answered = none ∧
      (portAt s ↑n).waiting = [] ∧
      (∀ c < 4, (field parcel (8 + 2 * c) 2 + 65536 - (portAt s ↑n).freedSeen.getD c 0) % 65536 < 32768)) ∧
    (∃ (n : Fin 8) (parcel : List Byte) (fec : Fec) (s : State) (good : Bool),
      good = (!fecFails fec && field parcel 296 4 == (crc32c (slice parcel 0 296)).toNat) ∧
      good = true ∧
      field parcel 0 1 = 128 ∧
      inRun s ↑n = true ∧
      field parcel 1 1 ≠ 4 ∧
      field parcel 1 1 ≠ 5) ∧
    (∃ (n : Fin 8) (payload : List Byte) (s : State) (m : Nat),
      m = field payload 1 1 ∧
      inRun s ↑n = true ∧
      ((convoy s m).acksOwed.get? ↑n).isSome = true ∧
      bit (field payload 2 1) 0 = (convoy s m).generation ∧
      (field payload 0 1 = 129 ∧ (convoy s m).state = ConvoyState.sealed ∧ field payload 3 1 = 0 ∧ field payload 4 4 = (convoy s m).carried.getD (↑n) 0 ∨ field payload 0 1 = 130 ∧ (convoy s m).state = ConvoyState.confirmed ∨ field payload 0 1 = 131 ∧ (convoy s m).state = ConvoyState.cancelling)) :=
  ⟨⟨7, linkParcel [], ⟨false, []⟩, withPort id live, true, (by decide +kernel)⟩,
   ⟨7, linkParcel [0, 0, 11], ⟨false, []⟩, withPort id live, true, (by decide +kernel)⟩,
   ⟨7, [], ⟨true, [16]⟩, withPort id live, false, (by decide +kernel)⟩,
   ⟨7, linkParcel [128, 4], ⟨false, []⟩, withPort id live, true, (by decide +kernel)⟩,
   ⟨7, linkParcel [128, 3], ⟨false, []⟩, withPort id live, true, (by decide +kernel)⟩,
   ⟨7, [0x81, 255, 0, 0] ++ le 4 0, withConvoy 255 (fun x => { ofSlot .sealed x with acksOwed := [(7, 0)] }) (withPort id live), 255, (by decide +kernel)⟩⟩

theorem witness_LinkFaultsRetrainOrDegrade :
    (∃ (n : Fin 8) (s : State),
      inRun s ↑n = true) ∧
    (∃ (n : Fin 8) (s : State),
      inRun s ↑n = false) ∧
    (∃ (n : Fin 8) (s : State),
      (portAt s ↑n).state = PortState.run ∧
      (portAt s ↑n).asked.isSome = true) ∧
    (∃ (n : Fin 8) (s : State) (lane : Fin 8) (mask : Nat),
      mask = clearBit ((portAt s ↑n).newLanes.getD (portAt s ↑n).lanes) ↑lane ∧
      inRun s ↑n = true ∧
      bit (portAt s ↑n).lanes ↑lane = true ∧
      bit (portAt s ↑n).relocking ↑lane = false) ∧
    (∃ (n : Fin 8) (s : State) (lane : Fin 8),
      bit (portAt s ↑n).relocking ↑lane = true ∧
      inRun s ↑n = true) ∧
    (∃ (n : Fin 8) (s : State) (lane : Fin 8),
      bit (portAt s ↑n).relocking ↑lane = true) ∧
    (∃ (n : Fin 8) (s : State) (m : Nat),
      (portAt s ↑n).state = PortState.degrade ∧
      (portAt s ↑n).newLanes = some m) ∧
    (∃ (n : Fin 8) (s : State) (m : Fin 256) (at_ : Nat),
      (convoy s ↑m).acksOwed.get? ↑n = some at_ ∧
      inRun s ↑n = true ∧
      (portAt s ↑n).waiting.any (controlOf (↑m) (convoy s ↑m).generation) = false ∧
      (portAt s ↑n).asked = none ∧
      (portAt s ↑n).answered = none) ∧
    (∃ (n : Fin 8) (s : State) (m : Fin 256) (at_ : Nat),
      (convoy s ↑m).acksOwed.get? ↑n = some at_ ∧
      inRun s ↑n = true ∧
      (portAt s ↑n).waiting.any (controlOf (↑m) (convoy s ↑m).generation) = false ∧
      (portAt s ↑n).asked.isSome = true ∧
      (convoy s ↑m).ackExtended.contains ↑n = false) :=
  ⟨⟨7, withPort id live, (by decide +kernel)⟩,
   ⟨7, live, (by decide +kernel)⟩,
   ⟨7, withPort (fun x => { x with asked := some 0 }) live, (by decide +kernel)⟩,
   ⟨7, withPort id live, 7, 127, (by decide +kernel)⟩,
   ⟨7, withPort (fun x => { x with relocking := 0x80 }) live, 7, (by decide +kernel)⟩,
   ⟨7, withPort (fun x => { x with relocking := 0x80 }) live, 7, (by decide +kernel)⟩,
   ⟨7, withPort (fun x => { x with state := .degrade, newLanes := some 127 }) live, 127, (by decide +kernel)⟩,
   ⟨7, withConvoy 255 (fun x => { ofSlot .sealed x with acksOwed := [(7, 0)] }) (withPort id live), 255, 0, (by decide +kernel)⟩,
   ⟨7, withConvoy 255 (fun x => { ofSlot .sealed x with acksOwed := [(7, 0)] }) (withPort (fun x => { x with asked := some 0 }) live), 255, 0, (by decide +kernel)⟩⟩

set_option maxRecDepth 100000 in
theorem witness_StartUpBringsTheNodeUp :
    (∃ (straps : Fin 4) (s : State),
      s.boot.vaon = false ∧
      vaultOn s = true) ∧
    (∃ (straps : Fin 4) (s : State),
      s.boot.vaon = false ∧
      vaultOn s = false) ∧
    (∃ (s : State),
      s.boot.vaon = true) ∧
    (∃ (a : ImageCopy) (b : ImageCopy) (s : State),
      s.boot.vaon = true ∧
      s.boot.phase = BootPhase.selecting ∧
      (s.boot.rejected.contains 1 = true ∨ (ineligible b).isSome = true) ∧
      (s.boot.rejected.contains 0 = true ∨ (ineligible a).isSome = true)) ∧
    (∃ (a : ImageCopy) (b : ImageCopy) (s : State),
      s.boot.vaon = true ∧
      s.boot.phase = BootPhase.selecting ∧
      (s.boot.rejected.contains 1 = true ∨ (ineligible b).isSome = true) ∧
      s.boot.rejected.contains 0 = false ∧
      ineligible a = none ∧
      a.first.contains 1 = true ∧
      tablesOk a.tables = true) ∧
    (∃ (kind : Fin 6) (s : State),
      s.boot.mainOn = true ∧
      s.aon.seq.down = none ∧
      nextSection s = some ↑kind) ∧
    (∃ (kind : Fin 6) (s : State),
      s.boot.mainOn = true ∧
      s.aon.seq.down = none ∧
      nextSection s = some ↑kind ∧
      s.boot.sectionRetry.contains ↑kind = false) ∧
    (∃ (s : State),
      s.boot.mainOn = true ∧
      s.boot.selfTestDone = false ∧
      s.aon.tables.selfTest = true) :=
  ⟨⟨3, { State.reset with vault := { Vault.init with supply := .main } }, (by decide +kernel)⟩,
   ⟨3, State.reset, (by decide +kernel)⟩,
   ⟨live, (by decide +kernel)⟩,
   ⟨badCopy, badCopy, { live with boot := { Boot.init 1 0 with vaon := true, phase := .selecting } }, (by decide +kernel)⟩,
   ⟨goodCopy, badCopy, { live with boot := { Boot.init 1 0 with vaon := true, phase := .selecting } }, (by decide +kernel)⟩,
   ⟨5, { live with boot := { started with loaded := [0, 1, 2, 3, 4] } }, (by decide +kernel)⟩,
   ⟨5, { live with boot := { started with loaded := [0, 1, 2, 3, 4] } }, (by decide +kernel)⟩,
   ⟨{ live with boot := { started with selfTestDone := false } }, (by decide +kernel)⟩⟩

theorem witness_SynfyReadinessAndNodeDone :
    (∃ (s : State),
      s.boot.mainOn = true ∧
      s.boot.phase = BootPhase.mainStart ∧
      s.boot.loaded.contains 2 = true ∧
      (s.boot.selfTestDone = true ∨ s.aon.tables.selfTest = false)) ∧
    (∃ (content : List (Nat × List Byte)) (s : State),
      s.boot.synfyReady = true ∧
      s.boot.classifierLoaded = false ∧
      (s.boot.sections.contains 5 = true → s.boot.loaded.contains 5 = true)) ∧
    (∃ (s : State),
      s.boot.vaon = true ∧
      s.boot.nodeDoneDriven = false ∧
      s.boot.nodeDoneHigh = false) ∧
    (∃ (s : State) (m : Nat),
      s.boot.soloTimer = some m) ∧
    (∃ (s : State) (instr : Fin 5),
      s.boot.vaon = true ∧
      s.boot.mainOn = true) :=
  ⟨⟨{ live with boot := { started with phase := .mainStart, synfyReady := false } }, (by decide +kernel)⟩,
   ⟨[], { live with boot := { started with classifierLoaded := false } }, (by decide +kernel)⟩,
   ⟨{ live with boot := { started with nodeDoneDriven := false, nodeDoneHigh := false } }, (by decide +kernel)⟩,
   ⟨{ live with boot := { started with soloTimer := some 1 } }, 1, (by decide +kernel)⟩,
   ⟨live, 4, (by decide +kernel)⟩⟩

theorem witness_TwoWireTransactionsAreQueuedAndCarriedOut :
    (∃ (o : Origin) (s : State) (c : Ctx) (b : Nat),
      b = c.u 0 1 ∧
      Ready 2049 (fixed Latency.management) transactionChecks o s c ∧
      begun s o = false) ∧
    (∃ (o : Origin) (s : State) (c : Ctx) (b : Nat),
      b = c.u 0 1 ∧
      Ready 2050 (fixed Latency.management) busConfigureChecks o s c) ∧
    (∃ (o : Origin) (s : State) (c : Ctx) (b : Nat),
      b = c.u 0 1 ∧
      Ready 2051 (fixed Latency.management) busStatusChecks o s c) ∧
    (∃ (b : Fin 3) (s : State) (j : TwJob) (rest : List TwJob) (p : Fin 32) (k : Fin 32) (data : List Byte),
      (bus s ↑b).hung = none ∧
      (bus s ↑b).queue = j :: rest ∧
      (bus s ↑b).absent.get? j.addr = none ∧
      j.origin = Origin.mbx p k ∧
      (slotAt s ↑p ↑k).phase = Phase.running) ∧
    (∃ (b : Fin 3) (s : State) (j : TwJob) (rest : List TwJob) (p : Fin 32) (k : Fin 32),
      (bus s ↑b).hung = none ∧
      (bus s ↑b).queue = j :: rest ∧
      (bus s ↑b).absent.get? j.addr = none ∧
      j.origin = Origin.mbx p k ∧
      (slotAt s ↑p ↑k).phase = Phase.running) ∧
    (∃ (b : Fin 3) (s : State) (j : TwJob) (rest : List TwJob) (p : Fin 32) (k : Fin 32) (try_ : TwTry),
      (bus s ↑b).hung = none ∧
      (bus s ↑b).queue = j :: rest ∧
      (bus s ↑b).absent.get? j.addr = none ∧
      j.origin = Origin.mbx p k ∧
      (slotAt s ↑p ↑k).phase = Phase.running ∧
      (try_ = TwTry.dataNack ∨ try_ = TwTry.pecBad)) ∧
    (∃ (b : Fin 3) (s : State) (addr : Fin 128) (m : Nat),
      (bus s ↑b).hung = none ∧
      (bus s ↑b).absent.get? ↑addr = some m) ∧
    (∃ (b : Fin 3) (s : State),
      (bus s ↑b).hung = none ∧
      s.aon.tables.steps ≠ []) ∧
    (∃ (b : Fin 3) (s : State) (a : Fin 128),
      (bus s ↑b).hung = none ∧
      s.aon.tables.steps ≠ []) ∧
    (∃ (b : Fin 3) (s : State) (sda : Bool),
      (bus s ↑b).hung = none ∧
      s.boot.vaon = true) :=
  ⟨⟨.mbx 0 31, adm 0x0801 ([2, 127, 6, 1, 0, 48, 48, 0] ++ le 48 0) live, reqOf (adm 0x0801 ([2, 127, 6, 1, 0, 48, 48, 0] ++ le 48 0) live), 2, (by unfold Ready; decide +kernel)⟩,
   ⟨.mbx 0 31, adm 0x0802 [2, 2, 15] live, reqOf (adm 0x0802 [2, 2, 15] live), 2, (by unfold Ready; decide +kernel)⟩,
   ⟨.mbx 0 31, adm 0x0803 [2] live, reqOf (adm 0x0803 [2] live), 2, (by unfold Ready; decide +kernel)⟩,
   ⟨2, withBus (fun x => { x with queue := [readByte] }) (adm 0x0801 (le 8 0) live), readByte, [], 0, 31, [0xFF], (by decide +kernel)⟩,
   ⟨2, withBus (fun x => { x with queue := [readByte] }) (adm 0x0801 (le 8 0) live), readByte, [], 0, 31, (by decide +kernel)⟩,
   ⟨2, withBus (fun x => { x with queue := [readByte] }) (adm 0x0801 (le 8 0) live), readByte, [], 0, 31, .pecBad, (by decide +kernel)⟩,
   ⟨2, withBus (fun x => { x with absent := [(127, 0)] }) live, 127, 0, (by decide +kernel)⟩,
   ⟨2, onBoard live, (by decide +kernel)⟩,
   ⟨2, onBoard live, 127, (by decide +kernel)⟩,
   ⟨2, live, true, (by decide +kernel)⟩⟩

theorem witness_TwtAnswersItsController :
    (∃ (f : List Byte) (s : State),
      twtAnswers s = true ∧
      8 ≤ f.length ∧
      f.length ≤ 64 ∧
      s.twt.running = true) ∧
    (∃ (f : List Byte) (s : State) (held : State),
      twtAnswers s = true ∧
      8 ≤ f.length ∧
      f.length ≤ 64 ∧
      s.twt.running = false ∧
      held = { s with out := [], twt := { s.twt with request := some f, running := true, overrun := none, begun := false, response := none, unread := false } } ∧
      (twtChecks held (twtCtx f)).verdict = none) ∧
    (∃ (f : List Byte) (s : State) (held : State) (st : Status),
      twtAnswers s = true ∧
      8 ≤ f.length ∧
      f.length ≤ 64 ∧
      s.twt.running = false ∧
      held = { s with out := [], twt := { s.twt with request := some f, running := true, overrun := none, begun := false, response := none, unread := false } } ∧
      (twtChecks held (twtCtx f)).verdict = some st) ∧
    (∃ (f : List Byte) (s : State),
      twtAnswers s = true ∧
      8 ≤ f.length ∧
      f.length ≤ 64) ∧
    (∃ (s : State) (seq : List Byte),
      twtAnswers s = true ∧
      s.twt.overrun = some seq) ∧
    (∃ (s : State) (bs : List Byte),
      twtAnswers s = true ∧
      s.twt.overrun = none ∧
      s.twt.running = false ∧
      s.twt.response = some bs) ∧
    (∃ (s : State) (e : Event) (rest : List Event),
      twtAnswers s = true ∧
      s.twt.events = e :: rest) ∧
    (∃ (s : State),
      s.boot.vaon = true) :=
  ⟨⟨le 8 0, withTwt (le 8 0) live, (by decide +kernel)⟩,
   ⟨le 2 1 ++ le 6 0, live, { live with out := [], twt := { request := some (le 2 1 ++ le 6 0), running := true, overrun := none, begun := false, response := none, unread := false, events := live.twt.events } }, (by decide +kernel)⟩,
   ⟨le 64 0, live, { live with out := [], twt := { request := some (le 64 0), running := true, overrun := none, begun := false, response := none, unread := false, events := live.twt.events } }, .badCommand, (by decide +kernel)⟩,
   ⟨le 64 0, live, (by decide +kernel)⟩,
   ⟨{ live with twt := { Twt.init with overrun := some (le 4 1) } }, le 4 1, (by decide +kernel)⟩,
   ⟨{ live with twt := { Twt.init with response := some (le 8 0) } }, le 8 0, (by decide +kernel)⟩,
   ⟨{ live with twt := { Twt.init with events := [⟨1, false, 0, 0, 0, 0, 0, 0⟩] } }, ⟨1, false, 0, 0, 0, 0, 0, 0⟩, [], (by decide +kernel)⟩,
   ⟨live, (by decide +kernel)⟩⟩

theorem witness_MaintenanceCountersAndFences :
    (∃ (o : Origin) (s : State) (c : Ctx) (r : CounterRow),
      Ready 2305 counterReadBudget counterReadChecks o s c ∧
      counterRow (c.u 0 2) (c.u 2 2) = some r) ∧
    (∃ (o : Origin) (s : State) (c : Ctx),
      Ready 2306 (fixed Latency.immediate) noChecks o s c) ∧
    (∃ (o : Origin) (s : State) (c : Ctx),
      Ready 2562 (fixed Latency.immediate) scrubSetChecks o s c) ∧
    (∃ (o : Origin) (s : State) (c : Ctx),
      Ready 2563 (fixed Latency.control) fenceResourceChecks o s c ∧
      (∀ (j : Nat), ∀ h ∈ (netAt s j).heldTx, h.1 ≠ c.p * 32 + c.k)) ∧
    (∃ (o : Origin) (s : State) (c : Ctx),
      Ready 2564 resourceReleaseBudget resourceReleaseChecks o s c) :=
  ⟨⟨.mbx 0 31, adm 0x0901 (le 2 0x0201 ++ le 2 5) live, reqOf (adm 0x0901 (le 2 0x0201 ++ le 2 5) live), ⟨0x0201, 32, false, .below 6⟩, (by unfold Ready; decide +kernel)⟩,
   ⟨.mbx 0 31, adm 0x0902 [] live, reqOf (adm 0x0902 [] live), (by unfold Ready; decide +kernel)⟩,
   ⟨.mbx 0 31, adm 0x0A02 [1] live, reqOf (adm 0x0A02 [1] live), (by unfold Ready; decide +kernel)⟩,
   ⟨.mbx 0 31, adm 0x0A03 ([2, 0] ++ le 2 63) live, reqOf (adm 0x0A03 ([2, 0] ++ le 2 63) live), (by unfold Ready; decide +kernel), (by intro j h hh; cases hh)⟩,
   ⟨.mbx 0 31, adm 0x0A04 ([2, 0] ++ le 2 63) { live with faults := { Faults.init with fenceMap := [2 * 1024 + 63] } }, reqOf (adm 0x0A04 ([2, 0] ++ le 2 63) { live with faults := { Faults.init with fenceMap := [2 * 1024 + 63] } }), (by unfold Ready; decide +kernel)⟩⟩

set_option maxRecDepth 100000 in
theorem witness_FirmwareUpdateAndSpdm :
    (∃ (o : Origin) (s : State) (c : Ctx) (host : List Byte) (image : List Byte) (ok : Bool) (readBack : Fin 3),
      Ready 2565 firmwareUpdateBudget updateChecks o s c ∧
      begun s o = false ∧
      descReadMeets s c.p (c.desc 0) = none ∧
      image = readDesc s c.p (c.desc 0) host ∧
      imageOk image ok = true) ∧
    (∃ (o : Origin) (s : State) (c : Ctx) (host : List Byte) (image : List Byte) (ok : Bool) (readBack : Fin 3),
      Ready 2565 firmwareUpdateBudget updateChecks o s c ∧
      begun s o = false ∧
      descReadMeets s c.p (c.desc 0) = none ∧
      image = readDesc s c.p (c.desc 0) host ∧
      imageOk image ok = false) ∧
    (∃ (o : Origin) (s : State) (c : Ctx) (host : List Byte) (image : List Byte) (ok : Bool) (readBack : Fin 3),
      ctxOf s o = some c ∧
      c.twt = false ∧
      c.op = 2565 ∧
      begun s o = true ∧
      s.boot.update = some c.k ∧
      image = (slotAt s c.p c.k).inputs.headD []) ∧
    (∃ (h : Fin 2) (r : List Byte) (s : State),
      (hostPort s ↑h).ready = true ∧
      (hostFn s (↑h) 0).flr = false ∧
      field r 1 1 = 132) ∧
    (∃ (h : Fin 2) (r : List Byte) (s : State),
      (hostPort s ↑h).ready = true ∧
      (hostFn s (↑h) 0).flr = false ∧
      field r 1 1 = 131 ∧
      field r 2 1 = 0 ∧
      (s.vault.tripped = true ∨ s.vault.leaf = false)) ∧
    (∃ (h : Fin 2) (r : List Byte) (s : State),
      (hostPort s ↑h).ready = false) :=
  ⟨⟨.mbx 0 31, adm 0x0A05 (hostAt 4096) live, reqOf (adm 0x0A05 (hostAt 4096) live), imageHeader emptyDigest384, imageHeader emptyDigest384, true, 2, (by unfold Ready; decide +kernel)⟩,
   ⟨.mbx 0 31, adm 0x0A05 (hostAt 1) live, reqOf (adm 0x0A05 (hostAt 1) live), [], [0], true, 2, (by unfold Ready; decide +kernel)⟩,
   ⟨.mbx 0 31, setSlot { (adm 0x0A05 (hostAt 1) live) with boot := { started with update := some 31 } } 0 31 (fun x => { x with begun := true }), reqOf (setSlot { (adm 0x0A05 (hostAt 1) live) with boot := { started with update := some 31 } } 0 31 (fun x => { x with begun := true })), [], [], true, 2, (by decide +kernel)⟩,
   ⟨0, [0x12, 132], live, (by decide +kernel)⟩,
   ⟨0, [0x12, 131], { live with vault := { live.vault with tripped := true } }, (by decide +kernel)⟩,
   ⟨1, [], live, (by decide +kernel)⟩⟩

theorem witness_StrapsAreSampledOnce :
    (∃ (straps : Fin 4) (s : State),
      s.boot.vaon = false ∧
      vaultOn s = true) ∧
    (∃ (straps : Fin 4) (s : State),
      s.boot.vaon = true) ∧
    (∃ (s : State) (t : State),
      s.boot.vaon = true ∧
      step s = .next t ∧
      t.boot.vaon = true) :=
  ⟨⟨3, { State.reset with vault := { Vault.init with supply := .main } }, (by decide +kernel)⟩,
   ⟨3, live, (by decide +kernel)⟩,
   ⟨live, _, (by decide +kernel), rfl, (by decide +kernel)⟩⟩

theorem witness_RequestsTouchOnlyTheirObject :
    (∃ (o : Origin) (s : State) (t : State) (c : Ctx) (a : Nat),
      ctxOf s o = some c ∧
      exec (Instr.ledgerRead o) s = .next t ∧
      (∀ (r : Region) (x : Nat), (c.desc 8).kind = 2 → regionOf s c.p ((c.desc 8).loc % 4294967296) = some r → x < (ledgerSlice s (c.u 0 2) (c.u 2 2)).length → a ≠ r.address ((c.desc 8).loc / 4294967296 + x))) ∧
    (∃ (o : Origin) (s : State) (t : State) (c : Ctx) (a : Nat) (aadHost : List Byte) (inputHost : List Byte) (fault : UnitFault) (word : Option (Fin 41943040 × WordRead)) (aad : List Byte) (input : List Byte),
      ctxOf s o = some c ∧
      exec (Instr.cipherOperation o aadHost ⟨inputHost, word⟩ fault) s = .next t ∧
      (input = if descEmpty c 40 = true then [] else readDesc s c.p (c.desc 40) inputHost) ∧
      (aad = if (usesAad (c.u 4 1) && !descEmpty c 24) = true then readDesc s c.p (c.desc 24) aadHost else []) ∧
      (∀ (k : KeySlot) (bytes tag : List Byte) (r : Region) (x : Nat), keySlotOf s c.p (c.u 0 4) = some k → cipherRun c k.key aad input = some (bytes, tag) → (c.desc 56).kind = 2 → regionOf s c.p ((c.desc 56).loc % 4294967296) = some r → x < bytes.length → a ≠ r.address ((c.desc 56).loc / 4294967296 + x))) :=
  ⟨⟨.mbx 0 31, adm 0x0611 (le 2 1 ++ le 6 1 ++ hostAt 32) { live with vault := { live.vault with ledger := [le 32 1] } }, _, reqOf (adm 0x0611 (le 2 1 ++ le 6 1 ++ hostAt 32) { live with vault := { live.vault with ledger := [le 32 1] } }), 0, (by decide +kernel), rfl, (by intro r x h; exact absurd h (by decide +kernel))⟩,
   ⟨.mbx 0 31, adm 0x0510 (le 4 0 ++ [3, 0, 32, 0] ++ le 32 0 ++ hostAt 1 ++ hostAt 1 ++ le 16 0) (withKey 1 1 (le 16 0) live), _, reqOf (adm 0x0510 (le 4 0 ++ [3, 0, 32, 0] ++ le 32 0 ++ hostAt 1 ++ hostAt 1 ++ le 16 0) (withKey 1 1 (le 16 0) live)), 0, [], [0xFF], .none, none, [], [0xFF], (by decide +kernel), rfl, (by decide +kernel), (by decide +kernel), (by intro k bs tag r x _ _ h; exact absurd h (by decide +kernel))⟩⟩

theorem witness_BlockCommandsTouchOnlyTheirUnit :
    (∃ (s : State) (t : State) (p : Fin 32) (slot : Fin 32) (status : BitVec 15) (data : List Byte) (fault : UnitFault) (a : Nat) (c : Ctx),
      exec (Instr.driveCompletion p slot status data fault) s = .next t ∧
      c = slotCtx (↑p) (↑slot) (slotAt s ↑p ↑slot) ∧
      (∀ (d : DriveCmd) (e : Extent) (plain : List Byte) (r : Region) (x : Nat), s.driveCmds.get? (↑p * 32 + ↑slot) = some d → extentOf s (↑p) (c.u 0 4) = some e → (xtsRun s e false d.lba (slice data 0 (c.desc 16).len) fault).1 = some plain → (c.desc 16).kind = 2 → regionOf s (↑p) ((c.desc 16).loc % 4294967296) = some r → x < plain.length → a ≠ r.address ((c.desc 16).loc / 4294967296 + x))) :=
  ⟨withDriveCmd 2 false (adm 0x0403 (le 8 0 ++ le 8 (1023 * 512) ++ hostAt 512) (withExtent live)), _, 0, 31, 0, [], .none, 0, reqOf (withDriveCmd 2 false (adm 0x0403 (le 8 0 ++ le 8 (1023 * 512) ++ hostAt 512) (withExtent live))), rfl, (by decide +kernel), (by intro d e pl r x _ _ _ h; exact absurd h (by decide +kernel))⟩
end Sys2Proof.Tests
end

section
/-! What every function of the model leaves of the queue, the part's identity, the ledger and the two memories: one lemma
for each function, in the order of the model's files. A rule about every step is then one induction-free case split over
the commands. -/

namespace Sys2Proof.Machine
open Sys2Proof

/-- What few functions of the model change: the queue, the product code, the fuse map, the ledger and the two memories. -/
structure Kept where
  /-- The commands that wait. -/
  queue : List Instr
  /-- The product code (R3). -/
  product : Nat
  /-- The tamper fuse map (R5). -/
  fuses : Nat
  /-- The ledger's entries (R377). -/
  ledger : List (List Byte)
  /-- Node memory. -/
  node : Mem
  /-- Spill memory. -/
  spill : Mem

/-- That part of a state. -/
def kept (s : State) : Kept :=
  ⟨s.pending, s.boot.product, s.boot.fuses, s.vault.ledger, s.memory.bytes, s.memory.spill⟩

/-- All of it but the memories: what functions that write memory leave. -/
def Kept.record (k : Kept) : List Instr × Nat × Nat × List (List Byte) := (k.queue, k.product, k.fuses, k.ledger)

/-- An outcome that is a next state leaves g as it was in s. -/
def Leaves {α : Type} (g : State → α) (s : State) (o : Host.Outcome State Fault Refusal) : Prop :=
  ∀ t, o = .next t → g t = g s

@[simp] theorem leaves_next {α : Type} (g : State → α) (s t : State) : Leaves g s (.next t) ↔ g t = g s := by
  simp [Leaves]

/-! ### Branches, folds and fields -/

@[simp] theorem kept_ite (c : Prop) {_ : Decidable c} (s t : State) :
    kept (if c then s else t) = if c then kept s else kept t :=
  apply_ite ..
@[simp] theorem record_ite (c : Prop) {_ : Decidable c} (s t : Kept) :
    (if c then s else t).record = if c then s.record else t.record :=
  apply_ite ..
@[simp] theorem kept_foldl {β : Type} (f : State → β → State) (l : List β) (s : State)
    (h : ∀ s x, kept (f s x) = kept s) : kept (l.foldl f s) = kept s := by
  induction l generalizing s with
  | nil => rfl
  | cons x l ih => rw [List.foldl_cons, ih, h]
@[simp] theorem record_foldl {β : Type} (f : State → β → State) (l : List β) (s : State)
    (h : ∀ s x, (kept (f s x)).record = (kept s).record) : (kept (l.foldl f s)).record = (kept s).record := by
  induction l generalizing s with
  | nil => rfl
  | cons x l ih => rw [List.foldl_cons, ih, h]
@[simp] theorem kept_with_now (s : State) (x) : kept { s with now := x } = kept s := rfl
@[simp] theorem kept_with_fresh (s : State) (x) : kept { s with fresh := x } = kept s := rfl
@[simp] theorem kept_with_out (s : State) (x) : kept { s with out := x } = kept s := rfl
@[simp] theorem kept_with_parts (s : State) (x) : kept { s with parts := x } = kept s := rfl
@[simp] theorem kept_with_fencedSlots (s : State) (x) : kept { s with fencedSlots := x } = kept s := rfl
@[simp] theorem kept_with_domains (s : State) (x) : kept { s with domains := x } = kept s := rfl
@[simp] theorem kept_with_queues (s : State) (x) : kept { s with queues := x } = kept s := rfl
@[simp] theorem kept_with_streams (s : State) (x) : kept { s with streams := x } = kept s := rfl
@[simp] theorem kept_with_convoys (s : State) (x) : kept { s with convoys := x } = kept s := rfl
@[simp] theorem kept_with_faults (s : State) (x) : kept { s with faults := x } = kept s := rfl
@[simp] theorem kept_with_ctr (s : State) (x) : kept { s with ctr := x } = kept s := rfl
@[simp] theorem kept_with_timebase (s : State) (x) : kept { s with timebase := x } = kept s := rfl
@[simp] theorem kept_with_hosts (s : State) (x) : kept { s with hosts := x } = kept s := rfl
@[simp] theorem kept_with_fns (s : State) (x) : kept { s with fns := x } = kept s := rfl
@[simp] theorem kept_with_drives (s : State) (x) : kept { s with drives := x } = kept s := rfl
@[simp] theorem kept_with_extents (s : State) (x) : kept { s with extents := x } = kept s := rfl
@[simp] theorem kept_with_driveCmds (s : State) (x) : kept { s with driveCmds := x } = kept s := rfl
@[simp] theorem kept_with_nets (s : State) (x) : kept { s with nets := x } = kept s := rfl
@[simp] theorem kept_with_buses (s : State) (x) : kept { s with buses := x } = kept s := rfl
@[simp] theorem kept_with_twt (s : State) (x) : kept { s with twt := x } = kept s := rfl
@[simp] theorem kept_with_ports (s : State) (x) : kept { s with ports := x } = kept s := rfl
@[simp] theorem kept_with_tensor (s : State) (x) : kept { s with tensor := x } = kept s := rfl
@[simp] theorem kept_with_aon (s : State) (x) : kept { s with aon := x } = kept s := rfl
@[simp] theorem kept_with_cls (s : State) (x) : kept { s with cls := x } = kept s := rfl
@[simp] theorem kept_with_keys (s : State) (x) : kept { s with keys := x } = kept s := rfl
@[simp] theorem kept_with_keysLost (s : State) (x) : kept { s with keysLost := x } = kept s := rfl
@[simp] theorem kept_with_boot (s : State) (b : Boot) (h : b.product = s.boot.product) (g : b.fuses = s.boot.fuses) :
    kept { s with boot := b } = kept s := by
  simp [kept, h, g]
@[simp] theorem kept_with_vault (s : State) (v : Vault) (h : v.ledger = s.vault.ledger) :
    kept { s with vault := v } = kept s := by
  simp [kept, h]
@[simp] theorem kept_with_memory (s : State) (m : Memory) (h : m.bytes = s.memory.bytes)
    (g : m.spill = s.memory.spill) : kept { s with memory := m } = kept s := by
  simp [kept, h, g]
theorem kept_congr {s t : State} (hp : t.pending = s.pending) (hb : t.boot = s.boot) (hv : t.vault = s.vault)
    (hm : t.memory = s.memory) : kept t = kept s := by
  simp [kept, hp, hb, hv, hm]
theorem EventsOnly.kept {s t : State} (h : EventsOnly s t) : kept t = kept s := by
  obtain ⟨⟨o, q, f, rfl⟩, -⟩ := h
  exact kept_congr rfl rfl rfl rfl
theorem ReportsOnly.kept {s t : State} (h : ReportsOnly s t) : kept t = kept s := by
  obtain ⟨⟨o, q, f, r, d, c, e, rfl⟩, -, -⟩ := h
  exact kept_congr rfl rfl rfl rfl

/-! ### Machine/Ops -/

@[simp] theorem kept_freshState (s : State) : kept s.fresh_ = kept s := by simp [State.fresh_]
@[simp] theorem kept_send (s : State) (o) : kept (send s o) = kept s := by simp [send]
@[simp] theorem kept_advanceTo (s : State) (t) : kept (advanceTo s t) = kept s := by simp [advanceTo]
@[simp] theorem kept_drawBytes (s : State) (n) : kept (drawBytes s n).2 = kept s := by simp [drawBytes]
@[simp] theorem kept_drawNat (s : State) : kept (drawNat s).2 = kept s := by simp [drawNat]
@[simp] theorem kept_setPart (s : State) (p f) : kept (setPart s p f) = kept s := by simp [setPart]
@[simp] theorem kept_setSlot (s : State) (p k f) : kept (setSlot s p k f) = kept s := by simp [setSlot]
@[simp] theorem kept_bumpBy (s : State) (ident inst width k) : kept (bumpBy s ident inst width k) = kept s := by
  simp [bumpBy]
@[simp] theorem kept_bump (s : State) (ident inst width) : kept (bump s ident inst width) = kept s := by simp [bump]
@[simp] theorem kept_clearCounter (s : State) (ident inst) : kept (clearCounter s ident inst) = kept s := by
  simp [clearCounter]
@[simp] theorem kept_setHost (s : State) (h f) : kept (setHost s h f) = kept s := by simp [setHost]
@[simp] theorem kept_setFn (s : State) (h fn f) : kept (setFn s h fn f) = kept s := by simp [setFn]
@[simp] theorem kept_sendMsix (s : State) (h n) : kept (sendMsix s h n) = kept s := (sendMsix_spec ..).kept
@[simp] theorem kept_raiseMsix (s : State) (p) : kept (raiseMsix s p) = kept s := (raiseMsix_spec ..).kept
@[simp] theorem kept_writeEntry (s : State) (p e) : kept (writeEntry s p e) = kept s := (writeEntry_spec ..).kept
@[simp] theorem kept_drainFuel (f : Nat) (s : State) (p : Nat) : kept (drainFuel f s p) = kept s :=
  (drainFuel_spec ..).kept
@[simp] theorem kept_drain (s : State) (p) : kept (drain s p) = kept s := (drain_spec ..).kept
@[simp] theorem kept_postEvent (s : State) (p e) : kept (postEvent s p e) = kept s := (postEvent_spec ..).kept
@[simp] theorem kept_raiseAdmin (s : State) (code fault subject detail) :
    kept (raiseAdmin s code fault subject detail) = kept s :=
  (raiseAdmin_spec ..).kept
@[simp] theorem kept_raiseOwn (s : State) (p code fault detail) : kept (raiseOwn s p code fault detail) = kept s :=
  (raiseOwn_spec ..).kept
@[simp] theorem kept_raiseBoth (s : State) (p code fault detail) : kept (raiseBoth s p code fault detail) = kept s :=
  (raiseBoth_spec ..).kept
@[simp] theorem kept_twtEvent (s : State) (e) : kept (twtEvent s e) = kept s := (twtEvent_spec ..).kept
@[simp] theorem kept_raiseAon (s : State) (code fault detail) : kept (raiseAon s code fault detail) = kept s :=
  (raiseAon_spec ..).kept
@[simp] theorem kept_raiseVault (s : State) (code fault detail) : kept (raiseVault s code fault detail) = kept s := by
  simp [raiseVault]
@[simp] theorem kept_guard (s : State) : kept (guard s) = kept s := by
  obtain ⟨_, h⟩ := guard_spec s
  exact h.kept.trans (kept_with_faults ..)
@[simp] theorem kept_transient (s : State) (g i) : kept (transient s g i) = kept s := by
  obtain ⟨_, _, h⟩ := transient_spec s g i
  exact h.kept.trans (kept_congr rfl rfl rfl rfl)
@[simp] theorem kept_fence (s : State) (g i) : kept (fence s g i) = kept s := by
  obtain ⟨_, _, h⟩ := fence_spec s g i
  rw [h, kept_with_faults]
@[simp] theorem kept_unfence (s : State) (group index) : kept (unfence s group index) = kept s := by simp [unfence]
@[simp] theorem kept_lastingFault (s : State) (group index) : kept (lastingFault s group index) = kept s := by
  simp [lastingFault]
@[simp] theorem kept_countHop (s : State) (st hop) : kept (countHop s st hop) = kept s := by
  obtain ⟨_, _, _, h⟩ := countHop_spec s st hop
  exact h.kept.trans (kept_congr rfl rfl rfl rfl)
@[simp] theorem kept_decideWith (s : State) (p k a) : kept (decideWith s p k a) = kept s := by simp [decideWith]
@[simp] theorem kept_decideReturned (s : State) (p k st result first) :
    kept (decideReturned s p k st result first) = kept s := by
  simp [decideReturned]
@[simp] theorem kept_writeResponse (s : State) (p k bytes) : kept (writeResponse s p k bytes) = kept s := by
  simp [writeResponse]
@[simp] theorem kept_deliverNow (s : State) (p k e) : kept (deliverNow s p k e) = kept s := by simp [deliverNow]
@[simp] theorem kept_deliverFuel (f : Nat) (s : State) (p) : kept (deliverFuel f s p) = kept s := by
  induction f generalizing s with
  | zero => rfl
  | succ f ih =>
    unfold deliverFuel
    simp only
    repeat' split
    all_goals simp [ih]
@[simp] theorem kept_deliverWaiting (s : State) (p) : kept (deliverWaiting s p) = kept s := by simp [deliverWaiting]
@[simp] theorem kept_beginDelivery (s : State) (p k) : kept (beginDelivery s p k) = kept s := by simp [beginDelivery]
@[simp] theorem kept_accept (s : State) (p k) : kept (accept s p k) = kept s := by simp [accept]
@[simp] theorem kept_mapRunning (s : State) (test f) : kept (mapRunning s test f) = kept s := by simp [mapRunning]
@[simp] theorem kept_endSlot (s : State) (p k a) : kept (endSlot s p k a) = kept s := by
  unfold endSlot
  split <;> simp
@[simp] theorem kept_dropSlot (s : State) (p k) : kept (dropSlot s p k) = kept s := by simp [dropSlot]

/-! ### Machine/Operands -/

@[simp] theorem kept_twtAnswer (s : State) (st result) : kept (twtAnswer s st result) = kept s := by
  unfold twtAnswer
  split <;> simp
@[simp] theorem kept_finish (s : State) (c a) : kept (finish s c a) = kept s := by simp [finish]
@[simp] theorem kept_finishOrigin (s : State) (o a) : kept (finishOrigin s o a) = kept s := by
  unfold finishOrigin
  split <;> simp
@[simp] theorem kept_refuse (s : State) (c reason) : kept (refuse s c reason) = kept s := by simp [refuse]
@[simp] theorem kept_turnAway (s : State) (c ch st result) : kept (turnAway s c ch st result) = kept s := by
  unfold turnAway
  split <;> simp
@[simp] theorem kept_turnBack (s : State) (c ch st) : kept (turnBack s c ch st) = kept s := by simp [turnBack]
@[simp] theorem kept_runOp (op : Nat) (o : Origin) (s : State) (bop chk) (eff : State → Ctx → State)
    (h : ∀ s c, kept (eff s c) = kept s) :
    kept (runOp op o s bop chk eff) = kept s := by
  rcases runOp_cases op o s bop chk eff with e | ⟨c, -, -, ⟨-, e⟩ | ⟨st, ch, e⟩⟩ <;> rw [e] <;> simp [h]
@[simp] theorem record_runOp (op : Nat) (o : Origin) (s : State) (bop chk) (eff : State → Ctx → State)
    (h : ∀ s c, (kept (eff s c)).record = (kept s).record) :
    (kept (runOp op o s bop chk eff)).record = (kept s).record := by
  rcases runOp_cases op o s bop chk eff with e | ⟨c, -, -, ⟨-, e⟩ | ⟨st, ch, e⟩⟩ <;> rw [e] <;> simp [h]
@[simp] theorem kept_markBegun (s : State) (o) : kept (markBegun s o) = kept s := by
  unfold markBegun
  simp only
  repeat' split
  all_goals simp
@[simp] theorem kept_runOnce (op : Nat) (o : Origin) (s : State) (bop chk) (eff : State → Ctx → State)
    (h : ∀ s c, kept (eff s c) = kept s) :
    kept (runOnce op o s bop chk eff) = kept s := by
  unfold runOnce
  split <;> simp [h]
@[simp] theorem record_runOnce (op : Nat) (o : Origin) (s : State) (bop chk) (eff : State → Ctx → State)
    (h : ∀ s c, (kept (eff s c)).record = (kept s).record) :
    (kept (runOnce op o s bop chk eff)).record = (kept s).record := by
  unfold runOnce
  split <;> simp [h]
@[simp] theorem kept_nextGeneration (s : State) (kind index) : kept (nextGeneration s kind index) = kept s := by
  simp [nextGeneration]
@[simp] theorem record_regionWrite (s : State) (r off bs) :
    (kept (regionWrite s r off bs)).record = (kept s).record := by
  simp [regionWrite, kept, Kept.record]
@[simp] theorem record_writeDesc (s : State) (p d bs) : (kept (writeDesc s p d bs)).record = (kept s).record := by
  unfold writeDesc
  repeat' split
  all_goals simp

/-! ### Machine/Buses -/

@[simp] theorem kept_setBus (s : State) (b f) : kept (setBus s b f) = kept s := by simp [setBus]
@[simp] theorem kept_markTargetAbsent (s : State) (b addr) : kept (markTargetAbsent s b addr) = kept s := by
  simp [markTargetAbsent]
@[simp] theorem kept_ownTraffic (s : State) (b addr answered) : kept (ownTraffic s b addr answered).2 = kept s := by
  unfold ownTraffic
  repeat' split
  all_goals simp

/-! ### Machine/Kt -/

@[simp] theorem kept_setTensor (s : State) (f) : kept (setTensor s f) = kept s := by simp [setTensor]
@[simp] theorem kept_setAon (s : State) (f) : kept (setAon s f) = kept s := by simp [setAon]
@[simp] theorem kept_setRail (s : State) (v f) : kept (setRail s v f) = kept s := by simp [setRail]
@[simp] theorem kept_writeSetpoint (s : State) (old) : kept (writeSetpoint s old) = kept s := by
  unfold writeSetpoint
  split <;> simp
@[simp] theorem kept_retune (s : State) : kept (retune s) = kept s := by simp [retune]
@[simp] theorem kept_requestPoint (s : State) (p) : kept (requestPoint s p) = kept s := by simp [requestPoint]
@[simp] theorem kept_setCeiling (s : State) (c) : kept (setCeiling s c) = kept s := by simp [setCeiling]
@[simp] theorem kept_ktSwitch (s : State) : kept (ktSwitch s) = kept s := by
  unfold ktSwitch
  simp only
  repeat' split
  all_goals simp
@[simp] theorem leaves_execKtSwitch (s : State) : Leaves kept s (execKtSwitch s) := by simp [execKtSwitch]
@[simp] theorem leaves_execKtIdleExpiry (s : State) : Leaves kept s (execKtIdleExpiry s) := by simp [execKtIdleExpiry]
@[simp] theorem kept_setpointPowerGood (s : State) (v) : kept (setpointPowerGood s v) = kept s := by
  unfold setpointPowerGood
  simp only
  repeat' split
  all_goals simp
@[simp] theorem leaves_execSetpointPowerGood (rail) (s : State) : Leaves kept s (execSetpointPowerGood rail s) := by
  simp [execSetpointPowerGood]
@[simp] theorem leaves_execKtLimitSet (o) (s : State) : Leaves kept s (execKtLimitSet o s) :=
  (leaves_next ..).mpr (kept_runOp _ _ _ _ _ _ fun s c => by
    simp only [kept_finish, kept_ite, kept_requestPoint, kept_retune, kept_setTensor, ite_self])

/-! ### Machine/Staging -/

@[simp] theorem kept_setVault (s : State) (f : Vault → Vault) (h : ∀ v, (f v).ledger = v.ledger) :
    kept (setVault s f) = kept s :=
  kept_with_vault s _ (h _)
@[simp] theorem kept_stage (s : State) (kind source detail waiter) :
    kept (stage s kind source detail waiter) = kept s := by
  simp [stage]
@[simp] theorem kept_answerWaiter (s : State) (w number) : kept (answerWaiter s w number) = kept s := by
  unfold answerWaiter
  split <;> simp
@[simp] theorem kept_verifyFrom (s : State) (n prev l) : kept (verifyFrom s n prev l) = kept s := by
  induction l generalizing s n prev with
  | nil => rfl
  | cons e l ih => simp [verifyFrom, ih]
@[simp] theorem kept_verifyLedger (s : State) : kept (verifyLedger s) = kept s := by simp [verifyLedger]

/-! ### Machine/Shutdown -/

@[simp] theorem kept_setBoot (s : State) (f : Boot → Boot) (h : ∀ b, (f b).product = b.product)
    (g : ∀ b, (f b).fuses = b.fuses) :
    kept (setBoot s f) = kept s :=
  kept_with_boot s _ (h _) (g _)
@[simp] theorem kept_dropMailboxWork (s : State) : kept (dropMailboxWork s) = kept s := by
  simp [kept, dropMailboxWork]
@[simp] theorem kept_cutUpdate (s : State) : kept (cutUpdate s) = kept s := by
  unfold cutUpdate
  split <;> simp
@[simp] theorem record_stopMain (s : State) : (kept (stopMain s)).record = (kept s).record := by
  unfold stopMain
  split
  · simp
  · change (kept (cutUpdate _)).record = _
    simp

/-! ### Machine/MainStart -/

@[simp] theorem kept_createAdministrator (s : State) : kept (createAdministrator s) = kept s := by
  simp [createAdministrator]
@[simp] theorem kept_startHosts (s : State) : kept (startHosts s) = kept s := by simp [startHosts]

/-! ### Machine/Homing -/

@[simp] theorem kept_setAxis (s : State) (i f) : kept (setAxis s i f) = kept s := by simp [setAxis]
@[simp] theorem kept_startHoming (s : State) (i fromFault release) :
    kept (startHoming s i fromFault release) = kept s := by
  simp [startHoming]
@[simp] theorem kept_driverGood (s : State) (v) : kept (driverGood s v) = kept s := by simp [driverGood]
@[simp] theorem kept_startAxes (s : State) : kept (startAxes s) = kept s := by simp [startAxes]
@[simp] theorem kept_homeIfReady (s : State) (i) : kept (homeIfReady s i) = kept s := by simp [homeIfReady]

/-! ### Machine/Power -/

@[simp] theorem kept_setSeq (s : State) (f) : kept (setSeq s f) = kept s := by simp [setSeq]
@[simp] theorem kept_writeSnapshot (s : State) (cause) : kept (writeSnapshot s cause) = kept s := by
  simp [writeSnapshot]
@[simp] theorem kept_releaseRail (s : State) (v) : kept (releaseRail s v) = kept s := by simp [releaseRail]
@[simp] theorem kept_enableRail (s : State) (v) : kept (enableRail s v) = kept s := by simp [enableRail]
@[simp] theorem record_releaseStep (s : State) (i) : (kept (releaseStep s i)).record = (kept s).record := by
  simp [releaseStep]
@[simp] theorem kept_fenceRail (s : State) (v) : kept (fenceRail s v) = kept s := by simp [fenceRail]
@[simp] theorem kept_startSequence (s : State) (state attempt) : kept (startSequence s state attempt) = kept s := by
  simp [startSequence]
@[simp] theorem kept_endProof (s : State) (ok) : kept (endProof s ok) = kept s := by
  unfold endProof
  split <;> simp
@[simp] theorem record_endDown (s : State) (goal) : (kept (endDown s goal)).record = (kept s).record := by
  unfold endDown
  split <;> simp
@[simp] theorem record_downNext (s : State) : (kept (downNext s)).record = (kept s).record := by
  unfold downNext
  split <;> simp
@[simp] theorem kept_abandonCalibration (s : State) : kept (abandonCalibration s) = kept s := by
  unfold abandonCalibration
  simp only
  repeat' split
  all_goals simp
@[simp] theorem kept_endRuns (s : State) (st) : kept (endRuns s st) = kept s := by
  unfold endRuns
  refine kept_foldl _ _ _ fun s x => ?_
  simp only
  repeat' split
  all_goals simp
@[simp] theorem record_powerDown (s : State) (goal) : (kept (powerDown s goal)).record = (kept s).record := by
  simp [powerDown]
@[simp] theorem record_sequenceTimeout (s : State) : (kept (sequenceTimeout s)).record = (kept s).record := by
  unfold sequenceTimeout
  simp only
  repeat' split
  all_goals simp
@[simp] theorem kept_setRun (s : State) (v r) : kept (setRun s v r) = kept s := by simp [setRun]
@[simp] theorem kept_startRail (s : State) (v purpose attempt o) : kept (startRail s v purpose attempt o) = kept s := by
  simp [startRail]
@[simp] theorem kept_railUp (s : State) (v r) : kept (railUp s v r) = kept s := by
  unfold railUp
  simp only
  repeat' split
  all_goals simp
@[simp] theorem kept_railDown (s : State) (v r) : kept (railDown s v r) = kept s := by
  unfold railDown
  simp only
  repeat' split
  all_goals simp
@[simp] theorem kept_setpointAbsent (s : State) (st absent) : kept (setpointAbsent s st absent).2 = kept s := by
  unfold setpointAbsent
  split <;> simp
@[simp] theorem record_goodTimeout (s : State) (i) : (kept (goodTimeout s i)).record = (kept s).record := by
  unfold goodTimeout
  simp only
  repeat' split
  all_goals simp
@[simp] theorem leaves_execPowerGoodTimeout (step) (s : State) :
    Leaves (fun t => (kept t).record) s (execPowerGoodTimeout step s) := by
  simp [execPowerGoodTimeout]
@[simp] theorem record_downExpiry (s : State) (i) : (kept (downExpiry s i)).record = (kept s).record := by
  unfold downExpiry
  simp only
  repeat' split
  all_goals simp
@[simp] theorem leaves_execPowerDownDelayExpiry (step) (s : State) :
    Leaves (fun t => (kept t).record) s (execPowerDownDelayExpiry step s) := by
  simp [execPowerDownDelayExpiry]
@[simp] theorem kept_offTimeExpiry (s : State) (x) : kept (offTimeExpiry s x) = kept s := by
  unfold offTimeExpiry
  repeat' split
  all_goals simp
@[simp] theorem leaves_execRetryOffTimeExpiry (rail) (s : State) : Leaves kept s (execRetryOffTimeExpiry rail s) := by
  simp [execRetryOffTimeExpiry]
@[simp] theorem kept_provingExpiry (s : State) (v) : kept (provingExpiry s v) = kept s := by
  unfold provingExpiry
  simp only
  split <;> simp
@[simp] theorem leaves_execRailProvingExpiry (rail) (s : State) : Leaves kept s (execRailProvingExpiry rail s) := by
  unfold execRailProvingExpiry
  split <;> simp
@[simp] theorem record_railFault (s : State) (v check) : (kept (railFault s v check)).record = (kept s).record := by
  unfold railFault
  simp only
  repeat' split
  all_goals simp
@[simp] theorem leaves_execRailFault (rail) (s : State) :
    Leaves (fun t => (kept t).record) s (execRailFault rail s) := by
  simp [execRailFault]
@[simp] theorem record_judge (s : State) (v channel mv) : (kept (judge s v channel mv)).record = (kept s).record := by
  simp [judge]
@[simp] theorem kept_operatingCondition (s : State) (quantity index outside) :
    kept (operatingCondition s quantity index outside) = kept s := by
  simp [operatingCondition]
@[simp] theorem kept_judgeRange (s : State) (v mv) : kept (judgeRange s v mv) = kept s := by simp [judgeRange]
@[simp] theorem record_windowScan (s : State) (a b vinA vinB vaon) :
    (kept (windowScan s a b vinA vinB vaon)).record = (kept s).record := by
  simp [windowScan]
@[simp] theorem leaves_execRailWindowScan (a b vin vaon) (s : State) :
    Leaves (fun t => (kept t).record) s (execRailWindowScan a b vin vaon s) := by
  simp [execRailWindowScan]
@[simp] theorem kept_fenceChannel (s : State) (sensor channel) : kept (fenceChannel s sensor channel) = kept s := by
  simp [fenceChannel]
@[simp] theorem leaves_execPmbusReadPoll (rail mv current) (s : State) :
    Leaves (fun t => (kept t).record) s (execPmbusReadPoll rail mv current s) := by
  unfold execPmbusReadPoll
  simp only
  repeat' split
  all_goals simp
@[simp] theorem kept_disagreement (s : State) (sensor failA failB) :
    kept (disagreement s sensor failA failB) = kept s := by
  simp [disagreement]
@[simp] theorem leaves_execSensorDisagreement (sensor failA failB) (s : State) :
    Leaves kept s (execSensorDisagreement sensor failA failB s) := by
  simp [execSensorDisagreement]
@[simp] theorem kept_dropRuns (s : State) : kept (dropRuns s) = kept s := by simp [dropRuns]
@[simp] theorem kept_releaseAll (s : State) : kept (releaseAll s) = kept s := by simp [releaseAll]
@[simp] theorem record_collapse (s : State) : (kept (collapse s)).record = (kept s).record := by simp [collapse]
@[simp] theorem leaves_execCollapse (s : State) : Leaves (fun t => (kept t).record) s (execCollapse s) := by
  simp [execCollapse]
@[simp] theorem kept_qualified (s : State) : kept (qualified s) = kept s := by
  unfold qualified
  simp only
  repeat' split
  all_goals simp
@[simp] theorem leaves_execRestartQualified (s : State) : Leaves kept s (execRestartQualified s) := by
  simp [execRestartQualified]
@[simp] theorem leaves_execCollapseWindowExpiry (s : State) : Leaves kept s (execCollapseWindowExpiry s) := by
  unfold execCollapseWindowExpiry
  simp only
  split <;> simp
@[simp] theorem kept_railSwitchEffect (o) (s : State) (c) : kept (railSwitchEffect o s c) = kept s := by
  simp [railSwitchEffect]
@[simp] theorem leaves_execRailSwitch (o) (s : State) : Leaves kept s (execRailSwitch o s) := by simp [execRailSwitch]
@[simp] theorem kept_railFenceReleaseEffect (o) (s : State) (c) : kept (railFenceReleaseEffect o s c) = kept s := by
  simp [railFenceReleaseEffect]
@[simp] theorem leaves_execRailFenceRelease (o) (s : State) : Leaves kept s (execRailFenceRelease o s) := by
  simp [execRailFenceRelease]
@[simp] theorem record_powerRequest (o code due goal) (s : State) :
    (kept (powerRequest o code due goal s)).record = (kept s).record := by
  unfold powerRequest
  simp only
  repeat' split
  all_goals simp
@[simp] theorem leaves_execPowerDown (o) (s : State) : Leaves (fun t => (kept t).record) s (execPowerDown o s) := by
  simp [execPowerDown]
@[simp] theorem leaves_execDeviceRestart (o) (s : State) :
    Leaves (fun t => (kept t).record) s (execDeviceRestart o s) := by
  simp [execDeviceRestart]
@[simp] theorem leaves_execRestartFromHeldOff (o) (s : State) : Leaves kept s (execRestartFromHeldOff o s) := by
  simp [execRestartFromHeldOff]
@[simp] theorem kept_snapshotReadEffect (s : State) (c) : kept (snapshotReadEffect s c) = kept s := by
  simp [snapshotReadEffect]
@[simp] theorem leaves_execSnapshotRead (o) (s : State) : Leaves kept s (execSnapshotRead o s) := by
  simp [execSnapshotRead]

/-! ### Machine/Fans -/

@[simp] theorem kept_setFan (s : State) (i f) : kept (setFan s i f) = kept s := by simp [setFan]
@[simp] theorem kept_updateCeiling (s : State) : kept (updateCeiling s) = kept s := by simp [updateCeiling]
@[simp] theorem kept_startSpin (s : State) (i st) : kept (startSpin s i st) = kept s := by simp [startSpin]
@[simp] theorem kept_updateFans (s : State) : kept (updateFans s) = kept s := by simp [updateFans]
@[simp] theorem kept_startFans (s : State) : kept (startFans s) = kept s := by simp [startFans]
@[simp] theorem kept_spinPassed (s : State) (i) : kept (spinPassed s i) = kept s := by simp [spinPassed]
@[simp] theorem kept_spinFailed (s : State) (i noPulse) : kept (spinFailed s i noPulse) = kept s := by simp [spinFailed]
@[simp] theorem kept_spinCheck (s : State) (i final) : kept (spinCheck s i final) = kept s := by simp [spinCheck]
@[simp] theorem leaves_execSpinUpCheck (fan final) (s : State) : Leaves kept s (execSpinUpCheck fan final s) := by
  simp [execSpinUpCheck]
@[simp] theorem leaves_execFanPauseExpiry (fan) (s : State) : Leaves kept s (execFanPauseExpiry fan s) := by
  simp [execFanPauseExpiry]
@[simp] theorem kept_tachPulse (s : State) (i rpm) : kept (tachPulse s i rpm) = kept s := by simp [tachPulse]
@[simp] theorem leaves_execFanTachPulse (fan rpm) (s : State) : Leaves kept s (execFanTachPulse fan rpm s) := by
  simp [execFanTachPulse]
@[simp] theorem kept_tachLost (s : State) (i) : kept (tachLost s i) = kept s := by simp [tachLost]
@[simp] theorem leaves_execTachLost (fan) (s : State) : Leaves kept s (execTachLost fan s) := by simp [execTachLost]
@[simp] theorem kept_tachRestored (s : State) (i) : kept (tachRestored s i) = kept s := by
  unfold tachRestored
  simp only
  repeat' split
  all_goals simp
@[simp] theorem leaves_execTachRestored (fan) (s : State) : Leaves kept s (execTachRestored fan s) := by
  simp [execTachRestored]
@[simp] theorem leaves_execTachLostLasting (fan) (s : State) : Leaves kept s (execTachLostLasting fan s) := by
  simp [execTachLostLasting]
@[simp] theorem leaves_execFanFloorSet (o) (s : State) : Leaves kept s (execFanFloorSet o s) := by
  simp [execFanFloorSet]
@[simp] theorem leaves_execFanRestart (o) (s : State) : Leaves kept s (execFanRestart o s) := by simp [execFanRestart]
@[simp] theorem leaves_execFanStatus (o) (s : State) : Leaves kept s (execFanStatus o s) := by simp [execFanStatus]

/-! ### Machine/Axes -/

@[simp] theorem kept_judgeMove (s : State) (i) : kept (judgeMove s i) = kept s := by
  unfold judgeMove
  simp only
  split <;> simp
@[simp] theorem kept_retarget (s : State) (i t) : kept (retarget s i t) = kept s := by simp [retarget]
@[simp] theorem kept_planRetarget (s : State) (i) : kept (planRetarget s i) = kept s := by
  unfold planRetarget
  repeat' split
  all_goals simp
@[simp] theorem kept_endRelease (s : State) (i st) : kept (endRelease s i st) = kept s := by
  unfold endRelease
  split <;> simp
@[simp] theorem kept_fenceAxis (s : State) (i cause) : kept (fenceAxis s i cause) = kept s := by simp [fenceAxis]
@[simp] theorem kept_axisFault (s : State) (i kind) : kept (axisFault s i kind) = kept s := by simp [axisFault]
@[simp] theorem kept_feedback (s : State) (i sin cos angle) : kept (feedback s i sin cos angle) = kept s := by
  simp [feedback]
@[simp] theorem leaves_execAxisFeedbackSample (axis sin cos angle) (s : State) :
    Leaves kept s (execAxisFeedbackSample axis sin cos angle s) := by
  simp [execAxisFeedbackSample]
@[simp] theorem kept_trajectory (s : State) (i pos vel acc) : kept (trajectory s i pos vel acc) = kept s := by
  simp [trajectory]
@[simp] theorem leaves_execTrajectoryUpdate (axis pos vel acc) (s : State) :
    Leaves kept s (execTrajectoryUpdate axis pos vel acc s) := by
  simp [execTrajectoryUpdate]
@[simp] theorem kept_referenceMark (s : State) (i sin cos angle) : kept (referenceMark s i sin cos angle) = kept s := by
  simp [referenceMark]
@[simp] theorem leaves_execReferenceMark (axis sin cos angle) (s : State) :
    Leaves kept s (execReferenceMark axis sin cos angle s) := by
  simp [execReferenceMark]
@[simp] theorem leaves_execHomingAttemptFailed (axis) (s : State) : Leaves kept s (execHomingAttemptFailed axis s) := by
  simp [execHomingAttemptFailed]
@[simp] theorem leaves_execHomingRetryExpiry (axis) (s : State) : Leaves kept s (execHomingRetryExpiry axis s) := by
  simp [execHomingRetryExpiry]
@[simp] theorem kept_faultRecovery (s : State) (i) : kept (faultRecovery s i) = kept s := by
  unfold faultRecovery
  simp only
  repeat' split
  all_goals simp
@[simp] theorem leaves_execAxisFaultRecovery (axis) (s : State) : Leaves kept s (execAxisFaultRecovery axis s) := by
  simp [execAxisFaultRecovery]
@[simp] theorem leaves_execAxisTarget (o) (s : State) : Leaves kept s (execAxisTarget o s) := by simp [execAxisTarget]
@[simp] theorem leaves_execAxisLimitsSet (o) (s : State) : Leaves kept s (execAxisLimitsSet o s) := by
  simp [execAxisLimitsSet]
@[simp] theorem leaves_execAxisModeSet (o) (s : State) : Leaves kept s (execAxisModeSet o s) := by
  simp [execAxisModeSet]
@[simp] theorem leaves_execAxisHome (o) (s : State) : Leaves kept s (execAxisHome o s) := by simp [execAxisHome]
@[simp] theorem leaves_execAxisRelease (o) (s : State) : Leaves kept s (execAxisRelease o s) := by
  simp [execAxisRelease]
@[simp] theorem leaves_execAxisStatus (o) (s : State) : Leaves kept s (execAxisStatus o s) := by simp [execAxisStatus]

/-! ### Machine/Queues -/

@[simp] theorem kept_setPort (s : State) (n f) : kept (setPort s n f) = kept s := by simp [setPort]
@[simp] theorem kept_setQueue (s : State) (cls n f) : kept (setQueue s cls n f) = kept s := by simp [setQueue]
@[simp] theorem kept_setDomain (s : State) (d f) : kept (setDomain s d f) = kept s := by simp [setDomain]
@[simp] theorem kept_takeCredit (s : State) (cls n) : kept (takeCredit s cls n) = kept s := by simp [takeCredit]
@[simp] theorem kept_freeEntries (s : State) (cls n k) : kept (freeEntries s cls n k) = kept s := by simp [freeEntries]
@[simp] theorem kept_noteStall (s : State) (cls n) : kept (noteStall s cls n) = kept s := by simp [noteStall]
@[simp] theorem kept_endStall (s : State) (cls n) : kept (endStall s cls n) = kept s := by
  unfold endStall
  simp only
  split <;> simp
@[simp] theorem kept_crossQueue (s : State) (cls n) : kept (crossQueue s cls n) = kept s := by
  obtain ⟨_, h⟩ := crossQueue_spec s cls n
  rw [h, kept_with_queues]

/-! ### Machine/Links -/

@[simp] theorem kept_nextStream (s : State) (src dst p) : kept (nextStream s src dst p).2 = kept s := by
  simp [nextStream]
@[simp] theorem kept_sendControl (s : State) (n flags) : kept (sendControl s n flags) = kept s := by simp [sendControl]
@[simp] theorem kept_dataSlot (s : State) (n) : kept (dataSlot s n) = kept s := by simp [dataSlot]
@[simp] theorem kept_startAckTimer (s : State) (port content wb) : kept (startAckTimer s port content wb) = kept s := by
  simp [startAckTimer]
@[simp] theorem kept_transmit (s : State) (n content wb payload) : kept (transmit s n content wb payload) = kept s := by
  simp [transmit]
@[simp] theorem kept_sendLink (s : State) (n content wb payload) : kept (sendLink s n content wb payload) = kept s := by
  simp [sendLink]
@[simp] theorem kept_flushFuel (f : Nat) (s : State) (n) : kept (flushFuel f s n) = kept s := by
  induction f generalizing s with
  | zero => rfl
  | succ f ih =>
    unfold flushFuel
    simp only
    repeat' split
    all_goals simp [ih]
@[simp] theorem kept_flushWaiting (s : State) (n) : kept (flushWaiting s n) = kept s := by simp [flushWaiting]
@[simp] theorem kept_sendConvoyControl (s : State) (port kind n p generation count) :
    kept (sendConvoyControl s port kind n p generation count) = kept s := by
  simp [sendConvoyControl]
@[simp] theorem kept_countCarried (s : State) (n port) : kept (countCarried s n port) = kept s := by simp [countCarried]
@[simp] theorem kept_sendBulkFrom (src) (s : State) (port content p convoy cmd offset last payload) :
    kept (sendBulkFrom src s port content p convoy cmd offset last payload) = kept s := by
  unfold sendBulkFrom
  split <;> simp
@[simp] theorem kept_sendBulk (s : State) (port content p convoy cmd offset last payload) :
    kept (sendBulk s port content p convoy cmd offset last payload) = kept s := by
  simp [sendBulk]

/-! ### Machine/Convoys -/

@[simp] theorem kept_setConvoy (s : State) (n f) : kept (setConvoy s n f) = kept s := by simp [setConvoy]
@[simp] theorem kept_inConvoy (eff : State → Ctx → State) (s : State) (c : Ctx) (h : ∀ s c, kept (eff s c) = kept s) :
    kept (inConvoy eff s c) = kept s := by
  rcases inConvoy_cases eff s c with e | e | ⟨n, -, e⟩ <;> rw [e] <;> simp [h]
@[simp] theorem record_inConvoy (eff : State → Ctx → State) (s : State) (c : Ctx)
    (h : ∀ s c, (kept (eff s c)).record = (kept s).record) :
    (kept (inConvoy eff s c)).record = (kept s).record := by
  rcases inConvoy_cases eff s c with e | e | ⟨n, -, e⟩ <;> rw [e] <;> simp [h]
@[simp] theorem kept_openConvoy (s : State) (n p owner) : kept (openConvoy s n p owner) = kept s := by simp [openConvoy]
@[simp] theorem kept_sealConvoy (s : State) (n) : kept (sealConvoy s n) = kept s := by simp [sealConvoy]
@[simp] theorem kept_startSweeps (s : State) (n cancelled) : kept (startSweeps s n cancelled) = kept s := by
  simp [startSweeps]
@[simp] theorem kept_crossTo (s : State) (key dst) : kept (crossTo s key dst) = kept s := by
  unfold crossTo
  split <;> simp
@[simp] theorem kept_parcelOut (s : State) (bs) : kept (parcelOut s bs) = kept s := by simp [parcelOut]
@[simp] theorem kept_releaseHeld (s : State) (e) : kept (releaseHeld s e) = kept s := by simp [releaseHeld]
@[simp] theorem kept_applySignals (s : State) (n) (signal : State → Nat → Nat → Nat → State)
    (h : ∀ s a b c, kept (signal s a b c) = kept s) : kept (applySignals s n signal) = kept s := by
  simp [applySignals, h]
@[simp] theorem kept_confirmConvoy (s : State) (n) (signal : State → Nat → Nat → Nat → State)
    (h : ∀ s a b c, kept (signal s a b c) = kept s) : kept (confirmConvoy s n signal) = kept s := by
  unfold confirmConvoy
  simp only
  split
  · rfl
  · rw [kept_applySignals _ _ _ h]
    repeat' split
    all_goals simp
@[simp] theorem kept_dropWaitingParcels (s : State) (n generation) :
    kept (dropWaitingParcels s n generation) = kept s := by
  simp [dropWaitingParcels]
@[simp] theorem kept_cancelConvoy (s : State) (n cause resource) : kept (cancelConvoy s n cause resource) = kept s := by
  unfold cancelConvoy
  simp only
  repeat' split
  all_goals simp
@[simp] theorem kept_cancelWhere (s : State) (f cause resource) : kept (cancelWhere s f cause resource).2 = kept s := by
  simp [cancelWhere]
@[simp] theorem kept_forgetPortAcks (s : State) (port) : kept (forgetPortAcks s port) = kept s := by
  simp [forgetPortAcks]

/-! ### Machine/Sync -/

@[simp] theorem kept_setSync (s : State) (i o) : kept (setSync s i o) = kept s := by simp [setSync]
@[simp] theorem kept_releaseWaiter (s : State) (w st counter) : kept (releaseWaiter s w st counter) = kept s := by
  simp [releaseWaiter]
@[simp] theorem kept_syncAdd (s : State) (i value) : kept (syncAdd s i value) = kept s := by
  unfold syncAdd
  split <;> simp
@[simp] theorem kept_discardSignal (s : State) (port reason handle) :
    kept (discardSignal s port reason handle) = kept s := by
  simp [discardSignal]
@[simp] theorem kept_applySignal (s : State) (handle value source) :
    kept (applySignal s handle value source) = kept s := by
  unfold applySignal
  split <;> simp
@[simp] theorem kept_dropWaiters (s : State) (i st) : kept (dropWaiters s i st) = kept s := by
  unfold dropWaiters
  split <;> simp
@[simp] theorem kept_forgetWaiter (s : State) (w) : kept (forgetWaiter s w) = kept s := by simp [forgetWaiter]
@[simp] theorem kept_markAbsent (s : State) (port) : kept (markAbsent s port) = kept s := by simp [markAbsent]
@[simp] theorem kept_clearAbsent (s : State) (port) : kept (clearAbsent s port) = kept s := by simp [clearAbsent]
@[simp] theorem kept_syncCreateEffect (s : State) (c) : kept (syncCreateEffect s c) = kept s := by
  unfold syncCreateEffect
  split <;> simp
@[simp] theorem leaves_execSyncCreate (o) (s : State) : Leaves kept s (execSyncCreate o s) := by simp [execSyncCreate]
@[simp] theorem kept_syncDestroyEffect (s : State) (c) : kept (syncDestroyEffect s c) = kept s := by
  simp [syncDestroyEffect]
@[simp] theorem leaves_execSyncDestroy (o) (s : State) : Leaves kept s (execSyncDestroy o s) := by
  simp [execSyncDestroy]
@[simp] theorem kept_syncSignalEffect (s : State) (c) : kept (syncSignalEffect s c) = kept s := by
  simp [syncSignalEffect]
@[simp] theorem leaves_execSyncSignal (o) (s : State) : Leaves kept s (execSyncSignal o s) := by simp [execSyncSignal]
@[simp] theorem kept_syncWaitEffect (s : State) (c) : kept (syncWaitEffect s c) = kept s := by
  unfold syncWaitEffect
  simp only
  split <;> simp
@[simp] theorem kept_syncReadEffect (s : State) (c) : kept (syncReadEffect s c) = kept s := by
  unfold syncReadEffect
  split <;> simp
@[simp] theorem leaves_execSyncRead (o) (s : State) : Leaves kept s (execSyncRead o s) := by simp [execSyncRead]
@[simp] theorem kept_syncBindEffect (s : State) (c) : kept (syncBindEffect s c) = kept s := by
  unfold syncBindEffect
  split <;> simp
@[simp] theorem leaves_execSyncBind (o) (s : State) : Leaves kept s (execSyncBind o s) := by simp [execSyncBind]
@[simp] theorem kept_syncSignalParcel (s : State) (port payload cv) :
    kept (syncSignalParcel s port payload cv) = kept s := by
  unfold syncSignalParcel
  simp only
  repeat' split
  all_goals simp
@[simp] theorem leaves_execSyncSignalParcel (port payload cv) (s : State) :
    Leaves kept s (execSyncSignalParcel port payload cv s) := by
  simp [execSyncSignalParcel]

/-! ### Machine/NodeMemory -/

@[simp] theorem kept_setMemory (s : State) (f : Memory → Memory) (h : ∀ m, (f m).bytes = m.bytes)
    (g : ∀ m, (f m).spill = m.spill) :
    kept (setMemory s f) = kept s :=
  kept_with_memory s _ (h _) (g _)
@[simp] theorem record_setMemory (s : State) (f) : (kept (setMemory s f)).record = (kept s).record := by
  simp [setMemory, kept, Kept.record]
@[simp] theorem kept_setGranule (s : State) (g f) : kept (setGranule s g f) = kept s := by simp [setGranule]
@[simp] theorem kept_regionAllocateEffect (s : State) (c) : kept (regionAllocateEffect s c) = kept s := by
  unfold regionAllocateEffect
  split <;> simp
@[simp] theorem leaves_execRegionAllocate (o) (s : State) : Leaves kept s (execRegionAllocate o s) := by
  simp [execRegionAllocate]
@[simp] theorem kept_startClearing (s : State) (gs) : kept (startClearing s gs) = kept s := by simp [startClearing]
@[simp] theorem kept_regionFreeEffect (s : State) (c) : kept (regionFreeEffect s c) = kept s := by
  unfold regionFreeEffect
  split <;> simp
@[simp] theorem leaves_execRegionFree (o) (s : State) : Leaves kept s (execRegionFree o s) := by simp [execRegionFree]
@[simp] theorem kept_startRetirement (s : State) (g lost) : kept (startRetirement s g lost) = kept s := by
  simp [startRetirement]
@[simp] theorem kept_wordRead (s : State) (line word found) : kept (wordRead s line word found) = kept s := by
  unfold wordRead
  split <;> simp
@[simp] theorem kept_onWord (hit : State → Ctx → Nat → Bool) (word) (eff : State → Ctx → State) (s : State) (c : Ctx)
    (h : ∀ s c, kept (eff s c) = kept s) :
    kept (onWord hit word eff s c) = kept s := by
  unfold onWord
  repeat' split
  all_goals simp [h]
@[simp] theorem record_onWord (hit : State → Ctx → Nat → Bool) (word) (eff : State → Ctx → State) (s : State) (c : Ctx)
    (h : ∀ s c, (kept (eff s c)).record = (kept s).record) :
    (kept (onWord hit word eff s c)).record = (kept s).record := by
  unfold onWord
  repeat' split
  all_goals simp [h]
@[simp] theorem record_memoryTransferEffect (hostData) (s : State) (c) :
    (kept (memoryTransferEffect hostData s c)).record = (kept s).record := by
  unfold memoryTransferEffect
  simp only
  repeat' split
  all_goals simp
@[simp] theorem leaves_execMemoryTransfer (o hostData) (s : State) :
    Leaves (fun t => (kept t).record) s (execMemoryTransfer o hostData s) :=
  (leaves_next ..).mpr (record_runOp _ _ _ _ _ _ fun _ _ => record_inConvoy _ _ _ fun _ _ =>
    record_onWord _ _ _ _ _ (record_memoryTransferEffect _))
@[simp] theorem kept_damageModel (s : State) (key cause) : kept (damageModel s key cause) = kept s := by
  unfold damageModel
  split <;> simp
@[simp] theorem kept_scrubRead (s : State) (u found) : kept (scrubRead s u found) = kept s := by
  unfold scrubRead
  simp only
  split
  · simp
  · split
    · rw [kept_guard, kept_with_faults]
      simp
    · simp
@[simp] theorem leaves_execScrubRead (unit found) (s : State) : Leaves kept s (execScrubRead unit found s) := by
  simp [execScrubRead]
@[simp] theorem record_copyGranule (s : State) (g r) : (kept (copyGranule s g r)).record = (kept s).record :=
  record_setMemory ..
@[simp] theorem kept_replaceGranule (s : State) (g r) : kept (replaceGranule s g r) = kept s := by simp [replaceGranule]
@[simp] theorem kept_loseGranule (s : State) (g) : kept (loseGranule s g) = kept s := by
  unfold loseGranule
  simp only
  repeat' split
  all_goals simp
@[simp] theorem record_retirementEnd (s : State) (g) : (kept (retirementEnd s g)).record = (kept s).record := by
  unfold retirementEnd
  simp only
  repeat' split
  all_goals simp
@[simp] theorem kept_sweepEnd (s : State) (u) : kept (sweepEnd s u) = kept s := by
  unfold sweepEnd
  simp only
  split <;> simp
@[simp] theorem leaves_execSweepEnd (unit) (s : State) : Leaves kept s (execSweepEnd unit s) := by simp [execSweepEnd]

/-! ### Machine/Slots -/

@[simp] theorem kept_countBlocks (s : State) (e blocks) : kept (countBlocks s e blocks) = kept s := by
  simp [countBlocks]
@[simp] theorem kept_setNet (s : State) (j f) : kept (setNet s j f) = kept s := by simp [setNet]
@[simp] theorem kept_flowControl (s : State) (j priority) : kept (flowControl s j priority) = kept s := by
  simp [flowControl]
@[simp] theorem kept_releaseBuffer (s : State) (j size) : kept (releaseBuffer s j size) = kept s := by
  simp [releaseBuffer]
@[simp] theorem kept_dropFrame (s : State) (j cause) : kept (dropFrame s j cause) = kept s := by simp [dropFrame]
theorem kept_macsecOpen {s t : State} {j f b} (h : macsecOpen s j f = some (b, t)) : kept t = kept s := by
  unfold macsecOpen at h
  simp only at h
  repeat' split at h
  all_goals cases h
  all_goals simp
theorem kept_macsecSeal {s t : State} {j f b} (h : macsecSeal s j f = some (b, t)) : kept t = kept s := by
  unfold macsecSeal at h
  repeat' split at h
  all_goals cases h
  all_goals simp
@[simp] theorem kept_transmit_ (s : State) (j o f) : kept (transmit_ s j o f) = kept s := by
  unfold transmit_
  split
  · simp
  · next h => simp [kept_macsecSeal h]
@[simp] theorem kept_networkDown (s : State) (j) : kept (networkDown s j) = kept s := by simp [networkDown]
@[simp] theorem kept_fenceMacsec (s : State) (j) : kept (fenceMacsec s j) = kept s := by simp [fenceMacsec]
@[simp] theorem kept_macsecMismatch (s : State) (j again) : kept (macsecMismatch s j again) = kept s := by
  simp [macsecMismatch]
@[simp] theorem kept_flushTx (s : State) (j) : kept (flushTx s j) = kept s := by simp [flushTx]
@[simp] theorem kept_gateFrame (s : State) (j o f) : kept (gateFrame s j o f) = kept s := by simp [gateFrame]
@[simp] theorem kept_pausePriority (s : State) (j priority quanta) :
    kept (pausePriority s j priority quanta) = kept s := by
  simp [pausePriority]

/-! ### Machine/Keys -/

@[simp] theorem kept_installKey (s : State) (index owner kind usage key) :
    kept (installKey s index owner kind usage key) = kept s := by
  simp [installKey]
@[simp] theorem kept_withUnwrapped (s : State) (c kind wrapped) (f : State → List Byte → State)
    (h : ∀ s k, kept (f s k) = kept s) :
    kept (withUnwrapped s c kind wrapped f) = kept s := by
  unfold withUnwrapped
  split <;> simp [h]
@[simp] theorem kept_installEffect (s : State) (c p kind usage key) :
    kept (installEffect s c p kind usage key) = kept s := by
  unfold installEffect
  split <;> simp
@[simp] theorem leaves_execKeyInstall (o) (s : State) : Leaves kept s (execKeyInstall o s) := by simp [execKeyInstall]
@[simp] theorem kept_drawKey (s : State) (kind) : kept (drawKey s kind).2 = kept s := by simp [drawKey]
@[simp] theorem leaves_execKeyGenerate (o) (s : State) : Leaves kept s (execKeyGenerate o s) := by
  simp [execKeyGenerate]
@[simp] theorem kept_replaceEffect (s : State) (c owner kind usage key) :
    kept (replaceEffect s c owner kind usage key) = kept s := by
  simp [replaceEffect]
@[simp] theorem kept_keyReplaceEffect (s : State) (c) : kept (keyReplaceEffect s c) = kept s := by
  unfold keyReplaceEffect
  split <;> simp
@[simp] theorem leaves_execKeyReplace (o) (s : State) : Leaves kept s (execKeyReplace o s) := by simp [execKeyReplace]
@[simp] theorem leaves_execKeyDestroy (o) (s : State) : Leaves kept s (execKeyDestroy o s) := by simp [execKeyDestroy]
@[simp] theorem leaves_execKeyQuery (o) (s : State) : Leaves kept s (execKeyQuery o s) :=
  (leaves_next ..).mpr (kept_runOp _ _ _ _ _ _ fun s c => by split <;> simp)
@[simp] theorem leaves_execOwnSlotKeyReplace (o) (s : State) : Leaves kept s (execOwnSlotKeyReplace o s) := by
  simp [execOwnSlotKeyReplace]
@[simp] theorem kept_loseKeySlot (s : State) (i) : kept (loseKeySlot s i) = kept s := by
  unfold loseKeySlot
  split
  · rfl
  · rw [kept_raiseBoth]
    exact kept_congr rfl rfl rfl rfl
@[simp] theorem kept_engineMismatch (s : State) (e again) : kept (engineMismatch s e again) = kept s := by
  simp [engineMismatch]
@[simp] theorem record_cipherEffect (aadHost inputHost fault) (s : State) (c) :
    (kept (cipherEffect aadHost inputHost fault s c)).record = (kept s).record := by
  unfold cipherEffect
  simp only
  repeat' split
  all_goals simp
@[simp] theorem leaves_execCipherOperation (o aad input fault) (s : State) :
    Leaves (fun t => (kept t).record) s (execCipherOperation o aad input fault s) :=
  (leaves_next ..).mpr (record_runOp _ _ _ _ _ _ fun _ _ => record_inConvoy _ _ _ fun _ _ =>
    record_onWord _ _ _ _ _ (record_cipherEffect _ _ _))
@[simp] theorem kept_withTransport (s : State) : kept (withTransport s) = kept s := by
  unfold withTransport
  split <;> rfl
@[simp] theorem kept_leafSignature (s : State) (msg) : kept (leafSignature s msg).2 = kept s := by simp [leafSignature]
@[simp] theorem leaves_execTransportKeyGet (o) (s : State) :
    Leaves (fun t => (kept t).record) s (execTransportKeyGet o s) := by
  simp [execTransportKeyGet]
@[simp] theorem kept_akekEffect (host) (s : State) (c) : kept (akekEffect host s c) = kept s := by simp [akekEffect]
@[simp] theorem leaves_execAkekEstablish (o qe) (s : State) : Leaves kept s (execAkekEstablish o qe s) := by
  simp [execAkekEstablish]
@[simp] theorem kept_installReceiptKey (s : State) (p key) : kept (installReceiptKey s p key) = kept s := by
  simp [installReceiptKey]
@[simp] theorem kept_receiptKeyEffect (s : State) (c) : kept (receiptKeyEffect s c) = kept s := by
  unfold receiptKeyEffect
  split <;> simp
@[simp] theorem leaves_execReceiptKeyChange (o) (s : State) : Leaves kept s (execReceiptKeyChange o s) := by
  simp [execReceiptKeyChange]
@[simp] theorem kept_cipherZeroise (s : State) : kept (cipherZeroise s) = kept s := by
  unfold cipherZeroise
  rw [kept_raiseAdmin]
  change kept (List.foldl _ _ _) = _
  simp

/-! ### Machine/Vault -/

@[simp] theorem kept_tellValidity (before : State) (s : State) : kept (tellValidity before s) = kept s := by
  simp [tellValidity]
@[simp] theorem kept_capture (s : State) (ch dir) : kept (capture s ch dir) = kept s := by simp [capture]
@[simp] theorem kept_vaultReset (s : State) (vaonValid) : kept (vaultReset s vaonValid) = kept s := by
  unfold vaultReset
  simp only
  split
  · simp
  · rw [kept_stage, kept_raiseVault, kept_setVault, kept_with_domains, kept_freshState]
    exact fun _ => rfl
@[simp] theorem leaves_execVaultPowerOnReset (vaonValid) (s : State) :
    Leaves kept s (execVaultPowerOnReset vaonValid s) := by
  simp [execVaultPowerOnReset]
@[simp] theorem kept_supplySwitched (s : State) (toVbat) : kept (supplySwitched s toVbat) = kept s := by
  simp [supplySwitched]
@[simp] theorem leaves_execVaultSwitchToVbat (s : State) : Leaves kept s (execVaultSwitchToVbat s) := by
  simp [execVaultSwitchToVbat]
@[simp] theorem leaves_execVaonReturn (above) (s : State) : Leaves kept s (execVaonReturn above s) := by
  unfold execVaonReturn
  simp only
  split <;> simp
@[simp] theorem leaves_execVaultReturnToMain (s : State) : Leaves kept s (execVaultReturnToMain s) := by
  unfold execVaultReturnToMain
  simp only
  split <;> simp
@[simp] theorem record_alwaysOnReset (s : State) : (kept (alwaysOnReset s)).record = (kept s).record := by
  unfold alwaysOnReset
  split
  · rfl
  · exact record_stopMain s
@[simp] theorem record_vaultOff (s : State) : (kept (vaultOff s)).record = (kept s).record :=
  record_alwaysOnReset s
@[simp] theorem leaves_execVaultOff (s : State) : Leaves (fun t => (kept t).record) s (execVaultOff s) := by
  simp [execVaultOff]
@[simp] theorem leaves_execVbatMeasurement (mv) (s : State) : Leaves kept s (execVbatMeasurement mv s) := by
  simp [execVbatMeasurement]
@[simp] theorem leaves_execCrystalAmplitudeReached (s : State) : Leaves kept s (execCrystalAmplitudeReached s) := by
  simp [execCrystalAmplitudeReached]
@[simp] theorem leaves_execEvtCapture (input rising) (s : State) : Leaves kept s (execEvtCapture input rising s) := by
  simp [execEvtCapture]
@[simp] theorem kept_fireAlarm (s : State) (i) : kept (fireAlarm s i) = kept s := by simp [fireAlarm]
@[simp] theorem kept_fireAlarms (s : State) (from_ upTo) : kept (fireAlarms s from_ upTo) = kept s := by
  simp [fireAlarms]
@[simp] theorem kept_countSecond (s : State) : kept (countSecond s) = kept s := by simp [countSecond]
@[simp] theorem kept_discipline (s : State) (gain) : kept (discipline s gain) = kept s := by simp [discipline]
@[simp] theorem leaves_execRtcSecond (gain) (s : State) : Leaves kept s (execRtcSecond gain s) := by
  simp [execRtcSecond]
@[simp] theorem kept_trimInterval (s : State) : kept (trimInterval s) = kept s := by simp [trimInterval]
@[simp] theorem leaves_execTrimInterval (s : State) : Leaves kept s (execTrimInterval s) := by simp [execTrimInterval]
@[simp] theorem leaves_execTimeRead (o) (s : State) : Leaves kept s (execTimeRead o s) := by simp [execTimeRead]
@[simp] theorem kept_setTime (s : State) (seconds ticks) : kept (setTime s seconds ticks) = kept s := by simp [setTime]
@[simp] theorem leaves_execTimeSet (o) (s : State) : Leaves kept s (execTimeSet o s) := by simp [execTimeSet]
@[simp] theorem leaves_execTrimSet (o) (s : State) : Leaves kept s (execTrimSet o s) := by simp [execTrimSet]
@[simp] theorem leaves_execAlarmSet (o) (s : State) : Leaves kept s (execAlarmSet o s) := by simp [execAlarmSet]
@[simp] theorem leaves_execTimeStampRead (o) (s : State) : Leaves kept s (execTimeStampRead o s) := by
  simp [execTimeStampRead]
@[simp] theorem leaves_execBackupRateSet (o) (s : State) : Leaves kept s (execBackupRateSet o s) := by
  simp [execBackupRateSet]

/-! ### Machine/Tamper -/

@[simp] theorem kept_setSource (s : State) (i f) : kept (setSource s i f) = kept s := by simp [setSource]
@[simp] theorem kept_fenceDetector (s : State) (d) : kept (fenceDetector s d) = kept s := by simp [fenceDetector]
@[simp] theorem kept_exerciseResult (s : State) (i result) : kept (exerciseResult s i result) = kept s := by
  simp [exerciseResult]
@[simp] theorem leaves_execInsertedSample (source result) (s : State) :
    Leaves kept s (execInsertedSample source result s) := by
  simp [execInsertedSample]
@[simp] theorem kept_abortUpdate (s : State) : kept (abortUpdate s) = kept s := by
  unfold abortUpdate
  split
  · rfl
  · rw [kept_endSlot, kept_stage, kept_raiseAon, kept_send, kept_setBoot]
    all_goals exact fun _ => rfl
@[simp] theorem kept_zeroiseKeyStore (s : State) : kept (zeroiseKeyStore s) = kept s := by simp [zeroiseKeyStore]
@[simp] theorem kept_tamper (s : State) (i kind src detail) : kept (tamper s i kind src detail) = kept s := by
  simp [tamper]
@[simp] theorem kept_samplePair (s : State) (i diff) : kept (samplePair s i diff) = kept s := by simp [samplePair]
@[simp] theorem kept_sampleDetector (s : State) (d side other t) : kept (sampleDetector s d side other t) = kept s := by
  simp [sampleDetector]
@[simp] theorem kept_sample (s : State) (a t diffs failA failB) : kept (sample s a t diffs failA failB) = kept s := by
  simp [sample]
@[simp] theorem leaves_execTamperSample (tdA tdB diffs failA failB) (s : State) :
    Leaves kept s (execTamperSample tdA tdB diffs failA failB s) := by
  simp [execTamperSample]
@[simp] theorem kept_storeArming (s : State) : kept (storeArming s) = kept s := by simp [storeArming]
@[simp] theorem kept_armingEffect (s : State) (c) : kept (armingEffect s c) = kept s := by simp [armingEffect]
@[simp] theorem leaves_execSourceArmingSet (o firstSamplePassed) (s : State) :
    Leaves kept s (execSourceArmingSet o firstSamplePassed s) := by
  simp [execSourceArmingSet]
@[simp] theorem kept_selfTest (s : State) (mask passed) : kept (selfTest s mask passed) = kept s := by simp [selfTest]
@[simp] theorem leaves_execTamperSelfTest (o passed) (s : State) : Leaves kept s (execTamperSelfTest o passed s) := by
  simp [execTamperSelfTest]
@[simp] theorem kept_acknowledge (s : State) : kept (acknowledge s) = kept s := by simp [acknowledge]
@[simp] theorem leaves_execTamperAcknowledge (o) (s : State) : Leaves kept s (execTamperAcknowledge o s) := by
  simp [execTamperAcknowledge]
@[simp] theorem leaves_execTamperStatus (o) (s : State) : Leaves kept s (execTamperStatus o s) := by
  simp [execTamperStatus]

/-! ### Machine/Thermal -/

@[simp] theorem leaves_execBoardSensorRead (sensor reading) (s : State) :
    Leaves kept s (execBoardSensorRead sensor reading s) := by
  unfold execBoardSensorRead
  simp only
  repeat' split
  all_goals simp
@[simp] theorem kept_evaluateZone (s : State) (z) : kept (evaluateZone s z) = kept s := by simp [evaluateZone]
@[simp] theorem kept_evaluateAirflow (s : State) : kept (evaluateAirflow s) = kept s := by simp [evaluateAirflow]
@[simp] theorem kept_evaluateCritical (s : State) : kept (evaluateCritical s) = kept s := by simp [evaluateCritical]
@[simp] theorem record_evaluateShutdown (s : State) : (kept (evaluateShutdown s)).record = (kept s).record := by
  simp [evaluateShutdown]
@[simp] theorem record_evaluatePlan (s : State) (dieA dieB) :
    (kept (evaluatePlan s dieA dieB)).record = (kept s).record := by
  simp [evaluatePlan]
@[simp] theorem leaves_execThermalPlanEvaluation (dieA dieB) (s : State) :
    Leaves (fun t => (kept t).record) s (execThermalPlanEvaluation dieA dieB s) := by
  simp [execThermalPlanEvaluation]
@[simp] theorem leaves_execThermalStatus (o) (s : State) : Leaves kept s (execThermalStatus o s) := by
  simp [execThermalStatus]

/-! ### Machine/Calibration -/

@[simp] theorem kept_setCal (s : State) (f) : kept (setCal s f) = kept s := by simp [setCal]
@[simp] theorem kept_setCalRun (s : State) (f) : kept (setCalRun s f) = kept s := by simp [setCalRun]
@[simp] theorem kept_startFrontEnd (s : State) (i) : kept (startFrontEnd s i) = kept s := by simp [startFrontEnd]
@[simp] theorem kept_closeRun (s : State) (r) : kept (closeRun s r) = kept s := by
  unfold closeRun
  simp only
  split <;> simp
@[simp] theorem kept_settleAxes (f : Nat) (s : State) : kept (settleAxes f s) = kept s := by
  induction f generalizing s with
  | zero => rfl
  | succ f ih =>
    unfold settleAxes
    simp only
    repeat' split
    all_goals simp [ih]
@[simp] theorem kept_deferAxes (s : State) (mask) : kept (deferAxes s mask).1 = kept s := by
  unfold deferAxes
  simp only
  split
  · rfl
  · simp
@[simp] theorem kept_beginRun (s : State) (mask automatic o) : kept (beginRun s mask automatic o) = kept s := by
  simp [beginRun]
@[simp] theorem kept_pursueRuns (f : Nat) (s : State) : kept (pursueRuns f s) = kept s := by
  induction f generalizing s with
  | zero => rfl
  | succ f ih =>
    unfold pursueRuns
    simp only
    repeat' split
    all_goals simp [ih]
@[simp] theorem kept_pursue (s : State) : kept (pursue s) = kept s := by simp [pursue]
@[simp] theorem kept_startRun (s : State) (mask automatic o) : kept (startRun s mask automatic o) = kept s := by
  simp [startRun]
@[simp] theorem kept_writeCodes (s : State) (n m) : kept (writeCodes s n m) = kept s := by
  unfold writeCodes
  split <;> simp
@[simp] theorem kept_notePass (s : State) (n) : kept (notePass s n) = kept s := by simp [notePass]
@[simp] theorem kept_itemFenced (s : State) (n m) : kept (itemFenced s n m) = kept s := by
  unfold itemFenced
  split <;> simp
@[simp] theorem kept_itemFailed (s : State) (n lasting) : kept (itemFailed s n lasting) = kept s := by simp [itemFailed]
@[simp] theorem kept_itemEnd (s : State) (n m) : kept (itemEnd s n m) = kept s := by
  unfold itemEnd
  simp only
  split <;> simp
@[simp] theorem leaves_execCalibrationItemEnd (item measured) (s : State) :
    Leaves kept s (execCalibrationItemEnd item measured s) := by
  simp [execCalibrationItemEnd]
@[simp] theorem leaves_execAxisCalibrationStart (axis) (s : State) :
    Leaves kept s (execAxisCalibrationStart axis s) := by
  simp [execAxisCalibrationStart]
@[simp] theorem kept_endCalibrating (s : State) (i) : kept (endCalibrating s i) = kept s := by
  unfold endCalibrating
  simp only
  repeat' split
  all_goals simp
@[simp] theorem kept_frontEndDone (s : State) (i sin cos amplitude) :
    kept (frontEndDone s i sin cos amplitude) = kept s := by
  simp [frontEndDone]
@[simp] theorem leaves_execAxisCalibrationEnd (axis sin cos amplitude) (s : State) :
    Leaves kept s (execAxisCalibrationEnd axis sin cos amplitude s) := by
  simp [execAxisCalibrationEnd]
@[simp] theorem leaves_execCalibrationPeriodic (s : State) : Leaves kept s (execCalibrationPeriodic s) := by
  simp [execCalibrationPeriodic]
@[simp] theorem leaves_execCalibrationDrift (s : State) : Leaves kept s (execCalibrationDrift s) := by
  simp [execCalibrationDrift]
@[simp] theorem leaves_execCalibrationRun (o) (s : State) : Leaves kept s (execCalibrationRun o s) := by
  simp [execCalibrationRun]
@[simp] theorem leaves_execTamperLimitsSet (o) (s : State) : Leaves kept s (execTamperLimitsSet o s) := by
  simp [execTamperLimitsSet]

/-! ### Machine/Classify -/

@[simp] theorem kept_setCls (s : State) (f) : kept (setCls s f) = kept s := by simp [setCls]
@[simp] theorem kept_setClsPort (s : State) (j f) : kept (setClsPort s j f) = kept s := by simp [setClsPort]
theorem kept_insertEntry {s t : State} {table e n} (h : insertEntry s table e = some (n, t)) : kept t = kept s := by
  unfold insertEntry at h
  simp only at h
  repeat' split at h
  all_goals cases h
  all_goals simp
@[simp] theorem kept_entryInsertEffect (s : State) (c) : kept (entryInsertEffect s c) = kept s := by
  unfold entryInsertEffect
  split
  · simp
  · next h => simp [kept_insertEntry h]
@[simp] theorem leaves_execEntryInsert (o) (s : State) : Leaves kept s (execEntryInsert o s) := by
  simp [execEntryInsert]
@[simp] theorem kept_entryUpdateEffect (s : State) (c) : kept (entryUpdateEffect s c) = kept s := by
  unfold entryUpdateEffect
  split <;> simp
@[simp] theorem leaves_execEntryUpdate (o) (s : State) : Leaves kept s (execEntryUpdate o s) := by
  simp [execEntryUpdate]
@[simp] theorem kept_entryDeleteEffect (s : State) (c) : kept (entryDeleteEffect s c) = kept s := by
  unfold entryDeleteEffect
  split <;> simp
@[simp] theorem leaves_execEntryDelete (o) (s : State) : Leaves kept s (execEntryDelete o s) := by
  simp [execEntryDelete]
@[simp] theorem kept_entryLookupEffect (s : State) (c) : kept (entryLookupEffect s c) = kept s := by
  unfold entryLookupEffect
  split <;> simp
@[simp] theorem leaves_execEntryLookup (o) (s : State) : Leaves kept s (execEntryLookup o s) := by
  simp [execEntryLookup]
@[simp] theorem kept_profileSetEffect (s : State) (c) : kept (profileSetEffect s c) = kept s := by
  simp [profileSetEffect]
@[simp] theorem leaves_execProfileSet (o) (s : State) : Leaves kept s (execProfileSet o s) := by simp [execProfileSet]
@[simp] theorem kept_patternSetEffect (s : State) (c) : kept (patternSetEffect s c) = kept s := by
  simp [patternSetEffect]
@[simp] theorem leaves_execPatternSet (o) (s : State) : Leaves kept s (execPatternSet o s) := by simp [execPatternSet]
@[simp] theorem kept_parseLimitsEffect (s : State) (c) : kept (parseLimitsEffect s c) = kept s := by
  simp [parseLimitsEffect]
@[simp] theorem leaves_execParseLimitsSet (o) (s : State) : Leaves kept s (execParseLimitsSet o s) := by
  simp [execParseLimitsSet]
@[simp] theorem kept_defaultActionEffect (s : State) (c) : kept (defaultActionEffect s c) = kept s := by
  simp [defaultActionEffect]
@[simp] theorem leaves_execDefaultActionSet (o) (s : State) : Leaves kept s (execDefaultActionSet o s) := by
  simp [execDefaultActionSet]
@[simp] theorem kept_setRing (s : State) (p r x) : kept (setRing s p r x) = kept s := by simp [setRing]
@[simp] theorem leaves_execReceiveRingSet (o) (s : State) : Leaves kept s (execReceiveRingSet o s) := by
  simp [execReceiveRingSet]
@[simp] theorem kept_receiveRingPostEffect (descs) (s : State) (c) :
    kept (receiveRingPostEffect descs s c) = kept s := by
  simp [receiveRingPostEffect]
@[simp] theorem leaves_execReceiveRingPost (o descs) (s : State) : Leaves kept s (execReceiveRingPost o descs s) := by
  simp [execReceiveRingPost]
@[simp] theorem kept_dropAtRelease (s : State) (j cause) : kept (dropAtRelease s j cause) = kept s := by
  simp [dropAtRelease]
@[simp] theorem kept_deliverRing (s : State) (j p r bytes) : kept (deliverRing s j p r bytes) = kept s := by
  unfold deliverRing
  simp only
  repeat' split
  all_goals simp
@[simp] theorem kept_sendParcels (s : State) (j n tag convoy bytes) :
    kept (sendParcels s j n tag convoy bytes) = kept s := by
  simp [sendParcels]
@[simp] theorem kept_deliverPartner (s : State) (j n tag size hit late body) :
    kept (deliverPartner s j n tag size hit late body) = kept s := by
  unfold deliverPartner
  simp only
  repeat' split
  all_goals simp
theorem kept_decryptFrame {s t : State} {j f v b} (h : decryptFrame s j f v = some (b, t)) : kept t = kept s := by
  unfold decryptFrame at h
  simp only at h
  repeat' split at h
  all_goals cases h
  all_goals simp
@[simp] theorem kept_deliverFrame (s : State) (j key fr v late gap) :
    kept (deliverFrame s j key fr v late gap) = kept s := by
  unfold deliverFrame
  simp only
  split
  · simp
  · next f t h =>
    have ht : kept t = kept s := by
      split at h
      · simp [kept_decryptFrame h]
      · cases h; simp
    repeat' split
    all_goals simp [ht]
@[simp] theorem kept_takeReorder (s : State) (j) : kept (takeReorder s j) = kept s := by simp [takeReorder]
@[simp] theorem kept_leaveReorder (s : State) (j k) : kept (leaveReorder s j k) = kept s := by simp [leaveReorder]
@[simp] theorem kept_crossFrame (s : State) (j len) : kept (crossFrame s j len) = kept s := by simp [crossFrame]
@[simp] theorem kept_releaseFuel (f : Nat) (s : State) (j) : kept (releaseFuel f s j) = kept s := by
  induction f generalizing s with
  | zero => rfl
  | succ f ih =>
    unfold releaseFuel
    simp only
    repeat' split
    all_goals simp [ih]
@[simp] theorem kept_release (s : State) (j) : kept (release s j) = kept s := by simp [release]
@[simp] theorem kept_resolve (s : State) (j k fr v) : kept (resolve s j k fr v) = kept s := by simp [resolve]
@[simp] theorem kept_dropUnresolved (s : State) (j k fr) : kept (dropUnresolved s j k fr) = kept s := by
  simp [dropUnresolved]
@[simp] theorem kept_settle (s : State) (j k fr ext) : kept (settle s j k fr ext) = kept s := by
  unfold settle
  split <;> simp
@[simp] theorem kept_compareFault (s : State) (j k fr ext stage again) :
    kept (compareFault s j k fr ext stage again) = kept s := by
  simp [compareFault]
@[simp] theorem kept_slotFault (s : State) (j k fr ext again) : kept (slotFault s j k fr ext again) = kept s := by
  unfold slotFault
  split <;> simp
@[simp] theorem kept_classificationComplete (s : State) (j pipeline ext fault) :
    kept (classificationComplete s j pipeline ext fault) = kept s := by
  unfold classificationComplete
  simp only
  repeat' split
  all_goals simp
@[simp] theorem leaves_execClassificationComplete (port pipeline ext fault) (s : State) :
    Leaves kept s (execClassificationComplete port pipeline ext fault s) := by
  simp [execClassificationComplete]
@[simp] theorem kept_releaseTimeout (s : State) (j) : kept (releaseTimeout s j) = kept s := by
  unfold releaseTimeout
  simp only
  split <;> simp
@[simp] theorem leaves_execReorderReleaseTimeout (port) (s : State) :
    Leaves kept s (execReorderReleaseTimeout port s) := by
  simp [execReorderReleaseTimeout]
@[simp] theorem kept_resumeParked (s : State) (n ext lost) : kept (resumeParked s n ext lost) = kept s := by
  simp [resumeParked]
@[simp] theorem kept_slotRepairEnd (s : State) (ext) : kept (slotRepairEnd s ext) = kept s := by
  unfold slotRepairEnd
  simp only
  split
  · simp
  · split
    · simp
    · split
      · next h => simp [kept_insertEntry h]
      · simp
@[simp] theorem leaves_execSlotRepairEnd (ext) (s : State) : Leaves kept s (execSlotRepairEnd ext s) := by
  simp [execSlotRepairEnd]
@[simp] theorem kept_numberFrame (s : State) (j f) : kept (numberFrame s j f) = kept s := by simp [numberFrame]
@[simp] theorem kept_flowReceive (s : State) (j f) : kept (flowReceive s j f) = kept s := by simp [flowReceive]
@[simp] theorem kept_frameReceive (s : State) (j f fcsOk fecOk fault) :
    kept (frameReceive s j f fcsOk fecOk fault) = kept s := by
  unfold frameReceive
  simp only
  repeat' split
  all_goals simp only [kept_dropFrame, kept_flowReceive, kept_numberFrame, kept_macsecMismatch, kept_freshState]
  all_goals exact (kept_macsecOpen ‹_›).trans (kept_freshState s)
@[simp] theorem leaves_execFrameReceive (port frame fcsOk fecOk fault) (s : State) :
    Leaves kept s (execFrameReceive port frame fcsOk fecOk fault s) := by
  simp [execFrameReceive]

/-! ### Machine/Fabric -/

@[simp] theorem kept_emptyQueue (s : State) (cls n) : kept (emptyQueue s cls n) = kept s := by simp [emptyQueue]
@[simp] theorem kept_initQueue (s : State) (cls n) : kept (initQueue s cls n) = kept s := by simp [initQueue]
@[simp] theorem kept_grantReady (s : State) (cls n) : kept (grantReady s cls n) = kept s := by simp [grantReady]
@[simp] theorem kept_initPartnerCredit (s : State) (n receive) : kept (initPartnerCredit s n receive) = kept s := by
  simp [initPartnerCredit]
@[simp] theorem kept_zeroCounts (s : State) (cls n) : kept (zeroCounts s cls n) = kept s := by simp [zeroCounts]
@[simp] theorem kept_initClass (s : State) (cls n) : kept (initClass s cls n) = kept s := by simp [initClass]
@[simp] theorem kept_initNeighbours (s : State) (d) : kept (initNeighbours s d) = kept s := by simp [initNeighbours]
@[simp] theorem kept_leaveReset (s : State) (d) : kept (leaveReset s d) = kept s := by simp [leaveReset]
@[simp] theorem leaves_execDomainLeaveReset (d) (s : State) : Leaves kept s (execDomainLeaveReset d s) := by
  simp [execDomainLeaveReset]
@[simp] theorem kept_creditStall (s : State) (cls n cycles) : kept (creditStall s cls n cycles) = kept s := by
  simp [creditStall]
@[simp] theorem leaves_execCreditStall (cls number cycles) (s : State) :
    Leaves kept s (execCreditStall cls number cycles s) := by
  simp [execCreditStall]
@[simp] theorem kept_reinitQueue (s : State) (cls n) : kept (reinitQueue s cls n) = kept s := by simp [reinitQueue]
@[simp] theorem kept_followStream (s : State) (w) : kept (followStream s w) = kept s := by simp [followStream]
@[simp] theorem kept_parcelLost (s : State) (cls n p seq) : kept (parcelLost s cls n p seq) = kept s := by
  unfold parcelLost
  simp only
  repeat' split
  all_goals simp
@[simp] theorem kept_corrupted (s : State) (cls n cond w) : kept (corrupted s cls n cond w) = kept s := by
  unfold corrupted
  simp only
  split <;> simp
@[simp] theorem kept_tagLines (s : State) (first len tag) : kept (tagLines s first len tag) = kept s := by
  simp [tagLines]
@[simp] theorem record_parcelToMemory (s : State) (w payload) :
    (kept (parcelToMemory s w payload)).record = (kept s).record := by
  unfold parcelToMemory
  simp only
  repeat' split
  all_goals simp
@[simp] theorem record_releaseChecked (s : State) (cls n w payload) :
    (kept (releaseChecked s cls n w payload)).record = (kept s).record := by
  unfold releaseChecked
  simp only
  repeat' split
  all_goals simp
@[simp] theorem record_parcelCheck (s : State) (cls n parcel) :
    (kept (parcelCheck s cls n parcel)).record = (kept s).record := by
  unfold parcelCheck
  simp only
  repeat' split
  all_goals simp

/-! ### Machine/Counters -/

@[simp] theorem kept_readCounter (s : State) (ident inst) : kept (readCounter s ident inst).2 = kept s := by
  simp [readCounter]
@[simp] theorem kept_counterReadEffect (s : State) (c) : kept (counterReadEffect s c) = kept s := by
  unfold counterReadEffect
  split <;> simp
@[simp] theorem leaves_execCounterRead (o) (s : State) : Leaves kept s (execCounterRead o s) := by
  simp [execCounterRead]

/-! ### Machine/DigestRegs -/

@[simp] theorem kept_setDigest (s : State) (p c d) : kept (setDigest s p c d) = kept s := by simp [setDigest]
@[simp] theorem kept_digestOverrun (s : State) (p c) : kept (digestOverrun s p c) = kept s := by simp [digestOverrun]
@[simp] theorem kept_digestDiscard (s : State) (p c st) : kept (digestDiscard s p c st) = kept s := by
  simp [digestDiscard]
@[simp] theorem kept_digestControl (s : State) (p c value) : kept (digestControl s p c value) = kept s := by
  simp [digestControl]
@[simp] theorem kept_digestWrite (s : State) (p) (f : State → State) (h : ∀ s, kept (f s) = kept s) :
    kept (digestWrite s p f) = kept s := by
  simp [digestWrite, h]
@[simp] theorem leaves_execDigestInitialise (p ctx value) (s : State) :
    Leaves kept s (execDigestInitialise p ctx value s) := by
  simp [execDigestInitialise]
@[simp] theorem leaves_execDigestHmacInitialise (p ctx alg) (s : State) :
    Leaves kept s (execDigestHmacInitialise p ctx alg s) := by
  simp [execDigestHmacInitialise]
@[simp] theorem leaves_execDigestClear (p ctx) (s : State) : Leaves kept s (execDigestClear p ctx s) := by
  simp [execDigestClear]
@[simp] theorem kept_whileAbsorbing (s : State) (p c) (f : DigestCtx → State) (h : ∀ d, kept (f d) = kept s) :
    kept (whileAbsorbing s p c f) = kept s := by
  unfold whileAbsorbing
  simp only
  repeat' split
  all_goals simp [h]
@[simp] theorem kept_digestData (s : State) (p c value) : kept (digestData s p c value) = kept s := by simp [digestData]
@[simp] theorem leaves_execDigestData (p ctx value) (s : State) : Leaves kept s (execDigestData p ctx value s) := by
  simp [execDigestData]
@[simp] theorem leaves_execDigestTailData (p ctx value) (s : State) :
    Leaves kept s (execDigestTailData p ctx value s) := by
  simp [execDigestTailData]
@[simp] theorem kept_digestFinish (s : State) (p c value) : kept (digestFinish s p c value) = kept s := by
  simp [digestFinish]
@[simp] theorem leaves_execDigestFinish (p ctx value) (s : State) : Leaves kept s (execDigestFinish p ctx value s) := by
  simp [execDigestFinish]
@[simp] theorem kept_digestSave (s : State) (p c value) : kept (digestSave s p c value) = kept s := by simp [digestSave]
@[simp] theorem leaves_execDigestExport (p ctx value) (s : State) : Leaves kept s (execDigestExport p ctx value s) := by
  simp [execDigestExport]
@[simp] theorem leaves_execDigestImport (p ctx) (s : State) : Leaves kept s (execDigestImport p ctx s) := by
  simp [execDigestImport]
@[simp] theorem kept_digestMismatch (s : State) (again) : kept (digestMismatch s again) = kept s := by
  simp [digestMismatch]
@[simp] theorem kept_digestBlockComplete (s : State) (p c fault) : kept (digestBlockComplete s p c fault) = kept s := by
  unfold digestBlockComplete
  split <;> simp
@[simp] theorem leaves_execDigestBlockComplete (p ctx fault) (s : State) :
    Leaves kept s (execDigestBlockComplete p ctx fault s) := by
  simp [execDigestBlockComplete]
@[simp] theorem kept_hmacInitEnd (s : State) (p c) : kept (hmacInitEnd s p c) = kept s := by
  unfold hmacInitEnd
  simp only
  repeat' split
  all_goals simp
@[simp] theorem leaves_execDigestHmacInitEnd (p ctx) (s : State) : Leaves kept s (execDigestHmacInitEnd p ctx s) := by
  simp [execDigestHmacInitEnd]
@[simp] theorem kept_digestSaveEnd (s : State) (p c) : kept (digestSaveEnd s p c) = kept s := by simp [digestSaveEnd]
@[simp] theorem leaves_execDigestSaveEnd (p ctx) (s : State) : Leaves kept s (execDigestSaveEnd p ctx s) := by
  simp [execDigestSaveEnd]

/-! ### Machine/Models -/

@[simp] theorem kept_writePartner (s : State) (c ps bs) : kept (writePartner s c ps bs) = kept s := by
  unfold writePartner
  refine kept_foldl _ _ _ fun s x => ?_
  simp only
  repeat' split
  all_goals simp
@[simp] theorem record_modelLoadEffect (image reread) (s : State) (c) :
    (kept (modelLoadEffect image reread s c)).record = (kept s).record := by
  unfold modelLoadEffect
  simp only
  repeat' split
  all_goals simp
@[simp] theorem kept_unloadModel (s : State) (key) : kept (unloadModel s key) = kept s := by
  unfold unloadModel
  split <;> simp
@[simp] theorem kept_modelUnloadEffect (s : State) (c) : kept (modelUnloadEffect s c) = kept s := by
  simp [modelUnloadEffect]
@[simp] theorem leaves_execModelUnload (o) (s : State) : Leaves kept s (execModelUnload o s) := by
  simp [execModelUnload]
@[simp] theorem kept_modelQueryEffect (s : State) (c) : kept (modelQueryEffect s c) = kept s := by
  unfold modelQueryEffect
  split <;> simp
@[simp] theorem leaves_execModelQuery (o) (s : State) : Leaves kept s (execModelQuery o s) := by simp [execModelQuery]

/-! ### Machine/Spares -/

@[simp] theorem kept_setOffload (s : State) (key f) : kept (setOffload s key f) = kept s := by
  unfold setOffload
  split <;> simp
@[simp] theorem kept_assignSpares (s : State) : kept (assignSpares s) = kept s := by
  unfold assignSpares
  refine kept_foldl _ _ _ fun s e => kept_foldl _ _ _ fun s b => ?_
  split <;> simp
@[simp] theorem kept_abandon (s : State) (inst) : kept (abandon s inst) = kept s := by simp [abandon]

/-! ### Machine/Partner -/

@[simp] theorem kept_changeLanes (s : State) (n mask) : kept (changeLanes s n mask) = kept s := by simp [changeLanes]
@[simp] theorem kept_repairOnPort (s : State) (n on passed) : kept (repairOnPort s n on passed) = kept s := by
  unfold repairOnPort
  refine kept_foldl _ _ _ fun s x => ?_
  simp only
  repeat' split
  all_goals simp
@[simp] theorem kept_cancelReplayed (s : State) (n lane) : kept (cancelReplayed s n lane) = kept s := by
  simp [cancelReplayed]
@[simp] theorem kept_leavePort (s : State) (n cause) : kept (leavePort s n cause) = kept s := by simp [leavePort]
@[simp] theorem kept_enterSeek (s : State) (n seen) : kept (enterSeek s n seen) = kept s := by simp [enterSeek]
@[simp] theorem kept_startExchange (s : State) (n lanes) : kept (startExchange s n lanes) = kept s := by
  simp [startExchange]
@[simp] theorem kept_dropUnwanted (s : State) (n) : kept (dropUnwanted s n) = kept s := by simp [dropUnwanted]
@[simp] theorem kept_sendAgain (s : State) (n x) : kept (sendAgain s n x) = kept s := by simp [sendAgain]
@[simp] theorem kept_sendLost (s : State) (n) : kept (sendLost s n) = kept s := by simp [sendLost]
@[simp] theorem kept_enterRun (s : State) (n) : kept (enterRun s n) = kept s := by simp [enterRun]
@[simp] theorem kept_dropLane (s : State) (n lane lasting cause) : kept (dropLane s n lane lasting cause) = kept s := by
  simp [dropLane]
@[simp] theorem kept_askReplay (s : State) (n symbols) : kept (askReplay s n symbols) = kept s := by simp [askReplay]
@[simp] theorem kept_replayFailed (s : State) (n symbols) : kept (replayFailed s n symbols) = kept s := by
  unfold replayFailed
  simp only
  repeat' split
  all_goals simp
@[simp] theorem kept_capabilityParcel (s : State) (n payload) : kept (capabilityParcel s n payload) = kept s := by
  unfold capabilityParcel
  split <;> simp
@[simp] theorem kept_owe (s : State) (key checks) : kept (owe s key checks) = kept s := by
  unfold owe
  split <;> simp
@[simp] theorem kept_drawBlock (s : State) (key) : kept (drawBlock s key) = kept s := by
  unfold drawBlock
  split <;> simp
@[simp] theorem kept_settleBlock (s : State) (key b) : kept (settleBlock s key b) = kept s := by
  unfold settleBlock
  simp only
  repeat' split
  all_goals simp
@[simp] theorem kept_resultParcel (s : State) (n content w payload) :
    kept (resultParcel s n content w payload) = kept s := by
  unfold resultParcel
  simp only
  repeat' split
  all_goals simp
@[simp] theorem kept_issueReads (s : State) (m) : kept (issueReads s m) = kept s := by
  unfold issueReads
  refine kept_foldl _ _ _ fun s x => ?_
  simp only
  repeat' split
  all_goals simp
@[simp] theorem record_readResponse (s : State) (n w payload) :
    (kept (readResponse s n w payload)).record = (kept s).record := by
  unfold readResponse
  simp only
  repeat' split
  all_goals simp
@[simp] theorem record_takeParcel (s : State) (n content w payload) :
    (kept (takeParcel s n content w payload)).record = (kept s).record := by
  simp [takeParcel]
@[simp] theorem record_deliverParcel (s : State) (n content w payload) :
    (kept (deliverParcel s n content w payload)).record = (kept s).record := by
  unfold deliverParcel
  simp only
  repeat' split
  all_goals simp
@[simp] theorem record_acceptParcel (s : State) (n parcel) :
    (kept (acceptParcel s n parcel)).record = (kept s).record := by
  simp [acceptParcel]
@[simp] theorem kept_countSymbols (s : State) (n fec) : kept (countSymbols s n fec) = kept s := by simp [countSymbols]
@[simp] theorem kept_passedAt (s : State) (n) : kept (passedAt s n) = kept s := by simp [passedAt]
@[simp] theorem kept_acknowledge_ (s : State) (n) : kept (acknowledge_ s n) = kept s := by simp [acknowledge_]
@[simp] theorem record_linkReceive (s : State) (n parcel fec) :
    (kept (linkReceive s n parcel fec)).record = (kept s).record := by
  unfold linkReceive
  simp only
  repeat' split
  all_goals simp
@[simp] theorem kept_resendFrom (s : State) (n from_) : kept (resendFrom s n from_) = kept s := by simp [resendFrom]
@[simp] theorem kept_resend (s : State) (n from_) : kept (resend s n from_) = kept s := by simp [resend]
@[simp] theorem kept_takeFreed (s : State) (n counts) : kept (takeFreed s n counts) = kept s := by simp [takeFreed]
@[simp] theorem kept_countDropped (s : State) (n mask) : kept (countDropped s n mask) = kept s := by simp [countDropped]
@[simp] theorem kept_laneNotice (s : State) (n proposed) : kept (laneNotice s n proposed) = kept s := by
  simp [laneNotice]
@[simp] theorem kept_controlReplay (s : State) (n parcel) : kept (controlReplay s n parcel) = kept s := by
  simp [controlReplay]
@[simp] theorem kept_controlReceive (s : State) (n parcel fec) : kept (controlReceive s n parcel fec) = kept s := by
  simp [controlReceive]
@[simp] theorem leaves_execControlParcelReceive (port parcel fec) (s : State) :
    Leaves kept s (execControlParcelReceive port parcel fec s) := by
  simp [execControlParcelReceive]
@[simp] theorem leaves_execReplayTimeout (port) (s : State) : Leaves kept s (execReplayTimeout port s) := by
  simp [execReplayTimeout]
@[simp] theorem leaves_execLinkSilence (port) (s : State) : Leaves kept s (execLinkSilence port s) := by
  simp [execLinkSilence]
@[simp] theorem leaves_execLaneLossOfLock (port lane) (s : State) : Leaves kept s (execLaneLossOfLock port lane s) := by
  simp [execLaneLossOfLock]
@[simp] theorem kept_relockEnd (s : State) (n lane passed) : kept (relockEnd s n lane passed) = kept s := by
  simp [relockEnd]
@[simp] theorem leaves_execLaneRelockEnd (port lane passed) (s : State) :
    Leaves kept s (execLaneRelockEnd port lane passed s) := by
  simp [execLaneRelockEnd]
@[simp] theorem kept_restripe (s : State) (n) : kept (restripe s n) = kept s := by
  unfold restripe
  simp only
  repeat' split
  all_goals simp
@[simp] theorem leaves_execRestripeComplete (port) (s : State) : Leaves kept s (execRestripeComplete port s) := by
  simp [execRestripeComplete]
@[simp] theorem kept_seekWindowEnd (s : State) (n) : kept (seekWindowEnd s n) = kept s := by simp [seekWindowEnd]
@[simp] theorem leaves_execSeekWindowEnd (port) (s : State) : Leaves kept s (execSeekWindowEnd port s) := by
  simp [execSeekWindowEnd]
@[simp] theorem leaves_execTrainingBurstEnd (port) (s : State) : Leaves kept s (execTrainingBurstEnd port s) := by
  simp [execTrainingBurstEnd]
@[simp] theorem leaves_execPartnerTrainingSignal (port lane) (s : State) :
    Leaves kept s (execPartnerTrainingSignal port lane s) := by
  unfold execPartnerTrainingSignal
  simp only
  repeat' split
  all_goals simp
@[simp] theorem kept_trainEnd (s : State) (n trained) : kept (trainEnd s n trained) = kept s := by simp [trainEnd]
@[simp] theorem leaves_execTrainEnd (port trained) (s : State) : Leaves kept s (execTrainEnd port trained s) := by
  simp [execTrainEnd]
@[simp] theorem leaves_execExchangeComplete (port) (s : State) : Leaves kept s (execExchangeComplete port s) := by
  simp [execExchangeComplete]
@[simp] theorem leaves_execExchangeTimeout (port) (s : State) : Leaves kept s (execExchangeTimeout port s) := by
  simp [execExchangeTimeout]
@[simp] theorem leaves_execRetrainTimeout (port) (s : State) : Leaves kept s (execRetrainTimeout port s) := by
  simp [execRetrainTimeout]
@[simp] theorem kept_ackTimeout (s : State) (n m) : kept (ackTimeout s n m) = kept s := by
  unfold ackTimeout
  simp only
  split <;> simp
@[simp] theorem leaves_execAckTimeout (port convoy) (s : State) : Leaves kept s (execAckTimeout port convoy s) := by
  simp [execAckTimeout]
@[simp] theorem kept_convoyControl (s : State) (n payload) : kept (convoyControl s n payload) = kept s := by
  simp [convoyControl]
@[simp] theorem leaves_execConvoyControlReceived (port payload) (s : State) :
    Leaves kept s (execConvoyControlReceived port payload s) := by
  simp [execConvoyControlReceived]
@[simp] theorem kept_enablePort (s : State) (n) : kept (enablePort s n) = kept s := by simp [enablePort]
@[simp] theorem leaves_execPartnerPortEnable (o) (s : State) : Leaves kept s (execPartnerPortEnable o s) := by
  simp [execPartnerPortEnable]
@[simp] theorem kept_disablePort (s : State) (n) : kept (disablePort s n) = kept s := by simp [disablePort]
@[simp] theorem leaves_execPartnerPortDisable (o) (s : State) : Leaves kept s (execPartnerPortDisable o s) := by
  simp [execPartnerPortDisable]
@[simp] theorem leaves_execPartnerPortStatus (o) (s : State) : Leaves kept s (execPartnerPortStatus o s) := by
  simp [execPartnerPortStatus]

/-! ### Machine/Tiles -/

@[simp] theorem kept_setTile (s : State) (cluster logical tile) : kept (setTile s cluster logical tile) = kept s := by
  simp [setTile]
@[simp] theorem kept_repairTile (s : State) (cluster tile) : kept (repairTile s cluster tile) = kept s := by
  unfold repairTile
  simp only
  repeat' split
  all_goals simp
@[simp] theorem kept_returnTile (s : State) (cluster tile) : kept (returnTile s cluster tile) = kept s := by
  unfold returnTile
  simp only
  split <;> simp
@[simp] theorem kept_setJob (s : State) (o i v) : kept (setJob s o i v) = kept s := by simp [setJob]
@[simp] theorem kept_dropOffload (s : State) (o) : kept (dropOffload s o) = kept s := by simp [dropOffload]
@[simp] theorem kept_endConvoyCommand (s : State) (o st) : kept (endConvoyCommand s o st) = kept s := by
  simp [endConvoyCommand]
@[simp] theorem kept_fencePartner (s : State) (n) : kept (fencePartner s n) = kept s := by simp [fencePartner]

/-! ### Machine/Tensor -/

@[simp] theorem kept_retireSpill (s : State) (u) : kept (retireSpill s u) = kept s := by simp [retireSpill]
@[simp] theorem kept_spillRead (s : State) (line kind) : kept (spillRead s line kind) = kept s := by
  unfold spillRead
  split <;> simp
@[simp] theorem kept_runSpillRead (s : State) (c m x) : kept (runSpillRead s c m x) = kept s := by
  unfold runSpillRead
  split <;> simp
@[simp] theorem kept_modelRunEffect (input spillFault) (s : State) (c) :
    kept (modelRunEffect input spillFault s c) = kept s := by
  unfold modelRunEffect
  simp only
  repeat' split
  all_goals simp
@[simp] theorem leaves_execModelRun (o input spillFault) (s : State) :
    Leaves kept s (execModelRun o input spillFault s) := by
  simp [execModelRun]
@[simp] theorem kept_blockOffloadEffect (hostData) (s : State) (c) :
    kept (blockOffloadEffect hostData s c) = kept s := by
  unfold blockOffloadEffect
  split <;> simp
@[simp] theorem leaves_execBlockOffload (o hostData) (s : State) : Leaves kept s (execBlockOffload o hostData s) := by
  simp [execBlockOffload]
@[simp] theorem kept_sendOperands (s : State) (src n p cv cmd bs) :
    kept (sendOperands s src n p cv cmd bs) = kept s := by
  simp [sendOperands]
@[simp] theorem kept_issueOffload (s : State) (cv o) : kept (issueOffload s cv o) = kept s := by
  unfold issueOffload
  split <;> simp
@[simp] theorem kept_tilePassComplete (s : State) (cv cluster logical t) :
    kept (tilePassComplete s cv cluster logical t) = kept s := by
  unfold tilePassComplete
  simp only
  repeat' split
  all_goals simp
@[simp] theorem leaves_execTilePassComplete (convoy cluster tile pass) (s : State) :
    Leaves kept s (execTilePassComplete convoy cluster tile pass s) := by
  simp [execTilePassComplete]
@[simp] theorem kept_passFailed (s : State) (x) : kept (passFailed s x) = kept s := by simp [passFailed]
@[simp] theorem kept_reportPicot (s : State) (cluster tile found differs kind) :
    kept (reportPicot s cluster tile found differs kind) = kept s := by
  simp [reportPicot]
@[simp] theorem kept_reportLane (s : State) (cluster tile lane) : kept (reportLane s cluster tile lane) = kept s := by
  unfold reportLane
  split <;> simp
@[simp] theorem kept_picotCheck (s : State) (cluster) : kept (picotCheck s cluster) = kept s := by
  unfold picotCheck
  simp only
  split <;> simp
@[simp] theorem leaves_execPicotCheck (cluster) (s : State) : Leaves kept s (execPicotCheck cluster s) := by
  simp [execPicotCheck]
@[simp] theorem kept_blockPassed (s : State) (o b) : kept (blockPassed s o b) = kept s := by
  unfold blockPassed
  simp only
  split <;> simp
@[simp] theorem kept_blockFailed (s : State) (o n recomputed) : kept (blockFailed s o n recomputed) = kept s := by
  unfold blockFailed
  split <;> simp
@[simp] theorem kept_partnerBlockCheck (s : State) (n) : kept (partnerBlockCheck s n) = kept s := by
  unfold partnerBlockCheck
  simp only
  split <;> simp
@[simp] theorem leaves_execPartnerBlockCheck (port) (s : State) : Leaves kept s (execPartnerBlockCheck port s) := by
  simp [execPartnerBlockCheck]
@[simp] theorem kept_recomputationFailed (s : State) (o b cluster tile x found e) :
    kept (recomputationFailed s o b cluster tile x found e) = kept s := by
  unfold recomputationFailed
  simp only
  repeat' split
  all_goals simp
@[simp] theorem kept_recomputationComplete (s : State) (n cluster tile errors) :
    kept (recomputationComplete s n cluster tile errors) = kept s := by
  unfold recomputationComplete
  simp only
  repeat' split
  all_goals simp
@[simp] theorem leaves_execRecomputationComplete (port cluster tile errors) (s : State) :
    Leaves kept s (execRecomputationComplete port cluster tile errors s) := by
  simp [execRecomputationComplete]
@[simp] theorem leaves_execClusterMaskSet (o) (s : State) : Leaves kept s (execClusterMaskSet o s) := by
  simp [execClusterMaskSet]
@[simp] theorem leaves_execPartnerCheckingSet (o) (s : State) : Leaves kept s (execPartnerCheckingSet o s) := by
  simp [execPartnerCheckingSet]

/-! ### Machine/Commands -/

@[simp] theorem kept_dropOrigins (s : State) (p k) : kept (dropOrigins s p k) = kept s := by
  simp [kept, dropOrigins]
@[simp] theorem kept_withdraw (s : State) (p k cause) : kept (withdraw s p k cause) = kept s := by
  unfold withdraw
  simp only
  rw [kept_ite, kept_setBoot, ite_self]
  · change kept (dropOffload _ (p * 32 + k)) = _
    simp only [kept_dropOffload, kept_dropOrigins]
    split <;> simp
  all_goals exact fun _ => rfl
@[simp] theorem kept_endFromOutside (s : State) (p k cause st) : kept (endFromOutside s p k cause st) = kept s := by
  simp [endFromOutside]
@[simp] theorem kept_enterNumber (s : State) (p k) : kept (enterNumber s p k) = kept s := by
  unfold enterNumber
  simp only
  repeat' split
  all_goals simp
@[simp] theorem kept_quiesceSlot (s : State) (p k) : kept (quiesceSlot s p k) = kept s := by simp [quiesceSlot]
@[simp] theorem kept_quiesce (s : State) (p cause) : kept (quiesce s p cause) = kept s := by
  unfold quiesce
  split <;> simp
@[simp] theorem kept_quiesceWhere (s : State) (f cause) : kept (quiesceWhere s f cause) = kept s := by
  simp [quiesceWhere]
@[simp] theorem kept_discardSlot (s : State) (p k) : kept (discardSlot s p k) = kept s := by simp [discardSlot]
@[simp] theorem kept_fenceMailbox (s : State) : kept (fenceMailbox s) = kept s := by simp [fenceMailbox]
@[simp] theorem kept_guardTags (s : State) (p) : kept (guardTags s p) = kept s := by simp [guardTags]
@[simp] theorem leaves_execModelLoad (o image reread) (s : State) :
    Leaves (fun t => (kept t).record) s (execModelLoad o image reread s) := by
  simp [execModelLoad]
@[simp] theorem leaves_execSyncWait (o) (s : State) : Leaves kept s (execSyncWait o s) := by simp [execSyncWait]

/-! ### Machine/Teardown -/

@[simp] theorem kept_setTeardown (s : State) (p f) : kept (setTeardown s p f) = kept s := by simp [setTeardown]
@[simp] theorem kept_finishTeardown (s : State) (p t) : kept (finishTeardown s p t) = kept s := by simp [finishTeardown]
@[simp] theorem record_clearSpill (s : State) (p) : (kept (clearSpill s p)).record = (kept s).record :=
  record_setMemory ..
theorem kept_with_keys_extents (s : State) (k e) : kept { s with keys := k, extents := e } = kept s := by simp [kept]
@[simp] theorem record_releaseResources (s : State) (p) : (kept (releaseResources s p)).record = (kept s).record := by
  simp only [releaseResources, kept_setTeardown, kept_setPart, kept_with_keys_extents]
  simp
@[simp] theorem record_settleTeardown (s : State) (p) : (kept (settleTeardown s p)).record = (kept s).record := by
  unfold settleTeardown
  simp only
  repeat' split
  all_goals simp
@[simp] theorem record_settleTeardowns (s : State) : (kept (settleTeardowns s)).record = (kept s).record := by
  simp [settleTeardowns]
@[simp] theorem kept_discardCompletion (s : State) (p k) : kept (discardCompletion s p k) = kept s := by
  simp [discardCompletion]
@[simp] theorem kept_completeSlot (s : State) (p k) : kept (completeSlot s p k) = kept s := by
  unfold completeSlot
  simp only
  split <;> simp
@[simp] theorem kept_tearSlot (s : State) (p k) : kept (tearSlot s p k) = kept s := by simp [tearSlot]
@[simp] theorem record_teardownEffect (s : State) (c) : (kept (teardownEffect s c)).record = (kept s).record := by
  simp [teardownEffect]
@[simp] theorem leaves_execPartitionTeardown (o) (s : State) :
    Leaves (fun t => (kept t).record) s (execPartitionTeardown o s) := by
  simp [execPartitionTeardown]
@[simp] theorem leaves_execTeardownDiscardExpiry (p) (s : State) :
    Leaves (fun t => (kept t).record) s (execTeardownDiscardExpiry p s) := by
  unfold execTeardownDiscardExpiry
  split <;> simp
@[simp] theorem record_granuleCleared (s : State) (g) : (kept (granuleCleared s g)).record = (kept s).record := by
  unfold granuleCleared
  simp only
  split
  · rfl
  · simp
@[simp] theorem leaves_execGranuleCleared (granule) (s : State) :
    Leaves (fun t => (kept t).record) s (execGranuleCleared granule s) := by
  simp [execGranuleCleared]
@[simp] theorem leaves_execGranuleRetirementEnd (g) (s : State) :
    Leaves (fun t => (kept t).record) s (execGranuleRetirementEnd g s) := by
  simp [execGranuleRetirementEnd]

/-! ### Machine/Repair -/

@[simp] theorem record_holdMainOff (s : State) : (kept (holdMainOff s)).record = (kept s).record := by
  simp [holdMainOff]
@[simp] theorem record_holdMainOffFor (s : State) (code detail) :
    (kept (holdMainOffFor s code detail)).record = (kept s).record := by
  simp [holdMainOffFor]
@[simp] theorem kept_endDriveCmds (s : State) (st f) : kept (endDriveCmds s st f) = kept s := by simp [endDriveCmds]
@[simp] theorem kept_portOutOfService (s : State) (n) : kept (portOutOfService s n) = kept s := by
  simp [portOutOfService]
@[simp] theorem record_hopOut (s : State) (cls n) : (kept (hopOut s cls n)).record = (kept s).record := by simp [hopOut]
@[simp] theorem kept_endManagementWork (s : State) : kept (endManagementWork s) = kept s := by
  unfold endManagementWork
  refine (kept_foldl _ _ _ fun s j => by simp).trans ((kept_with_buses ..).trans ?_)
  repeat' split
  all_goals simp
@[simp] theorem kept_enterSafeState (s : State) : kept (enterSafeState s) = kept s := by simp [enterSafeState]
@[simp] theorem record_pairOffline (s : State) (pair) : (kept (pairOffline s pair)).record = (kept s).record := by
  simp [pairOffline]
@[simp] theorem kept_endRunsLasting (s : State) (f) : kept (endRunsLasting s f) = kept s := by simp [endRunsLasting]
@[simp] theorem record_clockGone (s : State) (d) : (kept (clockGone s d)).record = (kept s).record := by
  unfold clockGone
  split <;> simp
@[simp] theorem record_repair (s : State) (group index) : (kept (repair s group index)).record = (kept s).record := by
  unfold repair
  split <;> simp

/-! ### Machine/Network -/

@[simp] theorem kept_engineCheck (s : State) (e handle x) : kept (engineCheck s e handle x).2 = kept s := by
  unfold engineCheck
  split <;> simp
@[simp] theorem kept_sealOutbound (s : State) (c f fault) : kept (sealOutbound s c f fault).2.2 = kept s := by
  unfold sealOutbound
  simp only
  repeat' split
  all_goals simp
@[simp] theorem kept_frameTransmitEffect (host fault) (s : State) (c) :
    kept (frameTransmitEffect host fault s c) = kept s := by
  unfold frameTransmitEffect
  repeat' split
  all_goals simp
@[simp] theorem leaves_execFrameTransmit (o frame fault) (s : State) :
    Leaves kept s (execFrameTransmit o frame fault s) := by
  unfold execFrameTransmit
  split
  · simp only [leaves_next]
    repeat' split
    all_goals simp
  · exact (leaves_next ..).mpr (kept_runOp _ _ _ _ _ _ fun _ _ => kept_inConvoy _ _ _ fun _ _ =>
      kept_onWord _ _ _ _ _ (kept_frameTransmitEffect _ _))
@[simp] theorem kept_espSaSetEffect (s : State) (c) : kept (espSaSetEffect s c) = kept s := by simp [espSaSetEffect]
@[simp] theorem leaves_execEspSaSet (o) (s : State) : Leaves kept s (execEspSaSet o s) := by simp [execEspSaSet]
@[simp] theorem kept_macsecSaSetEffect (s : State) (c) : kept (macsecSaSetEffect s c) = kept s := by
  simp [macsecSaSetEffect]
@[simp] theorem leaves_execMacsecSaSet (o) (s : State) : Leaves kept s (execMacsecSaSet o s) := by
  simp [execMacsecSaSet]
@[simp] theorem leaves_execNetworkPortConfigure (o) (s : State) : Leaves kept s (execNetworkPortConfigure o s) := by
  simp [execNetworkPortConfigure]
@[simp] theorem kept_enableNet (s : State) (j) : kept (enableNet s j) = kept s := by simp [enableNet]
@[simp] theorem leaves_execNetworkPortEnable (o) (s : State) : Leaves kept s (execNetworkPortEnable o s) := by
  simp [execNetworkPortEnable]
@[simp] theorem kept_disableNet (s : State) (j) : kept (disableNet s j) = kept s := by
  unfold disableNet
  simp only
  split
  · simp
  · exact (kept_with_domains ..).trans (by simp)
@[simp] theorem leaves_execNetworkPortDisable (o) (s : State) : Leaves kept s (execNetworkPortDisable o s) := by
  simp [execNetworkPortDisable]
@[simp] theorem leaves_execNetworkLinkUp (port) (s : State) : Leaves kept s (execNetworkLinkUp port s) := by
  simp [execNetworkLinkUp]
@[simp] theorem leaves_execNetworkLinkDown (port) (s : State) : Leaves kept s (execNetworkLinkDown port s) := by
  simp [execNetworkLinkDown]
@[simp] theorem kept_telemetryEffect (host) (s : State) (c) : kept (telemetryEffect host s c) = kept s := by
  unfold telemetryEffect
  simp only
  repeat' split
  all_goals simp
@[simp] theorem leaves_execTelemetryExportSet (o list) (s : State) :
    Leaves kept s (execTelemetryExportSet o list s) := by
  simp [execTelemetryExportSet]
theorem kept_foldl_snd {β γ : Type} (f : γ × State → β → γ × State) (l : List β) (r : γ × State)
    (h : ∀ r x, kept (f r x).2 = kept r.2) : kept (l.foldl f r).2 = kept r.2 := by
  induction l generalizing r with
  | nil => rfl
  | cons x l ih => rw [List.foldl_cons, ih, h]
@[simp] theorem kept_readRecords (s : State) (es) : kept (readRecords s es).2 = kept s :=
  kept_foldl_snd _ _ _ fun r e => kept_readCounter r.2 e.1 e.2
@[simp] theorem kept_sendDatagram (s : State) (j x last es) : kept (sendDatagram s j x last es) = kept s := by
  simp [sendDatagram]
@[simp] theorem kept_telemetryPeriod (s : State) (j) : kept (telemetryPeriod s j) = kept s := by
  unfold telemetryPeriod
  simp only
  split <;> simp
@[simp] theorem leaves_execTelemetryPeriod (port) (s : State) : Leaves kept s (execTelemetryPeriod port s) := by
  simp [execTelemetryPeriod]

/-! ### Machine/Boot -/

@[simp] theorem kept_vaonValid (s : State) (straps) : kept (vaonValid s straps) = kept s := by
  unfold vaonValid
  split <;> rfl
@[simp] theorem leaves_execVaonValid (straps) (s : State) : Leaves kept s (execVaonValid straps s) := by
  simp [execVaonValid]
@[simp] theorem leaves_execAlwaysOnReset (s : State) : Leaves (fun t => (kept t).record) s (execAlwaysOnReset s) := by
  simp [execAlwaysOnReset]
@[simp] theorem leaves_execPllALock (s : State) : Leaves kept s (execPllALock s) := by simp [execPllALock]
@[simp] theorem kept_copyRejected (s : State) (copy reason kind) : kept (copyRejected s copy reason kind) = kept s := by
  simp [copyRejected]
@[simp] theorem kept_rejectCopy (s : State) (copy reason kind) : kept (rejectCopy s copy reason kind) = kept s := by
  simp [rejectCopy]
@[simp] theorem kept_applyBuses (s : State) : kept (applyBuses s) = kept s := by
  unfold applyBuses
  refine kept_foldl _ _ _ fun s i => ?_
  split <;> simp
theorem kept_with_aon_vault (s : State) (a : AlwaysOn) (v : Vault) (h : v.ledger = s.vault.ledger) :
    kept { s with aon := a, vault := v } = kept s := by simp [kept, h]
@[simp] theorem kept_acceptCopy (s : State) (copy c) : kept (acceptCopy s copy c) = kept s := by
  unfold acceptCopy
  simp only [kept_ite, kept_startSequence, ite_self, kept_startRun, kept_startAxes, kept_startFans,
    kept_updateCeiling, kept_applyBuses, kept_raiseAon]
  exact (kept_with_aon_vault _ _ _ rfl).trans (kept_setBoot _ _ (fun _ => rfl) (fun _ => rfl))
@[simp] theorem kept_trySelect (s : State) (l) : kept (trySelect s l) = kept s := by
  induction l generalizing s with
  | nil => simp [trySelect]
  | cons e l ih =>
    unfold trySelect
    repeat' split
    all_goals simp [ih]
@[simp] theorem kept_examine (s : State) (i c) : kept (examine s i c).1 = kept s := by
  unfold examine
  repeat' split
  all_goals simp
@[simp] theorem kept_selectImage (s : State) (a b) : kept (selectImage s a b) = kept s := by
  unfold selectImage
  split
  · rfl
  · simp
@[simp] theorem leaves_execImageSelection (a b) (s : State) : Leaves kept s (execImageSelection a b s) := by
  simp [execImageSelection]
@[simp] theorem kept_enableListed (s : State) : kept (enableListed s) = kept s := by simp [enableListed]
@[simp] theorem record_sectionRead (s : State) (t good) : (kept (sectionRead s t good)).record = (kept s).record := by
  simp [sectionRead]
@[simp] theorem leaves_execSectionReadComplete (kind good) (s : State) :
    Leaves (fun t => (kept t).record) s (execSectionReadComplete kind good s) := by
  simp [execSectionReadComplete]
@[simp] theorem kept_formStatus (s : State) : kept (formStatus s) = kept s := by simp [formStatus]
@[simp] theorem record_selfTestEnd (s : State) (once twice) :
    (kept (selfTestEnd s once twice)).record = (kept s).record := by
  unfold selfTestEnd
  simp only
  split
  · rfl
  · split
    · simp
    · rw [kept_formStatus, kept_setBoot, kept_with_faults, record_setMemory]
      · simp
      all_goals exact fun _ => rfl
@[simp] theorem leaves_execSelfTestEnd (once twice) (s : State) :
    Leaves (fun t => (kept t).record) s (execSelfTestEnd once twice s) := by
  simp [execSelfTestEnd]
@[simp] theorem kept_deliverRecord (s : State) : kept (deliverRecord s) = kept s := by
  unfold deliverRecord
  simp only
  refine (kept_foldl _ _ _ fun s e => by simp).trans ?_
  split
  · refine (kept_foldl _ _ _ fun s e => by simp).trans rfl
  · rw [kept_raiseAdmin]
    refine (kept_foldl _ _ _ fun s e => by simp).trans rfl
theorem kept_with_fresh_cls (s : State) (n c) : kept { s with fresh := n, cls := c } = kept s := by simp [kept]
@[simp] theorem kept_synfyReady (s : State) : kept (synfyReady s) = kept s := by
  unfold synfyReady
  simp only
  split
  · rfl
  · rw [kept_setBoot, kept_foldl, kept_foldl, kept_with_fresh_cls, kept_raiseAon, kept_deliverRecord,
      kept_grantReady, kept_setBoot]
    · split
      · rfl
      · simp
    · exact fun _ => rfl
    · exact fun _ => rfl
    · intro s n
      split <;> simp
    · intro s j
      simp
    · exact fun _ => rfl
    · exact fun _ => rfl
@[simp] theorem leaves_execSynfyReady (s : State) : Leaves kept s (execSynfyReady s) := by simp [execSynfyReady]
@[simp] theorem kept_loadItem (s : State) (c) : kept (loadItem s c) = kept s := by
  unfold loadItem
  simp only
  repeat' split
  all_goals simp
@[simp] theorem kept_loadContent (s : State) (content) : kept (loadContent s content) = kept s := by simp [loadContent]
@[simp] theorem leaves_execClassifierLoadComplete (content) (s : State) :
    Leaves kept s (execClassifierLoadComplete content s) := by
  simp [execClassifierLoadComplete]
@[simp] theorem kept_nodeDoneRises (s : State) : kept (nodeDoneRises s) = kept s := by simp [nodeDoneRises]
@[simp] theorem leaves_execNodeDoneHigh (s : State) : Leaves kept s (execNodeDoneHigh s) := by simp [execNodeDoneHigh]
@[simp] theorem leaves_execNodeDoneFall (s : State) : Leaves kept s (execNodeDoneFall s) := by simp [execNodeDoneFall]
@[simp] theorem kept_soloMode (s : State) : kept (soloMode s) = kept s := by
  unfold soloMode
  split <;> simp
@[simp] theorem leaves_execSoloMode (s : State) : Leaves kept s (execSoloMode s) := by simp [execSoloMode]
@[simp] theorem record_scanInstruction (s : State) (i) : (kept (scanInstruction s i)).record = (kept s).record := by
  simp [scanInstruction]
@[simp] theorem leaves_execBoundaryScanInstruction (instr) (s : State) :
    Leaves (fun t => (kept t).record) s (execBoundaryScanInstruction instr s) := by
  simp [execBoundaryScanInstruction]
@[simp] theorem leaves_execTestLogicReset (s : State) : Leaves kept s (execTestLogicReset s) := by
  simp [execTestLogicReset]

/-! ### Machine/Faults -/

@[simp] theorem kept_raiseClock (s : State) (d detail) : kept (raiseClock s d detail) = kept s := by simp [raiseClock]
@[simp] theorem kept_beginRepair (s : State) (test) : kept (beginRepair s test) = kept s := by simp [beginRepair]
@[simp] theorem kept_endRepair (s : State) (passed) : kept (endRepair s passed) = kept s := by simp [endRepair]
@[simp] theorem kept_clockLoss (s : State) (d) : kept (clockLoss s d) = kept s := by
  unfold clockLoss
  simp only
  repeat' split
  all_goals simp
@[simp] theorem leaves_execClockLoss (d) (s : State) : Leaves kept s (execClockLoss d s) := by simp [execClockLoss]
@[simp] theorem record_clockRestart (s : State) (d passed) :
    (kept (clockRestart s d passed)).record = (kept s).record := by
  simp [clockRestart]
@[simp] theorem leaves_execClockRestartEnd (d passed) (s : State) :
    Leaves (fun t => (kept t).record) s (execClockRestartEnd d passed s) := by
  simp [execClockRestartEnd]
@[simp] theorem record_crossingFault (s : State) (cls n parity) :
    (kept (crossingFault s cls n parity)).record = (kept s).record := by
  simp [crossingFault]
@[simp] theorem leaves_execCrossingFault (cls number parity) (s : State) :
    Leaves (fun t => (kept t).record) s (execCrossingFault cls number parity s) := by
  simp [execCrossingFault]
@[simp] theorem record_lockstep (s : State) (pair lasting running) :
    (kept (lockstep s pair lasting running)).record = (kept s).record := by
  simp [lockstep]
@[simp] theorem leaves_execLockstepMismatch (pair lasting running) (s : State) :
    Leaves (fun t => (kept t).record) s (execLockstepMismatch pair lasting running s) := by
  simp [execLockstepMismatch]
@[simp] theorem record_managementMismatch (s : State) (lasting) :
    (kept (managementMismatch s lasting)).record = (kept s).record := by
  simp [managementMismatch]
@[simp] theorem leaves_execManagementCoreMismatch (lasting) (s : State) :
    Leaves (fun t => (kept t).record) s (execManagementCoreMismatch lasting s) := by
  simp [execManagementCoreMismatch]
@[simp] theorem leaves_execManagementCoreResumed (s : State) : Leaves kept s (execManagementCoreResumed s) := by
  unfold execManagementCoreResumed
  simp only [leaves_next]
  repeat' split
  · simp
  · rw [kept_endRepair, kept_transient, kept_with_faults, kept_freshState]
  · rw [kept_pursue, kept_beginRun, kept_endRepair, kept_transient, kept_with_faults, kept_freshState]
@[simp] theorem kept_rebuildTable (s : State) : kept (rebuildTable s) = kept s := by simp [rebuildTable]
@[simp] theorem kept_fenceQueues (s : State) : kept (fenceQueues s) = kept s := by simp [fenceQueues]
@[simp] theorem record_tableMismatch (s : State) : (kept (tableMismatch s)).record = (kept s).record := by
  simp [tableMismatch]
@[simp] theorem leaves_execConvoyTableMismatch (s : State) :
    Leaves (fun t => (kept t).record) s (execConvoyTableMismatch s) := by
  simp [execConvoyTableMismatch]
@[simp] theorem record_exercise (s : State) (cls number group index flagged again) :
    (kept (exercise s cls number group index flagged again)).record = (kept s).record := by
  simp [exercise]
@[simp] theorem leaves_execCheckerExercise (checker number group index flagged again) (s : State) :
    Leaves (fun t => (kept t).record) s (execCheckerExercise checker number group index flagged again s) := by
  simp [execCheckerExercise]

/-! ### Machine/Mailbox -/

@[simp] theorem kept_doorbell (s : State) (p size value poisoned) :
    kept (doorbell s p size value poisoned) = kept s := by
  simp [doorbell]
@[simp] theorem leaves_execDoorbell (p size value poisoned) (s : State) :
    Leaves kept s (execDoorbell p size value poisoned s) := by
  simp [execDoorbell]
@[simp] theorem kept_writeRequests (s : State) (p off data) : kept (writeRequests s p off data) = kept s := by
  simp [writeRequests]
@[simp] theorem kept_writeDigestRegs (s : State) (p c off data) : kept (writeDigestRegs s p c off data) = kept s := by
  simp [writeDigestRegs]
@[simp] theorem kept_registerWrite (s : State) (p off data poisoned) :
    kept (registerWrite s p off data poisoned) = kept s := by
  simp [registerWrite]
@[simp] theorem leaves_execRegisterWrite (sender offset data poisoned) (s : State) :
    Leaves kept s (execRegisterWrite sender offset data poisoned s) := by
  unfold execRegisterWrite
  split <;> simp
@[simp] theorem kept_enablePartition (s : State) (p) : kept (enablePartition s p) = kept s := by simp [enablePartition]
@[simp] theorem leaves_execPartitionControlEnable (p) (s : State) : Leaves kept s (execPartitionControlEnable p s) := by
  simp [execPartitionControlEnable]
@[simp] theorem leaves_execReceiptRingConsumerWrite (p value) (s : State) :
    Leaves (fun t => (kept t).record) s (execReceiptRingConsumerWrite p value s) := by
  simp [execReceiptRingConsumerWrite]
@[simp] theorem leaves_execEventRingConsumerWrite (p value) (s : State) :
    Leaves kept s (execEventRingConsumerWrite p value s) := by
  simp [execEventRingConsumerWrite]
@[simp] theorem kept_sendPending (s : State) (h fn) : kept (sendPending s h fn) = kept s := by simp [sendPending]
@[simp] theorem leaves_execMsixUnmask (host fn) (s : State) : Leaves kept s (execMsixUnmask host fn s) := by
  simp [execMsixUnmask]
@[simp] theorem leaves_execMsixHoldoffExpiry (p) (s : State) : Leaves kept s (execMsixHoldoffExpiry p s) := by
  unfold execMsixHoldoffExpiry
  split <;> simp
@[simp] theorem kept_reseal (s : State) (p k st) : kept (reseal s p k st) = kept s := by
  unfold reseal
  split <;> simp
@[simp] theorem record_digestUnitFault (s : State) (p k unit again) :
    (kept (digestUnitFault s p k unit again)).record = (kept s).record := by
  simp [digestUnitFault]
@[simp] theorem record_digestUnits_ (s : State) (p k fault) :
    (kept (digestUnits_ s p k fault)).record = (kept s).record := by
  unfold digestUnits_
  split <;> simp
@[simp] theorem record_completeUnder (s : State) (p k fault tagMismatch) :
    (kept (completeUnder s p k fault tagMismatch)).record = (kept s).record := by
  simp [completeUnder]
@[simp] theorem kept_cancelTorn (s : State) (p k) : kept (cancelTorn s p k) = kept s := by simp [cancelTorn]
@[simp] theorem record_completion (s : State) (p k digestFault tagMismatch) :
    (kept (completion s p k digestFault tagMismatch)).record = (kept s).record := by
  simp [completion]
@[simp] theorem leaves_execCompletion (p slot digestFault tagMismatch) (s : State) :
    Leaves (fun t => (kept t).record) s (execCompletion p slot digestFault tagMismatch s) := by
  simp [execCompletion]
@[simp] theorem kept_endRefusing (s : State) (p k) : kept (endRefusing s p k) = kept s := by
  unfold endRefusing
  simp only
  split <;> simp
@[simp] theorem leaves_execRefusalCompletion (p slot) (s : State) :
    Leaves (fun t => (kept t).record) s (execRefusalCompletion p slot s) := by
  simp [execRefusalCompletion]
@[simp] theorem leaves_execCommandTimeout (p slot) (s : State) : Leaves kept s (execCommandTimeout p slot s) := by
  simp [execCommandTimeout]
@[simp] theorem kept_cancelEffect (s : State) (c) : kept (cancelEffect s c) = kept s := by simp [cancelEffect]
@[simp] theorem leaves_execCommandCancel (o) (s : State) : Leaves kept s (execCommandCancel o s) := by
  simp [execCommandCancel]

/-! ### Machine/HostPorts -/

@[simp] theorem kept_resetFns (s : State) (h f g) : kept (resetFns s h f g) = kept s := by simp [resetFns]
@[simp] theorem kept_dropVfs (s : State) (h) : kept (dropVfs s h) = kept s := by simp [dropVfs]
@[simp] theorem kept_functionReset (s : State) (h fn) : kept (functionReset s h fn) = kept s := by simp [functionReset]
@[simp] theorem leaves_execFunctionLevelReset (host fn) (s : State) :
    Leaves kept s (execFunctionLevelReset host fn s) := by
  simp [execFunctionLevelReset]
@[simp] theorem leaves_execFlrComplete (host fn) (s : State) : Leaves kept s (execFlrComplete host fn s) := by
  simp [execFlrComplete]
@[simp] theorem kept_portReset (s : State) (h) : kept (portReset s h) = kept s := by simp [portReset]
@[simp] theorem kept_perstAssert (s : State) (h) : kept (perstAssert s h) = kept s := by simp [perstAssert]
@[simp] theorem leaves_execPerstAssert (host) (s : State) : Leaves kept s (execPerstAssert host s) := by
  simp [execPerstAssert]
@[simp] theorem kept_perstRelease (s : State) (h) : kept (perstRelease s h) = kept s := by simp [perstRelease]
@[simp] theorem leaves_execPerstRelease (host) (s : State) : Leaves kept s (execPerstRelease host s) := by
  simp [execPerstRelease]
@[simp] theorem kept_linkDown (s : State) (h cause) : kept (linkDown s h cause) = kept s := by simp [linkDown]
@[simp] theorem leaves_execHostLinkDown (host cause) (s : State) : Leaves kept s (execHostLinkDown host cause s) := by
  simp [execHostLinkDown]
@[simp] theorem leaves_execHostPortReady (host width rate) (s : State) :
    Leaves kept s (execHostPortReady host width rate s) := by
  simp [execHostPortReady]
@[simp] theorem kept_disableFn (s : State) (h fn x) : kept (disableFn s h fn x) = kept s := by
  unfold disableFn
  split <;> simp
@[simp] theorem leaves_execFunctionDisabled (host fn why) (s : State) :
    Leaves kept s (execFunctionDisabled host fn why s) := by
  simp [execFunctionDisabled]
@[simp] theorem kept_configure (s : State) (h fn x) : kept (configure s h fn x) = kept s := by
  unfold configure
  split <;> simp
@[simp] theorem leaves_execConfigurationWrite (host fn write) (s : State) :
    Leaves kept s (execConfigurationWrite host fn write s) := by
  simp [execConfigurationWrite]
@[simp] theorem leaves_execAerUncorrectable (host fn status) (s : State) :
    Leaves kept s (execAerUncorrectable host fn status s) := by
  simp [execAerUncorrectable]
@[simp] theorem kept_dmaReadFailure (s : State) (p k poisoned again) :
    kept (dmaReadFailure s p k poisoned again) = kept s := by
  simp [dmaReadFailure]
@[simp] theorem leaves_execHostDmaReadFailure (p slot poisoned again) (s : State) :
    Leaves kept s (execHostDmaReadFailure p slot poisoned again s) := by
  simp [execHostDmaReadFailure]

/-! ### Machine/Ledger -/

@[simp] theorem leaves_execLedgerStatus (o) (s : State) : Leaves kept s (execLedgerStatus o s) := by
  simp [execLedgerStatus]
@[simp] theorem record_ledgerReadEffect (s : State) (c) : (kept (ledgerReadEffect s c)).record = (kept s).record := by
  unfold ledgerReadEffect
  split <;> simp
@[simp] theorem leaves_execLedgerRead (o) (s : State) : Leaves (fun t => (kept t).record) s (execLedgerRead o s) := by
  simp [execLedgerRead]
@[simp] theorem leaves_execLedgerAttest (o) (s : State) :
    Leaves (fun t => (kept t).record) s (execLedgerAttest o s) := by
  simp [execLedgerAttest]
@[simp] theorem leaves_execRecordAppend (o) (s : State) : Leaves kept s (execRecordAppend o s) := by
  simp [execRecordAppend]

/-! ### Machine/Maintenance -/

@[simp] theorem leaves_execGuaranteeStatusRead (o) (s : State) : Leaves kept s (execGuaranteeStatusRead o s) := by
  simp [execGuaranteeStatusRead]
@[simp] theorem kept_setScrub (s : State) (on) : kept (setScrub s on) = kept s := by
  unfold setScrub
  repeat' split
  · simp
  · exact (kept_guard _).trans rfl
  · rfl
@[simp] theorem leaves_execScrubSet (o) (s : State) : Leaves kept s (execScrubSet o s) := by simp [execScrubSet]
@[simp] theorem kept_uncounted (s : State) (group) (f : State → State) (h : ∀ s, kept (f s) = kept s) :
    kept (uncounted s group f) = kept s := by
  unfold uncounted
  simp only
  split <;> simp [h]
@[simp] theorem record_uncounted (s : State) (group) (f : State → State)
    (h : ∀ s, (kept (f s)).record = (kept s).record) :
    (kept (uncounted s group f)).record = (kept s).record := by
  unfold uncounted
  simp only
  split <;> simp [h]
@[simp] theorem leaves_execFenceResource (o) (s : State) :
    Leaves (fun t => (kept t).record) s (execFenceResource o s) := by
  simp [execFenceResource]
@[simp] theorem record_releaseFence (s : State) (cls i) : (kept (releaseFence s cls i)).record = (kept s).record := by
  unfold releaseFence
  split <;> simp
@[simp] theorem leaves_execFenceRelease (o passed) (s : State) :
    Leaves (fun t => (kept t).record) s (execFenceRelease o passed s) := by
  simp [execFenceRelease]

/-! ### Machine/Parcels -/

@[simp] theorem kept_withdrawEnded (before : State) (after : State) :
    kept (withdrawEnded before after) = kept after := by
  simp [withdrawEnded]
@[simp] theorem record_settleHop (before : State) (after : State) (cls n) :
    (kept (settleHop before after cls n)).record = (kept after).record := by
  simp [settleHop]
@[simp] theorem leaves_execParcelCheck (cls number parcel) (s : State) :
    Leaves (fun t => (kept t).record) s (execParcelCheck cls number parcel s) := by
  unfold execParcelCheck
  split
  · simp
  · simp [Leaves]
@[simp] theorem leaves_execLinkParcelReceive (port parcel fec) (s : State) :
    Leaves (fun t => (kept t).record) s (execLinkParcelReceive port parcel fec s) := by
  simp [execLinkParcelReceive]

/-! ### Machine/Partitions -/

@[simp] theorem leaves_execDeviceIdentity (o) (s : State) : Leaves kept s (execDeviceIdentity o s) := by
  simp [execDeviceIdentity]
@[simp] theorem kept_bindGranules (s : State) (p u n) : kept (bindGranules s p u n) = kept s := by simp [bindGranules]
@[simp] theorem kept_createEffect (s : State) (c) : kept (createEffect s c) = kept s := by
  unfold createEffect
  split <;> simp
@[simp] theorem leaves_execPartitionCreate (o) (s : State) : Leaves kept s (execPartitionCreate o s) := by
  simp [execPartitionCreate]
@[simp] theorem kept_rebind (s : State) (p u v) : kept (rebind s p u v) = kept s := by simp [rebind]
@[simp] theorem kept_quotaSetEffect (s : State) (c) : kept (quotaSetEffect s c) = kept s := by simp [quotaSetEffect]
@[simp] theorem leaves_execQuotaSet (o) (s : State) : Leaves kept s (execQuotaSet o s) := by simp [execQuotaSet]
@[simp] theorem leaves_execGrantMaskSet (o) (s : State) : Leaves kept s (execGrantMaskSet o s) := by
  simp [execGrantMaskSet]
@[simp] theorem leaves_execConvoyDeadlineSet (o) (s : State) : Leaves kept s (execConvoyDeadlineSet o s) := by
  simp [execConvoyDeadlineSet]
@[simp] theorem leaves_execLoadingModeSet (o) (s : State) : Leaves kept s (execLoadingModeSet o s) := by
  simp [execLoadingModeSet]
@[simp] theorem leaves_execPartitionStatus (o) (s : State) : Leaves kept s (execPartitionStatus o s) := by
  simp [execPartitionStatus]

/-! ### Machine/Runs -/

@[simp] theorem kept_startReads (s : State) (n o) : kept (startReads s n o) = kept s := by
  unfold startReads
  split <;> simp
@[simp] theorem kept_openCommand (s : State) (n p k) : kept (openCommand s n p k) = kept s := by
  unfold openCommand
  simp only
  repeat' split
  all_goals simp
@[simp] theorem leaves_execConvoyOpen (n p slot) (s : State) : Leaves kept s (execConvoyOpen n p slot s) := by
  simp [execConvoyOpen]
@[simp] theorem kept_reportOverrun (s : State) (o n l) : kept (reportOverrun s o n l) = kept s := by
  simp [reportOverrun]
@[simp] theorem kept_sealMembers (s : State) (n) : kept (sealMembers s n) = kept s := by
  unfold sealMembers
  simp only
  repeat' split
  all_goals simp
@[simp] theorem leaves_execConvoySeal (n) (s : State) : Leaves kept s (execConvoySeal n s) := by simp [execConvoySeal]
@[simp] theorem kept_runSignal (s : State) (n handle value) : kept (runSignal s n handle value) = kept s := by
  simp [runSignal]
@[simp] theorem record_layerConfirmed (s : State) (n o) : (kept (layerConfirmed s n o)).record = (kept s).record := by
  unfold layerConfirmed
  simp only
  repeat' split
  all_goals simp
@[simp] theorem record_offloadConfirmed (s : State) (o) : (kept (offloadConfirmed s o)).record = (kept s).record := by
  unfold offloadConfirmed
  simp only
  repeat' split
  all_goals simp
@[simp] theorem record_confirm (s : State) (n) : (kept (confirm s n)).record = (kept s).record := by
  unfold confirm
  simp only
  repeat' split
  all_goals simp
@[simp] theorem leaves_execConvoyConfirm (n) (s : State) :
    Leaves (fun t => (kept t).record) s (execConvoyConfirm n s) := by
  simp [execConvoyConfirm]
@[simp] theorem leaves_execConvoyCancel (n cause group index) (s : State) :
    Leaves kept s (execConvoyCancel n cause group index s) := by
  simp [execConvoyCancel]
@[simp] theorem kept_deadlineExpiry (s : State) (n) : kept (deadlineExpiry s n) = kept s := by
  unfold deadlineExpiry
  simp only
  split <;> simp
@[simp] theorem leaves_execConvoyDeadlineExpiry (n) (s : State) : Leaves kept s (execConvoyDeadlineExpiry n s) := by
  simp [execConvoyDeadlineExpiry]
@[simp] theorem kept_frameResolved (s : State) (n delivered cause) :
    kept (frameResolved s n delivered cause) = kept s := by
  unfold frameResolved
  simp only
  repeat' split
  all_goals simp
@[simp] theorem kept_rereadInputs (s : State) (o hostData) : kept (rereadInputs s o hostData) = kept s := by
  simp [rereadInputs]
@[simp] theorem kept_reissue (s : State) (n hostData) : kept (reissue s n hostData) = kept s := by
  unfold reissue
  simp only
  repeat' split
  all_goals simp
@[simp] theorem kept_rerun (s : State) (n hostData) : kept (rerun s n hostData) = kept s := by simp [rerun]
@[simp] theorem kept_freeConvoy (s : State) (n) : kept (freeConvoy s n) = kept s := by simp [freeConvoy]
@[simp] theorem record_classifyAttempts (s : State) (c) : (kept (classifyAttempts s c)).record = (kept s).record := by
  have h (l : List Nat) : kept (l.foldl (fun s r => transient s (r / 1024) (r % 1024)) s) = kept s := by simp
  unfold classifyAttempts
  simp only
  repeat' split
  all_goals simp only [h, record_repair]
@[simp] theorem record_resolve_ (s : State) (n hostData) : (kept (resolve_ s n hostData)).record = (kept s).record := by
  unfold resolve_
  simp only
  repeat' split
  all_goals simp
@[simp] theorem leaves_execConvoyResolved (n hostData) (s : State) :
    Leaves (fun t => (kept t).record) s (execConvoyResolved n hostData s) := by
  simp [execConvoyResolved]

/-! ### Machine/Spdm -/

@[simp] theorem kept_spdmAnswer (s : State) (h bs f) : kept (spdmAnswer s h bs f) = kept s := by simp [spdmAnswer]
@[simp] theorem kept_spdmChallenge (s : State) (h r) : kept (spdmChallenge s h r) = kept s := by simp [spdmChallenge]
@[simp] theorem kept_spdmMeasurements (s : State) (h r) : kept (spdmMeasurements s h r) = kept s := by
  simp [spdmMeasurements]
@[simp] theorem kept_spdmRequest (s : State) (h r) : kept (spdmRequest s h r) = kept s := by
  unfold spdmRequest
  split <;> simp
@[simp] theorem leaves_execSpdmRequest (host request) (s : State) : Leaves kept s (execSpdmRequest host request s) := by
  simp [execSpdmRequest]

/-! ### Machine/Storage -/

@[simp] theorem kept_setDrive (s : State) (k f) : kept (setDrive s k f) = kept s := by simp [setDrive]
@[simp] theorem kept_extentCreateEffect (s : State) (c) : kept (extentCreateEffect s c) = kept s := by
  unfold extentCreateEffect
  split <;> simp
@[simp] theorem leaves_execExtentCreate (o) (s : State) : Leaves kept s (execExtentCreate o s) := by
  simp [execExtentCreate]
@[simp] theorem leaves_execExtentDestroy (o) (s : State) : Leaves kept s (execExtentDestroy o s) := by
  simp [execExtentDestroy]
@[simp] theorem kept_issueDrive (s : State) (c e opcode off len data) :
    kept (issueDrive s c e opcode off len data) = kept s := by
  unfold issueDrive
  rw [kept_send, kept_with_driveCmds, kept_setSlot]
@[simp] theorem kept_xtsRun (s : State) (e enc lba bs fault) : kept (xtsRun s e enc lba bs fault).2 = kept s := by
  unfold xtsRun
  simp only
  repeat' split
  all_goals simp
@[simp] theorem leaves_execStorageRead (o) (s : State) : Leaves kept s (execStorageRead o s) :=
  (leaves_next ..).mpr (kept_runOnce _ _ _ _ _ _ fun s c => by split <;> simp)
@[simp] theorem kept_storageWriteEffect (host fault) (s : State) (c) :
    kept (storageWriteEffect host fault s c) = kept s := by
  unfold storageWriteEffect
  simp only
  split
  · rfl
  · rfl
  · simp
  · next e _ _ =>
    have hx (bs : List Byte) := kept_xtsRun s e true (e.start + c.u 8 8 / lbaSize s e) bs fault
    split <;> next h => simpa [h] using hx (readDesc s c.p (c.desc 0x10) host)
@[simp] theorem leaves_execStorageWrite (o hostData fault) (s : State) :
    Leaves kept s (execStorageWrite o hostData fault s) := by
  simp [execStorageWrite]
@[simp] theorem leaves_execFlush (o) (s : State) : Leaves kept s (execFlush o s) :=
  (leaves_next ..).mpr (kept_runOnce _ _ _ _ _ _ fun s c => by split <;> simp)
@[simp] theorem leaves_execDeallocate (o) (s : State) : Leaves kept s (execDeallocate o s) :=
  (leaves_next ..).mpr (kept_runOnce _ _ _ _ _ _ fun s c => by split <;> simp)
@[simp] theorem leaves_execDriveQuery (o) (s : State) : Leaves kept s (execDriveQuery o s) := by simp [execDriveQuery]
@[simp] theorem kept_driveFound (s : State) (k x) : kept (driveFound s k x) = kept s := by
  unfold driveFound
  split <;> simp
@[simp] theorem leaves_execDriveReady (link found) (s : State) : Leaves kept s (execDriveReady link found s) := by
  simp [execDriveReady]
@[simp] theorem leaves_execDriveProbe (link found) (s : State) : Leaves kept s (execDriveProbe link found s) := by
  unfold execDriveProbe
  simp only
  repeat' split
  all_goals simp
@[simp] theorem record_readArrives (s : State) (c d data fault) :
    (kept (readArrives s c d data fault)).record = (kept s).record := by
  unfold readArrives
  split
  · simp
  · next e _ =>
    have hx := kept_xtsRun s e false d.lba (slice data 0 (c.desc 0x10).len) fault
    simp only
    split
    · next h => simpa [h] using congrArg Kept.record hx
    · next h =>
      rw [h] at hx
      split <;> simp [hx]
@[simp] theorem record_driveCompletion (s : State) (o status data fault) :
    (kept (driveCompletion s o status data fault)).record = (kept s).record := by
  unfold driveCompletion
  simp only
  repeat' split
  · rfl
  · rfl
  · simp
  · simp
  · simp
  · rw [kept_send, kept_with_driveCmds]
    simp
@[simp] theorem leaves_execDriveCompletion (p slot status data fault) (s : State) :
    Leaves (fun t => (kept t).record) s (execDriveCompletion p slot status data fault s) := by
  simp [execDriveCompletion]
@[simp] theorem kept_driveFails (s : State) (k fatal resetOk) : kept (driveFails s k fatal resetOk) = kept s := by
  unfold driveFails
  simp only
  split
  · split
    · simp
    · split
      · simp
      · rw [kept_foldl]
        · simp
        · intro s e
          rw [kept_send, kept_with_driveCmds, kept_setSlot]
  · rfl
@[simp] theorem leaves_execDriveCommandTimeout (link fatal resetOk) (s : State) :
    Leaves kept s (execDriveCommandTimeout link fatal resetOk s) := by
  simp [execDriveCommandTimeout]

/-! ### Machine/TwoWire -/

@[simp] theorem kept_transactionEffect (o) (s : State) (c) : kept (transactionEffect o s c) = kept s := by
  simp [transactionEffect]
@[simp] theorem leaves_execTransaction (o) (s : State) : Leaves kept s (execTransaction o s) := by
  simp [execTransaction]
@[simp] theorem kept_settleBus (s : State) (b) : kept (settleBus s b) = kept s := by simp [settleBus]
@[simp] theorem leaves_execBusConfigure (o) (s : State) : Leaves kept s (execBusConfigure o s) := by
  simp [execBusConfigure]
@[simp] theorem leaves_execBusStatus (o) (s : State) : Leaves kept s (execBusStatus o s) := by simp [execBusStatus]
@[simp] theorem kept_endJob (s : State) (b j st data) : kept (endJob s b j st data) = kept s := by simp [endJob]
@[simp] theorem kept_dropAbsent (f : Nat) (s : State) (b) : kept (dropAbsent f s b) = kept s := by
  induction f generalizing s with
  | zero => rfl
  | succ f ih =>
    unfold dropAbsent
    repeat' split
    all_goals simp [ih]
@[simp] theorem kept_settleQueue (s : State) (b) : kept (settleQueue s b) = kept s := by simp [settleQueue]
@[simp] theorem kept_secondAttempt (s : State) (b j) : kept (secondAttempt s b j) = kept s := by simp [secondAttempt]
@[simp] theorem kept_dataFailure (s : State) (b j pec) : kept (dataFailure s b j pec) = kept s := by simp [dataFailure]
@[simp] theorem kept_attempt (s : State) (b t) : kept (attempt s b t) = kept s := by
  unfold attempt
  simp only
  repeat' split
  all_goals simp
@[simp] theorem leaves_execBusFreeStart (b try_) (s : State) : Leaves kept s (execBusFreeStart b try_ s) := by
  simp [execBusFreeStart]
@[simp] theorem kept_arbitrationLost (s : State) (b) : kept (arbitrationLost s b) = kept s := by
  unfold arbitrationLost
  simp only
  split <;> simp
@[simp] theorem leaves_execArbitrationLost (b) (s : State) : Leaves kept s (execArbitrationLost b s) := by
  simp [execArbitrationLost]
@[simp] theorem kept_absentPoll (s : State) (b addr result) : kept (absentPoll s b addr result) = kept s := by
  unfold absentPoll
  simp only
  repeat' split
  all_goals simp
@[simp] theorem leaves_execAbsentPoll (b addr result) (s : State) : Leaves kept s (execAbsentPoll b addr result s) := by
  simp [execAbsentPoll]
@[simp] theorem leaves_execAlertResponse (b answer) (s : State) : Leaves kept s (execAlertResponse b answer s) := by
  unfold execAlertResponse
  split <;> simp
@[simp] theorem kept_hangEffects (s : State) (b) : kept (hangEffects s b) = kept s := by
  unfold hangEffects
  split <;> simp
@[simp] theorem kept_busHung (s : State) (b sda) : kept (busHung s b sda) = kept s := by simp [busHung]
@[simp] theorem leaves_execBusHung (b sda) (s : State) : Leaves kept s (execBusHung b sda s) := by simp [execBusHung]
@[simp] theorem kept_twtRequest (s : State) (f pecOk) : kept (twtRequest s f pecOk) = kept s := by
  unfold twtRequest
  simp only
  repeat' split
  all_goals simp
@[simp] theorem leaves_execTwtRequest (frame pecOk) (s : State) : Leaves kept s (execTwtRequest frame pecOk s) := by
  simp [execTwtRequest]
@[simp] theorem kept_twtResponseRead (s : State) : kept (twtResponseRead s) = kept s := by
  unfold twtResponseRead
  simp only
  repeat' split
  all_goals simp
@[simp] theorem leaves_execTwtResponseRead (s : State) : Leaves kept s (execTwtResponseRead s) := by
  simp [execTwtResponseRead]
@[simp] theorem kept_twtEventRead (s : State) : kept (twtEventRead s) = kept s := by
  unfold twtEventRead
  split <;> simp
@[simp] theorem leaves_execTwtEventRead (s : State) : Leaves kept s (execTwtEventRead s) := by simp [execTwtEventRead]
@[simp] theorem leaves_execTwtTargetTimeout (s : State) : Leaves kept s (execTwtTargetTimeout s) := by
  simp [execTwtTargetTimeout]

/-! ### Machine/Update -/

@[simp] theorem kept_updateBegin (host signatureOk) (s : State) (c) :
    kept (updateBegin host signatureOk s c) = kept s := by
  unfold updateBegin
  split <;> simp
@[simp] theorem kept_updateEnd (readBack) (s : State) (c) : kept (updateEnd readBack s c) = kept s := by
  simp [updateEnd]
@[simp] theorem leaves_execFirmwareUpdate (o image signatureOk readBack) (s : State) :
    Leaves kept s (execFirmwareUpdate o image signatureOk readBack s) := by
  unfold execFirmwareUpdate
  repeat' split
  all_goals simp

/-! ### Machine/Start -/

@[simp] theorem kept_withoutRemoved (p k) (s : State) : kept (withoutRemoved p k s) = kept s := by
  unfold withoutRemoved
  simp only
  split <;> simp
@[simp] theorem kept_enterHistory (s : State) (p k seq) : kept (enterHistory s p k seq) = kept s := by
  simp [enterHistory]
@[simp] theorem kept_beginCommand (s : State) (c) : kept (beginCommand s c) = kept s := by simp [beginCommand]
@[simp] theorem kept_returnFirst (s : State) (c st result receipt) :
    kept (returnFirst s c st result receipt) = kept s := by
  simp [returnFirst]
@[simp] theorem kept_handlePlace (s : State) (c place) : kept (handlePlace s c place) = kept s := by
  unfold handlePlace
  split <;> simp
@[simp] theorem kept_startCommand (s : State) (p k) : kept (startCommand s p k) = kept s := by
  unfold startCommand
  simp only
  split <;> simp
@[simp] theorem kept_storeFault (s : State) (p k bytes passes) : kept (storeFault s p k bytes passes) = kept s := by
  simp [storeFault]
@[simp] theorem leaves_execCommandStart (p slot read) (s : State) : Leaves kept s (execCommandStart p slot read s) := by
  unfold execCommandStart
  repeat' split
  all_goals simp

/-! ### Machine/Idle -/

theorem kept_idleTick (s : State) : kept (idleTick s) = kept s := by
  simp only [idleTick, kept_flushTx]
  rfl

end Sys2Proof.Machine
end

section
/-! Setting one bit of a map (R5's fuse map among others). -/

namespace Sys2Proof.Machine
open Sys2Proof

theorem bit_eq_testBit (v i : Nat) : bit v i = v.testBit i := by
  rw [bit, Nat.testBit_eq_decide_div_mod_eq, beq_eq_decide]

/-- Adding a bit that is clear carries into no other bit. -/
theorem testBit_add_two_pow_ne {v i j : Nat} (h : v.testBit i = false) (hj : j ≠ i) :
    (v + 2 ^ i).testBit j = v.testBit j := by
  rcases Nat.lt_or_gt_of_ne hj with hlt | hgt
  · rw [Nat.add_comm, Nat.testBit_two_pow_add_gt hlt]
  · obtain ⟨d, rfl⟩ := Nat.exists_eq_add_of_lt hgt
    have heven : v / 2 ^ i % 2 = 0 := by simpa [Nat.testBit_eq_decide_div_mod_eq] using h
    have hhalf : (v / 2 ^ i + 1) / 2 = v / 2 ^ i / 2 := by omega
    rw [show i + d + 1 = d + 1 + i by omega, ← Nat.testBit_div_two_pow (x := v + 2 ^ i) (i := d + 1),
      ← Nat.testBit_div_two_pow (x := v) (i := d + 1), Nat.add_div_right _ (Nat.two_pow_pos i),
      Nat.testBit_succ, Nat.testBit_succ, hhalf]

@[simp] theorem bit_setBit_self (v i : Nat) : bit (setBit v i) i = true := by
  unfold setBit
  split
  · assumption
  · next h => simpa [bit_eq_testBit, Nat.add_comm v, Nat.testBit_two_pow_add_eq] using h

@[simp] theorem bit_setBit_ne (v : Nat) {i j : Nat} (h : j ≠ i) : bit (setBit v i) j = bit v j := by
  unfold setBit
  split
  · rfl
  · next hi =>
    rw [bit_eq_testBit, bit_eq_testBit]
    exact testBit_add_two_pow_ne (by simpa [bit_eq_testBit] using hi) h

theorem bit_setBit_of_bit {v j : Nat} (i : Nat) (h : bit v j = true) : bit (setBit v i) j = true := by
  rcases eq_or_ne j i with rfl | hj
  · exact bit_setBit_self v j
  · rwa [bit_setBit_ne v hj]

end Sys2Proof.Machine
end

section
/-! What a step may do to the part's identity and the ledger (R3, R5, R377). -/

namespace Sys2Proof.Machine
open Sys2Proof

/-- What a step may do to the record: the queue and the product code stand, no fuse is restored and the ledger only grows at
its end. -/
structure Kept.Grows (a b : Kept) : Prop where
  queue : b.queue = a.queue
  product : b.product = a.product
  fuses : ∀ i, bit a.fuses i = true → bit b.fuses i = true
  ledger : a.ledger <+: b.ledger

theorem Kept.Grows.of_record {a b : Kept} (h : b.record = a.record) : a.Grows b := by
  simp only [Kept.record, Prod.mk.injEq] at h
  obtain ⟨hq, hp, hf, hl⟩ := h
  exact ⟨hq, hp, fun i hi => hf ▸ hi, hl ▸ List.prefix_rfl⟩

@[simp] theorem Kept.Grows.refl (a : Kept) : a.Grows a := .of_record rfl
theorem Kept.Grows.trans {a b c : Kept} (h : a.Grows b) (g : b.Grows c) : a.Grows c :=
  ⟨g.queue.trans h.queue, g.product.trans h.product, fun i hi => g.fuses i (h.fuses i hi), h.ledger.trans g.ledger⟩
theorem Kept.Grows.congr_left {a a' b : Kept} (g : a.Grows b) (h : a = a') : a'.Grows b := h ▸ g

@[simp] theorem Leaves.record {s : State} {o} (h : Leaves kept s o) : Leaves (fun t => (kept t).record) s o :=
  fun t ht => congrArg Kept.record (h t ht)
theorem Leaves.grows {s t : State} {o} (h : Leaves (fun t => (kept t).record) s o) (ht : o = .next t) :
    (kept s).Grows (kept t) :=
  .of_record (h t ht)

/-! ### Committing staged entries, and the start of the main domain that commits them -/

theorem setVault_grows (s : State) (f : Vault → Vault) (h : s.vault.ledger <+: (f s.vault).ledger) :
    (kept s).Grows (kept (setVault s f)) := ⟨rfl, rfl, fun _ hi => hi, h⟩

theorem appendEntry_grows (s : State) (e : Staged) : (kept s).Grows (kept (appendEntry s e)) := by
  unfold appendEntry
  simp only
  split
  · rw [kept_ite, kept_raiseVault, kept_setVault _ (fun v => { v with nearFullTold := true }) fun _ => rfl, ite_self]
    exact setVault_grows _ _ (List.prefix_append ..)
  · split <;> simp

theorem appendEntry_unless_grows (c : Prop) [Decidable c] (s : State) (e : Staged) :
    (kept s).Grows (kept (if c then s else appendEntry s e)) := by
  split
  · exact .refl _
  · exact appendEntry_grows ..

theorem commitOldest_grows (s : State) : (kept s).Grows (kept (commitOldest s)) := by
  unfold commitOldest
  simp only
  split
  · exact .refl _
  · rw [kept_answerWaiter]
    exact (appendEntry_unless_grows _ _ _).congr_left (by simp)

theorem closeCommit_grows (s : State) : (kept s).Grows (kept (closeCommit s)) := by
  unfold closeCommit
  simp only
  split
  · exact .refl _
  · rw [kept_ite, kept_raiseVault, kept_setVault, ite_self, kept_ite]
    · split
      · exact .refl _
      · exact (appendEntry_grows ..).congr_left (by simp)
    · exact fun _ => rfl

theorem commitFuel_grows (n : Nat) (s : State) : (kept s).Grows (kept (commitFuel n s)) := by
  induction n generalizing s with
  | zero => exact .refl _
  | succ n ih =>
    unfold commitFuel
    split
    · exact .refl _
    · exact (commitOldest_grows s).trans (ih _)

theorem commitAll_grows (s : State) : (kept s).Grows (kept (commitAll s)) :=
  (commitFuel_grows _ s).trans (closeCommit_grows _)

theorem vaultStart_grows (s : State) : (kept s).Grows (kept (vaultStart s)) := by
  rw [vaultStart, verifyLedger, kept_verifyFrom]
  exact (commitAll_grows _).congr_left (by simp)

theorem mainStart_grows (s : State) : (kept s).Grows (kept (mainStart s)) := by
  unfold mainStart
  split
  · exact .refl _
  · refine (vaultStart_grows _).congr_left ?_
    rw [kept_startHosts, kept_createAdministrator]
    exact (kept_congr rfl rfl rfl rfl).trans (kept_setBoot s _ (fun _ => rfl) (fun _ => rfl))

theorem sequenceComplete_grows (s : State) : (kept s).Grows (kept (sequenceComplete s)) :=
  (mainStart_grows _).congr_left (by simp)

theorem nextStep_grows (s : State) : (kept s).Grows (kept (nextStep s)) := by
  unfold nextStep
  simp only
  repeat' split
  · exact .of_record (by simp)
  · exact (sequenceComplete_grows _).congr_left (by simp)
  · exact .of_record (by simp)

theorem stepGood_grows (s : State) (i mv : Nat) : (kept s).Grows (kept (stepGood s i mv)) := by
  unfold stepGood
  simp only
  split
  · simp
  · split
    · exact (nextStep_grows _).congr_left (by simp)
    · split <;> simp

theorem stepAct_grows (s : State) (i : Nat) (absent : Bool) : (kept s).Grows (kept (stepAct s i absent)) := by
  unfold stepAct
  simp only
  split
  · split
    · exact .of_record (by simp)
    · split
      · rw [kept_setSeq, kept_ite, kept_enableRail, ite_self]
        simp
      · exact (nextStep_grows _).congr_left (by
          simp only [kept_ite, kept_driverGood, kept_setRail, kept_enableRail, ite_self, kept_setpointAbsent,
            kept_setSeq, kept_advanceTo, kept_freshState])
  · split
    · simp
    · repeat' split
      all_goals exact .of_record (by simp)

/-! ### Blowing a fuse -/

/-- What FUSE_BLOW does once it is begun. -/
def fuseBlowEffect (s : State) (c : Ctx) : State :=
  let i := c.u 0 1
  let s := setBoot s (fun b => { b with fuses := setBit b.fuses i })
  let s := storeArming (setSource s i Source.fuse)
  let s := if pinPairsFused s then
      setVault s (fun v => { v with channels := v.channels.filter (fun e => decide (4 ≤ e.1)) })
    else s
  finish (stage s 0x05 i s.boot.fuses none) c { status := .ok, result := leBytes 2 s.boot.fuses }

theorem execFuseBlow_eq (o : Origin) (s : State) :
    execFuseBlow o s = .next (runOp 0x0609 o s (fixed .management) fuseBlowChecks fuseBlowEffect) := rfl

theorem kept_blowFuse (s : State) (i : Nat) :
    kept (setBoot s (fun b => { b with fuses := setBit b.fuses i })) =
      { kept s with fuses := setBit s.boot.fuses i } := rfl

theorem kept_fuseBlowEffect (s : State) (c : Ctx) :
    kept (fuseBlowEffect s c) = { kept s with fuses := setBit s.boot.fuses (c.u 0 1) } := by
  simp [fuseBlowEffect, kept_blowFuse]

theorem fuseBlow_grows (o : Origin) (s t : State) (h : execFuseBlow o s = .next t) : (kept s).Grows (kept t) := by
  cases (execFuseBlow_eq o s).symm.trans h
  rcases runOp_cases 0x0609 o s (fixed .management) fuseBlowChecks fuseBlowEffect with
    e | ⟨c, -, -, ⟨-, e⟩ | ⟨st, ch, e⟩⟩ <;> rw [e]
  · exact .of_record (by simp)
  · rw [kept_fuseBlowEffect]
    exact ⟨rfl, rfl, fun i hi => bit_setBit_of_bit _ hi, List.prefix_rfl⟩
  · exact .of_record (by simp)

/-! ### Every command, every step -/

theorem sequenceStepAct_grows (i : Fin 48) (absent : Bool) (s t : State) (h : execSequenceStepAct i absent s = .next t) :
    (kept s).Grows (kept t) := by
  cases h
  exact stepAct_grows ..

theorem sequenceStepPowerGood_grows (i : Fin 48) (mv : Nat) (s t : State)
    (h : execSequenceStepPowerGood i mv s = .next t) : (kept s).Grows (kept t) := by
  cases h
  exact stepGood_grows ..

theorem stagedEntryCommit_grows (s t : State) (h : execStagedEntryCommit s = .next t) : (kept s).Grows (kept t) := by
  cases h
  rw [kept_ite]
  split
  · exact ((commitOldest_grows _).congr_left (kept_freshState s)).trans (closeCommit_grows _)
  · exact .of_record (by simp)

theorem exec_grows (i : Instr) (s t : State) (h : exec i s = .next t) : (kept s).Grows (kept t) := by
  cases i
  case fuseBlow => exact fuseBlow_grows _ _ _ h
  case sequenceStepAct => exact sequenceStepAct_grows _ _ _ _ h
  case sequenceStepPowerGood => exact sequenceStepPowerGood_grows _ _ _ _ h
  case stagedEntryCommit => exact stagedEntryCommit_grows _ _ h
  all_goals exact Leaves.grows (by simp [exec]) h

theorem step_grows {s t : State} (h : step s = .next t) :
    t.boot.product = s.boot.product ∧ (∀ i, bit s.boot.fuses i = true → bit t.boot.fuses i = true) ∧
      s.vault.ledger <+: t.vault.ledger := by
  unfold step at h
  split at h
  · cases h
    obtain ⟨-, hp, hf, hl⟩ := Kept.Grows.of_record (congrArg Kept.record (kept_idleTick s))
    exact ⟨hp, hf, hl⟩
  · obtain ⟨-, hp, hf, hl⟩ := exec_grows _ _ _ h
    exact ⟨hp, hf, hl⟩

/-- Settles O3: every function of the model but the blow of a fuse and the commit of a staged entry leaves all three. -/
theorem partIdentityAndLedgerKept : Obligations.PartIdentityAndLedgerKept := by
  unfold Obligations.PartIdentityAndLedgerKept
  rintro n m s t ⟨hn, hm⟩ h
  obtain ⟨hp, hf, hl⟩ := step_grows h
  exact ⟨⟨hp.trans hn, fun i hi hb => hf i (hm i hi hb)⟩, hl⟩

end Sys2Proof.Machine
end

section
/-! The part's identity and its fuse map as commands report and change them (R3, R5). -/

namespace Sys2Proof.Machine
open Sys2Proof

/-! ### A request stays the same while an effect works on the vault and the boot state -/

theorem ctxOf_fresh (s : State) (o : Origin) : ctxOf s.fresh_ o = ctxOf s o := by
  cases o <;> rfl

theorem ctxOf_setBoot (s : State) (f : Boot → Boot) (o : Origin) : ctxOf (setBoot s f) o = ctxOf s o := by
  cases o <;> rfl

@[simp] theorem ctxOf_setVault (s : State) (f : Vault → Vault) (o : Origin) : ctxOf (setVault s f) o = ctxOf s o := by
  cases o <;> rfl

@[simp] theorem ctxOf_stage (s : State) (kind source detail : Nat) (waiter : Option Nat) (o : Origin) :
    ctxOf (stage s kind source detail waiter) o = ctxOf s o := by
  unfold stage
  simp only
  repeat' split
  all_goals exact ctxOf_setVault ..

theorem ended_fuseBlowEffect {s : State} {o : Origin} {c : Ctx} (h : ctxOf s o = some c) :
    ∃ r, Ended (fuseBlowEffect s c) o .ok r := by
  refine ⟨_, ended_finish _ ?_⟩
  rw [ctxOf_stage, apply_ite (ctxOf · o), ctxOf_setVault, ite_self, storeArming, setSource, ctxOf_setVault,
    ctxOf_setVault, ctxOf_setBoot, h]

theorem boot_fuseBlowEffect (s : State) (c : Ctx) :
    (fuseBlowEffect s c).boot.product = s.boot.product ∧
      (fuseBlowEffect s c).boot.fuses = setBit s.boot.fuses (c.u 0 1) := by
  have h := kept_fuseBlowEffect s c
  exact ⟨congrArg Kept.product h, congrArg Kept.fuses h⟩

/-- Settles O14: the identity record holds both fields apart, and the fuse map is all that a blow changes of them. -/
theorem identityAndStatusAreReported : Obligations.IdentityAndStatusAreReported := by
  unfold Obligations.IdentityAndStatusAreReported
  refine fun o s c => ⟨fun h => ⟨_, rfl, ?_⟩, fun h => ⟨_, execFuseBlow_eq o s, ?_⟩⟩
  · rw [runOp_ready _ h]
    exact ⟨_, ended_finish _ ((ctxOf_fresh s o).trans h.1), rfl, rfl⟩
  · rw [runOp_ready _ h]
    obtain ⟨hp, hf⟩ := boot_fuseBlowEffect s.fresh_ c
    refine ⟨ended_fuseBlowEffect ((ctxOf_fresh s o).trans h.1), hp, ?_, fun i hi => ?_⟩
    · rw [hf, bit_setBit_self]
    · rw [hf, bit_setBit_ne _ hi]
      rfl

end Sys2Proof.Machine
end

section
/-! A command's start where a slot number has two entries in its partition's table. A check of tags that walks the entries
(R160) finds the second one, which no look-up by slot number reaches: `Untagged`, which looks slots up, does not exclude
it. -/

namespace Sys2Proof.Machine
open Sys2Proof

/-- A calibration run's request with tag 31, sequence number 7 and item mask 1: an opcode of the long class. -/
def calibrationRequest : List Byte :=
  leBytes 2 0x0A01 ++ leBytes 2 31 ++ leBytes 4 7 ++ leBytes 2 2 ++ leBytes 6 0 ++ leBytes 2 1

/-- Slot 31 holds that request; behind it stands an entry of the same number, running and accepted, with a response under a
wrong tag. -/
def doubledSlots : Tbl Slot :=
  [(31, { Slot.empty with phase := .registered, request := calibrationRequest }),
   (31, { Slot.empty with phase := .running, held := true, mistagged := true })]

/-- A started part whose one active partition has that table. -/
def doubledState : State :=
  { State.reset with
    boot := { Boot.init 1 0 with mainOn := true, synfyReady := true }
    parts := [(0, { Partition.absent with state := .active, slots := doubledSlots })] }

/-- The request in slot 31. -/
def doubledCtx : Ctx := slotCtx 0 31 (slotAt doubledState 0 31)

theorem untagged_doubledState : Untagged doubledState 0 := by
  intro k
  by_cases h : k = 31
  · subst h
    rfl
  · simp [slotAt, part, doubledState, doubledSlots, Tbl.getD, Tbl.get?, h, Slot.empty]

theorem exec_commandStart_good {p k : Fin 32} {s : State} (h : (slotAt s p k).phase = .registered) :
    exec (.commandStart p k .good) s = .next (startCommand s.fresh_ p k) := by
  simp [exec, execCommandStart, h]

/-- The command's acceptance finds the wrong tag: the mailbox unit is fenced and the slot withdrawn. -/
theorem doubledState_start :
    (slotAt (startCommand doubledState.fresh_ (0 : Fin 32) (31 : Fin 32)) (0 : Fin 32) (31 : Fin 32)).phase = .free := by
  decide +kernel

/-- Refutes O12: with two entries of one slot number, `Untagged` sees the first and the check of tags both, so a long
command's start fences the mailbox unit and its slot is free afterwards, not running. -/
theorem not_commandStartChecksAndLooksUp : ¬ Obligations.CommandStartChecksAndLooksUp := by
  unfold Obligations.CommandStartChecksAndLooksUp
  intro h
  have registered : (slotAt doubledState (0 : Fin 32) (31 : Fin 32)).phase = .registered := rfl
  obtain ⟨starts, -⟩ := h 0 31 doubledState doubledCtx registered rfl
  obtain ⟨t, ht, runs, -⟩ :=
    starts (by decide +kernel) rfl (.inl (by decide +kernel)) untagged_doubledState
  rw [exec_commandStart_good registered, Host.Outcome.next.injEq] at ht
  rw [← ht, doubledState_start] at runs
  exact absurd runs (by decide)

end Sys2Proof.Machine
end

section
/-! What the ends of commands, events and the work of the management core leave of the faults' own record: the device time, the
clock domains, the lockstep pairs in service and the modes of the management core. -/

namespace Sys2Proof.Machine
open Sys2Proof

/-- What a checker's report decides and the rest of its course leaves. -/
structure Standing where
  /-- The device time. -/
  now : Nat
  /-- The clock domains (R37). -/
  domains : Tbl Domain
  /-- The lockstep pairs in service (R109). -/
  pairs : List Nat
  /-- The management core is in its safe state (R109). -/
  safe : Bool
  /-- The management core resumes (R109). -/
  resuming : Bool

/-- That part of a state. -/
def standing (s : State) : Standing := ⟨s.now, s.domains, s.faults.pairs, s.faults.safeState, s.faults.resuming⟩

theorem domain_of_standing {s t : State} (h : standing t = standing s) (d : Nat) : domain t d = domain s d :=
  congrArg (fun x : Standing => Tbl.getD x.domains d Domain.off) h
theorem now_of_standing {s t : State} (h : standing t = standing s) : t.now = s.now := congrArg Standing.now h
theorem pairs_of_standing {s t : State} (h : standing t = standing s) : t.faults.pairs = s.faults.pairs :=
  congrArg Standing.pairs h
theorem safeState_of_standing {s t : State} (h : standing t = standing s) : t.faults.safeState = s.faults.safeState :=
  congrArg Standing.safe h
theorem resuming_of_standing {s t : State} (h : standing t = standing s) : t.faults.resuming = s.faults.resuming :=
  congrArg Standing.resuming h

@[simp] theorem standing_ite (c : Prop) {_ : Decidable c} (s t : State) :
    standing (if c then s else t) = if c then standing s else standing t :=
  apply_ite ..
/-- What every round of a loop leaves, the loop leaves. -/
theorem foldl_leaves {α β : Type} {g : State → α} {f : State → β → State} (h : ∀ s x, g (f s x) = g s) (l : List β)
    (s : State) : g (l.foldl f s) = g s := by
  induction l generalizing s with
  | nil => rfl
  | cons x l ih => rw [List.foldl_cons, ih, h]
@[simp] theorem standing_foldl {β : Type} (f : State → β → State) (l : List β) (s : State)
    (h : ∀ s x, standing (f s x) = standing s) : standing (l.foldl f s) = standing s :=
  foldl_leaves h l s

/-! ### Updates of one field -/

@[simp] theorem standing_with_parts (s : State) (x) : standing { s with parts := x } = standing s := rfl
@[simp] theorem standing_with_buses (s : State) (x) : standing { s with buses := x } = standing s := rfl
@[simp] theorem standing_setPart (s : State) (p f) : standing (setPart s p f) = standing s := rfl
@[simp] theorem standing_setSlot (s : State) (p k f) : standing (setSlot s p k f) = standing s := rfl
@[simp] theorem standing_bump (s : State) (i n w) : standing (bump s i n w) = standing s := rfl
@[simp] theorem standing_setHost (s : State) (h f) : standing (setHost s h f) = standing s := rfl
@[simp] theorem standing_setVault (s : State) (f) : standing (setVault s f) = standing s := rfl
@[simp] theorem standing_setTensor (s : State) (f) : standing (setTensor s f) = standing s := rfl
@[simp] theorem standing_setAon (s : State) (f) : standing (setAon s f) = standing s := rfl
@[simp] theorem standing_setRail (s : State) (v f) : standing (setRail s v f) = standing s := rfl
@[simp] theorem standing_setAxis (s : State) (i f) : standing (setAxis s i f) = standing s := rfl
@[simp] theorem standing_setCal (s : State) (f) : standing (setCal s f) = standing s := rfl
@[simp] theorem standing_setCalRun (s : State) (f) : standing (setCalRun s f) = standing s := rfl
@[simp] theorem standing_startFrontEnd (s : State) (i) : standing (startFrontEnd s i) = standing s := rfl
@[simp] theorem standing_dropOffload (s : State) (o) : standing (dropOffload s o) = standing s := rfl
@[simp] theorem standing_dropSlot (s : State) (p k) : standing (dropSlot s p k) = standing s := rfl
@[simp] theorem standing_beginRepair (s : State) (test) : standing (beginRepair s test) = standing s := rfl

/-! ### Events and fault classification -/

theorem ReportsOnly.standing {s t : State} (h : ReportsOnly s t) : standing t = standing s := by
  obtain ⟨⟨_, _, _, _, _, _, _, rfl⟩, -, -⟩ := h
  rfl
theorem EventsOnly.standing {s t : State} (h : EventsOnly s t) : standing t = standing s := h.reports.standing
@[simp] theorem standing_raiseAdmin (s : State) (code fault subject detail) :
    standing (raiseAdmin s code fault subject detail) = standing s := (raiseAdmin_spec ..).standing
@[simp] theorem standing_raiseBoth (s : State) (p code fault detail) :
    standing (raiseBoth s p code fault detail) = standing s := (raiseBoth_spec ..).standing
@[simp] theorem standing_raiseAon (s : State) (code fault detail) :
    standing (raiseAon s code fault detail) = standing s := (raiseAon_spec ..).standing
/-- An event of the vault goes out, or waits in the vault. -/
theorem raiseVault_spec (s : State) (code : Nat) (fault : Bool) (detail : Nat) :
    ∃ v, EventsOnly { s with vault := v } (raiseVault s code fault detail) := by
  unfold raiseVault
  split
  · exact ⟨s.vault, raiseAdmin_spec ..⟩
  · exact ⟨_, EventsOnly.refl _⟩
@[simp] theorem standing_raiseVault (s : State) (code fault detail) :
    standing (raiseVault s code fault detail) = standing s := by
  obtain ⟨v, h⟩ := raiseVault_spec s code fault detail
  exact h.standing
@[simp] theorem standing_raiseClock (s : State) (d detail) : standing (raiseClock s d detail) = standing s := by
  simp [raiseClock]
@[simp] theorem standing_tellValidity (before s : State) : standing (tellValidity before s) = standing s := by
  simp [tellValidity]
@[simp] theorem standing_stage (s : State) (kind source detail waiter) :
    standing (stage s kind source detail waiter) = standing s := by simp [stage]
@[simp] theorem standing_guard (s : State) : standing (guard s) = standing s := by
  obtain ⟨v, h⟩ := guard_spec s
  exact h.standing
@[simp] theorem standing_transient (s : State) (g i) : standing (transient s g i) = standing s := by
  obtain ⟨a, b, h⟩ := transient_spec s g i
  exact h.standing
@[simp] theorem standing_lastingFault (s : State) (g i) : standing (lastingFault s g i) = standing s := by
  obtain ⟨a, b, h⟩ := fence_spec (bump s 0x0301 g 16) g i
  rw [lastingFault, standing_guard, h]
  rfl
@[simp] theorem standing_endRepair (s : State) (passed) : standing (endRepair s passed) = standing s := by
  simp [endRepair]

/-! ### The end of a request -/

@[simp] theorem standing_decideWith (s : State) (p k a) : standing (decideWith s p k a) = standing s := by
  obtain ⟨s', ⟨_, _, _, hs'⟩, ⟨_, h⟩, -⟩ := decideWith_spec s p k a
  rw [h]
  exact hs'.standing
@[simp] theorem standing_endSlot (s : State) (p k a) : standing (endSlot s p k a) = standing s := by simp [endSlot_eq]
@[simp] theorem standing_twtAnswer (s : State) (st result) : standing (twtAnswer s st result) = standing s := by
  unfold twtAnswer
  split <;> rfl
@[simp] theorem standing_finishOrigin (s : State) (o a) : standing (finishOrigin s o a) = standing s := by
  cases o <;> simp [finishOrigin]
@[simp] theorem standing_endConvoyCommand (s : State) (o st) : standing (endConvoyCommand s o st) = standing s := by
  simp [endConvoyCommand]
@[simp] theorem standing_endDriveCmds (s : State) (st f) : standing (endDriveCmds s st f) = standing s :=
  standing_foldl _ _ _ fun _ _ => standing_endSlot ..

/-! ### The work of the management core -/

@[simp] theorem standing_endRuns (s : State) (st) : standing (endRuns s st) = standing s := by
  refine standing_foldl _ _ _ fun s v => ?_
  dsimp only
  repeat' split
  all_goals simp
@[simp] theorem standing_endRelease (s : State) (i st) : standing (endRelease s i st) = standing s := by
  unfold endRelease
  split <;> simp
/-- What the management core holds for someone ends, and the modes of the core stand. -/
@[simp] theorem standing_endManagementWork (s : State) : standing (endManagementWork s) = standing s := by
  unfold endManagementWork
  refine (standing_foldl _ _ _ fun s j => standing_finishOrigin ..).trans ((standing_with_buses ..).trans ?_)
  repeat' split
  all_goals simp [dropRuns]
@[simp] theorem standing_retune (s : State) : standing (retune s) = standing s := by
  have hw : ∀ t old, standing (writeSetpoint t old) = standing t := fun t old => by
    unfold writeSetpoint
    split <;> simp
  simp [retune, hw]
@[simp] theorem standing_updateCeiling (s : State) : standing (updateCeiling s) = standing s := by
  simp [updateCeiling, setCeiling]
@[simp] theorem standing_beginRun (s : State) (mask automatic o) :
    standing (beginRun s mask automatic o) = standing s := by
  have hd : standing (deferAxes s mask).1 = standing s := by
    unfold deferAxes
    dsimp only
    split <;> simp
  simpa [beginRun] using hd
@[simp] theorem standing_closeRun (s : State) (r) : standing (closeRun s r) = standing s := by
  unfold closeRun
  dsimp only
  split <;> simp
@[simp] theorem standing_settleAxes (f : Nat) (s : State) : standing (settleAxes f s) = standing s := by
  induction f generalizing s with
  | zero => rfl
  | succ f ih =>
    unfold settleAxes
    dsimp only
    repeat' split
    all_goals simp [ih]
@[simp] theorem standing_pursueRuns (f : Nat) (s : State) : standing (pursueRuns f s) = standing s := by
  induction f generalizing s with
  | zero => rfl
  | succ f ih =>
    unfold pursueRuns
    dsimp only
    repeat' split
    all_goals simp [ih]
@[simp] theorem standing_pursue (s : State) : standing (pursue s) = standing s := standing_pursueRuns ..

end Sys2Proof.Machine
end

section
/-! A convoy's cancellation and a command's end from outside: what they leave of the faults' record, of every slot's phase and
of every other convoy's state (R78, R80). -/

namespace Sys2Proof.Machine
open Sys2Proof

/-- What a cancellation leaves of a command: the faults' record and the phase of every slot. -/
def doings (s : State) : Standing × (Nat → Nat → Phase) := (standing s, fun p k => (slotAt s p k).phase)

/-- What is sent, counted and told on a cancellation's way leaves: those, and the state of every convoy. -/
def outline (s : State) : (Standing × (Nat → Nat → Phase)) × (Nat → ConvoyState) :=
  (doings s, fun n => (convoy s n).state)

theorem standing_of_doings {s t : State} (h : doings t = doings s) : standing t = standing s := congrArg Prod.fst h
theorem phase_of_doings {s t : State} (h : doings t = doings s) (p k : Nat) : (slotAt t p k).phase = (slotAt s p k).phase :=
  congrFun (congrFun (congrArg Prod.snd h) p) k
theorem doings_of_outline {s t : State} (h : outline t = outline s) : doings t = doings s := congrArg Prod.fst h
theorem convoyState_of_outline {s t : State} (h : outline t = outline s) (n : Nat) :
    (convoy t n).state = (convoy s n).state :=
  congrFun (congrArg Prod.snd h) n

@[simp] theorem outline_foldl {β : Type} (f : State → β → State) (l : List β) (s : State)
    (h : ∀ s x, outline (f s x) = outline s) : outline (l.foldl f s) = outline s :=
  foldl_leaves h l s
theorem EventsOnly.outline {s t : State} (h : EventsOnly s t) : outline t = outline s := by
  have hs := h.standing
  have hp := h.slotAt
  obtain ⟨⟨_, _, _, rfl⟩, -⟩ := h
  unfold Machine.outline doings
  rw [hs]
  simp only [hp]
  rfl
@[simp] theorem outline_raiseAdmin (s : State) (code fault subject detail) :
    outline (raiseAdmin s code fault subject detail) = outline s := (raiseAdmin_spec ..).outline

/-- The phase of every slot stands where the update of one keeps its phase. -/
theorem phase_setSlot (s : State) (p k : Nat) (f : Slot → Slot) (hf : ∀ x, (f x).phase = x.phase) (q j : Nat) :
    (slotAt (setSlot s p k f) q j).phase = (slotAt s q j).phase := by
  by_cases h : q = p ∧ j = k
  · obtain ⟨rfl, rfl⟩ := h
    simp [hf]
  · rw [slotAt_setSlot_ne s f (not_and_or.mp h)]
theorem outline_setSlot (s : State) (p k : Nat) (f : Slot → Slot) (hf : ∀ x, (f x).phase = x.phase) :
    outline (setSlot s p k f) = outline s := by
  simp only [outline, doings, phase_setSlot s p k f hf]
  rfl
@[simp] theorem outline_bump (s : State) (i n w) : outline (bump s i n w) = outline s := rfl
@[simp] theorem outline_startSweeps (s : State) (n cancelled) : outline (startSweeps s n cancelled) = outline s := rfl
@[simp] theorem outline_dropWaitingParcels (s : State) (n g) : outline (dropWaitingParcels s n g) = outline s := rfl

/-! ### A control parcel goes out -/

theorem outline_endStall (s : State) (cls n : Nat) : outline (endStall s cls n) = outline s := by
  unfold endStall
  dsimp only
  split
  · split <;> rfl
  · rfl
/-- The timer of an acknowledgement is no matter of a convoy's state. -/
theorem outline_startAckTimer (s : State) (port content : Nat) (wb : List Byte) :
    outline (startAckTimer s port content wb) = outline s := by
  unfold startAckTimer
  dsimp only
  split
  · refine Prod.ext rfl (funext fun m => ?_)
    by_cases h : m = field wb 5 1
    · subst h
      simp [outline, convoy]
    · simp [outline, convoy, h]
  · rfl
theorem outline_transmit (s : State) (n content : Nat) (wb payload : List Byte) :
    outline (transmit s n content wb payload) = outline s := by
  have hd : ∀ t, outline (dataSlot t n) = outline t := fun t => by
    unfold dataSlot
    dsimp only
    split <;> rfl
  unfold transmit
  refine (hd _).trans ?_
  change outline (startAckTimer _ _ _ _) = _
  rw [outline_startAckTimer]
  exact outline_endStall ..
@[simp] theorem outline_sendConvoyControl (s : State) (port kind n p generation count) :
    outline (sendConvoyControl s port kind n p generation count) = outline s := by
  unfold sendConvoyControl sendLink
  dsimp only
  split
  · exact outline_transmit ..
  · rfl

/-! ### A cancellation -/

theorem cancelConvoy_of_settled {s : State} {n : Nat} (h : (convoy s n).state ≠ .opened) (g : (convoy s n).state ≠ .sealed)
    (cause : CancelCause) (r : Nat) : cancelConvoy s n cause r = s := by
  simp [cancelConvoy, h, g]

/-- A cancelled convoy is in Cancelling; beside what its way there leaves, only its own entry changes. -/
theorem cancelConvoy_spec {s : State} {n : Nat} (h : (convoy s n).state = .opened ∨ (convoy s n).state = .sealed)
    (cause : CancelCause) (r : Nat) : ∃ u f, outline u = outline s ∧ cancelConvoy s n cause r = setConvoy u n f ∧
      ∀ c, (f c).state = .cancelling := by
  unfold cancelConvoy
  dsimp only
  rw [if_neg (by rcases h with h | h <;> simp [h])]
  refine ⟨_, _, ?_, rfl, fun _ => rfl⟩
  have hfree : ∀ l : List (Nat × List Byte),
      outline (l.foldl (fun s e => freeEntries s (e.1 / 16) (e.1 % 16) 1) s) = outline s :=
    fun l => outline_foldl _ l s fun _ _ => rfl
  split
  · simp [hfree]
  · rw [outline_setSlot]
    · simp [hfree]
    · exact fun _ => rfl

theorem doings_setConvoy (s : State) (n : Nat) (f : Convoy → Convoy) : doings (setConvoy s n f) = doings s := rfl
@[simp] theorem doings_cancelConvoy (s : State) (n cause r) : doings (cancelConvoy s n cause r) = doings s := by
  by_cases h : (convoy s n).state = .opened ∨ (convoy s n).state = .sealed
  · obtain ⟨u, f, hu, he, -⟩ := cancelConvoy_spec h cause r
    rw [he, doings_setConvoy, doings_of_outline hu]
  · rw [cancelConvoy_of_settled (fun g => h (.inl g)) (fun g => h (.inr g))]

@[simp] theorem convoyState_setConvoy_self (s : State) (n : Nat) (f : Convoy → Convoy) :
    (convoy (setConvoy s n f) n).state = (f (convoy s n)).state := by
  rw [convoy_setConvoy_self]
  rfl

theorem convoyState_cancelConvoy_self {s : State} {n : Nat} (cause : CancelCause) (r : Nat)
    (h : (convoy s n).state = .opened ∨ (convoy s n).state = .sealed ∨ (convoy s n).state = .cancelling) :
    (convoy (cancelConvoy s n cause r) n).state = .cancelling := by
  rcases or_assoc.mpr h with h | h
  · obtain ⟨u, f, -, he, hf⟩ := cancelConvoy_spec h cause r
    rw [he, convoyState_setConvoy_self, hf]
  · rw [cancelConvoy_of_settled (by simp [h]) (by simp [h]), h]

theorem convoyState_cancelConvoy_ne {s : State} {n m : Nat} (hm : m ≠ n) (cause : CancelCause) (r : Nat) :
    (convoy (cancelConvoy s n cause r) m).state = (convoy s m).state := by
  by_cases h : (convoy s n).state = .opened ∨ (convoy s n).state = .sealed
  · obtain ⟨u, f, hu, he, -⟩ := cancelConvoy_spec h cause r
    rw [he, convoy_setConvoy_ne _ _ hm, convoyState_of_outline hu]
  · rw [cancelConvoy_of_settled (fun g => h (.inl g)) (fun g => h (.inr g))]

/-- A convoy in Cancelling stays there while others are cancelled; an open or sealed one gets there once its number is met. -/
theorem convoyState_cancelAll (ns : List Nat) (s : State) (n : Nat) (cause : CancelCause) (r : Nat)
    (h : (convoy s n).state = .cancelling ∨
      (n ∈ ns ∧ ((convoy s n).state = .opened ∨ (convoy s n).state = .sealed))) :
    (convoy (ns.foldl (fun s n => cancelConvoy s n cause r) s) n).state = .cancelling := by
  induction ns generalizing s with
  | nil => simpa using h
  | cons m ns ih =>
    rw [List.foldl_cons]
    refine ih _ ?_
    by_cases hm : n = m
    · subst hm
      exact .inl (convoyState_cancelConvoy_self cause r (by tauto))
    · rw [convoyState_cancelConvoy_ne hm]
      simpa [hm] using h

theorem Tbl.mem_of_get? {α : Type} {t : Tbl α} {k : Nat} {v : α} (h : Tbl.get? t k = some v) : (k, v) ∈ t := by
  induction t with
  | nil => simp at h
  | cons e t ih =>
    obtain ⟨k', v'⟩ := e
    unfold Tbl.get? at h
    split at h
    · next hk =>
      cases h
      simp [hk]
    · exact List.mem_cons_of_mem _ (ih h)

/-- Every convoy whose number reads open or sealed, and satisfies the test, is cancelled. -/
theorem convoyState_cancelWhere {s : State} {n : Nat} {f : Nat → Convoy → Bool}
    (h : (convoy s n).state = .opened ∨ (convoy s n).state = .sealed) (hf : f n (convoy s n) = true) (cause : CancelCause)
    (r : Nat) : (convoy (cancelWhere s f cause r).2 n).state = .cancelling := by
  refine convoyState_cancelAll _ s n cause r (.inr ⟨?_, h⟩)
  obtain hn | ⟨c, hc⟩ : Tbl.get? s.convoys n = none ∨ ∃ c, Tbl.get? s.convoys n = some c := by
    cases Tbl.get? s.convoys n <;> simp
  · simp [convoy, Tbl.getD, hn, Convoy.init] at h
  · have he : convoy s n = c := by simp [convoy, Tbl.getD, hc]
    rw [he] at h hf
    refine List.mem_map.mpr ⟨(n, c), List.mem_filter.mpr ⟨Tbl.mem_of_get? hc, ?_⟩, rfl⟩
    simpa [hf] using h
@[simp] theorem standing_cancelWhere (s : State) (f cause r) : standing (cancelWhere s f cause r).2 = standing s :=
  standing_foldl _ _ _ fun _ _ => standing_of_doings (doings_cancelConvoy ..)

/-! ### A command taken out of everything -/

/-- Drive commands, held frames and what partitions hold beside their slots are no matter of a slot's phase. -/
theorem doings_dropWork (s : State) (d n) (f : Nat → Partition → Partition) (hf : ∀ p q, (f p q).slots = q.slots) :
    doings { s with driveCmds := d, nets := n, parts := Tbl.mapAll s.parts f } = doings s := by
  refine Prod.ext rfl (funext fun p => funext fun k => ?_)
  simp only [doings, slotAt, part, Tbl.getD, Tbl.get?_mapAll]
  cases Tbl.get? s.parts p <;> simp [hf]
theorem doings_setBoot (s : State) (f : Boot → Boot) : doings (setBoot s f) = doings s := rfl
theorem doings_dropOffload (s : State) (o : Nat) : doings (dropOffload s o) = doings s := rfl
theorem doings_dropOrigins (s : State) (p k : Nat) : doings (dropOrigins s p k) = doings s := rfl
theorem doings_forgetWaiter (s : State) (w : Nat) : doings (forgetWaiter s w) = doings s := rfl

/-- A withdrawal decides nothing. -/
theorem doings_withdraw (s : State) (p k : Nat) (cause : CancelCause) : doings (withdraw s p k cause) = doings s := by
  unfold withdraw
  dsimp only
  rw [apply_ite doings, doings_setBoot, ite_self]
  refine Eq.trans (doings_dropWork (dropOffload _ (p * 32 + k)) _ _ _ ?_) ?_
  · exact fun _ _ => rfl
  rw [doings_dropOffload, doings_dropOrigins]
  split
  · exact doings_forgetWaiter ..
  · rw [doings_setConvoy, doings_cancelConvoy, doings_forgetWaiter]
@[simp] theorem standing_withdraw (s : State) (p k cause) : standing (withdraw s p k cause) = standing s :=
  standing_of_doings (doings_withdraw ..)
@[simp] theorem standing_endFromOutside (s : State) (p k cause st) :
    standing (endFromOutside s p k cause st) = standing s := by
  simp [endFromOutside]

/-- A running command ended from outside ends with the status it is given. -/
theorem ending_endFromOutside {s : State} {p k : Nat} (h : (slotAt s p k).phase = .running) (cause : CancelCause) {st : Status}
    (hst : st ≠ .ok) : ∃ e, (slotAt (endFromOutside s p k cause st) p k).ending = some e ∧ e.status = st := by
  have hw := (phase_of_doings (doings_withdraw s p k cause) p k).trans h
  unfold endFromOutside
  dsimp only
  rw [endSlot_running _ hw]
  obtain ⟨-, -, -, -, -, -, -, e, he, hs, -⟩ := decideWith_spec (withdraw s p k cause) p k _
  refine ⟨e, he, ?_⟩
  rcases hs with hs | ⟨hs, -⟩
  · rw [hs]
    split <;> rfl
  · refine absurd ?_ hst
    rw [← hs]
    split <;> rfl

/-! ### Quiesce, and the loss of a clock for good -/

@[simp] theorem standing_quiesceWhere (s : State) (f cause) : standing (quiesceWhere s f cause) = standing s := by
  have hslot : ∀ t p k, standing (quiesceSlot t p k) = standing t := fun t p k => by simp [quiesceSlot]
  refine standing_foldl _ _ _ fun t p => ?_
  unfold quiesce
  split <;> simp [hslot]
@[simp] theorem standing_endRunsLasting (s : State) (f) : standing (endRunsLasting s f) = standing s := by
  simp [endRunsLasting]

/-- The loss for good of KT, a host port, storage or spill memory ends work and leaves every domain as it is (R56). -/
theorem standing_clockGone {d : Nat} (hd : d ∈ [1, 5, 6, 7, 18]) (s : State) : standing (clockGone s d) = standing s := by
  simp only [List.mem_cons, List.not_mem_nil, or_false] at hd
  rcases hd with rfl | rfl | rfl | rfl | rfl <;> simp [clockGone]

end Sys2Proof.Machine
end

section
/-! The reports of the device's checkers: clocks, crossings, lockstep, the management core, the convoy table and the exercise
of the checkers themselves (R55–R57, R93, R101, R109). -/

namespace Sys2Proof.Machine
open Sys2Proof

/-! ### Clocks (R55, R56) -/

/-- The losses of a domain's clock as they are counted. -/
def clockLosses (s : State) (d : Nat) : Nat := counter s 0x0101 d

theorem ReportsOnly.clockLosses {s t : State} (h : ReportsOnly s t) {d : Nat} (hd : d < 19) :
    clockLosses t d = clockLosses s d :=
  h.counter (counterKey_ne (by omega) (by omega) (.inl (by decide))) (counterKey_ne (by omega) (by omega) (.inl (by decide)))
theorem clockLosses_raiseVault (s : State) (code : Nat) (fault : Bool) (detail d : Nat) :
    clockLosses (raiseVault s code fault detail) d = clockLosses s d := by
  obtain ⟨v, h⟩ := raiseVault_spec s code fault detail
  exact h.counter 0x0101 d
theorem clockLosses_raiseClock (s : State) (k detail : Nat) {d : Nat} (hd : d < 19) :
    clockLosses (raiseClock s k detail) d = clockLosses s d := by
  unfold raiseClock
  split
  · exact clockLosses_raiseVault ..
  · exact (raiseAon_spec ..).clockLosses hd
theorem clockLosses_tellValidity (before s : State) (d : Nat) :
    clockLosses (tellValidity before s) d = clockLosses s d := by
  unfold tellValidity
  dsimp only
  split
  · rfl
  · exact clockLosses_raiseVault ..

/-- A clock lost: what the loss does to the domain and its count is all that happens to either. -/
theorem clockLoss_running {s : State} {d : Nat} (hd : d < 19) (h : clockRuns s d = true) :
    domain (clockLoss s d) d = { domain s d with clock := false, inReset := true, restarting := true } ∧
    clockLosses (clockLoss s d) d = satAdd 16 (clockLosses s d) 1 := by
  generalize hu : bump (setDomain s d (fun x => { x with clock := false, inReset := true, restarting := true })) 0x0101 d 16 = u
  generalize hv : beginRepair (raiseClock u d d) (clockWork u d) = v
  have hs : standing v = standing u := by
    rw [← hv, standing_beginRepair, standing_raiseClock]
  have hc : clockLosses v d = clockLosses u d := by
    rw [← hv]
    exact clockLosses_raiseClock u d d hd
  have ht : standing (clockLoss s d) = standing v ∧ clockLosses (clockLoss s d) d = clockLosses v d := by
    unfold clockLoss
    rw [h]
    dsimp only
    rw [if_neg (by simp), hu, hv]
    split
    · exact ⟨rfl, rfl⟩
    · exact ⟨by simp, clockLosses_tellValidity ..⟩
    · exact ⟨rfl, rfl⟩
  rw [domain_of_standing (ht.1.trans hs), ht.2, hc, ← hu, domain_of_standing (standing_bump ..)]
  exact ⟨domain_setDomain_self s d _, counter_bump_self ..⟩

theorem domains_initClass (s : State) (cls n : Nat) : (initClass s cls n).domains = s.domains := by
  have hp : ∀ receive, (initPartnerCredit s n receive).domains = s.domains := fun receive => by
    unfold initPartnerCredit
    dsimp only
    repeat' split
    all_goals rfl
  unfold initClass
  split
  · exact hp true
  · split
    · exact hp false
    · rfl
/-- Queues between a domain and its neighbours start afresh; the domains stand. -/
theorem domains_initNeighbours (s : State) (d : Nat) : (initNeighbours s d).domains = s.domains := by
  unfold initNeighbours
  refine foldl_leaves (g := State.domains) (fun s cls => foldl_leaves (g := State.domains) (fun s n => ?_) _ s) _ _
  split
  · exact domains_initClass ..
  · rfl
/-- A domain with its clock, and not fenced, leaves reset (R54). -/
theorem domain_leaveReset {s : State} {d : Nat} (hc : (domain s d).clock = true) (hf : (domain s d).fenced = false) :
    domain (leaveReset s d) d = { domain s d with inReset := false, restarting := false } := by
  unfold leaveReset
  rw [hc, hf, if_neg (by simp), domain, domains_initNeighbours]
  exact domain_setDomain_self s d _

/-- A restart that passes lets an unfenced domain leave reset. -/
theorem domain_clockRestart_passed {s : State} {d : Nat} (hr : (domain s d).restarting = true)
    (hf : (domain s d).fenced = false) :
    domain (clockRestart s d true) d = { domain s d with clock := true, inReset := false, restarting := false } := by
  unfold clockRestart
  rw [hr]
  dsimp only
  rw [if_neg (by simp), if_pos rfl, domain_of_standing (standing_endRepair ..)]
  generalize hu : transient _ 0x0B d = u
  have hs : standing u = standing s := by
    rw [← hu]
    simp
  have hd : domain (setDomain u d (fun x => { x with clock := true })) d = { domain s d with clock := true } := by
    rw [domain_setDomain_self, domain_of_standing hs]
  rw [domain_leaveReset (by rw [hd]) (by rw [hd]; exact hf), hd]

/-- The repair of a clock lost for good fences its domain, where that is one that stays out (R56). -/
theorem domain_repair_clock {s : State} {d : Nat} (hd : d ∈ [1, 5, 6, 7, 18]) (hf : (domain s d).fenced = false) :
    domain (repair s 0x0B d) d = { domain s d with restarting := false, fenced := true } := by
  have ho : outForGood d = true := (by decide : ∀ d ∈ [1, 5, 6, 7, 18], outForGood d = true) d hd
  have he : repair s 0x0B d = clockGone (setDomain (guard (bump s 0x0301 0x0B 16)) d
      (fun d' => { d' with restarting := false, fenced := outForGood d })) d := by
    simp [repair, hf]
  rw [he, domain_of_standing (standing_clockGone hd _), domain_setDomain_self, ho,
    domain_of_standing (standing_guard _), domain_of_standing (standing_bump ..)]

/-- A restart that fails fences a domain of KT, a host port, storage or spill memory. -/
theorem domain_clockRestart_failed {s : State} {d : Nat} (hd : d ∈ [1, 5, 6, 7, 18]) (hr : (domain s d).restarting = true)
    (hf : (domain s d).fenced = false) :
    domain (clockRestart s d false) d = { domain s d with restarting := false, fenced := true } := by
  have h34 : d ≠ 3 ∧ d ≠ 4 := (by decide : ∀ d ∈ [1, 5, 6, 7, 18], d ≠ 3 ∧ d ≠ 4) d hd
  generalize hu : (if d = 0 ∨ d = 2 then s else raiseClock s d (d + 512)) = u
  have he : clockRestart s d false = endRepair (repair u 0x0B d) false := by
    simp [clockRestart, hr, h34, ← hu]
  have hs : domain u d = domain s d := domain_of_standing (by rw [← hu]; simp) d
  rw [he, domain_of_standing (standing_endRepair ..), domain_repair_clock hd (by rw [hs]; exact hf), hs]

/-! ### Crossings (R57) -/

@[simp] theorem queueAt_setQueue_self (s : State) (cls n : Nat) (f : Queue → Queue) :
    queueAt (setQueue s cls n f) cls n = f (queueAt s cls n) := by
  simp [queueAt, setQueue]

/-- An empty queue: no unit in it, its counts at zero (R54). -/
def Queue.Emptied (q : Queue) : Prop := q.units = [] ∧ q.sent = 0 ∧ q.freed = 0

/-- A queue initialised again is empty, and when it last had a fault stands. -/
theorem queueAt_initClass (s : State) (cls n : Nat) :
    (queueAt (initClass s cls n) cls n).Emptied ∧
    (queueAt (initClass s cls n) cls n).lastFault = (queueAt s cls n).lastFault := by
  have hp : ∀ receive, queueAt (initPartnerCredit s n receive) cls n = queueAt s cls n := fun receive => by
    unfold initPartnerCredit
    dsimp only
    repeat' split
    all_goals rfl
  have hz : ∀ u, (queueAt (zeroCounts u cls n) cls n).Emptied ∧
      (queueAt (zeroCounts u cls n) cls n).lastFault = (queueAt u cls n).lastFault := fun u => by
    unfold zeroCounts
    rw [queueAt_setQueue_self]
    exact ⟨⟨rfl, rfl, rfl⟩, rfl⟩
  unfold initClass
  split
  · rw [← hp true]
    exact hz _
  · split
    · rw [← hp false]
      exact hz _
    · unfold initQueue
      rw [queueAt_setQueue_self]
      exact ⟨⟨rfl, rfl, rfl⟩, rfl⟩

theorem queueAt_reinitQueue (s : State) (cls n : Nat) :
    (queueAt (reinitQueue s cls n) cls n).Emptied ∧
    (queueAt (reinitQueue s cls n) cls n).lastFault = (queueAt s cls n).lastFault :=
  queueAt_initClass { s with streams := _ } cls n

/-- A first fault of a queue in use empties it and is noted (R57). -/
theorem crossingFault_first {s : State} {cls n : Nat} (parity : Bool) (hu : queueInUse s cls n = true)
    (hf : (queueAt s cls n).fenced = false) (hl : (queueAt s cls n).lastFault = none) :
    (queueAt (crossingFault s cls n parity) cls n).Emptied ∧
    (queueAt (crossingFault s cls n parity) cls n).lastFault = some s.now := by
  generalize hv : transient (raiseAdmin s 0x0903 true 0 (cls + 256 * n + 65536 * b2n parity + 131072 * b2n false)) 0x0C
    (queueKey cls n) = u
  have hs : standing u = standing s := by
    rw [← hv]
    simp
  have hc : crossingFault s cls n parity =
      reinitQueue (setQueue u cls n (fun q => { q with lastFault := some u.now })) cls n := by
    simp [crossingFault, hu, hf, hl, hv, now_of_standing hs, now_of_standing (standing_raiseAdmin ..)]
  rw [hc]
  obtain ⟨he, hn⟩ := queueAt_reinitQueue (setQueue u cls n (fun q => { q with lastFault := some u.now })) cls n
  refine ⟨he, hn.trans ?_⟩
  rw [queueAt_setQueue_self, now_of_standing hs]

/-! ### Lockstep pairs (R109, R161) -/

theorem slotAt_lastingFault (s : State) (g i p k : Nat) : slotAt (lastingFault s g i) p k = slotAt s p k := by
  obtain ⟨a, b, hf⟩ := fence_spec (bump s 0x0301 g 16) g i
  obtain ⟨v, h⟩ := guard_spec (fence (bump s 0x0301 g 16) g i)
  rw [lastingFault, h.slotAt, hf]
  rfl

/-- While the other pair is left, a pair taken offline touches no slot. -/
theorem pairOffline_of_other {s : State} {pair : Nat} (h : s.faults.pairs.erase pair ≠ []) :
    (pairOffline s pair).faults.pairs = s.faults.pairs.erase pair ∧
    ∀ p k, slotAt (pairOffline s pair) p k = slotAt s p k := by
  have hp : (lastingFault s 0x09 pair).faults.pairs = s.faults.pairs := pairs_of_standing (standing_lastingFault ..)
  unfold pairOffline
  dsimp only
  rw [if_neg (by rw [hp]; simpa using h)]
  exact ⟨congrArg (List.erase · pair) hp, fun p k => slotAt_lastingFault ..⟩

/-- Of the two pairs (R161) each is one, and the other is left without it. -/
theorem other_pair (pair : Fin 2) : pair.val ∈ [0, 1] ∧ [0, 1].erase pair.val = [1 - pair.val] := by
  revert pair
  decide

/-- A transient mismatch marks the running step's command as recovered beneath (R106). -/
theorem lockstep_transient {s : State} {pair o : Nat} (hp : pair ∈ s.faults.pairs)
    (h : (slotAt s (o / 32) (o % 32)).phase = .running) :
    (lockstep s pair false [o]).faults.pairs = s.faults.pairs ∧
    (slotAt (lockstep s pair false [o]) (o / 32) (o % 32)).lower = true := by
  have he : lockstep s pair false [o] = setSlot (transient (raiseAdmin s 0x0908 true 0 (pair + 256 * b2n false)) 0x09 pair)
      (o / 32) (o % 32) (fun x => { x with lower := true }) := by
    simp [lockstep, hp, h]
  rw [he]
  exact ⟨pairs_of_standing (by simp), by rw [slotAt_setSlot_self]⟩

/-- A lasting mismatch ends the running step's command with LASTING and takes the pair offline. -/
theorem lockstep_lasting {s : State} {pair o : Nat} (hp : pair ∈ s.faults.pairs) (hl : s.faults.pairs.erase pair ≠ [])
    (h : (slotAt s (o / 32) (o % 32)).phase = .running) :
    (lockstep s pair true [o]).faults.pairs = s.faults.pairs.erase pair ∧
    ∃ e, (slotAt (lockstep s pair true [o]) (o / 32) (o % 32)).ending = some e ∧ e.status = .lasting := by
  let u := raiseAdmin s 0x0908 true 0 (pair + 256 * b2n true)
  let v := endFromOutside u (o / 32) (o % 32) .ownCheck .lasting
  have he : lockstep s pair true [o] = pairOffline v pair := by
    simp [lockstep, hp, h, u, v]
  have hv : v.faults.pairs = s.faults.pairs := pairs_of_standing (by simp [u, v])
  have hu : (slotAt u (o / 32) (o % 32)).phase = .running := by
    rw [(raiseAdmin_spec ..).slotAt]
    exact h
  obtain ⟨hpairs, hslot⟩ := pairOffline_of_other (s := v) (pair := pair) (by rw [hv]; exact hl)
  rw [he, hpairs, hv, hslot]
  exact ⟨rfl, ending_endFromOutside hu .ownCheck (by decide)⟩

/-! ### The management core (R109) -/

theorem safeState_enterSafeState (s : State) : (enterSafeState s).faults.safeState = true := by
  have h : standing (enterSafeState s) =
      standing { s with faults := { s.faults with safeState := true, resuming := false } } := by
    simp [enterSafeState]
  exact safeState_of_standing h

/-- A first mismatch makes the core resume. -/
theorem managementMismatch_first {s : State} (h : managementRuns s = true) (hr : s.faults.resuming = false) :
    (managementMismatch s false).faults.resuming = true := by
  simp only [managementMismatch, h, hr, Bool.or_self, Bool.not_true, Bool.false_eq_true, if_false]
  exact resuming_of_standing (standing_beginRepair ..)
/-- A lasting mismatch, or one while the core resumes, puts it in its safe state. -/
theorem managementMismatch_lasting {s : State} (h : managementRuns s = true) :
    (managementMismatch s true).faults.safeState = true := by
  simp only [managementMismatch, h, Bool.not_true, Bool.false_eq_true, if_false, Bool.true_or, if_true, repair]
  exact safeState_enterSafeState _

/-- The end of a resumption: an abandoned calibration run may start again, and the core resumes no more. -/
theorem execManagementCoreResumed_over {s : State} (h : s.faults.resuming = true) :
    Does .managementCoreResumed s (fun t => t.faults.resuming = false) := by
  refine ⟨_, rfl, ?_⟩
  rw [h]
  generalize hu : endRepair _ true = u
  have hr : u.faults.resuming = false := by
    rw [← hu, resuming_of_standing (standing_endRepair ..), resuming_of_standing (standing_transient ..)]
  rw [if_neg (by simp)]
  dsimp only
  split
  · exact hr
  · rw [resuming_of_standing (standing_pursue ..), resuming_of_standing (standing_beginRun ..), hr]

/-! ### The convoy table (R93) -/

theorem convoyState_rebuildTable (s : State) (n : Nat) : (convoy (rebuildTable s) n).state = (convoy s n).state := by
  simp only [rebuildTable, convoy, Tbl.getD, Tbl.get?_mapAll]
  cases Tbl.get? s.convoys n <;> rfl

/-- A first mismatch of the table's copies cancels every open or sealed convoy and is noted. -/
theorem tableMismatch_first {s : State} (hm : s.boot.mainOn = true) (ht : s.faults.tableMismatch = none) :
    (tableMismatch s).faults.tableMismatch = some s.now ∧
    ∀ n, (convoy s n).state = .opened ∨ (convoy s n).state = .sealed → (convoy (tableMismatch s) n).state = .cancelling := by
  generalize hr : cancelWhere s (fun _ c => c.state == .opened || c.state == .sealed) .ownCheck (0x0A * 1024 + 1) = r
  generalize hu : raiseAdmin (rebuildTable r.2) 0x0905 true 0 (min 255 r.1 + 256 * b2n false) = u
  have he : tableMismatch s = transient { u with faults := { u.faults with tableMismatch := some u.now } } 0x0A 1 := by
    simp [tableMismatch, hm, ht, hr, hu]
  obtain ⟨a, b, ⟨_, _, _, _, _, _, _, hw⟩, -⟩ :=
    transient_spec { u with faults := { u.faults with tableMismatch := some u.now } } 0x0A 1
  rw [he, hw]
  refine ⟨?_, fun n hn => ?_⟩
  · have hs : standing u = standing s := by
      rw [← hu, standing_raiseAdmin, ← standing_cancelWhere s _ _ _, hr]
      rfl
    exact congrArg some (now_of_standing hs)
  · change (convoy u n).state = _
    rw [← hu, convoyState_of_outline (outline_raiseAdmin ..), convoyState_rebuildTable, ← hr]
    exact convoyState_cancelWhere hn (by rcases hn with hn | hn <;> simp [hn]) _ _

/-! ### The exercise of checkers (R101) -/

/-- A checker that missed its injected error once is counted, and a transient fault of its resource with it. -/
theorem exercise_missedOnce {s : State} (cls number group index : Nat) (hg : group ≠ 0) (hm : s.boot.mainOn = true)
    (hc : cls < 65536) (hi : group * 1024 + index < 65536) :
    counter (exercise s cls number group index false true) 0x0304 cls = satAdd 16 (counter s 0x0304 cls) 1 ∧
    counter (exercise s cls number group index false true) 0x0300 (group * 1024 + index) =
      satAdd 16 (counter s 0x0300 (group * 1024 + index)) 1 := by
  let u := raiseAon (bump s 0x0304 cls 16) 0x090A true (cls + 256 * number + 16777216 * b2n (!true))
  have he : exercise s cls number group index false true = transient u group index := by
    simp [exercise, hg, hm, u]
  have reported {x y : State} (h : ReportsOnly x y) {i n : Nat} (hn : n < 65536) (h1 : i ≠ 0x0E06) (h2 : i ≠ 0x0305) :
      counter y i n = counter x i n :=
    h.counter (counterKey_ne hn (by omega) (.inl h1)) (counterKey_ne hn (by omega) (.inl h2))
  have hu {i n : Nat} (hn : n < 65536) (h1 : i ≠ 0x0E06) (h2 : i ≠ 0x0305) :
      counter u i n = counter (bump s 0x0304 cls 16) i n := reported (raiseAon_spec ..) hn h1 h2
  obtain ⟨a, b, ht⟩ := transient_spec u group index
  rw [he, reported ht hc (by decide) (by decide), reported ht hi (by decide) (by decide)]
  constructor
  · refine (counter_bump_ne u 16 (counterKey_ne hc hi (.inl (by decide)))).trans ?_
    rw [hu hc (by decide) (by decide), counter_bump_self]
  · refine (counter_bump_self u ..).trans ?_
    rw [hu hi (by decide) (by decide), counter_bump_ne s 16 (counterKey_ne hi hc (.inl (by decide)))]

/-- Settles O21: each report's course is followed to its state; what it does besides leaves the domains, the faults' record, the
phases of slots and the states of convoys that the report itself has not set. The counter of a missed exercise is that of the
checker's class, which for the pairs of R194 is the model's own (log 47). -/
theorem checkersReportAndClassify : Obligations.CheckersReportAndClassify := by
  unfold Obligations.CheckersReportAndClassify
  refine ⟨fun d s h => ?_, fun d s hr hf => ⟨?_, fun hd => ?_⟩, fun cls n parity s hu hf hl => ?_,
    fun pair o s hp h => ⟨?_, ?_⟩, fun s h hr => ⟨?_, ?_⟩, fun s h => execManagementCoreResumed_over h, fun s hm ht => ?_,
    fun checker number group index s hg hm => ?_⟩
  · obtain ⟨hd, hc⟩ := clockLoss_running (s := s.fresh_) d.isLt h
    exact ⟨_, rfl, by rw [hd], by rw [hd], by rw [hd], hc⟩
  · have hd := domain_clockRestart_passed (s := s.fresh_) hr hf
    exact ⟨_, rfl, by rw [hd], by rw [hd], by rw [hd]⟩
  · have hd := domain_clockRestart_failed (s := s.fresh_) hd hr hf
    exact ⟨_, rfl, by rw [hd], by rw [hd]⟩
  · obtain ⟨⟨hq, hs, hz⟩, ht⟩ := crossingFault_first (s := s.fresh_) parity hu hf hl
    exact ⟨_, rfl, hq, hs, hz, ht⟩
  · obtain ⟨hs, hl⟩ := lockstep_transient (s := s.fresh_) (hp ▸ (other_pair pair).1) h
    exact ⟨_, rfl, hs.trans hp, hl⟩
  · obtain ⟨hm, ho⟩ := other_pair pair
    obtain ⟨hs, hl⟩ := lockstep_lasting (s := s.fresh_) (hp ▸ hm) (by simp [hp, ho]) h
    exact ⟨_, rfl, hs.trans (hp ▸ ho), hl⟩
  · exact ⟨_, rfl, managementMismatch_first (s := s.fresh_) h hr⟩
  · exact ⟨_, rfl, managementMismatch_lasting (s := s.fresh_) h⟩
  · exact ⟨_, rfl, tableMismatch_first (s := s.fresh_) hm ht⟩
  · exact ⟨_, rfl, exercise_missedOnce (s := s.fresh_) _ _ _ _ hg hm (by unfold checkerClass; split <;> omega) (by omega)⟩

end Sys2Proof.Machine
end

section
/-! What a host writes in its window where a slot number has two entries in its partition's table: the check of tags that
follows such a write (R160) finds the entry that no look-up by number reaches, and the fence of the mailbox unit resets the
window (R155). -/

namespace Sys2Proof.Machine
open Sys2Proof

/-- A write of 1 to the receipt consumer index ends in the fence, which leaves the index 0. -/
theorem doubledState_consumerWrite : ∃ t, exec (.receiptRingConsumerWrite 0 1) doubledState = .next t ∧
    (part t 0).state = .quiesced ∧ (part t 0).receiptConsumer = 0 :=
  ⟨_, rfl, by decide +kernel, by decide +kernel⟩

/-- A write of 2 to moderation ends in the fence, which leaves its reset value 1. -/
theorem doubledState_moderationWrite : ∃ t, exec (.registerWrite ⟨0, 0⟩ 0x20 (leBytes 4 2) false) doubledState = .next t ∧
    (part t 0).state = .quiesced ∧ (part t 0).moderation = 1 :=
  ⟨_, rfl, by decide +kernel, by decide +kernel⟩

/-- Refutes O8: with two entries of one slot number, `Untagged` sees the first and the check of tags both, so a write of 1 to
the receipt consumer index fences the mailbox unit, and the quiesce that goes with it clears the index. -/
theorem not_ringIndicesAndControlAreWritten : ¬ Obligations.RingIndicesAndControlAreWritten := by
  unfold Obligations.RingIndicesAndControlAreWritten
  intro h
  obtain ⟨stored, -⟩ := h 0 doubledState rfl
  obtain ⟨⟨t, ht, hv⟩, -⟩ := stored 1 untagged_doubledState (.inl rfl)
  obtain ⟨u, hu, -, hz⟩ := doubledState_consumerWrite
  obtain rfl : u = t := Host.Outcome.next.inj (hu.symm.trans ht)
  exact absurd (hz.symm.trans hv) (by decide)

/-- Refutes O7: with two entries of one slot number, a write of 2 to moderation fences the mailbox unit, and the quiesce that
goes with it leaves moderation 1. -/
theorem not_windowRegistersHoldWhatTheHostWrites : ¬ Obligations.WindowRegistersHoldWhatTheHostWrites := by
  unfold Obligations.WindowRegistersHoldWhatTheHostWrites
  intro h
  obtain ⟨written, -⟩ := h 0 0 0x20 doubledState
  obtain ⟨moderated, -⟩ := written 0 0x20 (by decide +kernel) rfl untagged_doubledState
  obtain ⟨t, ht, hv, -⟩ := moderated rfl 2
  obtain ⟨u, hu, -, hz⟩ := doubledState_moderationWrite
  obtain rfl : u = t := Host.Outcome.next.inj (hu.symm.trans ht)
  exact absurd (hz.symm.trans hv) (by decide)

end Sys2Proof.Machine
end

section
/-! The opening of a command's convoy (R74, R75, R79, R249). -/

namespace Sys2Proof.Machine
open Sys2Proof

section
variable {s t : State} (hp : t.parts = s.parts) (hm : t.memory = s.memory)
include hp

/-- A run is known by the partitions' slots and the models in memory. -/
theorem runCtx_of_parts (o : Nat) : runCtx t o = runCtx s o := by simp [runCtx, slotAt, part, hp]

theorem jobAt_of_parts (o i : Nat) : jobAt t o i = jobAt s o i := by simp [jobAt, slotAt, part, hp]

theorem runOf_of_convoys (hc : t.convoys = s.convoys) (n : Nat) : runOf t n = runOf s n := by
  simp [runOf, convoy, slotAt, part, hp, hc]

include hm

theorem runModel_of_memory (o : Nat) : runModel t o = runModel s o := by
  simp [runModel, runCtx_of_parts hp, modelOf, generation, hm]

theorem runLayer_of_memory (o : Nat) : runLayer t o = runLayer s o := by
  simp [runLayer, runModel_of_memory hp hm, jobAt_of_parts hp]

theorem runHurt_of_memory (o : Nat) : runHurt t o = runHurt s o := by
  simp [runHurt, runDamaged, modelPoisoned, runModel_of_memory hp hm, hm]

theorem runRetiring_of_memory (o : Nat) : runRetiring t o = runRetiring s o := by
  simp [runRetiring, runModel_of_memory hp hm, granule, hm]

end

theorem needsConvoy_fresh (s : State) (p k : Nat) : needsConvoy s.fresh_ p k = needsConvoy s p k := by
  have hp := freshState_parts s
  simp [needsConvoy, slotAt, part, convoyOf, jobAt_of_parts hp, runRetiring_of_memory hp (freshState_memory s)]

/-- What the reads of a layer leave of its convoy. -/
def berth (c : Convoy) : ConvoyState × Bool × Option Nat × Nat := (c.state, c.generation, c.owner, c.partition)

@[simp] theorem berth_mirrored (c : Convoy) : berth c.mirrored = berth c := rfl

theorem convoy_fresh (s : State) (n : Nat) : convoy s.fresh_ n = convoy s n := rfl

/-- A free number opens where no sweep runs under the generation it takes. -/
theorem openConvoy_free {s : State} {n : Nat} (p : Nat) (owner : Option Nat) (hf : (convoy s n).state = .free)
    (hw : ∀ w ∈ s.memory.sweeps, w.convoy = n → w.generation = (convoy s n).generation) :
    ∃ f, openConvoy s n p owner = setConvoy s n f ∧
      ∀ c, berth (f c) = (.opened, !c.generation, owner, p) := by
  have hs : s.memory.sweeps.any (fun w => w.convoy == n && w.generation == !(convoy s n).generation) = false := by
    simpa using hw
  simp only [openConvoy, hf, hs]
  exact ⟨_, rfl, fun _ => rfl⟩

/-- No read goes out for a layer that reads nothing from a partner: at most the reads and buffers of the convoy are set. -/
theorem startReads_of_nil {s : State} {n o : Nat}
    (h : ∀ l, runLayer s o = some l → layerReads o (runCtx s o).seq l = []) :
    (∃ v, startReads s n o = { s with convoys := v }) ∧
      berth (convoy (startReads s n o) n) = berth (convoy s n) := by
  unfold startReads
  split
  · next m l _ _ hl =>
    split
    · exact ⟨⟨_, rfl⟩, rfl⟩
    · have hr : ∀ f : Convoy → Convoy, (∀ c, (f c).reads = []) → issueReads (setConvoy s n f) n = setConvoy s n f := by
        intro f hf
        have : (convoy (setConvoy s n f) n).reads = [] := by simp [Convoy.mirrored, hf]
        rw [issueReads, this, List.foldl_nil]
      rw [hr _ fun _ => h l hl]
      exact ⟨⟨_, rfl⟩, by simp [berth, Convoy.mirrored]⟩
  · exact ⟨⟨_, rfl⟩, rfl⟩

/-- A run that may open a convoy opens it, on a sound model none of whose layer is read from a partner. -/
theorem openCommand_opens {s : State} {n p k : Nat} (hn : n < 192) (hc : needsConvoy s p k = true)
    (hq : convoysOpen s p < (part s p).quotas.convoys) (hf : (convoy s n).state = .free)
    (ho : Tbl.get? s.tensor.offloads (p * 32 + k) = none) (hh : runHurt s (p * 32 + k) = false)
    (hl : ∀ l, runLayer s (p * 32 + k) = some l → layerReads (p * 32 + k) (runCtx s (p * 32 + k)).seq l = [])
    (hw : ∀ w ∈ s.memory.sweeps, w.convoy = n → w.generation = (convoy s n).generation) :
    (∃ v, openCommand s n p k = { s with out := [], convoys := v }) ∧
      berth (convoy (openCommand s n p k) n) = (.opened, !(convoy s n).generation, some (p * 32 + k), p) := by
  obtain ⟨f, hs, hb⟩ := openConvoy_free (s := s.fresh_) p (some (p * 32 + k)) (by simpa [convoy_fresh] using hf)
    (by simpa [convoy_fresh] using hw)
  have hown : ∀ c, (f c).mirrored.owner = some (p * 32 + k) := fun c => congrArg (fun b => b.2.2.1) (hb c)
  have he : openCommand s n p k = startReads (setConvoy s.fresh_ n f) n (p * 32 + k) := by
    have hc' : needsConvoy s.fresh_ p k = true := (needsConvoy_fresh s p k).trans hc
    have hq' : ¬ (part s.fresh_ p).quotas.convoys ≤ convoysOpen s.fresh_ p := Nat.not_le.mpr hq
    have hh' : runHurt s.fresh_ (p * 32 + k) = false :=
      (runHurt_of_memory (freshState_parts s) (freshState_memory s) _).trans hh
    have hn' : ¬ 191 < n := by omega
    simp [openCommand, hn', hc', hq', hh', ho, hs, hown]
  have hr : ∀ l, runLayer (setConvoy s.fresh_ n f) (p * 32 + k) = some l →
      layerReads (p * 32 + k) (runCtx (setConvoy s.fresh_ n f) (p * 32 + k)).seq l = [] := by
    have hp : (setConvoy s.fresh_ n f).parts = s.parts := rfl
    have hm : (setConvoy s.fresh_ n f).memory = s.memory := rfl
    rw [runLayer_of_memory hp hm, runCtx_of_parts hp]
    exact hl
  obtain ⟨⟨v, hv⟩, hbr⟩ := startReads_of_nil (n := n) hr
  rw [he]
  constructor
  · exact ⟨v, hv⟩
  · rw [hbr, convoy_setConvoy_self, berth_mirrored, hb, convoy_fresh]

end Sys2Proof.Machine
end

section
/-! Parcels toward partners, and the seal of a convoy that goes out with them (R75, R76, R83, R216). -/

namespace Sys2Proof.Machine
open Sys2Proof

/-- What a parcel toward a partner may change: what goes out, its stream, the queues and their counts, the port, and of a convoy
the times its acknowledgements are awaited from. -/
def ParcelsOnly (s t : State) : Prop :=
  (∃ o a q c n v, t = { s with out := o, streams := a, queues := q, ctr := c, ports := n, convoys := v }) ∧
  ∀ m, ∃ a, convoy t m = { convoy s m with acksOwed := a }

theorem ParcelsOnly.refl (s : State) : ParcelsOnly s s := ⟨⟨_, _, _, _, _, _, rfl⟩, fun _ => ⟨_, rfl⟩⟩

theorem ParcelsOnly.trans {s t u : State} (h : ParcelsOnly s t) (g : ParcelsOnly t u) : ParcelsOnly s u := by
  obtain ⟨⟨o, a, q, c, n, v, rfl⟩, hm⟩ := h
  obtain ⟨⟨o', a', q', c', n', v', rfl⟩, gm⟩ := g
  refine ⟨⟨o', a', q', c', n', v', rfl⟩, fun m => ?_⟩
  obtain ⟨x, hx⟩ := hm m
  obtain ⟨y, hy⟩ := gm m
  exact ⟨y, by rw [hy, hx]⟩

theorem ParcelsOnly.foldl {β : Type} {f : State → β → State} (h : ∀ s x, ParcelsOnly s (f s x)) (l : List β) (s : State) :
    ParcelsOnly s (l.foldl f s) := by
  induction l generalizing s with
  | nil => exact ParcelsOnly.refl s
  | cons x l ih => exact (h s x).trans (ih _)

/-- An update beside the convoy table. -/
theorem ParcelsOnly.update (s : State) (o a q c n) :
    ParcelsOnly s { s with out := o, streams := a, queues := q, ctr := c, ports := n } :=
  ⟨⟨_, _, _, _, _, _, rfl⟩, fun _ => ⟨_, rfl⟩⟩

theorem endStall_spec (s : State) (cls n : Nat) : ParcelsOnly s (endStall s cls n) := by
  unfold endStall
  dsimp only
  split
  · split
    · exact ParcelsOnly.update ..
    · exact ParcelsOnly.refl s
  · exact ParcelsOnly.update ..

theorem startAckTimer_spec (s : State) (port content : Nat) (wb : List Byte) :
    ParcelsOnly s (startAckTimer s port content wb) := by
  unfold startAckTimer
  dsimp only
  split
  · refine ⟨⟨_, _, _, _, _, _, rfl⟩, fun m => ?_⟩
    by_cases h : m = field wb 5 1
    · subst h
      exact ⟨_, Tbl.getD_set_self ..⟩
    · exact ⟨_, Tbl.getD_set_ne _ _ _ h⟩
  · exact ParcelsOnly.refl s

theorem dataSlot_spec (s : State) (n : Nat) : ParcelsOnly s (dataSlot s n) := by
  unfold dataSlot
  dsimp only
  split <;> exact ParcelsOnly.update ..

theorem transmit_spec (s : State) (n content : Nat) (wb payload : List Byte) :
    ParcelsOnly s (transmit s n content wb payload) :=
  (((endStall_spec s 4 n).trans (ParcelsOnly.update ..)).trans (startAckTimer_spec ..)).trans
    ((ParcelsOnly.update ..).trans (dataSlot_spec ..))

theorem sendConvoyControl_spec (s : State) (port kind n p : Nat) (generation : Bool) (count : Nat) :
    ParcelsOnly s (sendConvoyControl s port kind n p generation count) := by
  unfold sendConvoyControl sendLink
  dsimp only
  split
  · exact (ParcelsOnly.update ..).trans (transmit_spec ..)
  · exact ParcelsOnly.update ..

/-! ### The seal -/

theorem EventsOnly.convoys {s t : State} (h : EventsOnly s t) : t.convoys = s.convoys := by
  obtain ⟨⟨_, _, _, rfl⟩, -⟩ := h
  rfl

/-- What a convoy is sealed with: the time and its deadline. -/
def pace (s : State) (n : Nat) : Nat × Nat := (s.now, convoyDeadline s n)

/-- The deadline of a convoy follows from its partition's setting or its network port's. -/
theorem pace_of_settings {s t : State} {n : Nat} (ht : t.now = s.now) (hn : t.nets = s.nets)
    (hp : ∀ p, (part t p).deadlineUs = (part s p).deadlineUs) (hc : (convoy t n).partition = (convoy s n).partition) :
    pace t n = pace s n := by
  simp [pace, convoyDeadline, ht, hn, hp, hc]

/-- The parcels that tell the seal cost no time and leave the deadline's setting. -/
theorem ParcelsOnly.pace {s t : State} (h : ParcelsOnly s t) (n : Nat) : pace t n = pace s n := by
  obtain ⟨⟨_, _, _, _, _, _, rfl⟩, hm⟩ := h
  obtain ⟨_, hc⟩ := hm n
  exact pace_of_settings rfl rfl (fun _ => rfl) (by simp [hc])

theorem EventsOnly.pace {s t : State} (h : EventsOnly s t) (n : Nat) : pace t n = pace s n := by
  obtain ⟨⟨_, _, _, rfl⟩, hp⟩ := h
  refine pace_of_settings rfl rfl (fun p => ?_) rfl
  obtain ⟨_, _, _, hq⟩ := hp p
  simp [hq]

theorem pace_setSlot (s : State) (p k : Nat) (f : Slot → Slot) (n : Nat) : pace (setSlot s p k f) n = pace s n := by
  refine pace_of_settings rfl rfl (fun q => ?_) rfl
  by_cases h : q = p
  · subst h
    simp [setSlot]
  · simp [setSlot, h]

theorem pace_reportOverrun (s : State) (o m : Nat) (l : Layer) (n : Nat) : pace (reportOverrun s o m l) n = pace s n := by
  have hb : ∀ t, pace (bump t 0x0605 (o / 32) 32) n = pace t n := fun _ => rfl
  unfold reportOverrun
  dsimp only
  rw [apply_ite (pace · n), (postEvent_spec ..).pace, hb, setJob, pace_setSlot, ite_self]

theorem convoys_reportOverrun (s : State) (o m : Nat) (l : Layer) : (reportOverrun s o m l).convoys = s.convoys := by
  unfold reportOverrun
  dsimp only
  rw [apply_ite State.convoys, (postEvent_spec ..).convoys]
  exact ite_self _

/-- An open convoy is sealed and its deadline starts: beside the parcels that tell it, only its own entry changes. -/
theorem sealConvoy_spec {s : State} {n : Nat} (h : (convoy s n).state = .opened) :
    ∃ u f, ParcelsOnly s u ∧ sealConvoy s n = setConvoy u n f ∧
      ∀ c, (f c).state = .sealed ∧ (f c).deadlineAt = some ((pace u n).1 + (pace u n).2) := by
  unfold sealConvoy
  dsimp only
  rw [if_neg (by simp [h])]
  exact ⟨_, _, ParcelsOnly.foldl (fun _ _ => sendConvoyControl_spec ..) _ s, rfl, fun _ => ⟨rfl, rfl⟩⟩

theorem sealConvoy_sealed {s : State} {n : Nat} (h : (convoy s n).state = .opened) :
    (convoy (sealConvoy s n) n).state = .sealed ∧
      (convoy (sealConvoy s n) n).deadlineAt = some (s.now + convoyDeadline s n) := by
  obtain ⟨u, f, hu, hs, hf⟩ := sealConvoy_spec h
  obtain ⟨hstate, hdeadline⟩ := hf (convoy u n)
  rw [hs, convoy_setConvoy_self]
  exact ⟨hstate, hdeadline.trans (by rw [hu.pace]; rfl)⟩

/-- A convoy of no run, or of a layer whose reads are in and whose passes have all been issued, or as many as a port carries. -/
def MembersIssued (s : State) (n : Nat) : Prop :=
  ∀ o, runOf s n = some o → (convoy s n).reads = [] ∧ ∃ l, runLayer s o = some l ∧
    (jobAt s o 6 + (convoy s n).members = l.passes ∨ (convoy s n).full = true)

/-- Where an open convoy's members are all issued, the seal follows, behind the report of an overrun where one is due. -/
theorem sealMembers_eq {s : State} {n : Nat} (h : (convoy s n).state = .opened) (hr : MembersIssued s n) :
    ∃ u, sealMembers s n = sealConvoy u n ∧ convoy u n = convoy s n ∧ pace u n = pace s n := by
  have hrun := runOf_of_convoys (freshState_parts s) (freshState_convoys s) n
  unfold sealMembers
  dsimp only
  rw [hrun]
  cases ho : runOf s n with
  | none => exact ⟨s.fresh_, rfl, rfl, rfl⟩
  | some o =>
    obtain ⟨hreads, l, hl, hlast⟩ := hr o ho
    dsimp only
    rw [runLayer_of_memory (freshState_parts s) (freshState_memory s), hl, jobAt_of_parts (freshState_parts s), convoy_fresh]
    dsimp only
    rw [if_neg (by simpa [h, hreads] using or_iff_not_imp_left.mp hlast)]
    split
    · exact ⟨_, rfl, by rw [convoy, convoys_reportOverrun]; rfl, pace_reportOverrun ..⟩
    · exact ⟨s.fresh_, rfl, rfl, rfl⟩

theorem sealMembers_sealed {s : State} {n : Nat} (h : (convoy s n).state = .opened) (hr : MembersIssued s n) :
    (convoy (sealMembers s n) n).state = .sealed ∧
      (convoy (sealMembers s n) n).deadlineAt = some (s.now + convoyDeadline s n) := by
  obtain ⟨u, hu, hc, hp⟩ := sealMembers_eq h hr
  obtain ⟨hs, hd⟩ := sealConvoy_sealed (s := u) (n := n) (by rw [hc, h])
  rw [hu]
  exact ⟨hs, hd.trans (congrArg (fun x => some (x.1 + x.2)) hp)⟩

end Sys2Proof.Machine
end

section
/-! The confirmation of a convoy, and what follows it: its signals and its command's output (R77, R216, R227, R254). -/

namespace Sys2Proof.Machine
open Sys2Proof

/-- What the confirmation's outputs and signals leave alone: the convoys, and the parcels that wait for a port. -/
def traffic (s : State) : Tbl Convoy × Tbl Port := (s.convoys, s.ports)

theorem convoy_of_traffic {s t : State} (h : traffic t = traffic s) (n : Nat) : convoy t n = convoy s n :=
  congrArg (fun x : Tbl Convoy × Tbl Port => Tbl.getD x.1 n Convoy.init) h

theorem parcelsWait_of_traffic {s t : State} (h : traffic t = traffic s) (n : Nat) (g : Bool) :
    parcelsWait t n g = parcelsWait s n g :=
  congrArg (fun x : Tbl Convoy × Tbl Port => x.2.any (fun e => e.2.waiting.any (bulkOf n g))) h

theorem ReportsOnly.traffic {s t : State} (h : ReportsOnly s t) : traffic t = traffic s := by
  obtain ⟨⟨_, _, _, _, _, _, _, rfl⟩, -, -⟩ := h
  rfl

@[simp] theorem traffic_setSlot (s : State) (p k f) : traffic (setSlot s p k f) = traffic s := rfl
@[simp] theorem traffic_setJob (s : State) (o i v) : traffic (setJob s o i v) = traffic s := rfl

@[simp] theorem traffic_endSlot (s : State) (p k : Nat) (a : Answer) : traffic (endSlot s p k a) = traffic s := by
  rw [endSlot_eq]
  split
  · obtain ⟨s', ⟨_, _, _, hs'⟩, ⟨_, h⟩, -⟩ := decideWith_spec s p k a
    rw [h]
    exact hs'.traffic
  · rfl

@[simp] theorem traffic_writeDesc (s : State) (p : Nat) (d : Desc) (bs : List Byte) : traffic (writeDesc s p d bs) = traffic s := by
  obtain ⟨-, h⟩ | ⟨-, -, h⟩ | ⟨r, -, -, h⟩ := writeDesc_cases s p d bs
  · rw [h]
    rfl
  · rw [h]
  · obtain ⟨⟨_, _, hw⟩, -⟩ := regionWrite_spec s r (d.loc / 4294967296) bs
    rw [h, hw]
    rfl

@[simp] theorem traffic_endConvoyCommand (s : State) (o : Nat) (st : Status) : traffic (endConvoyCommand s o st) = traffic s :=
  traffic_endSlot ..

@[simp] theorem traffic_discardSignal (s : State) (port reason handle : Nat) :
    traffic (discardSignal s port reason handle) = traffic s :=
  (raiseAdmin_spec ..).reports.traffic

@[simp] theorem traffic_syncAdd (s : State) (i value : Nat) : traffic (syncAdd s i value) = traffic s := by
  unfold syncAdd
  split
  · rfl
  · exact foldl_leaves (fun _ _ => traffic_endSlot ..) ..

@[simp] theorem traffic_applySignal (s : State) (handle value source : Nat) :
    traffic (applySignal s handle value source) = traffic s := by
  unfold applySignal
  repeat' split
  all_goals simp

/-- A convoy is confirmed: nothing is held at a gate, and no signal is pending once no parcel of it waits for a port. -/
def Confirmed (s : State) (n : Nat) : Prop :=
  (convoy s n).state = .confirmed ∧ (convoy s n).held = [] ∧
    (parcelsWait s n (convoy s n).generation = false → (convoy s n).signals = [])

theorem Confirmed.of_traffic {s t : State} {n : Nat} (h : traffic t = traffic s) (hc : Confirmed s n) : Confirmed t n := by
  unfold Confirmed
  rw [convoy_of_traffic h, parcelsWait_of_traffic h]
  exact hc

/-- The signals of a confirmed convoy wait while a parcel of it does, or are all applied. -/
theorem confirmed_applySignals {s : State} {n : Nat} (hs : (convoy s n).state = .confirmed) (hh : (convoy s n).held = []) :
    Confirmed (applySignals s n applySignal) n := by
  unfold applySignals
  dsimp only
  split
  · next hw => exact ⟨hs, hh, fun hn => absurd hw (by simp [hn])⟩
  · have ht : traffic ((convoy s n).signals.foldl (fun s e => applySignal s e.1 e.2.1 e.2.2) s) = traffic s :=
      foldl_leaves (fun _ _ => traffic_applySignal ..) ..
    unfold Confirmed
    rw [convoy_setConvoy_self, convoy_of_traffic ht]
    exact ⟨hs, hh, fun _ => rfl⟩

/-- A run's own signal is applied, or joins those that wait with a parcel. -/
theorem Confirmed.runSignal {s : State} {n : Nat} (h : Confirmed s n) (handle value : Nat) :
    Confirmed (runSignal s n handle value) n := by
  unfold Machine.runSignal
  split
  · next hw =>
    obtain ⟨hs, hh, -⟩ := h
    unfold Confirmed
    rw [convoy_setConvoy_self]
    exact ⟨hs, hh, fun hn => absurd (hw.symm.trans hn) (by decide)⟩
  · exact h.of_traffic (traffic_applySignal ..)

/-- A layer's progress is told in its command's job; the last layer's output and signal follow. -/
theorem Confirmed.layerConfirmed {s : State} {n : Nat} (h : Confirmed s n) (o : Nat) : Confirmed (layerConfirmed s n o) n := by
  unfold Machine.layerConfirmed
  dsimp only
  split
  · exact h
  · split
    · exact h.of_traffic (by simp)
    · split
      · exact h.of_traffic (by simp)
      · split
        · exact h.of_traffic (by simp)
        · exact h.of_traffic (by simp)
        · split
          · exact h.of_traffic (by simp)
          · exact Confirmed.runSignal (h.of_traffic (by simp)) ..

/-- An offload's results are written. -/
theorem Confirmed.offloadConfirmed {s : State} {n : Nat} (h : Confirmed s n) (o : Nat) : Confirmed (offloadConfirmed s o) n := by
  unfold Machine.offloadConfirmed
  dsimp only
  split
  · exact h
  · split
    · exact h
    · exact h.of_traffic (by simp)
    · exact h.of_traffic (by simp)

/-- What a confirmation sets in its convoy's entry before the signals follow. -/
theorem confirmConvoy_spec {s : State} {n : Nat} (h : confirmable (convoy s n) = true)
    (signal : State → Nat → Nat → Nat → State) : ∃ u f, confirmConvoy s n signal = applySignals (setConvoy u n f) n signal ∧
      ∀ c, (f c).state = .confirmed ∧ (f c).held = [] := by
  unfold confirmConvoy
  dsimp only
  rw [if_neg (by simp [h])]
  exact ⟨_, _, rfl, fun _ => ⟨rfl, rfl⟩⟩

theorem confirmed_confirmConvoy {s : State} {n : Nat} (h : confirmable (convoy s n) = true) :
    Confirmed (confirmConvoy s n applySignal) n := by
  obtain ⟨u, f, he, hf⟩ := confirmConvoy_spec h applySignal
  obtain ⟨hs, hh⟩ := hf (convoy u n)
  rw [he]
  exact confirmed_applySignals (by rw [convoyState_setConvoy_self, hs]) (by rw [convoy_setConvoy_self]; exact hh)

theorem ownerTorn_fresh (s : State) (n : Nat) : ownerTorn s.fresh_ n = ownerTorn s n := by
  simp [ownerTorn, convoy_fresh, slotAt, part]

theorem descWriteMeets_fresh (s : State) (p : Nat) (d : Desc) : descWriteMeets s.fresh_ p d = descWriteMeets s p d := rfl

theorem outputWaits_fresh (s : State) (n : Nat) : outputWaits s.fresh_ n = outputWaits s n := by
  have hp := freshState_parts s
  simp [outputWaits, convoy_fresh, descWriteMeets_fresh, runOf_of_convoys hp (freshState_convoys s), jobAt_of_parts hp,
    runCtx_of_parts hp, runLayer_of_memory hp (freshState_memory s)]

theorem runLost_fresh (s : State) (n : Nat) : runLost s.fresh_ n = runLost s n := by
  have hp := freshState_parts s
  simp [runLost, runDamaged, runOf_of_convoys hp (freshState_convoys s), runModel_of_memory hp (freshState_memory s)]

/-- Where nothing bars it, a convoy that meets the conditions of R77 is confirmed, and what its command owes follows. -/
theorem confirmed_confirm {s : State} {n : Nat} (h : confirmable (convoy s n) = true) (ht : ownerTorn s n = false)
    (hw : outputWaits s n = false) (hl : runLost s n = false) : Confirmed (confirm s n) n := by
  have hc := confirmed_confirmConvoy (s := s.fresh_) (n := n) (by rwa [convoy_fresh])
  unfold confirm
  dsimp only
  rw [if_neg (by simp [convoy_fresh, ownerTorn_fresh, outputWaits_fresh, h, ht, hw]),
    if_neg (by simp [runLost_fresh, hl])]
  split
  · exact hc.layerConfirmed _
  · exact hc.offloadConfirmed _
  · exact hc

/-- Settles O16: a convoy opens with its number turned and owned, is sealed behind the parcels that tell it, and is confirmed
before its command's output and signals, of which only a signal that waits for the convoy's parcels reaches its entry. -/
theorem convoysOpenSealAndConfirm : Obligations.ConvoysOpenSealAndConfirm := by
  unfold Obligations.ConvoysOpenSealAndConfirm
  refine ⟨fun n p k s hn hc hq hf ho hh hl hw => ?_, fun n s h hr => ⟨_, rfl, sealMembers_sealed h hr⟩,
    fun n s h ht hw hl => ⟨_, rfl, confirmed_confirm h ht hw hl⟩⟩
  obtain ⟨⟨v, hv⟩, hb⟩ := openCommand_opens hn hc hq hf ho hh hl hw
  simp only [berth, Prod.mk.injEq] at hb
  obtain ⟨hs, hg, howner, hp⟩ := hb
  exact ⟨_, rfl, by rw [hv], hs, hg, howner, hp⟩

end Sys2Proof.Machine
end

section
/-! FENCE_RESOURCE where the slot's record of a lost parcel's hop is no hop of the part: a command that recovered counts a
transient fault of that hop as it ends (R68, R106), and the count's key runs over into the lasting faults' (R109, R122). -/

namespace Sys2Proof.Machine
open Sys2Proof

/-- A request to fence granule 0, with tag 31 and sequence number 7. -/
def granuleFenceRequest : List Byte :=
  leBytes 2 0x0A03 ++ leBytes 2 31 ++ leBytes 4 7 ++ leBytes 2 4 ++ leBytes 6 0 ++ [3, 0, 0, 0]

/-- The number of a hop whose transient faults are counted under the key of the granules' lasting faults. Every queue has a
number below 384 (R541). -/
def strayHop : Nat := counterKey 0x0301 3 - counterKey 0x0300 (0x0C * 1024)

/-- A started part whose slot 31 runs that request and has recovered from a parcel lost at that hop. -/
def strayHopState : State :=
  { State.reset with
    boot := { Boot.init 1 0 with mainOn := true, synfyReady := true }
    parts := [(0, { Partition.absent with
      state := .active
      slots := [(31, { Slot.empty with
        phase := .running, request := granuleFenceRequest, lower := true, lostHop := some strayHop })] })] }

/-- The request in slot 31. -/
def strayHopCtx : Ctx := slotCtx 0 31 (slotAt strayHopState 0 31)

theorem ready_strayHopState :
    Ready 0x0A03 (fixed .control) fenceResourceChecks (.mbx 0 31) strayHopState strayHopCtx := by
  unfold Ready
  decide +kernel

/-- No lasting fault of a granule was counted before the request; one is when it has ended. -/
theorem strayHopState_fence : counter strayHopState 0x0301 3 = 0 ∧
    ∃ t, exec (.fenceResource (.mbx 0 31)) strayHopState = .next t ∧ counter t 0x0301 3 = 1 :=
  ⟨rfl, _, rfl, by decide +kernel⟩

/-- Refutes O56: the repair leaves the count of lasting faults, but the request that then ends counts a transient fault of the
hop its slot names, and a number that is no queue's puts that count on the one that should stand. -/
theorem not_maintenanceCountersAndFences : ¬ Obligations.MaintenanceCountersAndFences := by
  unfold Obligations.MaintenanceCountersAndFences
  intro h
  obtain ⟨-, -, -, fences, -⟩ := h (.mbx 0 31) strayHopState strayHopCtx
  have noFrames : ∀ j, (netAt strayHopState j).heldTx = [] := fun _ => rfl
  obtain ⟨t, ht, -, stands, -⟩ := fences ready_strayHopState (by simp [noFrames])
  have granules : strayHopCtx.u 0 1 = 3 := by decide +kernel
  obtain ⟨before, u, hu, after⟩ := strayHopState_fence
  obtain rfl : u = t := Host.Outcome.next.inj (hu.symm.trans ht)
  rw [granules, before, after] at stands
  exact absurd stands (by decide)

end Sys2Proof.Machine
end

section
/-! The step, with a command in the queue and without: frames held at a gate go out in an idle step and the device time moves on by
the tick alone (R284; log 6). -/

namespace Sys2Proof.Machine
open Sys2Proof

/-- A frame made ready for sending moves the packet number of its port's association, and nothing else. -/
theorem macsecSeal_nets {s t : State} {j : Nat} {f b : List Byte} (h : macsecSeal s j f = some (b, t)) :
    ∃ n, t = { s with nets := n } := by
  unfold macsecSeal at h
  repeat' split at h
  all_goals cases h
  case isTrue => exact ⟨s.nets, rfl⟩
  all_goals exact ⟨_, rfl⟩

@[simp] theorem standing_transmit_ (s : State) (j o : Nat) (f : List Byte) : standing (transmit_ s j o f) = standing s := by
  unfold transmit_
  split
  · simp
  · next h =>
    obtain ⟨n, rfl⟩ := macsecSeal_nets h
    rw [standing_ite, standing_endSlot, ite_self]
    rfl

/-- Frames go out in no time of the model's. -/
@[simp] theorem standing_flushTx (s : State) (j : Nat) : standing (flushTx s j) = standing s :=
  (standing_foldl _ _ _ fun _ _ => standing_transmit_ ..).trans rfl

theorem idleTick_now (s : State) : (idleTick s).now = s.now + 1000 :=
  now_of_standing (s := { s.fresh_ with now := s.now + 1000 }) (by simp only [idleTick, standing_flushTx])

theorem idleTick_pending (s : State) : (idleTick s).pending = s.pending := congrArg Kept.queue (kept_idleTick s)

/-- Settles O1: the step takes the front of the queue, or is the tick. -/
theorem stepRunsFrontCommand : Obligations.StepRunsFrontCommand := by
  unfold Obligations.StepRunsFrontCommand
  refine ⟨fun s c rest h => step_cons h, fun s h => ⟨idleTick s, ?_, idleTick_now s, ?_⟩⟩
  · simp [step, h]
  · rw [idleTick_pending, h]

end Sys2Proof.Machine
end
section
/-! Doorbells (R132, R136, R139): what registers a slot, and what is discarded and counted. -/

namespace Sys2Proof.Machine
open Sys2Proof

/-- A doorbell to a partition in use, with the mailbox unit in service, registers its slot or is counted as discarded. -/
theorem doorbell_eq {s : State} {p : Nat} (size value : Nat) (poisoned : Bool) (hfree : (part s p).state ≠ .free)
    (hunit : s.faults.mailboxFenced = false) :
    doorbell s p size value poisoned = if doorbellTaken s p size value poisoned = true then
        setSlot s.fresh_ p value (fun _ => { Slot.empty with
          phase := .registered, request := Mem.readBytes (part s p).requestBytes (128 * value) 128, at_ := s.now
          grant := (part s p).grant, busy := true })
      else setPart s.fresh_ p (fun q => { q with discards := satAdd 16 q.discards 1 }) := by
  have hpass : ((part s p).state == .free || s.faults.mailboxFenced) = false := by simpa [hunit] using hfree
  exact if_neg (Bool.eq_false_iff.mp hpass)

/-- Settles O6: a doorbell that is taken sets its one slot, any other raises the partition's discard count. -/
theorem doorbellRegistersOrIsDiscarded : Obligations.DoorbellRegistersOrIsDiscarded := by
  unfold Obligations.DoorbellRegistersOrIsDiscarded
  refine fun p size value poisoned s hfree hunit => ⟨fun htaken => ⟨_, rfl, ?_⟩, fun hlost => ⟨_, rfl, ?_⟩⟩
  · rw [doorbell_eq _ _ _ hfree hunit, if_pos htaken]
    refine ⟨rfl, fun q hq => part_setPart_ne _ _ hq, fun k hk => slotAt_setSlot_ne _ _ (.inr hk), ?_⟩
    simp
  · rw [doorbell_eq _ _ _ hfree hunit, hlost, if_neg Bool.false_ne_true]
    exact ⟨rfl, fun q hq => part_setPart_ne _ _ hq, part_setPart_self ..⟩

end Sys2Proof.Machine
end
section
/-! Interrupts (R142): the message that was pending when a vector is unmasked, and the one raise that a holdoff's end sends. -/

namespace Sys2Proof.Machine
open Sys2Proof

/-- A state whose outputs are forgotten and in which one vector is unmasked: what MSIX_UNMASK starts from. -/
def unmaskVector (s : State) (h n : Nat) : State := setFn s.fresh_ h n (fun f => { f with masked := false })

theorem hostFn_unmaskVector (s : State) (h n : Nat) :
    hostFn (unmaskVector s h n) h n = { hostFn s h n with masked := false } := hostFn_setFn_self ..

/-- The mask of a vector is no matter of whether its function can send. -/
theorem fnCanSend_unmaskVector (s : State) (h n : Nat) : fnCanSend (unmaskVector s h n) h n = fnCanSend s h n := by
  simp only [fnCanSend, hostFn_unmaskVector]
  rfl

theorem execMsixUnmask_eq (h : Fin 2) (n : Fin 32) (s : State) :
    exec (.msixUnmask h n) s = .next (sendPending (unmaskVector s h n) h n) := rfl

/-- A message that was pending on an unmasked vector is sent, and no longer pending. -/
theorem sendPending_sent {s : State} {h n : Nat} (hp : (hostFn s h n).pendingBit = true) (hm : (hostFn s h n).masked = false)
    (hs : fnCanSend s h n = true) :
    sendPending s h n = send (setFn s h n (fun f => { f with pendingBit := false })) [.msix h n] := by
  simp [sendPending, hp, hm, hs]

theorem sendPending_none {s : State} {h n : Nat} (hp : (hostFn s h n).pendingBit = false) : sendPending s h n = s := by
  simp [sendPending, hp]

/-- A message goes out where its function can send and the vector is not masked, and is pending there otherwise. -/
theorem sendMsix_out (s : State) (h n : Nat) (hout : s.out = []) :
    if fnCanSend s h n = true ∧ (hostFn s h n).masked = false then (sendMsix s h n).out = [.msix h n]
    else (hostFn (sendMsix s h n) h n).pendingBit = true ∧ (sendMsix s h n).out = [] := by
  unfold sendMsix
  by_cases hs : fnCanSend s h n = true ∧ (hostFn s h n).masked = false
  · rw [if_pos hs, if_pos (by simp [hs])]
    simp [hout]
  · rw [if_neg hs, if_neg (by simpa using hs)]
    simp [hout]

/-- A message is no matter of a partition's record or of the device time. -/
theorem sendMsix_kept (s : State) (h n : Nat) : (∀ p, part (sendMsix s h n) p = part s p) ∧ (sendMsix s h n).now = s.now := by
  unfold sendMsix
  split <;> exact ⟨fun _ => rfl, rfl⟩

/-- The moment at which a partition's holdoff ends: no raise is counted any more. -/
def holdoffOver (s : State) (p from_ : Nat) : State :=
  setPart (advanceTo s.fresh_ (from_ + 1000 * moderationHoldoff (part s p).moderation)) p
    (fun q => { q with raises := 0, holdoffFrom := none })

theorem part_holdoffOver (s : State) (p from_ : Nat) :
    part (holdoffOver s p from_) p = { part s p with raises := 0, holdoffFrom := none } := part_setPart_self ..

theorem execMsixHoldoffExpiry_eq {p : Fin 32} {s : State} {from_ : Nat} (h : (part s p).holdoffFrom = some from_) :
    exec (.msixHoldoffExpiry p) s = .next (sendMsix (holdoffOver s p from_) (part s p).port (part s p).fn) := by
  simp only [exec, execMsixHoldoffExpiry, h]
  rfl

/-- Settles O11: an unmasked vector sends what was pending on it, and a holdoff's end sends or keeps pending one message. -/
theorem msixVectorsAreSent : Obligations.MsixVectorsAreSent := by
  unfold Obligations.MsixVectorsAreSent
  refine ⟨fun h n s => ⟨fun hp hs => ⟨_, execMsixUnmask_eq h n s, ?_⟩, fun hp => ⟨_, execMsixUnmask_eq h n s, ?_⟩⟩,
    fun p s from_ hf => ⟨_, execMsixHoldoffExpiry_eq hf, ?_⟩⟩
  · have hm := hostFn_unmaskVector s h n
    rw [sendPending_sent (by rw [hm, hp]) (by rw [hm]) ((fnCanSend_unmaskVector s h n).trans hs)]
    have hsent := hostFn_setFn_self (unmaskVector s h n) h n (fun f => { f with pendingBit := false })
    exact ⟨rfl, (congrArg HostFn.masked hsent).trans (congrArg HostFn.masked hm), congrArg HostFn.pendingBit hsent⟩
  · have hm := hostFn_unmaskVector s h n
    rw [sendPending_none (by rw [hm, hp])]
    exact ⟨rfl, congrArg HostFn.masked hm⟩
  · obtain ⟨hpart, hnow⟩ := sendMsix_kept (holdoffOver s p from_) (part s p).port (part s p).fn
    have hover := (hpart p).trans (part_holdoffOver s p from_)
    exact ⟨congrArg Partition.raises hover, congrArg Partition.holdoffFrom hover, hnow,
      sendMsix_out (holdoffOver s p from_) (part s p).port (part s p).fn rfl⟩

end Sys2Proof.Machine
end

section
/-! What the end of a request leaves alone: every piece of state but the records of requests and events, and of every partition all
that is no such record (R133–R140). -/

namespace Sys2Proof.Machine
open Sys2Proof

theorem ReportsOnly.reporting {s t : State} (h : ReportsOnly s t) : t = reporting s t := by
  obtain ⟨⟨_, _, _, _, _, _, _, rfl⟩, -, -⟩ := h
  rfl

theorem ReportsOnly.partitionsKept {s t : State} (h : ReportsOnly s t) : PartitionsKept s t := fun p => by
  obtain ⟨e, r, m, hp⟩ := h.2.1 p
  rw [hp]

/-- A decided slot leaves the state but for those records. -/
theorem decideWith_reporting (s : State) (p k : Nat) (a : Answer) :
    decideWith s p k a = reporting s (decideWith s p k a) ∧ PartitionsKept s (decideWith s p k a) := by
  obtain ⟨u, ⟨c, x, y, hu⟩, ⟨q, hq⟩, hother, ⟨n, sl, o, h, hself⟩, -⟩ := decideWith_spec s p k a
  refine ⟨?_, fun j => ?_⟩
  · rw [hq, hu.reporting]
    rfl
  · have hj := hu.partitionsKept j
    by_cases hp : j = p
    · subst hp
      rw [hself, hj]
      rfl
    · rw [hother j hp, hj]
      rfl

theorem endSlot_reporting (s : State) (p k : Nat) (a : Answer) :
    endSlot s p k a = reporting s (endSlot s p k a) ∧ PartitionsKept s (endSlot s p k a) := by
  rw [endSlot_eq]
  split
  · exact decideWith_reporting s p k a
  · exact ⟨rfl, fun _ => rfl⟩

theorem twtAnswer_reporting (s : State) (st : Status) (result : List Byte) :
    twtAnswer s st result = reporting s (twtAnswer s st result) ∧ PartitionsKept s (twtAnswer s st result) := by
  unfold twtAnswer
  split <;> exact ⟨rfl, fun _ => rfl⟩

/-- A request that ends leaves the state but for those records. -/
theorem finish_reporting (s : State) (c : Ctx) (a : Answer) :
    finish s c a = reporting s (finish s c a) ∧ PartitionsKept s (finish s c a) := by
  unfold finish
  split
  · exact twtAnswer_reporting ..
  · exact endSlot_reporting ..

/-- What a partition holds beside those records stands when a request ends. -/
theorem part_finish {α : Type} (s : State) (c : Ctx) (a : Answer) (p : Nat) (g : Partition → α)
    (hg : ∀ q n sl o e h r f, g { q with
      receiptNo := n, slots := sl, sealOrder := o, events := e, history := h, raises := r, holdoffFrom := f } = g q) :
    g (part (finish s c a) p) = g (part s p) := by
  rw [(finish_reporting s c a).2 p]
  exact hg ..

theorem netAt_finish (s : State) (c : Ctx) (a : Answer) (j : Nat) : netAt (finish s c a) j = netAt s j := by
  rw [(finish_reporting s c a).1]
  rfl

end Sys2Proof.Machine
end
section
/-! The administrator's settings of a partition: grant mask, convoy deadline, loading mode, cluster mask and quotas (R75, R148–R150,
R165). -/

namespace Sys2Proof.Machine
open Sys2Proof

/-- A request stays the same while an effect works on what a partition holds beside its slots. -/
theorem ctxOf_setPart (s : State) (p : Nat) (f : Partition → Partition) (hf : ∀ q, (f q).slots = q.slots) (o : Origin) :
    ctxOf (setPart s p f) o = ctxOf s o := by
  cases o with
  | twt => rfl
  | mbx q k =>
    have hslot : slotAt (setPart s p f) q k = slotAt s q k := by
      by_cases h : (q : Nat) = p
      · subst h
        simp [slotAt, hf]
      · simp [slotAt, h]
    simp only [ctxOf, hslot]

theorem ctxOf_congr {s t : State} (hp : t.parts = s.parts) (ht : t.twt = s.twt) (o : Origin) : ctxOf t o = ctxOf s o := by
  have hslot : ∀ p k, slotAt t p k = slotAt s p k := fun p k => by simp only [slotAt, part, hp]
  cases o <;> simp only [ctxOf, hslot, ht]

/-- A request that sets what a partition holds beside its slots, on a state whose partitions are the request's, ends with OK. -/
theorem ended_setPart {s : State} {o : Origin} {c : Ctx} (u : State) (h : ctxOf s o = some c) (hp : u.parts = s.parts) (ht : u.twt = s.twt)
    (p : Nat) (f : Partition → Partition) (result : List Byte) (hf : ∀ q, (f q).slots = q.slots := by exact fun _ => rfl) :
    Ended (finish (setPart u p f) c { status := .ok, result := result }) o .ok result :=
  ended_finish _ (by rw [ctxOf_setPart _ _ _ hf, ctxOf_congr hp ht, h])

/-- The setting a request made in a partition stands when the request has ended. -/
theorem part_finish_setPart {α : Type} (s : State) (p : Nat) (f : Partition → Partition) (c : Ctx) (a : Answer)
    (g : Partition → α) {v : α} (hv : g (f (part s p)) = v := by rfl)
    (hg : ∀ q n sl o e h r m, g { q with
        receiptNo := n, slots := sl, sealOrder := o, events := e, history := h, raises := r, holdoffFrom := m } = g q := by
      exact fun _ _ _ _ _ _ _ _ => rfl) :
    g (part (finish (setPart s p f) c a) p) = v := by
  rw [part_finish _ _ _ _ g hg, part_setPart_self, hv]

/-! ### Quotas (R150) -/

/-- The quotas with that of one resource of QUOTA_SET set: granules of units 0–8, spill GiB, sync objects, waiters, key slots,
convoys. -/
def Quotas.put (q : Quotas) (r v : Nat) : Quotas :=
  if r < 9 then { q with granules := q.granules.set r v }
  else if r = 9 then { q with spill := v }
  else if r = 10 then { q with sync := v }
  else if r = 11 then { q with waiters := v }
  else if r = 12 then { q with keys := v }
  else { q with convoys := v }

theorem foldl_setGranule_parts {f : State → Nat → State} (l : List Nat) (s : State)
    (hf : ∀ s g, ∃ e, f s g = setGranule s g e) :
    (l.foldl f s).parts = s.parts ∧ (l.foldl f s).twt = s.twt := by
  have hone : ∀ s g, (fun t : State => (t.parts, t.twt)) (f s g) = (s.parts, s.twt) := fun s g => by
    obtain ⟨e, he⟩ := hf s g
    rw [he]
    rfl
  exact Prod.mk.inj (foldl_leaves (g := fun t : State => (t.parts, t.twt)) hone l s)

/-- A unit's granules are bound or let go of, and its quota set. -/
theorem rebind_spec (s : State) (p u v : Nat) : ∃ t, t.parts = s.parts ∧ t.twt = s.twt ∧
    rebind s p u v = setPart t p (fun q => { q with quotas := { q.quotas with granules := q.quotas.granules.set u v } }) := by
  unfold rebind
  dsimp only
  refine ⟨_, ?_, ?_, rfl⟩ <;> split
  · exact (foldl_setGranule_parts _ s fun s g => ⟨_, rfl⟩).1
  · exact (foldl_setGranule_parts _ s fun s g => ⟨_, rfl⟩).1
  · exact (foldl_setGranule_parts _ s fun s g => ⟨_, rfl⟩).2
  · exact (foldl_setGranule_parts _ s fun s g => ⟨_, rfl⟩).2

/-- QUOTA_SET puts the quota given into the partition named, and answers with the use it found. -/
theorem quotaSetEffect_spec (s : State) (c : Ctx) : ∃ t, t.parts = s.parts ∧ t.twt = s.twt ∧
    quotaSetEffect s c = finish (setPart t (c.u 0 1) (fun q => { q with quotas := q.quotas.put (c.u 1 1) (c.u 4 4) })) c
      { status := .ok, result := leBytes 4 (resourceUse s (c.u 0 1) (c.u 1 1)) } := by
  unfold quotaSetEffect
  dsimp only
  split_ifs with hu hspill hsync hwaiters hkeys
  · obtain ⟨t, hp, ht, he⟩ := rebind_spec s (c.u 0 1) (c.u 1 1) (c.u 4 4)
    refine ⟨t, hp, ht, ?_⟩
    simp only [he, Quotas.put, if_pos hu]
  all_goals exact ⟨s, rfl, rfl, by simp [Quotas.put, *]⟩

/-- Settles O13: each command sets one field of what the partition holds and ends, and the end leaves that field. -/
theorem partitionSettingsTakeEffect : Obligations.PartitionSettingsTakeEffect := by
  unfold Obligations.PartitionSettingsTakeEffect
  intro o s c
  refine ⟨?_, ?_, ?_, ?_, ?_⟩
  all_goals intro h
  all_goals refine ⟨_, rfl, ?_⟩
  all_goals have hc := (ctxOf_fresh s o).trans h.1
  all_goals rw [runOp_ready _ h]
  · exact ⟨ended_setPart s.fresh_ hc rfl rfl _ _ _, part_finish_setPart _ _ _ _ _ Partition.grant⟩
  · by_cases hp : c.u 0 1 < 32
    · simp only [if_pos hp]
      exact ⟨ended_setPart s.fresh_ hc rfl rfl _ _ _,
        fun _ => part_finish_setPart _ _ _ _ _ Partition.deadlineUs,
        fun hnet => absurd hp (by omega)⟩
    · simp only [if_neg hp]
      refine ⟨ended_finish _ ((ctxOf_congr rfl rfl o).trans hc), fun hpart => absurd hpart hp, fun _ => ?_⟩
      rw [netAt_finish, netAt_setNet_self]
  · exact ⟨ended_setPart s.fresh_ hc rfl rfl _ _ _, part_finish_setPart _ _ _ _ _ Partition.spillMode⟩
  · exact ⟨ended_setPart s.fresh_ hc rfl rfl _ _ _, part_finish_setPart _ _ _ _ _ Partition.clusterMask⟩
  · obtain ⟨t, hp, ht, he⟩ := quotaSetEffect_spec s.fresh_ c
    have hq : (part (quotaSetEffect s.fresh_ c) (c.u 0 1)).quotas =
        (part s (c.u 0 1)).quotas.put (c.u 1 1) (c.u 4 4) := by
      rw [he, part_finish_setPart _ _ _ _ _ Partition.quotas, part, hp]
      rfl
    refine ⟨⟨_, he ▸ ended_setPart t hc hp ht _ _ _, leBytes_length ..⟩, ?_⟩
    rw [hq, Quotas.put]
    refine ⟨fun h => ?_, fun h => ?_, fun h => ?_, fun h => ?_, fun h => ?_, fun h => ?_⟩ <;> simp [h]

end Sys2Proof.Machine
end

section
/-! Timeouts and cancels (R114, R135, R141): a command ended from outside, extended, or found past both. -/

namespace Sys2Proof.Machine
open Sys2Proof

/-! ### A command ended from outside -/

/-- A running command ended from outside is decided. -/
theorem phase_endFromOutside {s : State} {p k : Nat} (h : (slotAt s p k).phase = .running) (cause : CancelCause) (st : Status) :
    (slotAt (endFromOutside s p k cause st) p k).phase = .decided := by
  unfold endFromOutside
  dsimp only
  rw [endSlot_running _ ((phase_of_doings (doings_withdraw s p k cause) p k).trans h)]
  obtain ⟨-, -, -, -, -, -, hphase, -⟩ := decideWith_spec (withdraw s p k cause) p k _
  exact hphase

/-- A command that ends leaves every other slot. -/
theorem slotAt_endSlot_ne (s : State) {p k q j : Nat} (a : Answer) (h : q ≠ p ∨ j ≠ k) :
    slotAt (endSlot s p k a) q j = slotAt s q j := by
  rw [endSlot_eq]
  split
  · obtain ⟨-, -, -, -, -, hother, -⟩ := decideWith_spec s p k a
    exact hother q j h
  · rfl

/-- A command ended from outside leaves the phase of every other slot. -/
theorem phase_endFromOutside_ne (s : State) {p k q j : Nat} (cause : CancelCause) (st : Status) (h : q ≠ p ∨ j ≠ k) :
    (slotAt (endFromOutside s p k cause st) q j).phase = (slotAt s q j).phase := by
  unfold endFromOutside
  dsimp only
  rw [slotAt_endSlot_ne _ _ h]
  exact phase_of_doings (doings_withdraw s p k cause) q j

/-- A running command's number was looked up at its start. -/
theorem enterNumber_running {s : State} {p k : Nat} (h : (slotAt s p k).phase = .running) : enterNumber s p k = s := by
  simp [enterNumber, h]

/-- A number that enters the history is no matter of another slot. -/
theorem slotAt_enterNumber_ne (s : State) {p k q j : Nat} (h : q ≠ p ∨ j ≠ k) :
    slotAt (enterNumber s p k) q j = slotAt s q j := by
  have hentered : ∀ g f, (∀ x, (g x).slots = x.slots) → slotAt (setSlot (setPart s p g) p k f) q j = slotAt s q j := by
    intro g f hg
    rw [slotAt_setSlot_ne _ _ h]
    by_cases hq : q = p
    · subst hq
      simp [slotAt, hg]
    · simp [slotAt, hq]
  unfold enterNumber
  dsimp only
  repeat' split
  · rfl
  · exact hentered _ _ fun _ => rfl
  · exact hentered _ _ fun _ => rfl
  · rfl

/-! ### Timeouts -/

/-- The moment a command's T expires, at once where T is not known yet. -/
def atTimeout (s : State) (p k : Nat) : State :=
  if (slotAt s p k).limitUs = 0 then s.fresh_
  else advanceTo s.fresh_ ((slotAt s p k).at_ + 1000 * (slotAt s p k).limitUs + (slotAt s p k).extraNs)

theorem slotAt_atTimeout (s : State) (p k q j : Nat) : slotAt (atTimeout s p k) q j = slotAt s q j := by
  unfold atTimeout
  split <;> rfl

/-- A running command's T has come: the command in repair and not yet extended is extended, any other is ended. -/
theorem execCommandTimeout_running {s : State} {p k : Fin 32} (h : (slotAt s p k).phase = .running) :
    exec (.commandTimeout p k) s = .next (if (slotAt s p k).inRepair && !(slotAt s p k).extended then
        bump (setSlot (atTimeout s p k) p k (fun x => { x with extended := true, extraNs := x.layerNs })) 0x0302 5 32
      else endFromOutside (enterNumber (atTimeout s p k) p k) p k .ownTimeout .timeout) := by
  simp [exec, execCommandTimeout, h, atTimeout]

theorem commandTimeout_ends {s : State} {p k : Fin 32} (h : (slotAt s p k).phase = .running)
    (hdue : (slotAt s p k).inRepair = false ∨ (slotAt s p k).extended = true) (hlimit : (slotAt s p k).limitUs ≠ 0) :
    Does (.commandTimeout p k) s (fun t => (slotAt t p k).phase = .decided ∧
      (∃ e, (slotAt t p k).ending = some e ∧ e.status = .timeout) ∧
      t.now = max s.now ((slotAt s p k).at_ + 1000 * (slotAt s p k).limitUs + (slotAt s p k).extraNs)) := by
  have hrun : (slotAt (atTimeout s p k) p k).phase = .running := by rw [slotAt_atTimeout, h]
  have hrepair : ((slotAt s p k).inRepair && !(slotAt s p k).extended) = false := by rcases hdue with h | h <;> simp [h]
  refine ⟨_, execCommandTimeout_running h, ?_⟩
  rw [hrepair, if_neg Bool.false_ne_true, enterNumber_running hrun]
  refine ⟨phase_endFromOutside hrun _ _, ending_endFromOutside hrun _ (by decide), ?_⟩
  rw [now_of_standing (standing_endFromOutside ..), atTimeout, if_neg hlimit]
  rfl

theorem commandTimeout_extends {s : State} {p k : Fin 32} (h : (slotAt s p k).phase = .running)
    (hrepair : (slotAt s p k).inRepair = true) (honce : (slotAt s p k).extended = false) :
    Does (.commandTimeout p k) s (fun t => (slotAt t p k).phase = .running ∧ (slotAt t p k).extended = true ∧
      (slotAt t p k).extraNs = (slotAt s p k).layerNs) := by
  have hset : slotAt (bump (setSlot (atTimeout s p k) p k (fun x => { x with extended := true, extraNs := x.layerNs }))
      0x0302 5 32) p k = { slotAt s p k with extended := true, extraNs := (slotAt s p k).layerNs } := by
    rw [← slotAt_atTimeout s p k p k]
    exact slotAt_setSlot_self ..
  refine ⟨_, execCommandTimeout_running h, ?_⟩
  rw [if_pos (by simp [hrepair, honce])]
  simp only [hset]
  exact ⟨h, trivial, trivial⟩

/-! ### Cancels -/

/-- A request that passes every check is a known one with good parameters. -/
theorem checks_of_verdict_none {ch : Checks} (h : ch.verdict = none) : ch.badCommand = false ∧ ch.badParameter = false := by
  unfold Checks.verdict at h
  split_ifs at h with hb hr hc hp
  simp_all

/-- Only a slot's request is ready under the opcode of a cancel: TWT does not accept it (R454). -/
theorem origin_of_ready_cancel {o : Origin} {s : State} {c : Ctx} (h : Ready 0x0008 (fixed .immediate) cancelChecks o s c) :
    ∃ p k, o = .mbx p k := by
  cases o with
  | mbx p k => exact ⟨p, k, rfl⟩
  | twt =>
    obtain ⟨hc, hop, hv⟩ := h
    obtain ⟨-, htwt, -⟩ := ctxOf_some hc
    have hknown := (checks_of_verdict_none hv).1
    simp [Checks.both, commonChecks, htwt, twtChecks, hop, twtAccepts] at hknown

/-- A cancel names another slot than its own. -/
theorem target_ne_of_ready_cancel {o : Origin} {s : State} {c : Ctx} (h : Ready 0x0008 (fixed .immediate) cancelChecks o s c) :
    c.k ≠ c.u 0 1 := by
  intro hk
  have hgood := (checks_of_verdict_none h.2.2).2
  simp [Checks.both, cancelChecks, hk] at hgood

/-- A cancel ends with what it met of its target: decided or gone, past its point of no return, or ended now. -/
theorem ended_cancelEffect {s : State} {p k : Fin 32} {c : Ctx} (hc : ctxOf s (.mbx p k) = some c) (hk : c.k ≠ c.u 0 1) :
    Ended (cancelEffect s c) (.mbx p k) .ok [if (slotAt s c.p (c.u 0 1)).phase = .free ∨ outcomeDecided (slotAt s c.p (c.u 0 1)) = true
      then 1 else if (slotAt s c.p (c.u 0 1)).pastReturn = true then 2 else 0] := by
  unfold cancelEffect
  simp only [Bool.or_eq_true, beq_iff_eq]
  split_ifs with hover hpast
  · exact ended_finish _ hc
  · exact ended_finish _ hc
  · obtain ⟨hrun, hp, hslot, htwt⟩ := ctxOf_some hc
    simp only [finish, htwt, Bool.false_eq_true, if_false]
    rw [hslot] at hk
    rw [hp, hslot]
    refine ended_endSlot _ ?_
    rw [phase_endFromOutside_ne _ _ _ (.inr hk), slotAt_enterNumber_ne _ (.inr hk), hrun]

/-- Settles O10: T ends a command or extends it, and a cancel ends with what it met. -/
theorem timeoutsAndCancelsDecide : Obligations.TimeoutsAndCancelsDecide := by
  unfold Obligations.TimeoutsAndCancelsDecide
  refine ⟨fun p k s h => ⟨commandTimeout_ends h, commandTimeout_extends h⟩, ?_⟩
  rintro o s c h sl rfl
  obtain ⟨p, k, rfl⟩ := origin_of_ready_cancel h
  refine ⟨_, rfl, ?_⟩
  rw [runOp_ready _ h]
  exact ended_cancelEffect ((ctxOf_fresh s _).trans h.1) (target_ne_of_ready_cancel h)

end Sys2Proof.Machine
end

section
/-! SYNC_WAIT in a partition where a slot number has two entries: the check of tags that follows the command (R160) finds the
entry that no look-up by number reaches, and the fence of the mailbox unit withdraws another request of the partition, with
its drive command (R155). -/

namespace Sys2Proof.Machine
open Sys2Proof

/-- The doubled state, with the request in slot 31 waiting for a drive's flush. -/
def doubledDriveState : State :=
  { doubledState with
    driveCmds := [(31, { link := 0, opcode := 0, ns := 1, lba := 0, len := 0, data := [], issuedAt := 0, reissued := false })] }

/-- A SYNC_WAIT of slot 0, which is free, ends in the fence, and the drive command of slot 31 goes. -/
theorem doubledDriveState_syncWait : ∃ t, exec (.syncWait (.mbx 0 0)) doubledDriveState = .next t ∧ t.driveCmds = [] :=
  ⟨_, rfl, by decide +kernel⟩

/-- Refutes O59: with two entries of one slot number, `Untagged` sees the first and the check of tags both, so SYNC_WAIT
fences the mailbox unit, and the quiesce that goes with it drops a drive command, which is none of SYNC_WAIT's object. -/
theorem not_requestsTouchOnlyTheirObject : ¬ Obligations.RequestsTouchOnlyTheirObject := by
  unfold Obligations.RequestsTouchOnlyTheirObject
  intro h
  obtain ⟨t, ht, dropped⟩ := doubledDriveState_syncWait
  obtain ⟨-, -, -, -, -, -, -, -, -, syncWait, -⟩ := h (.mbx 0 0) doubledDriveState t
  obtain ⟨frame, -⟩ := syncWait untagged_doubledState ht
  have kept : t.driveCmds = doubledDriveState.driveCmds := by rw [frame]; rfl
  exact absurd (dropped.symm.trans kept) (by decide)

end Sys2Proof.Machine
end

section
/-! The operating point of KT: what a retune may change, and the point it heads for (R26, R39, R167, R168). -/

namespace Sys2Proof.Machine
open Sys2Proof

theorem tensor_finish (s : State) (c : Ctx) (a : Answer) : (finish s c a).tensor = s.tensor := by
  rw [(finish_reporting s c a).1]
  rfl

theorem writeSetpoint_spec (s : State) (old : Nat) : ∃ a, writeSetpoint s old = { s with aon := a } := by
  unfold writeSetpoint
  split <;> exact ⟨_, rfl⟩

/-- A retune sets where KT heads, what it waits for and since when it is to be lower, and at most a rail's window. -/
theorem retune_spec (s : State) : ∃ g r f a, retune s =
    { s with tensor := { s.tensor with target := g, raising := r, lowerFrom := f }, aon := a } := by
  unfold retune
  dsimp only
  split_ifs
  case neg =>
    obtain ⟨a, ha⟩ := writeSetpoint_spec (setTensor (setTensor s fun t => { t with lowerFrom := none })
      fun t => { t with raising := some (wantedPoint s), target := none }) s.tensor.setpoint
    exact ⟨_, _, _, a, ha⟩
  all_goals exact ⟨_, _, _, s.aon, rfl⟩

/-- Above the point that may be had, KT heads down at once and waits for no supply (R26). -/
theorem retune_lowers {s : State} (h : wantedPoint (retune s) < s.tensor.point) :
    (retune s).tensor.target = some (wantedPoint (retune s)) ∧ (retune s).tensor.raising = none := by
  have hw : wantedPoint (retune s) = wantedPoint s := by
    obtain ⟨_, _, _, _, e⟩ := retune_spec s
    rw [e]
    rfl
  rw [hw] at h ⊢
  simp [retune, h]

/-- A request makes the ceiling as it now stands come into force, and retunes (R26, R167). -/
theorem requestPoint_spec (s : State) (p : Nat) : ∃ g r f a, requestPoint s p = { s with
    tensor := { s.tensor with request := p, allowed := s.tensor.ceiling, target := g, raising := r, lowerFrom := f }, aon := a } :=
  retune_spec (setTensor s fun t => { t with request := p, allowed := t.ceiling })

theorem requestPoint_lowers {s : State} {p : Nat} (h : wantedPoint (requestPoint s p) < s.tensor.point) :
    (requestPoint s p).tensor.target = some (wantedPoint (requestPoint s p)) :=
  (retune_lowers h).1

/-- The limit stored, and Synfy's request made anew where it asks for more than the lowest point (R167). -/
def underLimit (s : State) (limit : Nat) : State :=
  let u := setTensor s (fun t => { t with limit := limit })
  if 1 < u.tensor.request then requestPoint u u.tensor.request else retune u

theorem execKtLimitSet_eq (o : Origin) (s : State) : execKtLimitSet o s = .next (runOp 0x0121 o s (fixed .immediate)
    ktLimitSetChecks (fun s c => finish (underLimit s (c.u 0 1)) c { status := .ok })) := rfl

/-- A new limit is a retune with the limit set, whichever ceiling then is in force. -/
theorem underLimit_eq (s : State) (limit : Nat) : ∃ allowed,
    underLimit s limit = retune (setTensor s (fun t => { t with limit := limit, allowed := allowed })) := by
  unfold underLimit
  dsimp only
  split
  · exact ⟨s.tensor.ceiling, rfl⟩
  · exact ⟨s.tensor.allowed, rfl⟩

/-- A ready limit ends with OK, stands, and lowers KT where it lies below the present point. -/
theorem ktLimitSet_takesEffect {o : Origin} {s : State} {c : Ctx} (h : Ready 0x0121 (fixed .immediate) ktLimitSetChecks o s c) :
    Does (.ktLimitSet o) s (fun t => Ended t o .ok [] ∧ t.tensor.limit = c.u 0 1 ∧ t.tensor.point = s.tensor.point ∧
      (wantedPoint t < s.tensor.point → t.tensor.target = some (wantedPoint t) ∧ t.tensor.raising = none)) := by
  obtain ⟨allowed, hu⟩ := underLimit_eq s.fresh_ (c.u 0 1)
  obtain ⟨_, _, _, _, hr⟩ := retune_spec (setTensor s.fresh_ (fun t => { t with limit := c.u 0 1, allowed := allowed }))
  have hc : ctxOf (underLimit s.fresh_ (c.u 0 1)) o = some c := by
    rw [hu, hr, ← h.1]
    exact ctxOf_congr rfl rfl o
  refine ⟨_, execKtLimitSet_eq o s, ?_⟩
  rw [runOp_ready _ h]
  refine ⟨ended_finish _ hc, ?_⟩
  simp only [wantedPoint, tensor_finish]
  rw [hu]
  refine ⟨?_, ?_, fun hlow => retune_lowers hlow⟩ <;> rw [hr] <;> rfl

/-- The switch arrives at the point KT headed for, on the other PLL; the setpoint follows downward only (R39, R168). -/
theorem ktSwitch_arrives {s : State} {w : Nat} (h : s.tensor.target = some w) :
    (ktSwitch s).tensor.point = w ∧ (ktSwitch s).tensor.target = none ∧ (ktSwitch s).tensor.pll = 3 - s.tensor.pll ∧
      (ktSwitch s).tensor.setpoint = min s.tensor.setpoint w := by
  unfold ktSwitch
  simp only [freshState_tensor, h]
  split
  · next hlow =>
    obtain ⟨a, ha⟩ := writeSetpoint_spec _ _
    rw [ha]
    exact ⟨rfl, rfl, rfl, (min_eq_right (le_of_lt hlow)).symm⟩
  · next hlow => exact ⟨rfl, rfl, rfl, (min_eq_left (not_lt.mp hlow)).symm⟩

/-- Power good at the tensor supply's rail ends its old window and the wait: KT heads for the point waited for, or for the ceiling in
force below it (R168, R397). -/
theorem setpointPowerGood_raises {s : State} {v w : Nat} (hv : tensorRail s = some v) (hw : s.tensor.raising = some w) :
    setpointPowerGood s v = setTensor (setRail s.fresh_ v (fun r => { r with window := none }))
      (fun t => { t with setpoint := w, raising := none, target := some (min w t.allowed) }) := by
  have hrail : tensorRail (setRail s.fresh_ v (fun r => { r with window := none })) = some v := hv
  simp [setpointPowerGood, hrail, hw]

/-- Settles O32: a limit and an idle time end in a retune, and the switch and the supply's power good follow it. -/
theorem tensorClockFollowsRequestLimitAndCeiling : Obligations.TensorClockFollowsRequestLimitAndCeiling := by
  unfold Obligations.TensorClockFollowsRequestLimitAndCeiling
  refine ⟨fun o s c h => ktLimitSet_takesEffect h, fun s => ⟨fun w h => ⟨_, rfl, ktSwitch_arrives h⟩, fun hidle => ?_,
    fun hbusy => ?_, fun v w hv hw => ⟨_, rfl, ?_⟩⟩⟩
  · refine ⟨requestPoint s.fresh_ 1, by simp [exec, execKtIdleExpiry, hidle], ?_, requestPoint_lowers⟩
    obtain ⟨_, _, _, _, e⟩ := requestPoint_spec s.fresh_ 1
    rw [e]
  · simp [exec, execKtIdleExpiry, hbusy, State.fresh_]
  · rw [setpointPowerGood_raises hv hw]
    refine ⟨?_, rfl, rfl, rfl⟩
    change (rail (setRail s.fresh_ v fun r => { r with window := none }) v).window = none
    rw [rail_setRail_self]

end Sys2Proof.Machine
end

section
/-! Runs and offloads as their commands leave them under way, tile passes that join a convoy, and the checking of a partner's
results (R171, R184, R216, R254). -/

namespace Sys2Proof.Machine
open Sys2Proof

/-! ### Requests that only a slot makes -/

/-- A request ready under an opcode that TWT does not accept is a slot's (R454). -/
theorem slot_of_ready {op : Nat} {bop : State → Ctx → Nat} {chk : State → Ctx → Checks} {o : Origin} {s : State} {c : Ctx}
    (h : Ready op bop chk o s c) (ha : twtAccepts op = false) :
    ∃ p k : Fin 32, o = .mbx p k ∧ (slotAt s p k).phase = .running ∧ c.p = p ∧ c.k = k := by
  obtain ⟨hc, hop, hv⟩ := h
  have horigin := ctxOf_some hc
  cases o with
  | mbx p k =>
    obtain ⟨hrun, hp, hk, -⟩ := horigin
    exact ⟨p, k, rfl, hrun, hp, hk⟩
  | twt =>
    obtain ⟨-, htwt, -⟩ := horigin
    have hknown := (checks_of_verdict_none hv).1
    simp [Checks.both, commonChecks, htwt, twtChecks, hop, ha] at hknown

/-- An effect that leaves a slot's request begun, with the phase it had, makes it go on. -/
theorem goesOn_of_begun {op : Nat} {bop : State → Ctx → Nat} {chk : State → Ctx → Checks} {o : Origin} {s t : State} {c : Ctx}
    (h : Ready op bop chk o s c) (ha : twtAccepts op = false) (hphase : (slotAt t c.p c.k).phase = (slotAt s c.p c.k).phase)
    (hbegun : (slotAt t c.p c.k).begun = true) : GoesOn t o := by
  obtain ⟨p, k, rfl, hrun, hp, hk⟩ := slot_of_ready h ha
  rw [hp, hk] at hphase hbegun
  exact ⟨hphase.trans hrun, hbegun⟩

/-! ### MODEL_RUN -/

/-- The job of a run that starts: its first layer and layer count, no layer done, under a fresh number. -/
def runJob (s : State) (c : Ctx) (m : Model) : List Nat := [c.u 2 2, runCount c m, 0, 0, 0, s.fresh, 0]

/-- A run's number is taken, and its slot holds its job and its input. -/
def withRunStarted (s : State) (c : Ctx) (m : Model) (input : List Byte) : State :=
  setSlot { s with fresh := s.fresh + 1 } c.p c.k (fun sl => { sl with begun := true, job := runJob s c m, inputs := [input] })

/-- A run that nothing hinders takes its job and its input under a fresh number; Synfy's request of a point (R167) touches neither. -/
theorem modelRunEffect_starts {s : State} {c : Ctx} {m : Model} (input : List Byte) (hm : modelOf s c.p (c.u 0 2) = some m)
    (hd : m.damaged = 0) (hp : modelPoisoned s m = false) (ha : s.memory.models.all (fun e => e.2.damaged == 0) = true)
    (ht : tensorFenced s = false) (hs : spillFenced s = false) (hr : descReadMeets s c.p (c.desc 0x08) = none)
    (hw : descWriteMeets s c.p (c.desc 0x18) = none) :
    (modelRunEffect input none s c).fresh = s.fresh + 1 ∧ slotAt (modelRunEffect input none s c) c.p c.k =
      { slotAt s c.p c.k with begun := true, job := runJob s c m, inputs := [readDesc s c.p (c.desc 0x08) input] } := by
  have hany : s.memory.models.any (fun e => e.1 == c.p * 16 + c.u 0 2 % 256 && e.2.damaged != 0) = false := by
    simp only [List.all_eq_true, beq_iff_eq] at ha
    simp only [List.any_eq_false]
    intro e he
    simp [ha e he]
  have hstart : modelRunEffect input none s c =
      requestPoint (withRunStarted s c m (readDesc s c.p (c.desc 0x08) input)) 4 := by
    simp [modelRunEffect, runSpillRead, withRunStarted, hm, hd, hp, hany, ht, hs, hr, hw, runJob]
  obtain ⟨_, _, _, _, hpoint⟩ := requestPoint_spec (withRunStarted s c m (readDesc s c.p (c.desc 0x08) input)) 4
  rw [hstart, hpoint]
  exact ⟨rfl, slotAt_setSlot_self { s with fresh := s.fresh + 1 } ..⟩

/-! ### BLOCK_OFFLOAD -/

/-- An offload whose buffers can be read and written is on record under its command, as the request and its operands give it. -/
theorem blockOffloadEffect_records {s : State} {c : Ctx} (hostData : List Byte) (hr : descReadMeets s c.p (c.desc 0x10) = none)
    (hw : descWriteMeets s c.p (c.desc 0x20) = none) :
    slotAt (blockOffloadEffect hostData s c) c.p c.k =
      { slotAt s c.p c.k with begun := true, inputs := [readDesc s c.p (c.desc 0x10) hostData] } ∧
    ∃ x, Tbl.get? (blockOffloadEffect hostData s c).tensor.offloads (c.p * 32 + c.k) = some x ∧
      x.port = c.u 0 1 ∧ x.k = c.u 4 4 ∧ x.blocks = c.u 8 4 ∧ x.operands = readDesc s c.p (c.desc 0x10) hostData := by
  unfold blockOffloadEffect
  rw [hr, hw]
  exact ⟨slotAt_setSlot_self (setTensor s _) .., _, Tbl.get?_set_self .., rfl, rfl, rfl, rfl⟩

/-! ### TILE_PASS_COMPLETE -/

/-- A convoy with one more member, which ran on a tile and whose check is owed. -/
def Convoy.joined (inst : Nat) (c : Convoy) : Convoy := { c with
  members := c.members + 1, checksOwed := c.checksOwed + 1, tiles := c.tiles ++ [inst], planned := c.planned.erase inst }

/-- A pass that a tile can have run for a layer that still lacks passes joins its convoy, and its record the comparator's queue;
of the rest only counters change. -/
theorem tilePassComplete_joins {s : State} {n cluster logical o : Nat} {pass : TilePass} {m : Model} {l : Layer}
    (ho : runOf s n = some o) (hm : runModel s o = some m) (hl : runLayer s o = some l) (hopen : (convoy s n).state = .opened)
    (hlacks : (convoy s n).members < l.passes)
    (hadm : passAdmitted s (convoy s n) m l cluster (tileOf s cluster logical) pass = true)
    (hret : runRetiring s o = false) (hhurt : runHurt s o = false) :
    ∃ ctr, tilePassComplete s n cluster logical pass = setConvoy (setTensor { s.fresh_ with ctr := ctr } (fun t => { t with
      passes := t.passes ++ [⟨cluster, tileOf s cluster logical, n, (convoy s n).generation, pass, heldCells pass⟩] })) n
      (Convoy.joined (cluster * 17 + tileOf s cluster logical)) := by
  have hp := freshState_parts s
  have hmem := freshState_memory s
  have hadm' : passAdmitted s.fresh_ (convoy s n) m l cluster (tileOf s.fresh_ cluster logical) pass = true := hadm
  unfold tilePassComplete
  simp only [runOf_of_convoys hp (freshState_convoys s), runModel_of_memory hp hmem, runLayer_of_memory hp hmem,
    runRetiring_of_memory hp hmem, runHurt_of_memory hp hmem, convoy_fresh, ho, hm, hl, hopen, hadm', hret, hhurt,
    Nat.not_le.mpr hlacks, bne_self_eq_false, decide_false, Bool.not_true, Bool.or_false, Bool.false_eq_true, if_false]
  split_ifs <;> exact ⟨_, rfl⟩

/-! ### Settings -/

theorem portAt_finish (s : State) (c : Ctx) (a : Answer) (n : Nat) : portAt (finish s c a) n = portAt s n := by
  rw [(finish_reporting s c a).1]
  rfl

/-- Settles O19: a run and an offload are left begun, with what their requests name on record; an admitted pass joins its convoy;
and the checking asked for stands when its request has ended. -/
theorem runsAndOffloadsStart : Obligations.RunsAndOffloadsStart := by
  unfold Obligations.RunsAndOffloadsStart
  refine ⟨fun o input s c m h hb hm hd hp ha ht hs hr hw => ⟨_, rfl, ?_⟩, fun o hostData s c h hb hr hw => ⟨_, rfl, ?_⟩,
    fun n cluster tile pass s o m l ho hm hl hopen hlacks hadm hret hhurt => ⟨_, rfl, ?_⟩, fun o s c h => ⟨_, rfl, ?_⟩⟩
  · obtain ⟨hfresh, hslot⟩ := modelRunEffect_starts (s := s.fresh_) input hm hd hp ha ht hs hr hw
    simp only [hb, Bool.false_eq_true, if_false, onWord_none, runOp_ready _ h]
    exact ⟨goesOn_of_begun h rfl (by rw [hslot]; rfl) (by rw [hslot]), hfresh, by rw [hslot]; rfl⟩
  · obtain ⟨hslot, hrecord⟩ := blockOffloadEffect_records (s := s.fresh_) hostData hr hw
    simp only [hb, Bool.false_eq_true, if_false, onWord_none, runOp_ready _ h]
    exact ⟨goesOn_of_begun h rfl (by rw [hslot]; rfl) (by rw [hslot]), hrecord⟩
  · obtain ⟨ctr, e⟩ := tilePassComplete_joins ho hm hl hopen hlacks hadm hret hhurt
    rw [e, convoy_setConvoy_self]
    exact ⟨rfl, rfl, rfl⟩
  · have hc : ctxOf s.fresh_ o = some c := (ctxOf_fresh s o).trans h.1
    rw [runOp_ready _ h]
    refine ⟨ended_finish _ ((ctxOf_congr rfl rfl o).trans hc), ?_⟩
    rw [portAt_finish, portAt_setPort_self]

end Sys2Proof.Machine
end

section
/-! PICOT_CHECK of a pass whose record names no tile of the part: the count of its tile's mismatches (R189) has the key of another
count, that of the signals from a partner port which a cancelled convoy discards (R78, R541). -/

namespace Sys2Proof.Machine
open Sys2Proof

/-- A number whose mismatches are counted under the key of the signals discarded from partner port 0. Every tile has a number
below 17 (R163). -/
def strayTile : Nat := counterKey 0x0606 0 - counterKey 0x0500 0

/-- A pass of one cell, 2 times 3, whose accumulator was changed by one. -/
def flawedPass : TilePass := ⟨0, 0, 1, 1, 1, [2], [3], [], [], ⟨[⟨0, 0, 0, 1⟩], false, none⟩⟩

/-- That pass, on cluster 0 in convoy 0. -/
def strayPass : PendingPass := ⟨0, strayTile, 0, false, flawedPass, heldCells flawedPass⟩

/-- The comparator has it next, and its convoy holds a signal from partner port 0. -/
def strayTileState : State :=
  { State.reset with
    tensor := { Tensor.init with passes := [strayPass] }
    convoys := [(0, { Convoy.init with state := .opened, signals := [(0, 1, 1)] })] }

/-- No mismatch was counted of that number before the check; after it two are. -/
theorem strayTileState_picotCheck : counter strayTileState 0x0500 strayTile = 0 ∧
    ∃ t, exec (.picotCheck 0) strayTileState = .next t ∧ counter t 0x0500 strayTile = 2 :=
  ⟨rfl, _, rfl, by decide +kernel⟩

/-- Refutes O20: the mismatch is counted once, and the convoy's cancellation then counts the signal it discards under the same
key, since the number of the pass's tile is none of a tile. -/
theorem not_resultsAreChecked : ¬ Obligations.ResultsAreChecked := by
  unfold Obligations.ResultsAreChecked
  intro h
  obtain ⟨-, fails⟩ := h.1 0 strayTileState strayPass rfl (.inl rfl) rfl
  obtain ⟨t, ht, -, counted⟩ := fails (0, 0) (by decide +kernel)
  obtain ⟨before, u, hu, after⟩ := strayTileState_picotCheck
  obtain rfl : u = t := Host.Outcome.next.inj (hu.symm.trans ht)
  have tile : strayPass.cluster * 17 + strayPass.tile = strayTile := by decide +kernel
  rw [tile, before, after] at counted
  exact absurd counted (by decide)

end Sys2Proof.Machine
end

section
/-! What a request's end leaves of memory and of what went out, and granules that are changed alike (R198, R226). -/

namespace Sys2Proof.Machine
open Sys2Proof

/-! ### The end of a request -/

@[simp] theorem memory_endSlot (s : State) (p k : Nat) (a : Answer) : (endSlot s p k a).memory = s.memory := by
  rw [(endSlot_reporting s p k a).1]
  rfl

@[simp] theorem memory_finish (s : State) (c : Ctx) (a : Answer) : (finish s c a).memory = s.memory := by
  rw [(finish_reporting s c a).1]
  rfl

/-- A request that ends on a state with its partitions and TWT's exchange has ended with its answer. -/
theorem ended_finish_of {s t : State} {o : Origin} {c : Ctx} (a : Answer) (h : ctxOf s o = some c) (hp : t.parts = s.parts)
    (ht : t.twt = s.twt) : Ended (finish t c a) o a.status a.result :=
  ended_finish a ((ctxOf_congr hp ht o).trans h)

/-- Nothing goes out with the end of a request of which no hop lost a parcel. -/
theorem out_finish {s : State} {c : Ctx} (a : Answer) (h : (slotAt s c.p c.k).lostHop = none) : (finish s c a).out = s.out := by
  have hdecide : (decideWith s c.p c.k a).out = s.out := by
    simp [decideWith, countHop, h]
  unfold finish
  split
  · unfold twtAnswer
    split <;> rfl
  · rw [endSlot_eq]
    split
    · exact hdecide
    · rfl

/-! ### Granules changed alike -/

theorem foldl_setGranule_memory (l : List Nat) (s : State) (f : Granule → Granule) :
    ∃ t, l.foldl (fun s g => setGranule s g f) s = setMemory s (fun m => { m with granules := t }) := by
  induction l generalizing s with
  | nil => exact ⟨s.memory.granules, rfl⟩
  | cons g l ih =>
    obtain ⟨t, ht⟩ := ih (setGranule s g f)
    exact ⟨t, ht⟩

/-- A change that is the same when made again reaches the granules listed and no other. -/
theorem granule_foldl_setGranule {f : Granule → Granule} (hf : ∀ e, f (f e) = f e) (l : List Nat) (s : State) (g : Nat) :
    granule (l.foldl (fun s g => setGranule s g f) s) g = if g ∈ l then f (granule s g) else granule s g := by
  induction l generalizing s with
  | nil => rfl
  | cons x l ih =>
    rw [List.foldl_cons, ih]
    by_cases hx : g = x
    · subst hx
      simp [hf]
    · simp [hx]

end Sys2Proof.Machine
end

section
/-! Regions: REGION_ALLOCATE, REGION_FREE and MEMORY_TRANSFER (R198–R200, R477). -/

namespace Sys2Proof.Machine
open Sys2Proof

/-! ### REGION_ALLOCATE -/

/-- The state in which an allocation ends: region i of the partition has the first free granules of unit u, and holds them. -/
def withAllocated (s : State) (c : Ctx) (u i : Nat) : State :=
  setMemory (((freeGranules s c.p u).take (c.u 2 2)).foldl
      (fun s g => setGranule s g (fun e => { e with holder := some (.region c.p i) })) (nextGeneration s 0 (c.p * 256 + i)))
    (fun m => { m with regions := Tbl.set m.regions (c.p * 256 + i) ⟨(freeGranules s c.p u).take (c.u 2 2), false⟩ })

theorem regionAllocateEffect_eq {s : State} {c : Ctx} {u i : Nat} (hu : regionUnit s c = some u)
    (hi : firstIndex 256 (fun i => (Tbl.get? s.memory.regions (c.p * 256 + i)).isNone) = some i) :
    regionAllocateEffect s c = finish (withAllocated s c u i) c
      { status := .ok, result := leBytes 4 (i + 65536 * generation (withAllocated s c u i) 0 (c.p * 256 + i)) } := by
  unfold regionAllocateEffect
  rw [hu, hi]
  rfl

theorem withAllocated_spec (s : State) (c : Ctx) (u i : Nat) :
    (withAllocated s c u i).parts = s.parts ∧ (withAllocated s c u i).twt = s.twt ∧
    (withAllocated s c u i).memory.bytes = s.memory.bytes ∧
    Tbl.get? (withAllocated s c u i).memory.regions (c.p * 256 + i) = some ⟨(freeGranules s c.p u).take (c.u 2 2), false⟩ := by
  unfold withAllocated
  obtain ⟨t, ht⟩ := foldl_setGranule_memory ((freeGranules s c.p u).take (c.u 2 2)) (nextGeneration s 0 (c.p * 256 + i))
    (fun e => { e with holder := some (.region c.p i) })
  rw [ht]
  exact ⟨rfl, rfl, rfl, Tbl.get?_set_self ..⟩

theorem holder_withAllocated {s : State} {c : Ctx} {u g : Nat} (i : Nat) (hg : g ∈ (freeGranules s c.p u).take (c.u 2 2)) :
    (granule (withAllocated s c u i) g).holder = some (.region c.p i) := by
  have h := granule_foldl_setGranule (f := fun e => { e with holder := some (.region c.p i) }) (fun _ => rfl)
    ((freeGranules s c.p u).take (c.u 2 2)) (nextGeneration s 0 (c.p * 256 + i)) g
  rw [if_pos hg] at h
  exact congrArg Granule.holder h

/-! ### REGION_FREE -/

/-- The state in which a release ends: the region's granules in service are being cleared, and the region is gone. -/
def withReleased (s : State) (p handle : Nat) (r : Region) : State :=
  setMemory (startClearing s (r.granules.filter (fun g => !isFenced s 0x03 g)))
    (fun m => { m with regions := Tbl.erase m.regions (regionKey p handle) })

theorem regionFreeEffect_eq {s : State} {c : Ctx} {r : Region} (h : regionOf s c.p (c.u 0 4) = some r) :
    regionFreeEffect s c = finish (withReleased s c.p (c.u 0 4) r) c { status := .ok } := by
  unfold regionFreeEffect
  rw [h]
  rfl

theorem regionOf_of_memory {s t : State} (h : t.memory = s.memory) (p handle : Nat) : regionOf t p handle = regionOf s p handle := by
  unfold regionOf generation
  rw [h]

theorem withReleased_spec (s : State) (p handle : Nat) (r : Region) :
    (withReleased s p handle r).parts = s.parts ∧ (withReleased s p handle r).twt = s.twt ∧
    (withReleased s p handle r).memory.bytes = s.memory.bytes ∧ regionOf (withReleased s p handle r) p handle = none := by
  unfold withReleased startClearing
  obtain ⟨t, ht⟩ := foldl_setGranule_memory (r.granules.filter (fun g => !isFenced s 0x03 g)) s
    (fun e => { e with holder := none, clearing := true })
  rw [ht]
  refine ⟨rfl, rfl, rfl, ?_⟩
  simp [regionOf, regionKey]

theorem granule_startClearing {s : State} {l : List Nat} {g : Nat} (hg : g ∈ l) :
    granule (startClearing s l) g = { granule s g with holder := none, clearing := true } := by
  have h := granule_foldl_setGranule (f := fun e => { e with holder := none, clearing := true }) (fun _ => rfl) l s g
  rwa [if_pos hg] at h

/-! ### MEMORY_TRANSFER -/

/-- A transfer whose source can be read and whose destination can be written. -/
theorem memoryTransferEffect_eq {s : State} {c : Ctx} (hostData : List Byte) (hr : descReadMeets s c.p (c.desc 0) = none)
    (hw : descWriteMeets s c.p (c.desc 16) = none) : ∃ a : Answer, a.status = .ok ∧ a.result = [] ∧
      memoryTransferEffect hostData s c = finish (writeDesc s c.p (c.desc 16) (readDesc s c.p (c.desc 0) hostData)) c a := by
  unfold memoryTransferEffect
  simp only [hr, hw]
  exact ⟨_, rfl, rfl, rfl⟩

theorem writeDesc_parts (s : State) (p : Nat) (d : Desc) (bs : List Byte) :
    (writeDesc s p d bs).parts = s.parts ∧ (writeDesc s p d bs).twt = s.twt := by
  rcases writeDesc_cases s p d bs with ⟨-, h⟩ | ⟨-, -, h⟩ | ⟨r, -, -, h⟩ <;> rw [h] <;> exact ⟨rfl, rfl⟩

theorem slotAt_writeDesc (s : State) (p : Nat) (d : Desc) (bs : List Byte) (q k : Nat) :
    slotAt (writeDesc s p d bs) q k = slotAt s q k := by
  rw [slotAt, part, (writeDesc_parts s p d bs).1]
  rfl

/-- A ready transfer that finds a number ends with OK in the state its write leaves, but for that number's convoy. -/
theorem exec_memoryTransfer {o : Origin} {s : State} {c : Ctx} {hostData : List Byte}
    (h : Ready 0x0203 memoryTransferBudget memoryTransferChecks o s c) (hr : descReadMeets s c.p (c.desc 0) = none)
    (hw : descWriteMeets s c.p (c.desc 16) = none) (hq : quotaReached s c.p = false) (hn : (freeNumber s).isSome = true)
    (hl : (slotAt s c.p c.k).lostHop = none) :
    ∃ t, exec (.memoryTransfer o ⟨hostData, none⟩) s = .next t ∧ Ended t o .ok [] ∧
      t.memory = (writeDesc s.fresh_ c.p (c.desc 16) (readDesc s c.p (c.desc 0) hostData)).memory ∧
      t.out = (writeDesc s.fresh_ c.p (c.desc 16) (readDesc s c.p (c.desc 0) hostData)).out := by
  obtain ⟨n, hn⟩ := Option.isSome_iff_exists.mp hn
  obtain ⟨a, hst, hres, he⟩ := memoryTransferEffect_eq (s := s.fresh_) hostData hr hw
  obtain ⟨hp, ht⟩ := writeDesc_parts s.fresh_ c.p (c.desc 16) (readDesc s c.p (c.desc 0) hostData)
  have hended : Ended (memoryTransferEffect hostData s.fresh_ c) o .ok [] := by
    rw [he, ← hst, ← hres]
    exact ended_finish_of a h.1 hp ht
  have hphase : (slotAt (memoryTransferEffect hostData s.fresh_ c) c.p c.k).phase ≠ .running := by
    obtain ⟨p, k, rfl, -, hcp, hck⟩ := slot_of_ready h rfl
    rw [hcp, hck, hended.1]
    decide
  have hexec : exec (.memoryTransfer o ⟨hostData, none⟩) s = .next (setConvoy (memoryTransferEffect hostData s.fresh_ c) n
      (fun x => { x with generation := !x.generation })) := by
    simp only [exec, execMemoryTransfer, onWord_none]
    rw [runOp_ready _ h, inConvoy_ends (s := s.fresh_) hq hn hphase]
  refine ⟨_, hexec, ?_, ?_, ?_⟩
  · cases o <;> exact hended
  · rw [setConvoy_memory, he]
    exact memory_finish ..
  · rw [setConvoy_out, he]
    exact (out_finish a ((congrArg Slot.lostHop (slotAt_writeDesc ..)).trans hl))

theorem writeDesc_toHost {s : State} {p : Nat} {d : Desc} (h : d.kind ≠ 2) (bs : List Byte) :
    writeDesc s p d bs = send s [.hostWrite (part s p).port (part s p).fn (relaxedFor s p) d.loc bs] := by
  simp [writeDesc, h]

theorem writeDesc_toRegion {s : State} {p : Nat} {d : Desc} {r : Region} (h : d.kind = 2)
    (hr : regionOf s p (d.loc % 4294967296) = some r) (bs : List Byte) :
    writeDesc s p d bs = regionWrite s r (d.loc / 4294967296) bs := by
  simp [writeDesc, h, hr]

/-- Settles O28: an allocation and a release end in the states that `withAllocated` and `withReleased` name, a transfer in the
one its write leaves. -/
theorem regionsAreAllocatedFreedAndCopied : Obligations.RegionsAreAllocatedFreedAndCopied := by
  unfold Obligations.RegionsAreAllocatedFreedAndCopied
  intro o s c
  refine ⟨?allocate, ?free, ?transfer⟩
  case allocate =>
    intro u i h hu hi
    obtain ⟨hp, ht, hb, hreg⟩ := withAllocated_spec s.fresh_ c u i
    refine ⟨_, congrArg Host.Outcome.next ((runOp_ready _ h).trans (regionAllocateEffect_eq hu hi)), ?_, ?_, fun g hg => ?_, ?_⟩
    · simp only [generation, memory_finish]
      exact ended_finish_of _ h.1 hp ht
    · rw [memory_finish]
      exact hreg
    · simp only [granule, memory_finish]
      exact holder_withAllocated (s := s.fresh_) i hg
    · rw [memory_finish]
      exact hb
  case free =>
    intro r h hr
    obtain ⟨hp, ht, hb, hgone⟩ := withReleased_spec s.fresh_ c.p (c.u 0 4) r
    refine ⟨_, congrArg Host.Outcome.next ((runOp_ready _ h).trans (regionFreeEffect_eq hr)), ?_, ?_, fun g hg _ hf => ?_, ?_⟩
    · exact ended_finish_of _ h.1 hp ht
    · exact (regionOf_of_memory (memory_finish ..) ..).trans hgone
    · have hmem : g ∈ r.granules.filter (fun g => !isFenced s.fresh_ 0x03 g) :=
        List.mem_filter.mpr ⟨hg, by rw [show isFenced s.fresh_ 0x03 g = false from hf]; rfl⟩
      have hcleared := granule_startClearing (s := s.fresh_) hmem
      simp only [granule, memory_finish]
      exact ⟨congrArg Granule.clearing hcleared, congrArg Granule.holder hcleared⟩
    · rw [memory_finish]
      exact hb
  case transfer =>
    intro hostData bs h hr hw hq hn hl hbs
    subst hbs
    obtain ⟨t, hexec, hended, hmem, hout⟩ := exec_memoryTransfer h hr hw hq hn hl
    refine ⟨t, hexec, hended, fun hk => ?_, fun r hk hreg => ?_⟩
    · rw [writeDesc_toHost hk] at hmem hout
      exact ⟨hmem, hout⟩
    · rw [writeDesc_toRegion (s := s.fresh_) hk hreg] at hmem hout
      refine ⟨hout, hmem, fun a ha => ?_⟩
      rw [hmem]
      exact (regionWrite_spec s.fresh_ r _ _).2.2 a ha

end Sys2Proof.Machine
end

section
/-! Scrub reads and sweeps (R201, R204, R224, R225). -/

namespace Sys2Proof.Machine
open Sys2Proof

/-! ### Events leave memory and fences -/

theorem EventsOnly.memory {s t : State} (h : EventsOnly s t) : t.memory = s.memory := by
  obtain ⟨⟨_, _, _, rfl⟩, -⟩ := h
  rfl

theorem EventsOnly.isFenced {s t : State} (h : EventsOnly s t) (g i : Nat) : isFenced t g i = isFenced s g i :=
  h.reports.isFenced g i

@[simp] theorem memory_guard (s : State) : (guard s).memory = s.memory := by
  obtain ⟨v, h⟩ := guard_spec s
  exact h.memory

/-! ### SCRUB_READ -/

/-- A retirement starts at a granule in service, and leaves bytes, tags and the scrub's place. -/
theorem startRetirement_spec (s : State) (g : Nat) (lost : Bool) :
    (∃ t, (startRetirement s g lost).memory = { s.memory with granules := t }) ∧
    (isFenced s 0x03 g = false → (granule (startRetirement s g lost) g).retiring.isSome = true) := by
  unfold startRetirement
  split
  · next h => exact ⟨⟨_, rfl⟩, fun hf => by simpa [hf] using h⟩
  · exact ⟨⟨_, rfl⟩, fun _ => by simp⟩

/-- A word that fails twice is poisoned, and its granule starts to retire. -/
theorem wordRead_double (s : State) (line word : Nat) :
    (∃ t, (wordRead s line word (.double true)).memory =
      { s.memory with tags := Tbl.set s.memory.tags line ⟨0, false, 3⟩, granules := t }) ∧
    (isFenced s 0x03 (line / 8192) = false →
      (granule (wordRead s line word (.double true)) (line / 8192)).retiring.isSome = true) := by
  have hraise := raiseAdmin_spec (bump s 0x0601 (unitOf (line / 8192)) 16) 0x0202 true 0
    (line / 8192 + 512 * (line % 8192) + 4194304 * word + 67108864 * b2n (!true))
  obtain ⟨⟨t, ht⟩, hretiring⟩ := startRetirement_spec (setMemory (raiseAdmin (bump s 0x0601 (unitOf (line / 8192)) 16) 0x0202 true 0
    (line / 8192 + 512 * (line % 8192) + 4194304 * word + 67108864 * b2n (!true)))
    (fun m => { m with tags := Tbl.set m.tags line ⟨0, false, 3⟩ })) (line / 8192) true
  exact ⟨⟨t, ht.trans (by rw [setMemory_memory, hraise.memory]; rfl)⟩,
    fun hf => hretiring ((hraise.isFenced 3 (line / 8192)).trans hf)⟩

/-- What the reading of the unit's next word leaves. -/
def scrubbed (s : State) (u : Nat) (found : WordRead) : State :=
  wordRead s.fresh_ ((unitGranules u).getD 0 0 * 8192 + Tbl.getD s.memory.scrubAt u 0 / 16) (Tbl.getD s.memory.scrubAt u 0 % 16) found

/-- A scrub read that is made leaves that, with the unit at its next word. -/
theorem scrubRead_memory {s : State} {u : Nat} (found : WordRead) (hm : s.boot.mainOn = true) (ht : s.boot.selfTestDone = true)
    (ho : s.faults.scrubOff = false) : ∃ d, (scrubRead s u found).memory = { (scrubbed s u found).memory with
      scrubAt := Tbl.set (scrubbed s u found).memory.scrubAt u ((Tbl.getD s.memory.scrubAt u 0 + 1) % unitWords u)
      scrubDone := d } := by
  refine ⟨Tbl.set (scrubbed s u found).memory.scrubDone u ((Tbl.getD s.memory.scrubDone u 0 + 1) % unitWords u), ?_⟩
  refine (congrArg State.memory (if_neg (by simp [hm, ht, ho]))).trans ((apply_ite State.memory ..).trans ?_)
  split
  · exact memory_guard _
  · rfl

theorem scrubRead_clean {s : State} {u : Nat} (hm : s.boot.mainOn = true) (ht : s.boot.selfTestDone = true)
    (ho : s.faults.scrubOff = false) :
    (scrubRead s u .clean).memory.bytes = s.memory.bytes ∧ (scrubRead s u .clean).memory.tags = s.memory.tags ∧
      Tbl.getD (scrubRead s u .clean).memory.scrubAt u 0 = (Tbl.getD s.memory.scrubAt u 0 + 1) % unitWords u := by
  obtain ⟨d, h⟩ := scrubRead_memory (u := u) .clean hm ht ho
  rw [h]
  exact ⟨rfl, rfl, Tbl.getD_set_self ..⟩

theorem scrubRead_double {s : State} {u line : Nat} (hm : s.boot.mainOn = true) (ht : s.boot.selfTestDone = true)
    (ho : s.faults.scrubOff = false) (hl : line = (unitGranules u).getD 0 0 * 8192 + Tbl.getD s.memory.scrubAt u 0 / 16) :
    (scrubRead s u (.double true)).memory.bytes = s.memory.bytes ∧
      (Tbl.getD (scrubRead s u (.double true)).memory.tags line ⟨0, false, 0⟩).state = 3 ∧
      (isFenced s 0x03 (line / 8192) = false →
        (granule (scrubRead s u (.double true)) (line / 8192)).retiring.isSome = true) := by
  obtain ⟨d, h⟩ := scrubRead_memory (u := u) (.double true) hm ht ho
  obtain ⟨⟨t, ht⟩, hretiring⟩ := wordRead_double s.fresh_ line (Tbl.getD s.memory.scrubAt u 0 % 16)
  have hw : scrubbed s u (.double true) = wordRead s.fresh_ line (Tbl.getD s.memory.scrubAt u 0 % 16) (.double true) := by
    rw [hl, scrubbed]
  rw [← hw] at ht hretiring
  have hgranule : granule (scrubRead s u (.double true)) = granule (scrubbed s u (.double true)) := by
    unfold granule
    rw [h]
  refine ⟨?_, ?_, fun hf => ?_⟩
  · rw [h, ht]
    rfl
  · rw [h, ht]
    simp
  · rw [hgranule]
    exact hretiring hf

/-! ### SWEEP_END -/

/-- A line's tag is one a sweep settles: provisional, of its unit, convoy and generation. -/
def sweptBy (w : Sweep) (e : Nat × Tag) : Prop := unitOfLine e.1 = w.unit ∧ e.2 = ⟨w.convoy, w.generation, 1⟩

/-- The sweep's own test is that. -/
theorem sweptBy_iff (w : Sweep) (l : Nat) (t : Tag) :
    (unitOfLine l == w.unit && t.convoy == w.convoy && t.generation == w.generation && t.state == 1) = true ↔ sweptBy w (l, t) := by
  obtain ⟨convoy, generation, state⟩ := t
  simp [sweptBy, and_assoc]

theorem applySweep_cancelled {w : Sweep} (h : w.cancelled = true) (tags : Tbl Tag) :
    applySweep tags w = Tbl.mapAll tags (fun l t => if unitOfLine l == w.unit && t.convoy == w.convoy
      && t.generation == w.generation && t.state == 1 then { t with state := 2 } else t) := if_pos h

theorem applySweep_confirmed {w : Sweep} (h : w.cancelled = false) (tags : Tbl Tag) :
    applySweep tags w = tags.filter (fun e => !(unitOfLine e.1 == w.unit && e.2.convoy == w.convoy
      && e.2.generation == w.generation && e.2.state == 1)) := if_neg (by simp [h])

/-- No tag that the sweep settles is left. -/
theorem not_sweptBy_of_mem_applySweep {w : Sweep} {tags : Tbl Tag} {e : Nat × Tag} (h : e ∈ applySweep tags w) : ¬ sweptBy w e := by
  cases hc : w.cancelled with
  | true =>
    rw [applySweep_cancelled hc] at h
    obtain ⟨⟨l, t⟩, -, rfl⟩ := List.mem_map.mp h
    dsimp only
    split
    · simp [sweptBy]
    · next ht => exact fun hs => ht ((sweptBy_iff w l t).mpr hs)
  | false =>
    rw [applySweep_confirmed hc] at h
    exact fun hs => by simpa [(sweptBy_iff w e.1 e.2).mpr hs] using (List.mem_filter.mp h).2

/-- A cancelled sweep leaves the lines it settles cancelled. -/
theorem get?_applySweep_cancelled {w : Sweep} {tags : Tbl Tag} {l : Nat} (hc : w.cancelled = true) (hu : unitOfLine l = w.unit)
    (ht : Tbl.get? tags l = some ⟨w.convoy, w.generation, 1⟩) :
    Tbl.get? (applySweep tags w) l = some ⟨w.convoy, w.generation, 2⟩ := by
  rw [applySweep_cancelled hc, Tbl.get?_mapAll, ht]
  simp [hu]

/-- A confirmed sweep leaves every tag it does not settle. -/
theorem mem_applySweep_confirmed {w : Sweep} {tags : Tbl Tag} {e : Nat × Tag} (hc : w.cancelled = false) (he : e ∈ tags)
    (hs : ¬ sweptBy w e) : e ∈ applySweep tags w := by
  rw [applySweep_confirmed hc]
  refine List.mem_filter.mpr ⟨he, ?_⟩
  rw [Bool.not_eq_true', Bool.eq_false_iff]
  exact fun h => hs ((sweptBy_iff w e.1 e.2).mp h)

theorem sweepEnd_eq {s : State} {u : Nat} {w : Sweep} (h : s.memory.sweeps.find? (fun w => w.unit == u) = some w) :
    sweepEnd s u = setMemory s.fresh_ (fun m => { m with tags := applySweep m.tags w, sweeps := m.sweeps.erase w }) := by
  simp only [sweepEnd, freshState_memory, h]

end Sys2Proof.Machine
end

section
/-! The end of a granule's retirement, and the teardowns that went on waiting for it (R156, R157, R226). -/

namespace Sys2Proof.Machine
open Sys2Proof

/-! ### Bytes moved to another granule -/

/-- Bytes written from a table under rising addresses. -/
theorem Mem.read_foldl_write {l : Mem} (hl : Tbl.sorted l = true) (m : Mem) (a : Nat) :
    Mem.read (l.foldl (fun b e => Mem.write b e.1 e.2) m) a = (Tbl.get? l a).getD (Mem.read m a) := by
  induction l generalizing m with
  | nil => rfl
  | cons e l ih =>
    obtain ⟨k, v⟩ := e
    obtain ⟨hk, hl⟩ := (Tbl.sorted_cons k v l).mp hl
    rw [List.foldl_cons, ih hl]
    by_cases ha : a = k
    · subst ha
      have hnone : Tbl.get? l a = none := by
        rw [Option.eq_none_iff_forall_not_mem]
        exact fun v hv => Nat.lt_irrefl a (hk _ (Tbl.mem_of_get? hv))
      simp [hnone, Tbl.get?]
    · simp [Tbl.get?, ha]

/-- The bytes of granule g at the same places of granule r. -/
def rebased (m : Mem) (g r : Nat) : Mem :=
  (m.filter (fun e => e.1 / granuleBytes == g)).map (fun e => (r * granuleBytes + e.1 % granuleBytes, e.2))

theorem rebased_cons (k : Nat) (v : Byte) (m : Mem) (g r : Nat) :
    rebased ((k, v) :: m) g r =
      if k / granuleBytes = g then (r * granuleBytes + k % granuleBytes, v) :: rebased m g r else rebased m g r := by
  unfold rebased
  rw [List.filter_cons]
  by_cases h : k / granuleBytes = g <;> simp [h]

theorem get?_rebased (m : Mem) (g r : Nat) {x : Nat} (hx : x < granuleBytes) :
    Tbl.get? (rebased m g r) (r * granuleBytes + x) = Tbl.get? m (g * granuleBytes + x) := by
  induction m with
  | nil => simp [rebased]
  | cons e m ih =>
    obtain ⟨k, v⟩ := e
    have hsame : k / granuleBytes = g → (r * granuleBytes + x = r * granuleBytes + k % granuleBytes ↔ g * granuleBytes + x = k) := by
      unfold granuleBytes at *
      omega
    have hother : k / granuleBytes ≠ g → g * granuleBytes + x ≠ k := by
      unfold granuleBytes at *
      omega
    rw [rebased_cons]
    by_cases h : k / granuleBytes = g
    · simp only [if_pos h, Tbl.get?, ih, hsame h]
    · simp only [if_neg h, Tbl.get?, ih, hother h, if_false]

theorem sorted_rebased {m : Mem} (h : Tbl.sorted m = true) (g r : Nat) : Tbl.sorted (rebased m g r) = true := by
  induction m with
  | nil => rfl
  | cons e m ih =>
    obtain ⟨k, v⟩ := e
    obtain ⟨hk, hm⟩ := (Tbl.sorted_cons k v m).mp h
    rw [rebased_cons]
    split
    · next hg =>
      refine (Tbl.sorted_cons _ _ _).mpr ⟨fun e he => ?_, ih hm⟩
      obtain ⟨d, hd, rfl⟩ := List.mem_map.mp he
      obtain ⟨hd, hdg⟩ := List.mem_filter.mp hd
      have hlt := hk d hd
      simp only [beq_iff_eq] at hdg
      unfold granuleBytes at *
      dsimp only
      omega
    · exact ih hm

theorem read_copyGranule {s : State} (h : MemoryCanonical s) (g r : Nat) {x : Nat} (hx : x < granuleBytes) :
    Mem.read (copyGranule s g r).memory.bytes (r * granuleBytes + x) = Mem.read s.memory.bytes (g * granuleBytes + x) := by
  have hsorted := sorted_rebased ((Mem.wf_iff _).mp h.1).1 g r
  have hread := Mem.read_foldl_write hsorted
    (Mem.clear (Mem.clear s.memory.bytes (g * granuleBytes) granuleBytes) (r * granuleBytes) granuleBytes) (r * granuleBytes + x)
  rw [get?_rebased _ _ _ hx, Mem.read_clear, if_pos ⟨Nat.le_add_right .., by omega⟩] at hread
  exact hread

/-! ### Teardowns under way -/

/-- Where a partition stands in its life: its state and its teardown. -/
def life (q : Partition) : PartitionState × Option Teardown := (q.state, q.teardown)

/-- Every teardown under way has released its partition's resources. -/
def AllReleased (s : State) : Prop := ∀ p d, life (part s p) = (.tearing, some d) → d.released = true

theorem AllReleased.of_life {s t : State} (h : AllReleased s) (hl : ∀ p, life (part t p) = life (part s p)) : AllReleased t :=
  fun p d hp => h p d ((hl p).symm.trans hp)

theorem AllReleased.of_parts {s t : State} (h : AllReleased s) (hp : t.parts = s.parts) : AllReleased t :=
  h.of_life fun p => by rw [part, hp, part]

theorem AllReleased.of_kept {s t : State} (h : AllReleased s) (hk : PartitionsKept s t) : AllReleased t :=
  h.of_life fun p => by
    rw [hk p]
    rfl

theorem AllReleased.of_events {s t : State} (h : AllReleased s) (he : EventsOnly s t) : AllReleased t :=
  h.of_kept he.reports.partitionsKept

theorem AllReleased.setPart {s : State} (h : AllReleased s) (p : Nat) {f : Partition → Partition} (hf : ∀ q, life (f q) = life q) :
    AllReleased (setPart s p f) := h.of_life fun q => by
  by_cases hq : q = p
  · rw [hq, part_setPart_self, hf]
  · rw [part_setPart_ne _ _ hq]

/-- A partition that is gone has no teardown. -/
theorem AllReleased.erase {s : State} (h : AllReleased s) (p : Nat) : AllReleased { s with parts := Tbl.erase s.parts p } := by
  intro q d hq
  by_cases hp : q = p
  · simp [part, hp, life, Partition.absent] at hq
  · exact h q d (by simpa [part, hp] using hq)

theorem allReleased_of_parts {s : State}
    (h : ∀ e ∈ s.parts, ∀ d, e.2.state = .tearing → e.2.teardown = some d → d.released = true) : AllReleased s := by
  intro p d hp
  obtain ⟨hstate, hteardown⟩ := Prod.mk.inj hp
  cases hq : Tbl.get? s.parts p with
  | none => simp [part, Tbl.getD, hq, Partition.absent] at hstate
  | some q =>
    simp only [part, Tbl.getD, hq, Option.getD_some] at hstate hteardown
    exact h _ (Tbl.mem_of_get? hq) d hstate hteardown

/-! ### What settles without a release -/

/-- Memory and fences are as they were. -/
def StoreKept (s t : State) : Prop := t.memory = s.memory ∧ ∀ g i, isFenced t g i = isFenced s g i

theorem StoreKept.trans {s t u : State} (h : StoreKept s t) (g : StoreKept t u) : StoreKept s u :=
  ⟨g.1.trans h.1, fun x i => (g.2 x i).trans (h.2 x i)⟩

theorem EventsOnly.storeKept {s t : State} (h : EventsOnly s t) : StoreKept s t := ⟨h.memory, h.isFenced⟩

theorem endSlot_storeKept (s : State) (p k : Nat) (a : Answer) : StoreKept s (endSlot s p k a) := by
  refine ⟨memory_endSlot .., fun g i => ?_⟩
  rw [endSlot_eq]
  split
  · obtain ⟨u, ⟨_, _, _, hu⟩, ⟨q, hq⟩, -⟩ := decideWith_spec s p k a
    rw [hq]
    exact hu.isFenced g i
  · rfl

theorem finishTeardown_spec {s : State} (h : AllReleased s) (p : Nat) (t : Teardown) :
    StoreKept s (finishTeardown s p t) ∧ AllReleased (finishTeardown s p t) := by
  have hend : ∀ u, EventsOnly s u → ∀ a, StoreKept s (endSlot { u with parts := Tbl.erase u.parts p } 0 t.by_ a) ∧
      AllReleased (endSlot { u with parts := Tbl.erase u.parts p } 0 t.by_ a) := fun u hu a =>
    ⟨hu.storeKept.trans (endSlot_storeKept { u with parts := Tbl.erase u.parts p } ..),
      ((h.of_events hu).erase p).of_kept (endSlot_reporting ..).2⟩
  unfold finishTeardown
  dsimp only
  split
  · exact hend _ (raiseBoth_spec ..) _
  · exact hend _ ((raiseAdmin_spec ..).trans (raiseBoth_spec ..)) _

/-- A teardown whose resources are released only ends its partition, or waits on. -/
theorem settleTeardown_spec {s : State} (h : AllReleased s) (p : Nat) :
    StoreKept s (settleTeardown s p) ∧ AllReleased (settleTeardown s p) := by
  have hstay : StoreKept s s ∧ AllReleased s := ⟨(EventsOnly.refl s).storeKept, h⟩
  unfold settleTeardown
  dsimp only
  split
  · next t hstate hteardown =>
    have hreleased : t.released = true := h p t (Prod.ext hstate hteardown)
    simp only [hreleased, if_true, hteardown]
    split
    · exact hstay
    · split
      · exact finishTeardown_spec h p t
      · exact hstay
  · exact hstay

theorem settleTeardowns_spec {s : State} (h : AllReleased s) : StoreKept s (settleTeardowns s) := by
  unfold settleTeardowns
  generalize Tbl.keysWhere s.parts (fun _ q => q.state == .tearing) = l
  induction l generalizing s with
  | nil => exact (EventsOnly.refl s).storeKept
  | cons p l ih =>
    obtain ⟨hkept, hreleased⟩ := settleTeardown_spec h p
    exact hkept.trans (ih hreleased)

/-! ### GRANULE_RETIREMENT_END -/

/-- A granule of the unit that may take a retiring one's place: the first free unreserved one. -/
def spareFor (s : State) (g : Nat) : Option Nat :=
  ((unitGranules (unitOf g)).filter (fun r => r != g && granuleUnreserved s r)).head?

/-- What a retirement makes of node memory: the spare has the granule's contents and place, or the granule is lost. -/
def withRetired (s : State) (g : Nat) : Option Nat → State
  | some r => setGranule (setGranule (replaceGranule (copyGranule s g r) g r) r (fun _ => { granule s g with retiring := none })) g
      (fun _ => Granule.init)
  | none => setGranule (loseGranule s g) g (fun e => { e with retiring := none, clearing := false })

theorem damageModel_spec (s : State) (key cause : Nat) : ∃ m, EventsOnly { s with memory := m } (damageModel s key cause) := by
  unfold damageModel
  split
  · exact ⟨s.memory, EventsOnly.refl s⟩
  · split
    · exact ⟨s.memory, EventsOnly.refl s⟩
    · exact ⟨_, raiseBoth_spec ..⟩

theorem AllReleased.damageModel {s : State} (h : AllReleased s) (key cause : Nat) : AllReleased (damageModel s key cause) := by
  obtain ⟨m, hm⟩ := damageModel_spec s key cause
  exact of_events (s := { s with memory := m }) (h.of_parts rfl) hm

theorem AllReleased.guard {s : State} (h : AllReleased s) : AllReleased (guard s) := by
  obtain ⟨v, hv⟩ := guard_spec s
  exact of_events (s := { s with faults := { s.faults with status := v } }) (h.of_parts rfl) hv

/-- The quota that falls and the model that is damaged leave every teardown. -/
theorem AllReleased.loseGranule {s : State} (h : AllReleased s) (g : Nat) : AllReleased (loseGranule s g) := by
  have hcut : ∀ p n, AllReleased (Machine.setPart s p (fun q => { q with quotas := { q.quotas with
      granules := q.quotas.granules.set (unitOf g) (q.quotas.granules.getD (unitOf g) 0 - n) } })) := fun p _ =>
    h.setPart p fun _ => rfl
  unfold Machine.loseGranule
  dsimp only
  refine of_parts ?_ (setGranule_parts ..)
  cases (granule s g).bound with
  | none =>
    rcases (granule s g).holder with _ | ⟨p, i⟩ | ⟨p, i⟩
    · exact h
    · exact h.of_parts (setMemory_parts ..)
    · exact h.damageModel (p * 16 + i) 0x01
  | some q =>
    rcases (granule s g).holder with _ | ⟨p, i⟩ | ⟨p, i⟩
    · exact hcut q 1
    · exact (hcut q 1).of_parts (setMemory_parts ..)
    · exact (hcut q 1).damageModel (p * 16 + i) 0x01

theorem AllReleased.withRetired {s : State} (h : AllReleased s) (g : Nat) (r : Option Nat) : AllReleased (withRetired s g r) := by
  unfold Machine.withRetired
  cases r with
  | some r =>
    refine h.of_parts ?_
    simp only [setGranule_parts, replaceGranule, copyGranule, setMemory_parts]
  | none => exact (h.loseGranule g).of_parts (setGranule_parts ..)

/-- The end of a retirement is counted, told, and fences the granule. -/
theorem retirementEnd_eq {s : State} {g : Nat} {lost : Bool} (h : (granule s g).retiring = some lost) : ∃ u p d,
    (u = withRetired s.fresh_ g (spareFor s.fresh_ g) ∨ u = bump (withRetired s.fresh_ g (spareFor s.fresh_ g)) 0x0602 0 16) ∧
      retirementEnd s g = guard (fence (raiseAdmin u 0x0201 true p d) 0x03 g) := by
  have hr : (granule s.fresh_ g).retiring = some lost := h
  unfold retirementEnd spareFor
  dsimp only
  rw [hr]
  dsimp only
  refine ⟨_, _, _, ?_, rfl⟩
  cases ((unitGranules (unitOf g)).filter (fun r => r != g && granuleUnreserved s.fresh_ r)).head? with
  | none => exact ite_eq_or_eq ..
  | some r => exact ite_eq_or_eq ..

theorem retirementEnd_spec {s : State} {g : Nat} {lost : Bool} (h : (granule s g).retiring = some lost) :
    (retirementEnd s g).memory = (withRetired s.fresh_ g (spareFor s.fresh_ g)).memory ∧ isFenced (retirementEnd s g) 0x03 g = true ∧
      (AllReleased s → AllReleased (retirementEnd s g)) := by
  obtain ⟨u, p, d, hu, he⟩ := retirementEnd_eq h
  have hcounted : u.memory = (withRetired s.fresh_ g (spareFor s.fresh_ g)).memory ∧
      u.parts = (withRetired s.fresh_ g (spareFor s.fresh_ g)).parts := by
    rcases hu with rfl | rfl <;> exact ⟨rfl, rfl⟩
  have htold := raiseAdmin_spec u 0x0201 true p d
  obtain ⟨a, b, hfence⟩ := fence_spec (raiseAdmin u 0x0201 true p d) 0x03 g
  obtain ⟨v, hguard⟩ := guard_spec (fence (raiseAdmin u 0x0201 true p d) 0x03 g)
  rw [he]
  refine ⟨?_, (hguard.isFenced ..).trans (isFenced_fence_self ..), fun hreleased => ?_⟩
  · rw [memory_guard, hfence]
    exact htold.memory.trans hcounted.1
  · have hretired := AllReleased.withRetired (hreleased.of_parts (freshState_parts s)) g (spareFor s.fresh_ g)
    have hfenced : (fence (raiseAdmin u 0x0201 true p d) 0x03 g).parts = (raiseAdmin u 0x0201 true p d).parts := by rw [hfence]
    exact (((hretired.of_parts hcounted.2).of_events htold).of_parts hfenced).guard

theorem granuleRetirementEnd_does {g : Fin 320} {s : State} {lost : Bool} (h : (granule s g).retiring = some lost)
    (hr : AllReleased s) : Does (.granuleRetirementEnd g) s (fun t =>
      isFenced t 0x03 g = true ∧ t.memory = (withRetired s.fresh_ g (spareFor s.fresh_ g)).memory) := by
  obtain ⟨hmem, hfenced, hreleased⟩ := retirementEnd_spec h
  refine ⟨_, rfl, ?_⟩
  split
  · obtain ⟨hm, hf⟩ := settleTeardowns_spec (hreleased hr)
    exact ⟨(hf ..).trans hfenced, hm.trans hmem⟩
  · exact ⟨hfenced, hmem⟩

theorem withRetired_spare {s : State} {g r : Nat} (hc : MemoryCanonical s) (hr : spareFor s g = some r) :
    granule (withRetired s g (some r)) g = Granule.init ∧
    granule (withRetired s g (some r)) r = { granule s g with retiring := none } ∧
    ∀ x, x < granuleBytes → Mem.read (withRetired s g (some r)).memory.bytes (r * granuleBytes + x) =
      Mem.read s.memory.bytes (g * granuleBytes + x) := by
  have hne : r ≠ g := by
    have := (List.mem_filter.mp (List.mem_of_mem_head? hr)).2
    simp only [Bool.and_eq_true, bne_iff_ne] at this
    exact this.1
  refine ⟨granule_setGranule_self .., ?_, fun x hx => read_copyGranule hc g r hx⟩
  exact (granule_setGranule_ne _ _ hne).trans (granule_setGranule_self ..)

theorem withRetired_lost (s : State) (g : Nat) :
    (granule (withRetired s g none) g).bound = none ∧ (granule (withRetired s g none) g).holder = none ∧
      (granule (withRetired s g none) g).retiring = none := by
  have hlost : (granule (loseGranule s g) g).bound = none ∧ (granule (loseGranule s g) g).holder = none := by
    unfold loseGranule
    simp
  simpa [withRetired] using hlost

/-- Settles O29: a scrub read and a sweep end in the memory that their lemmas name, a retirement in that of `withRetired`, which
the teardowns that go on after it keep. -/
theorem memoryIsScrubbedSweptAndRetired : Obligations.MemoryIsScrubbedSweptAndRetired := by
  unfold Obligations.MemoryIsScrubbedSweptAndRetired
  refine ⟨fun u s hm ht ho => ⟨?scrubClean, fun line hline => ?scrubDouble⟩, fun u s w hw => ?sweep,
    fun g s lost hc hretiring hparts => ?retirement⟩
  case scrubClean => exact ⟨_, rfl, scrubRead_clean hm ht ho⟩
  case scrubDouble => exact ⟨_, rfl, scrubRead_double hm ht ho hline⟩
  case sweep =>
    refine ⟨_, congrArg Host.Outcome.next (sweepEnd_eq hw), rfl, rfl, fun e he => not_sweptBy_of_mem_applySweep he,
      fun hcancelled l hu hl => get?_applySweep_cancelled hcancelled hu hl,
      fun hconfirmed e he hs => mem_applySweep_confirmed hconfirmed he hs⟩
  case retirement =>
    obtain ⟨t, hexec, hfenced, hmem⟩ := granuleRetirementEnd_does hretiring (allReleased_of_parts hparts)
    have hgranule : ∀ x, granule t x = granule (withRetired s.fresh_ g (spareFor s.fresh_ g)) x := fun x => by
      rw [granule, hmem]
      rfl
    refine ⟨fun r hr => ⟨t, hexec, hfenced, ?_⟩, fun hnone => ⟨t, hexec, hfenced, ?_⟩⟩
    · rw [hgranule, hgranule, hmem, show spareFor s.fresh_ g = some r from hr]
      exact withRetired_spare (s := s.fresh_) hc hr
    · rw [hgranule, show spareFor s.fresh_ g = none from hnone]
      exact withRetired_lost s.fresh_ g

end Sys2Proof.Machine
end

section
/-! A request that may answer at once, in a partition where a slot number has two entries: the check of tags that follows it (R160)
finds the entry that no look-up by number reaches, and the fence of the mailbox unit withdraws the request or discards its
outcome (R155). -/

namespace Sys2Proof.Machine
open Sys2Proof

/-- A part as in `doubledState` whose slot 31 of partition 0 runs a request. -/
def doubledRequest (request : List Byte) (m : Memory) : State :=
  { doubledState with
    memory := m
    parts := [(0, { Partition.absent with
      state := .active
      slots := [(31, { Slot.empty with phase := .running, request := request }),
        (31, { Slot.empty with phase := .running, held := true, mistagged := true })] })] }

/-- No look-up of a slot reaches the entry under a wrong tag. -/
theorem untagged_doubledRequest (request : List Byte) (m : Memory) :
    Untagged (doubledRequest request m) 0 := by
  intro k
  by_cases h : k = 31
  · subst h
    rfl
  · simp [slotAt, part, doubledRequest, doubledState, Tbl.getD, Tbl.get?, h, Slot.empty]

/-- A request for a wait on sync object 0 for the count 1, with tag 31 and sequence number 7. -/
def waitRequest : List Byte :=
  leBytes 2 0x0213 ++ leBytes 2 31 ++ leBytes 4 7 ++ leBytes 2 16 ++ leBytes 6 0 ++ leBytes 8 0 ++ leBytes 8 1

/-- Sync object 0 stands at 0, and slot 31 runs that request. -/
def doubledWait : State :=
  doubledRequest waitRequest { Memory.init with sync := [(0, ⟨0, 0, none, false, []⟩)] }

/-- The request in slot 31. -/
def doubledWaitCtx : Ctx := slotCtx 0 31 (slotAt doubledWait 0 31)

theorem ready_doubledWait :
    Ready 0x0213 (fixed .long) syncWaitChecks (.mbx 0 31) doubledWait doubledWaitCtx := by
  unfold Ready
  decide +kernel

/-- The wait ends in the fence, which leaves its slot free. -/
theorem doubledWait_syncWait : ∃ t, exec (.syncWait (.mbx 0 31)) doubledWait = .next t ∧
    (slotAt t doubledWaitCtx.p doubledWaitCtx.k).phase = .free :=
  ⟨_, rfl, by decide +kernel⟩

/-- Refutes O30: with two entries of one slot number, `Untagged` sees the first and the check of tags both, so a wait for a count
not yet reached fences the mailbox unit, and the quiesce that goes with it frees the slot that should go on waiting. -/
theorem not_syncObjectsCountAndWake : ¬ Obligations.SyncObjectsCountAndWake := by
  unfold Obligations.SyncObjectsCountAndWake
  intro h
  obtain ⟨-, named⟩ := h.1 (.mbx 0 31) doubledWait doubledWaitCtx
  obtain ⟨-, -, waits, -⟩ := named ⟨0, 0, none, false, []⟩ (by decide +kernel) (by decide)
  obtain ⟨-, -, waiting⟩ := waits ready_doubledWait (untagged_doubledRequest _ _)
  obtain ⟨t, ht, running, -⟩ := waiting rfl (by decide +kernel)
  obtain ⟨u, hu, free⟩ := doubledWait_syncWait
  obtain rfl : u = t := Host.Outcome.next.inj (hu.symm.trans ht)
  exact absurd (free.symm.trans running) (by decide)

/-- A request to load the model whose image of 160 bytes stands in host memory, with tag 31 and sequence number 7. -/
def loadRequest : List Byte :=
  leBytes 2 0x0101 ++ leBytes 2 31 ++ leBytes 4 7 ++ leBytes 2 16 ++ leBytes 6 0 ++
    leBytes 8 0 ++ leBytes 4 160 ++ [1, 0, 0, 0]

/-- An image of one layer without weights, whose manifest names a digest of 32 zero bytes (R206a). -/
def mismatchedImage : List Byte :=
  [0x4E, 0x56, 0x4D, 0x46, 1, 0] ++ leBytes 2 1 ++ leBytes 8 0 ++ leBytes 8 160 ++ leBytes 136 0

/-- Slot 31 runs that request, with nothing in memory. -/
def doubledLoad : State := doubledRequest loadRequest Memory.init

/-- The request in slot 31. -/
def doubledLoadCtx : Ctx := slotCtx 0 31 (slotAt doubledLoad 0 31)

theorem ready_doubledLoad :
    Ready 0x0101 modelLoadBudget modelLoadChecks (.mbx 0 31) doubledLoad doubledLoadCtx := by
  unfold Ready
  decide +kernel

/-- The load ends in the fence, which leaves its slot free. -/
theorem doubledLoad_modelLoad : ∃ t, exec (.modelLoad (.mbx 0 31) mismatchedImage none) doubledLoad = .next t ∧
    (slotAt t 0 31).phase = .free :=
  ⟨_, rfl, by decide +kernel⟩

/-- Refutes O31: with two entries of one slot number, `Untagged` sees the first and the check of tags both, so a load whose layer
does not match its digest fences the mailbox unit, and the quiesce that goes with it discards the INTEGRITY it ended with. -/
theorem not_modelsLoadUnloadAndReport : ¬ Obligations.ModelsLoadUnloadAndReport := by
  unfold Obligations.ModelsLoadUnloadAndReport
  intro h
  obtain ⟨loads, -⟩ := h (.mbx 0 31) doubledLoad doubledLoadCtx
  obtain ⟨-, mismatched⟩ := loads mismatchedImage none _ ready_doubledLoad rfl (by decide +kernel) (by decide +kernel)
    (untagged_doubledRequest _ _)
  obtain ⟨t, ht, ⟨decided, -⟩, -⟩ := mismatched ⟨0, by decide +kernel, by decide +kernel⟩
  obtain ⟨u, hu, free⟩ := doubledLoad_modelLoad
  obtain rfl : u = t := Host.Outcome.next.inj (hu.symm.trans ht)
  exact absurd (free.symm.trans decided) (by decide)

end Sys2Proof.Machine
end

section
/-! What parcels toward partners, cancelled convoys and events leave of the partner ports, of the phase of every request and of
the request TWT holds (R47, R54, R78, R237, R265). -/

namespace Sys2Proof.Machine
open Sys2Proof

/-- A port but for its traffic: sequences, credit, what waits, what may be replayed and what was lost. -/
def Port.atRest (q : Port) : Port := { q with
  txSeq := 0, replay := [], waiting := [], credit := [], freedSeen := [], received := [], freed := [], slots := 0, lost := [],
  resent := [] }

/-- Every partner port, but for its traffic. -/
def links (s : State) (n : Nat) : Port := (portAt s n).atRest

/-- The phase of every slot, and the request TWT holds. -/
def requests (s : State) : (Nat → Nat → Phase) × Option (List Byte) := (fun p k => (slotAt s p k).phase, s.twt.request)

/-- Both of them. -/
def bearing (s : State) : (Nat → Port) × (Nat → Nat → Phase) × Option (List Byte) := (links s, requests s)

theorem links_of_bearing {s t : State} (h : bearing t = bearing s) : links t = links s := congrArg Prod.fst h
theorem requests_of_bearing {s t : State} (h : bearing t = bearing s) : requests t = requests s := congrArg Prod.snd h

@[simp] theorem bearing_foldl {β : Type} (f : State → β → State) (l : List β) (s : State)
    (h : ∀ s x, bearing (f s x) = bearing s) : bearing (l.foldl f s) = bearing s :=
  foldl_leaves h l s
@[simp] theorem bearing_ite (c : Prop) {_ : Decidable c} (s t : State) :
    bearing (if c then s else t) = if c then bearing s else bearing t :=
  apply_ite ..

/-! ### Ports and slots -/

theorem links_setPort_self (s : State) (n : Nat) (f : Port → Port) : links (setPort s n f) n = (f (portAt s n)).atRest :=
  congrArg Port.atRest (portAt_setPort_self s n f)
/-- Traffic of one port. -/
theorem bearing_setPort (s : State) (n : Nat) (f : Port → Port) (hf : ∀ q, (f q).atRest = q.atRest) :
    bearing (setPort s n f) = bearing s := by
  refine Prod.ext (funext fun m => ?_) rfl
  by_cases h : m = n
  · subst h
    exact (links_setPort_self ..).trans (hf _)
  · exact congrArg Port.atRest (portAt_setPort_ne s f h)
@[simp] theorem requests_setPort (s : State) (n f) : requests (setPort s n f) = requests s := rfl
theorem bearing_setSlot (s : State) (p k : Nat) (f : Slot → Slot) (hf : ∀ x, (f x).phase = x.phase) :
    bearing (setSlot s p k f) = bearing s := by
  simp only [bearing, requests, phase_setSlot s p k f hf]
  rfl

/-! ### Updates of other fields -/

@[simp] theorem bearing_send (s : State) (o) : bearing (send s o) = bearing s := rfl
@[simp] theorem bearing_bump (s : State) (i n w) : bearing (bump s i n w) = bearing s := rfl
@[simp] theorem bearing_setConvoy (s : State) (n f) : bearing (setConvoy s n f) = bearing s := rfl
@[simp] theorem bearing_setDomain (s : State) (d f) : bearing (setDomain s d f) = bearing s := rfl
@[simp] theorem bearing_setQueue (s : State) (c n f) : bearing (setQueue s c n f) = bearing s := rfl
@[simp] theorem bearing_freeEntries (s : State) (c n k) : bearing (freeEntries s c n k) = bearing s := rfl
@[simp] theorem bearing_startSweeps (s : State) (n c) : bearing (startSweeps s n c) = bearing s := rfl
@[simp] theorem bearing_forgetPortAcks (s : State) (n) : bearing (forgetPortAcks s n) = bearing s := rfl
@[simp] theorem bearing_clearAbsent (s : State) (n) : bearing (clearAbsent s n) = bearing s := rfl

/-! ### Events and faults -/

theorem ReportsOnly.bearing {s t : State} (h : ReportsOnly s t) : bearing t = bearing s := by
  have hslot := h.slotAt
  obtain ⟨⟨_, _, _, _, _, _, _, rfl⟩, -, -⟩ := h
  unfold Machine.bearing requests
  simp only [hslot]
  rfl
@[simp] theorem bearing_raiseAdmin (s : State) (code fault subject detail) :
    bearing (raiseAdmin s code fault subject detail) = bearing s := (raiseAdmin_spec ..).reports.bearing
@[simp] theorem bearing_transient (s : State) (g i) : bearing (transient s g i) = bearing s := by
  obtain ⟨_, _, h⟩ := transient_spec s g i
  exact h.bearing
@[simp] theorem bearing_damageModel (s : State) (key cause) : bearing (damageModel s key cause) = bearing s := by
  obtain ⟨_, h⟩ := damageModel_spec s key cause
  exact h.reports.bearing

/-! ### Parcels toward partners -/

@[simp] theorem bearing_endStall (s : State) (cls n) : bearing (endStall s cls n) = bearing s := by
  unfold endStall
  dsimp only
  split
  · split <;> rfl
  · rfl
@[simp] theorem bearing_startAckTimer (s : State) (port content wb) : bearing (startAckTimer s port content wb) = bearing s := by
  unfold startAckTimer
  dsimp only
  split <;> rfl
@[simp] theorem bearing_dataSlot (s : State) (n) : bearing (dataSlot s n) = bearing s := by
  have h : ∀ k, bearing (setPort s n fun q => { q with slots := k }) = bearing s := fun k => bearing_setPort s n _ fun _ => rfl
  unfold dataSlot
  dsimp only
  split <;> exact h _
@[simp] theorem bearing_transmit (s : State) (n content wb payload) : bearing (transmit s n content wb payload) = bearing s := by
  refine (bearing_dataSlot ..).trans ((bearing_setPort _ n _ ?_).trans ?_)
  · exact fun _ => rfl
  · rw [bearing_startAckTimer, bearing_send, bearing_endStall]
@[simp] theorem bearing_sendLink (s : State) (n content wb payload) : bearing (sendLink s n content wb payload) = bearing s := by
  unfold sendLink
  dsimp only
  split
  · exact bearing_transmit ..
  · exact bearing_setPort (noteStall s 4 n) n _ fun _ => rfl
@[simp] theorem bearing_nextStream (s : State) (src dst p) : bearing (nextStream s src dst p).2 = bearing s := rfl
@[simp] theorem bearing_sendConvoyControl (s : State) (port kind n p generation count) :
    bearing (sendConvoyControl s port kind n p generation count) = bearing s :=
  (bearing_sendLink ..).trans (bearing_nextStream ..)
@[simp] theorem bearing_flushFuel (f : Nat) (s : State) (n : Nat) : bearing (flushFuel f s n) = bearing s := by
  induction f generalizing s with
  | zero => rfl
  | succ f ih =>
    unfold flushFuel
    dsimp only
    split
    · split
      · rfl
      · rw [ih, bearing_transmit]
        exact bearing_setPort s n _ fun _ => rfl
    · rfl
@[simp] theorem bearing_flushWaiting (s : State) (n) : bearing (flushWaiting s n) = bearing s := bearing_flushFuel ..
@[simp] theorem bearing_sendAgain (s : State) (n x) : bearing (sendAgain s n x) = bearing s := by
  refine (bearing_sendLink ..).trans ((bearing_setPort _ n _ ?_).trans (bearing_nextStream ..))
  exact fun _ => rfl
@[simp] theorem bearing_sendLost (s : State) (n) : bearing (sendLost s n) = bearing s :=
  (bearing_foldl _ _ _ fun _ _ => bearing_sendAgain ..).trans (bearing_setPort s n _ fun _ => rfl)

/-! ### Convoys that are cancelled -/

@[simp] theorem bearing_dropWaitingParcels (s : State) (n g) : bearing (dropWaitingParcels s n g) = bearing s := by
  refine Prod.ext (funext fun m => ?_) rfl
  simp only [bearing, links, portAt, dropWaitingParcels, Tbl.getD, Tbl.get?_mapAll]
  cases Tbl.get? s.ports m <;> rfl
@[simp] theorem bearing_cancelConvoy (s : State) (n cause r) : bearing (cancelConvoy s n cause r) = bearing s := by
  unfold cancelConvoy
  dsimp only
  split
  · rfl
  · have hfree : ∀ l : List (Nat × List Byte),
        bearing (l.foldl (fun s e => freeEntries s (e.1 / 16) (e.1 % 16) 1) s) = bearing s :=
      fun l => bearing_foldl _ l s fun _ _ => rfl
    rw [bearing_setConvoy]
    split
    · simp [hfree]
    · rw [bearing_setSlot]
      · simp [hfree]
      · exact fun _ => rfl
@[simp] theorem bearing_cancelWhere (s : State) (f cause r) : bearing (cancelWhere s f cause r).2 = bearing s :=
  bearing_foldl _ _ _ fun _ _ => bearing_cancelConvoy ..
@[simp] theorem bearing_repairOnPort (s : State) (n on passed) : bearing (repairOnPort s n on passed) = bearing s := by
  refine bearing_foldl _ _ _ fun s m => ?_
  dsimp only
  split
  · rfl
  · exact bearing_setSlot (setConvoy s m _) _ _ _ fun _ => rfl

/-! ### A domain that leaves reset -/

@[simp] theorem bearing_initPartnerCredit (s : State) (n receive) : bearing (initPartnerCredit s n receive) = bearing s := by
  unfold initPartnerCredit
  dsimp only
  split_ifs
  · rfl
  · exact bearing_setPort s n _ fun _ => rfl
  · exact bearing_setPort s n _ fun _ => rfl
@[simp] theorem bearing_zeroCounts (s : State) (cls n) : bearing (zeroCounts s cls n) = bearing s := rfl
@[simp] theorem bearing_initQueue (s : State) (cls n) : bearing (initQueue s cls n) = bearing s := rfl
@[simp] theorem bearing_initClass (s : State) (cls n) : bearing (initClass s cls n) = bearing s := by
  simp [initClass]
@[simp] theorem bearing_leaveReset (s : State) (d) : bearing (leaveReset s d) = bearing s := by
  unfold leaveReset
  split
  · rfl
  · refine (bearing_foldl _ _ _ fun s cls => bearing_foldl _ _ _ fun s n => ?_).trans rfl
    simp

end Sys2Proof.Machine
end

section
/-! The link states of a partner port: its windows, training, the capability exchange and their timers (R250–R266). -/

namespace Sys2Proof.Machine
open Sys2Proof

/-! ### Commands -/

/-- A request whose phase and operands stand ends with its answer. -/
theorem ended_finish_of_requests {s t : State} {o : Origin} {c : Ctx} (a : Answer) (h : ctxOf s o = some c)
    (hr : requests t = requests s) : Ended (finish t c a) o a.status a.result := by
  have horigin := ctxOf_some h
  cases o with
  | mbx p k =>
    obtain ⟨hrun, hp, hk, htwt⟩ := horigin
    have hphase : (slotAt t p k).phase = (slotAt s p k).phase := congrFun (congrFun (congrArg Prod.fst hr) p) k
    simp only [finish, htwt, hp, hk, Bool.false_eq_true, if_false]
    exact ended_endSlot a (hphase.trans hrun)
  | twt =>
    obtain ⟨-, htwt, f, hf⟩ := horigin
    simp only [finish, htwt, if_true]
    exact ended_twtAnswer _ _ ((congrArg Prod.snd hr).trans hf)

/-- A link that ends takes no request with it. -/
theorem requests_leavePort (s : State) (n cause : Nat) : requests (leavePort s n cause) = requests s := by
  unfold leavePort
  split
  · rfl
  · refine (requests_of_bearing ((bearing_raiseAdmin ..).trans ((bearing_bump ..).trans ((bearing_foldl _ _ _ fun _ _ =>
      bearing_damageModel ..).trans ((bearing_forgetPortAcks ..).trans (bearing_cancelWhere ..)))))).trans ?_
    change requests (repairOnPort s n false false) = requests s
    exact requests_of_bearing (bearing_repairOnPort ..)

theorem ports_finish (s : State) (c : Ctx) (a : Answer) : (finish s c a).ports = s.ports := by
  rw [(finish_reporting s c a).1]
  rfl

theorem partnerPortEnable_seeks {o : Origin} {s : State} {c : Ctx}
    (h : Ready 0x0381 (fixed .immediate) partnerPortEnableChecks o s c) : Does (.partnerPortEnable o) s (fun t =>
      Ended t o .ok [] ∧ (portAt t (c.u 0 1)).state = .seek ∧ (portAt t (c.u 0 1)).empty = 0 ∧ (portAt t (c.u 0 1)).absent = false ∧
      (portAt t (c.u 0 1)).bursting = true) := by
  refine ⟨_, rfl, ?_⟩
  rw [runOp_ready _ h]
  refine ⟨ended_finish_of_requests _ h.1 rfl, ?_⟩
  simp [portAt_finish, enablePort, enterSeek]

theorem partnerPortDisable_disables {o : Origin} {s : State} {c : Ctx}
    (h : Ready 0x0382 (fixed .immediate) partnerPortDisableChecks o s c) : Does (.partnerPortDisable o) s (fun t =>
      Ended t o .ok [] ∧ (portAt t (c.u 0 1)).state = .disabled ∧ (portAt t (c.u 0 1)).bursting = false) := by
  refine ⟨_, rfl, ?_⟩
  rw [runOp_ready _ h]
  refine ⟨ended_finish_of_requests _ h.1 ((requests_setPort ..).trans (requests_leavePort s.fresh_ ..)), ?_⟩
  simp [portAt_finish, disablePort]

theorem partnerPortStatus_reports {o : Origin} {s : State} {c : Ctx}
    (h : Ready 0x0383 (fixed .immediate) partnerPortStatusChecks o s c) : Does (.partnerPortStatus o) s (fun t =>
      Ended t o .ok (portRecord s (c.u 0 1)) ∧ t.ports = s.ports) := by
  refine ⟨_, rfl, ?_⟩
  rw [runOp_ready _ h]
  exact ⟨ended_finish_of_requests _ h.1 rfl, ports_finish ..⟩

/-! ### Seek -/

theorem EventsOnly.ports {s t : State} (h : EventsOnly s t) : t.ports = s.ports := by
  obtain ⟨⟨_, _, _, rfl⟩, -⟩ := h
  rfl
@[simp] theorem portAt_freshState (s : State) (n) : portAt s.fresh_ n = portAt s n := rfl
@[simp] theorem portAt_advanceTo (s : State) (m n) : portAt (advanceTo s m) n = portAt s n := rfl
@[simp] theorem portAt_bump (s : State) (i j w n) : portAt (bump s i j w) n = portAt s n := rfl
theorem counter_setPort (s : State) (n f i j) : counter (setPort s n f) i j = counter s i j := rfl
theorem counter_enterSeek (s : State) (n seen i j) : counter (enterSeek s n seen) i j = counter s i j := rfl
theorem portAt_of_ports {s t : State} (h : t.ports = s.ports) (n : Nat) : portAt t n = portAt s n :=
  congrArg (Tbl.getD · n Port.init) h

/-- A command that ends without having been retried counts no hop. -/
theorem ctr_endSlot {a : Answer} (hok : a.status ≠ .ok) (hre : a.status ≠ .recovered) (s : State) (p k : Nat) :
    (endSlot s p k a).ctr = s.ctr := by
  rw [endSlot_eq]
  split
  · simp [decideWith, countHop, hok, hre]
  · rfl

theorem ports_endSlot (s : State) (p k : Nat) (a : Answer) : (endSlot s p k a).ports = s.ports := by
  rw [(endSlot_reporting s p k a).1]
  rfl

/-- Waiters that end with ABSENT change neither ports nor counters. -/
theorem dropWaiters_absent (s : State) (i : Nat) :
    ((dropWaiters s i .absent).ports, (dropWaiters s i .absent).ctr) = (s.ports, s.ctr) := by
  unfold dropWaiters
  split
  · rfl
  · refine foldl_leaves (g := fun t => (t.ports, t.ctr)) (fun t w => ?_) _ _
    exact Prod.ext (ports_endSlot ..) (ctr_endSlot (by simp) (by simp) ..)

/-- A port marked absent leaves the ports, and every counter but that of the waiters it ends (R230). -/
theorem markAbsent_spec (s : State) (n : Nat) :
    (markAbsent s n).ports = s.ports ∧
      ∀ i j, counterKey i j ≠ counterKey 0x0607 n → counter (markAbsent s n) i j = counter s i j := by
  have hdrop : ∀ l : List Nat, ((l.foldl (fun s i => dropWaiters s i .absent) s).ports,
      (l.foldl (fun s i => dropWaiters s i .absent) s).ctr) = (s.ports, s.ctr) :=
    fun l => foldl_leaves (g := fun t => (t.ports, t.ctr)) dropWaiters_absent l s
  refine ⟨(raiseAdmin_spec ..).ports.trans (congrArg Prod.fst (hdrop _)), fun i j h => ?_⟩
  refine ((raiseAdmin_spec ..).counter i j).trans ((counter_bumpBy_ne _ _ _ h).trans ?_)
  exact congrArg (Tbl.getD · (counterKey i j) 0) (congrArg Prod.snd (hdrop _))

/-- An empty window is counted, and the next begins. -/
def afterEmptyWindow (s : State) (n : Nat) : State :=
  setPort (bump (advanceTo s ((portAt s n).stateFrom + seekWindow)) 0x0706 n 32) n (fun q => { q with
    stateFrom := max s.now ((portAt s n).stateFrom + seekWindow), empty := q.empty + 1, bursting := true })

theorem seekWindowEnd_seen {s : State} {n : Nat} (h : (portAt s n).state = .seek) (hseen : (portAt s n).seen = true) :
    seekWindowEnd s n = setPort (advanceTo s ((portAt s n).stateFrom + seekWindow)) n (fun q => { q with
      stateFrom := max s.now ((portAt s n).stateFrom + seekWindow), empty := 0, seen := false, bursting := true }) := by
  simp [seekWindowEnd, h, hseen]

theorem seekWindowEnd_empty {s : State} {n : Nat} (h : (portAt s n).state = .seek) (hseen : (portAt s n).seen = false) :
    seekWindowEnd s n = if (portAt s n).empty = 2 then
      markAbsent (raiseAdmin (setPort (afterEmptyWindow s n) n (fun q => { q with absent := true })) 0x0383 true 0 n) n
    else afterEmptyWindow s n := by
  simp [seekWindowEnd, h, hseen, afterEmptyWindow]

/-- The window after an empty one is one further, the count tells it, and the third in a row finds the port absent. -/
theorem seekWindowEnd_counts {s : State} {n : Fin 8} (h : (portAt s n).state = .seek) (hseen : (portAt s n).seen = false) :
    (portAt (seekWindowEnd s n) n).empty = (portAt s n).empty + 1 ∧
      counter (seekWindowEnd s n) 0x0706 n = satAdd 32 (counter s 0x0706 n) 1 ∧
      ((portAt s n).empty = 2 → (portAt (seekWindowEnd s n) n).absent = true) := by
  have hcount : counter (afterEmptyWindow s n) 0x0706 n = satAdd 32 (counter s 0x0706 n) 1 := counter_bump_self ..
  rw [seekWindowEnd_empty h hseen]
  split
  · obtain ⟨hports, hctr⟩ := markAbsent_spec
      (raiseAdmin (setPort (afterEmptyWindow s n) n (fun q => { q with absent := true })) 0x0383 true 0 n) n
    have hport := portAt_of_ports (hports.trans (raiseAdmin_spec ..).ports) n
    have hkey : counterKey 0x0706 n ≠ counterKey 0x0607 n := by
      unfold counterKey
      omega
    rw [hport, hctr _ _ hkey, (raiseAdmin_spec ..).counter]
    exact ⟨by simp [afterEmptyWindow], hcount, fun _ => by simp⟩
  · next hne => exact ⟨by simp [afterEmptyWindow], hcount, fun he => absurd he hne⟩

/-- A signal is met in training where NODE_DONE is high, and noted where it is not. -/
theorem partnerTrainingSignal_does {s : State} {n lane : Fin 8} (h : (portAt s n).state = .seek)
    (hl : bit (usableLanes s n) lane = true) : Does (.partnerTrainingSignal n lane) s (fun t =>
      if s.boot.nodeDoneHigh = true then (portAt t n).state = .train
        else (portAt t n).state = .seek ∧ (portAt t n).seen = true) := by
  have hlanes : usableLanes s.fresh_ n = usableLanes s n := rfl
  refine ⟨_, rfl, ?_⟩
  cases hd : s.boot.nodeDoneHigh <;> simp [hlanes, hl, h, hd]

/-- A burst that runs ends 100 ms after its window began. -/
theorem trainingBurstEnd_does (n : Fin 8) (s : State) : Does (.trainingBurstEnd n) s (fun t =>
    t = { s with out := [], now := t.now, ports := t.ports } ∧ (portAt t n).bursting = false ∧
      t.now = (if (portAt s n).bursting = true then max s.now ((portAt s n).stateFrom + 100000000) else s.now)) := by
  refine ⟨_, rfl, ?_⟩
  rw [portAt_freshState]
  split
  · exact ⟨rfl, by simp, rfl⟩
  · next h => exact ⟨rfl, by simpa using h, rfl⟩

/-! ### Training and the exchange -/

/-- Where a port differs from another in its traffic alone, its link is in the same state. -/
theorem port_of_links {t : State} {n : Nat} {q : Port} (h : links t n = q.atRest) :
    (portAt t n).state = q.state ∧ (portAt t n).lanes = q.lanes ∧ (portAt t n).trained = q.trained ∧
      (portAt t n).capability = q.capability ∧ (portAt t n).granted = q.granted ∧ (portAt t n).empty = q.empty := by
  unfold links Port.atRest at h
  injections
  exact ⟨‹_›, ‹_›, ‹_›, ‹_›, ‹_›, ‹_›⟩

theorem startExchange_port (s : State) (n lanes : Nat) : (portAt (startExchange s n lanes) n).state = (portAt s n).state ∧
    (portAt (startExchange s n lanes) n).lanes = lanes ∧
    (portAt (startExchange s n lanes) n).trained = (portAt s n).trained ∧
    (portAt (startExchange s n lanes) n).capability = none := by
  have h : bearing (startExchange s n lanes) = _ := (bearing_transmit ..).trans
    ((bearing_nextStream ..).trans ((bearing_leaveReset ..).trans (bearing_setDomain ..)))
  obtain ⟨hstate, hlanes, htrained, hcapability, -⟩ :=
    port_of_links ((congrFun (links_of_bearing h) n).trans (links_setPort_self ..))
  exact ⟨hstate, hlanes, htrained, hcapability⟩

/-- A port enters Run granted, with no empty window; what waited for it goes out. -/
theorem enterRun_port (s : State) (n : Nat) : (portAt (enterRun s n) n).state = .run ∧
    (portAt (enterRun s n) n).granted = true ∧ (portAt (enterRun s n) n).empty = 0 := by
  have h : bearing (enterRun s n) = _ := (bearing_sendLost ..).trans ((bearing_flushWaiting ..).trans
    ((bearing_cancelWhere ..).trans (bearing_ite ..)))
  simp only [bearing_raiseAdmin, bearing_transient, bearing_bump, bearing_clearAbsent, ite_self] at h
  obtain ⟨hstate, -, -, -, hgranted, hempty⟩ :=
    port_of_links ((congrFun (links_of_bearing h) n).trans (links_setPort_self ..))
  exact ⟨hstate, hgranted, hempty⟩

/-- Training ends in Seek with no lane, and in the exchange on those trained. -/
theorem trainEnd_of_train {s : State} {n : Nat} (h : (portAt s n).state = .train) (trained : Nat) :
    ∃ u, trainEnd s n trained = if bothLanes trained (usableLanes s n) = 0 then enterSeek u n false else
      startExchange (setPort u n (fun q => { q with
        state := .exchange, trained := bothLanes trained (usableLanes s n) })) n (bothLanes trained (usableLanes s n)) := by
  unfold trainEnd
  dsimp only
  rw [if_pos (by simp [h])]
  split
  · exact ⟨_, rfl⟩
  · exact ⟨_, rfl⟩

theorem trainEnd_does {s : State} {n : Fin 8} (h : (portAt s n).state = .train) (trained : BitVec 8) {lanes : Nat}
    (hl : lanes = bothLanes trained.toNat (usableLanes s n)) : Does (.trainEnd n trained) s (fun t =>
      if lanes = 0 then (portAt t n).state = .seek else (portAt t n).state = .exchange ∧ (portAt t n).lanes = lanes ∧
        (portAt t n).trained = lanes ∧ (portAt t n).capability = none) := by
  refine ⟨_, rfl, ?_⟩
  obtain ⟨u, hu⟩ := trainEnd_of_train (s := s.fresh_) h trained.toNat
  rw [hu, show bothLanes trained.toNat (usableLanes s.fresh_ n) = lanes from hl.symm]
  split
  · simp [enterSeek]
  · simpa using startExchange_port (setPort u n fun q => { q with state := .exchange, trained := lanes }) n lanes

theorem exchangeComplete_runs {s : State} {n : Fin 8} (h : (portAt s n).state = .exchange)
    (hc : (portAt s n).capability.isSome = true) : Does (.exchangeComplete n) s (fun t => (portAt t n).state = .run ∧
      (portAt t n).granted = true ∧ (portAt t n).empty = 0) := by
  refine ⟨_, rfl, ?_⟩
  rw [portAt_freshState, if_pos (by simp [h, hc])]
  exact enterRun_port s.fresh_ n

theorem exchangeTimeout_seeks {s : State} {n : Fin 8} (h : (portAt s n).state = .exchange) :
    Does (.exchangeTimeout n) s (fun t => (portAt t n).state = .seek ∧ (portAt t n).seen = true ∧
      t.now = max s.now ((portAt s n).stateFrom + 10000000)) := by
  refine ⟨_, rfl, ?_⟩
  rw [portAt_freshState, if_pos (by simp [h])]
  exact ⟨by simp [enterSeek], by simp [enterSeek], now_of_standing (standing_raiseAdmin ..)⟩

/-- A retrain that ran out counts a lasting link fault; the count of lasting faults of its group has a key of its own. -/
theorem retrainTimeout_seeks {s : State} {n : Fin 8} (h : (portAt s n).state = .retrain) :
    Does (.retrainTimeout n) s (fun t => (portAt t n).state = .seek ∧ (portAt t n).empty = 0 ∧
      counter t 0x0704 (n * 256 + 1) = satAdd 16 (counter s 0x0704 (n * 256 + 1)) 1) := by
  have hkey : counterKey 0x0704 (n * 256 + 1) ≠ counterKey 0x0301 0x10 := counterKey_ne (by omega) (by omega) (.inl (by decide))
  refine ⟨_, rfl, ?_⟩
  rw [portAt_freshState, if_pos (by simp [h])]
  refine ⟨by simp [enterSeek], by simp [enterSeek], ?_⟩
  rw [counter_enterSeek, counter_setPort, (raiseAdmin_spec ..).counter, counter_bump_ne _ _ hkey, counter_bump_self]
  rfl

/-- Settles O49: the commands, the windows and the timers each leave the port in the state that follows, and what goes out on the
way into the exchange and into Run changes no more of the port than its traffic. -/
theorem partnerPortsSeekTrainAndRun : Obligations.PartnerPortsSeekTrainAndRun := by
  unfold Obligations.PartnerPortsSeekTrainAndRun
  refine ⟨?_, fun n s h => ⟨fun hseen => ⟨_, rfl, ?_⟩, fun hseen => ⟨_, rfl, seekWindowEnd_counts (s := s.fresh_) h hseen⟩,
    fun lane hl => partnerTrainingSignal_does h hl⟩, fun n s => ⟨trainingBurstEnd_does n s,
    fun h trained lanes hl => trainEnd_does h trained hl,
    fun h => ⟨exchangeComplete_runs h, exchangeTimeout_seeks h⟩, retrainTimeout_seeks⟩⟩
  · rintro o s c n rfl
    exact ⟨partnerPortEnable_seeks, partnerPortDisable_disables, partnerPortStatus_reports⟩
  · rw [seekWindowEnd_seen (s := s.fresh_) h hseen]
    simp [seekWindow]

end Sys2Proof.Machine
end

section
/-! A convoy that holds a signal from a partner port of no part: when its link ends, the count of the signals discarded from that
port (R221) has the key of the count of link faults (R263, R541). -/

namespace Sys2Proof.Machine
open Sys2Proof

/-- A port whose discarded signals are counted under the key of port 0's link faults of a cause. Every partner port has a number
below 8 (R62). -/
def strayPort (cause : Nat) : Nat := counterKey 0x0703 cause - counterKey 0x0606 0

/-- Port 0 is in Run, and an open convoy has sent a parcel on it and holds a signal from that port. -/
def strayLinkState (cause : Nat) : State :=
  { State.reset with
    ports := [(0, { Port.init with state := .run })]
    convoys := [(0, { Convoy.init with state := .opened, carried := [(0, 1)], signals := [(0, 1, strayPort cause + 1)] })] }

/-- No link fault was counted before the silence; after it two are. -/
theorem strayLinkState_linkSilence : counter (strayLinkState 1) 0x0703 1 = 0 ∧
    ∃ t, exec (.linkSilence 0) (strayLinkState 1) = .next t ∧ counter t 0x0703 1 = 2 :=
  ⟨rfl, _, rfl, by decide +kernel⟩

/-- Refutes O51: the fault is counted once, and the convoy's cancellation counts the signal it discards under the same key, since
the signal's port is none of the part. -/
theorem not_linkFaultsRetrainOrDegrade : ¬ Obligations.LinkFaultsRetrainOrDegrade := by
  unfold Obligations.LinkFaultsRetrainOrDegrade
  intro h
  obtain ⟨silence, -⟩ := h 0 (strayLinkState 1)
  obtain ⟨t, ht, -, -, -, -, counted⟩ := silence rfl
  obtain ⟨before, u, hu, after⟩ := strayLinkState_linkSilence
  obtain rfl : u = t := Host.Outcome.next.inj (hu.symm.trans ht)
  have one : counter u 0x0703 1 = satAdd 16 (counter (strayLinkState 1) 0x0703 1) 1 := counted
  rw [before, after] at one
  exact absurd one (by decide)

/-! ### A control parcel of a sender in another state -/

theorem leNat_leBytes {n v : Nat} (h : v < 256 ^ n) : leNat (leBytes n v) = v := by
  induction n generalizing v with
  | zero => simp_all [leBytes, leNat]
  | succ n ih =>
    have hdiv : v / 256 < 256 ^ n := Nat.div_lt_of_lt_mul (by rwa [pow_succ'] at h)
    simp only [leBytes, leNat, ih hdiv, BitVec.toNat_ofNat]
    omega

theorem slice_append_left (a b : List Byte) : slice (a ++ b) 0 a.length = a := by
  simp [slice]
theorem slice_append_right (a b : List Byte) : slice (a ++ b) a.length b.length = b := by
  simp [slice]

/-- The CRC behind a parcel's 296 bytes is that of its bytes (R239, R240). -/
theorem crc_of_parcel {b : List Byte} (h : b.length = 0x128) :
    field (b ++ leBytes 4 (crc32c b).toNat) 0x128 4 = (crc32c (slice (b ++ leBytes 4 (crc32c b).toNat) 0 0x128)).toNat := by
  have hcrc := slice_append_right b (leBytes 4 (crc32c b).toNat)
  have hbytes := slice_append_left b (leBytes 4 (crc32c b).toNat)
  rw [h] at hcrc hbytes
  rw [leBytes_length] at hcrc
  rw [hbytes, field, hcrc, leNat_leBytes (crc32c b).isLt]

/-- The control parcel of a port in Disabled. -/
def disabledParcel : List Byte := controlParcel Port.init 0 0

theorem crc_disabledParcel : field disabledParcel 0x128 4 = (crc32c (slice disabledParcel 0 0x128)).toNat :=
  crc_of_parcel (by simp only [List.length_append, List.length_replicate, leBytes_length]; rfl)

/-- In Run it ends the link with cause 4 (R264). -/
theorem controlReceive_disabledParcel {s : State} {n : Nat} (h : inRun s n = true) :
    controlReceive s n disabledParcel ⟨false, []⟩ = leavePort (passedAt s n) n 4 := by
  have hkind : field disabledParcel 0 1 = 0x80 := rfl
  have hsender : field disabledParcel 1 1 = 0 := rfl
  have hcount : countSymbols s n ⟨false, []⟩ = s := rfl
  have hfec : fecFails ⟨false, []⟩ = false := rfl
  have hpassed : inRun (passedAt s n) n = true := by
    simpa [inRun, passedAt] using h
  unfold controlReceive
  simp [h, hcount, hfec, crc_disabledParcel, hkind, hsender, hpassed]

/-- No link fault was counted before that parcel; after it two are. -/
theorem strayLinkState_controlParcelReceive : counter (strayLinkState 4) 0x0703 4 = 0 ∧
    ∃ t, exec (.controlParcelReceive 0 disabledParcel ⟨false, []⟩) (strayLinkState 4) = .next t ∧ counter t 0x0703 4 = 2 := by
  refine ⟨rfl, _, rfl, ?_⟩
  rw [show ((0 : Fin 8) : Nat) = 0 from rfl, controlReceive_disabledParcel rfl]
  decide +kernel

/-- Refutes O50: a sender in Disabled ends the link, counted once, and the convoy's cancellation counts the signal it discards
under the same key. -/
theorem not_linkParcelsAreCheckedAndReplayed : ¬ Obligations.LinkParcelsAreCheckedAndReplayed := by
  unfold Obligations.LinkParcelsAreCheckedAndReplayed
  intro h
  obtain ⟨-, -, -, control⟩ := h.1 0 disabledParcel ⟨false, []⟩ (strayLinkState 4) true
    (by rw [crc_disabledParcel]; simp [fecFails])
  obtain ⟨-, other⟩ := control rfl rfl rfl
  obtain ⟨t, ht, -, counted⟩ := other (by decide +kernel) (by decide +kernel)
  obtain ⟨before, u, hu, after⟩ := strayLinkState_controlParcelReceive
  obtain rfl : u = t := Host.Outcome.next.inj (hu.symm.trans ht)
  have one : counter u 0x0703 4 = satAdd 16 (counter (strayLinkState 4) 0x0703 4) 1 := counted
  rw [before, after] at one
  exact absurd one (by decide)

end Sys2Proof.Machine
end

section
/-! What events and the ends of requests leave of extents, drives and the commands outstanding on them (R282, R291). -/

namespace Sys2Proof.Machine
open Sys2Proof

theorem generation_of_memory {s t : State} (h : t.memory = s.memory) (kind i : Nat) : generation t kind i = generation s kind i := by
  simp only [generation, h]

/-! ### Extents -/

@[simp] theorem extents_finish (s : State) (c : Ctx) (a : Answer) : (finish s c a).extents = s.extents := by
  rw [(finish_reporting s c a).1]
  rfl

/-! ### Drives -/

theorem drive_of_drives {s t : State} (h : t.drives = s.drives) (k : Nat) : drive t k = drive s k := by
  simp only [drive, h]

theorem EventsOnly.drives {s t : State} (h : EventsOnly s t) : t.drives = s.drives := by
  obtain ⟨⟨_, _, _, rfl⟩, -⟩ := h
  rfl

theorem drives_endSlot (s : State) (p k : Nat) (a : Answer) : (endSlot s p k a).drives = s.drives := by
  rw [(endSlot_reporting s p k a).1]
  rfl

theorem drives_endDriveCmds (s : State) (st : Status) (f : DriveCmd → Bool) : (endDriveCmds s st f).drives = s.drives := by
  unfold endDriveCmds
  exact foldl_leaves (g := State.drives) (fun _ _ => by simp only [drives_endSlot]) _ s

/-! ### Commands outstanding -/

@[simp] theorem driveCmds_finish (s : State) (c : Ctx) (a : Answer) : (finish s c a).driveCmds = s.driveCmds := by
  rw [(finish_reporting s c a).1]
  rfl

theorem EventsOnly.driveCmds {s t : State} (h : EventsOnly s t) : t.driveCmds = s.driveCmds := by
  obtain ⟨⟨_, _, _, rfl⟩, -⟩ := h
  rfl

end Sys2Proof.Machine
end

section
/-! Extents and drives (R282, R291, R501). -/

namespace Sys2Proof.Machine
open Sys2Proof

/-! ### EXTENT_CREATE -/

/-- The extent a creation asks for. -/
def extentAsked (c : Ctx) : Extent := ⟨c.u 0 1, c.u 1 1, c.u 2 2, c.u 8 8, c.u 0x10 8, c.u 4 4⟩

/-- The state in which a creation ends: index i is in its next generation and names the extent asked for. -/
def withExtentCreated (s : State) (c : Ctx) (i : Nat) : State :=
  { nextGeneration s 4 i with extents := Tbl.set s.extents i (extentAsked c) }

theorem extentCreateEffect_eq {s : State} (c : Ctx) {i : Nat} (hi : i < 64) (hfree : Tbl.get? s.extents i = none)
    (hlow : ∀ j, j < i → (Tbl.get? s.extents j).isSome = true) :
    extentCreateEffect s c = finish (withExtentCreated s c i) c
      { status := .ok, result := leBytes 4 (i + 65536 * generation (withExtentCreated s c i) 4 i) } := by
  have hfirst : (List.range 64).find? (fun i => (Tbl.get? s.extents i).isNone) = some i :=
    List.find?_range_eq_some.mpr ⟨by simp [hfree], List.mem_range.mpr hi, fun j hj => by simpa using hlow j hj⟩
  unfold extentCreateEffect
  rw [hfirst]
  rfl

theorem generation_withExtentCreated (s : State) (c : Ctx) (i : Nat) :
    generation (withExtentCreated s c i) 4 i = (generation s 4 i + 1) % 65536 :=
  Tbl.getD_set_self ..

/-! ### Drives that are looked for -/

/-- A drive as its controller's report leaves it (R501). -/
def Drive.found (i : DriveInfo) (d : Drive) : Drive := { d with
  ready := true, absent := false, namespaces := attachable i, version := i.version, serial := slice i.serial 0 20, resetAt := none }

/-- A drive that is not found, as of now (R291). -/
def Drive.missed (now : Nat) (d : Drive) : Drive := { d with ready := false, absent := true, probedAt := now }

theorem drives_driveFound_some (s : State) (k : Nat) (i : DriveInfo) :
    (driveFound s k (some i)).drives = (setDrive s k (Drive.found i)).drives :=
  (raiseAdmin_spec ..).drives

theorem drives_driveFound_none (s : State) (k : Nat) :
    (driveFound s k none).drives = (setDrive s k (Drive.missed s.now)).drives :=
  (raiseAdmin_spec ..).drives.trans (drives_endDriveCmds ..)

theorem drive_driveFound_some (s : State) (k : Nat) (i : DriveInfo) :
    drive (driveFound s k (some i)) k = (drive s k).found i := by
  rw [drive_of_drives (drives_driveFound_some s k i), drive_setDrive_self]

theorem drive_driveFound_none (s : State) (k : Nat) : drive (driveFound s k none) k = (drive s k).missed s.now := by
  rw [drive_of_drives (drives_driveFound_none s k), drive_setDrive_self]

theorem drive_driveFound_some_ne (s : State) {k j : Nat} (i : DriveInfo) (h : j ≠ k) :
    drive (driveFound s k (some i)) j = drive s j := by
  rw [drive_of_drives (drives_driveFound_some s k i), drive_setDrive_ne _ _ h]

/-- A drive not looked at yet, on a link that the image has, is looked for when S0 trains. -/
theorem execDriveReady_eq {s : State} {k : Fin 4} (found : Option DriveInfo) (ho : storageOut s = false)
    (hy : s.boot.synfyReady = true) (hl : linkExists s k = true) (hr : (drive s k).ready = false)
    (ha : (drive s k).absent = false) : execDriveReady k found s = .next (driveFound s.fresh_ k found) := by
  simp [execDriveReady, ho, hy, hl, hr, ha]

/-- An absent drive is looked for 1 s after the last look. -/
theorem execDriveProbe_none {s : State} {k : Fin 4} (ho : storageOut s = false) (ha : (drive s k).absent = true) :
    execDriveProbe k none s = .next (setDrive (advanceTo s.fresh_ ((drive s k).probedAt + 1000000000)) k
      (fun d => { d with probedAt := max s.now ((drive s k).probedAt + 1000000000) })) := by
  unfold execDriveProbe
  rw [if_neg (by simp [ho, ha])]
  rfl

theorem execDriveProbe_some {s : State} {k : Fin 4} (i : DriveInfo) (ho : storageOut s = false) (ha : (drive s k).absent = true) :
    execDriveProbe k (some i) s = .next (driveFound (advanceTo s.fresh_ ((drive s k).probedAt + 1000000000)) k (some i)) := by
  unfold execDriveProbe
  rw [if_neg (by simp [ho, ha])]

/-- Settles O25: a creation ends in the state that `withExtentCreated` names, a destruction in the one without its index, and a
drive is left as `Drive.found` or `Drive.missed` says. -/
theorem extentsAndDrivesAreManaged : Obligations.ExtentsAndDrivesAreManaged := by
  unfold Obligations.ExtentsAndDrivesAreManaged
  refine ⟨fun o s c => ⟨?create, ?destroy, ?query⟩, fun k s i ho => ⟨fun hy hl hr ha => ⟨?ready, ?unanswered⟩,
    fun ha => ⟨?stillAbsent, ?back⟩⟩⟩
  case create =>
    intro i h hi hfree hlow
    have hgen := generation_of_memory (memory_finish (withExtentCreated s.fresh_ c i) c
      { status := .ok, result := leBytes 4 (i + 65536 * generation (withExtentCreated s.fresh_ c i) 4 i) }) 4 i
    refine ⟨_, congrArg Host.Outcome.next ((runOp_ready _ h).trans (extentCreateEffect_eq (s := s.fresh_) c hi hfree hlow)),
      ?_, ?_, ?_, fun j hj => ?_⟩
    · rw [hgen]
      exact ended_finish_of _ h.1 rfl rfl
    · rw [hgen, generation_withExtentCreated]
      rfl
    · rw [extents_finish]
      exact Tbl.get?_set_self ..
    · rw [extents_finish]
      exact Tbl.get?_set_ne _ _ hj
  case destroy =>
    intro h
    refine ⟨_, congrArg Host.Outcome.next (runOp_ready _ h), ended_finish_of _ h.1 rfl rfl, ?_, fun j hj => ?_⟩
    · simp [extentAny]
    · simp [hj]
  case query =>
    rintro h d rfl
    exact ⟨_, congrArg Host.Outcome.next (runOp_ready _ h), ended_finish_of _ h.1 rfl rfl⟩
  case ready =>
    refine ⟨_, execDriveReady_eq (some i) ho hy hl hr ha, ?_⟩
    simp only [drive_driveFound_some]
    exact ⟨rfl, rfl, rfl, fun j hj => drive_driveFound_some_ne s.fresh_ i hj⟩
  case unanswered =>
    refine ⟨_, execDriveReady_eq none ho hy hl hr ha, ?_⟩
    simp only [drive_driveFound_none]
    exact ⟨rfl, rfl, rfl⟩
  case stillAbsent =>
    refine ⟨_, execDriveProbe_none ho ha, ?_, rfl, ?_⟩
    · rw [drive_setDrive_self]
      exact ha
    · rw [drive_setDrive_self]
      rfl
  case back =>
    refine ⟨_, execDriveProbe_some i ho ha, ?_⟩
    simp only [drive_driveFound_some]
    exact ⟨rfl, rfl, rfl⟩

end Sys2Proof.Machine
end

section
/-! NVMe commands: their way to a drive, their completion, and what a failed controller's reset issues once more (R281, R283,
R291). -/

namespace Sys2Proof.Machine
open Sys2Proof

/-! ### Commands that go to the drive -/

/-- The NVMe command a request issues within an extent, in LBAs (R291). -/
def issuedCmd (s : State) (e : Extent) (opcode off len : Nat) (data : List Byte) : DriveCmd :=
  ⟨e.link, opcode, e.ns, e.start + off / lbaSize s e, len / lbaSize s e, data, s.now, false⟩

theorem slotAt_issueDrive (s : State) (c : Ctx) (e : Extent) (opcode off len : Nat) (data : List Byte) :
    slotAt (issueDrive s c e opcode off len data) c.p c.k = { slotAt s c.p c.k with begun := true } :=
  slotAt_setSlot_self ..

/-- The command that is issued stands outstanding. -/
theorem issueDrive_outstanding (s : State) (c : Ctx) (e : Extent) (opcode off len : Nat) (data : List Byte) :
    Tbl.get? (issueDrive s c e opcode off len data).driveCmds (c.p * 32 + c.k) = some (issuedCmd s e opcode off len data) :=
  Tbl.get?_set_self ..

@[simp] theorem driveCmds_markBegun (s : State) (o : Origin) : (markBegun s o).driveCmds = s.driveCmds := by
  unfold markBegun
  split
  · rfl
  · cases o <;> rfl

@[simp] theorem out_markBegun (s : State) (o : Origin) : (markBegun s o).out = s.out := by
  unfold markBegun
  split
  · rfl
  · cases o <;> rfl

/-- A slot's request that is under way already is marked so. -/
theorem slotAt_markBegun {s : State} {p k : Fin 32} (h : (slotAt s p k).begun = true) :
    slotAt (markBegun s (.mbx p k)) p k = slotAt s p k := by
  unfold markBegun
  split
  · rfl
  · rw [slotAt_setSlot_self, ← h]

/-- A request with no data for its drive goes on, with its NVMe command outstanding, and only that goes out. -/
theorem markBegun_issueDrive {op : Nat} {chk : State → Ctx → Checks} {o : Origin} {s : State} {c : Ctx}
    (h : Ready op (fixed .storage) chk o s c) (ha : twtAccepts op = false) (e : Extent) (opcode off len : Nat) :
    GoesOn (markBegun (issueDrive s.fresh_ c e opcode off len []) o) o ∧
    Tbl.get? (markBegun (issueDrive s.fresh_ c e opcode off len []) o).driveCmds (c.p * 32 + c.k) =
      some (issuedCmd s e opcode off len []) ∧
    (markBegun (issueDrive s.fresh_ c e opcode off len []) o).out =
      [.nvme e.link opcode e.ns (e.start + off / lbaSize s e) (len / lbaSize s e) []] := by
  rw [driveCmds_markBegun, out_markBegun]
  refine ⟨?_, issueDrive_outstanding .., rfl⟩
  have hslot := slotAt_issueDrive s.fresh_ c e opcode off len []
  have hgoes := fun t => goesOn_of_begun (t := t) h ha
  obtain ⟨p, k, rfl, -, hp, hk⟩ := slot_of_ready h ha
  rw [hp, hk] at hslot hgoes
  have hmark := (slotAt_markBegun (by rw [hslot])).trans hslot
  exact hgoes _ (by rw [hmark]; rfl) (by rw [hmark])

/-! ### Writes -/

/-- Data of an extent whose key can be used, with an engine in service and no fault, cross the engine. -/
theorem xtsRun_eq {s : State} {e : Extent} {key : List Byte} (hk : keyBytes s e.keySlot = some key)
    (hg : (cipherEngine s).isSome = true) (enc : Bool) (lba : Nat) (bs : List Byte) : ∃ g n,
    xtsRun s e enc lba bs .none = (some (xtsUnits key enc (lbaSize s e) (bs.length / lbaSize s e) lba bs), countBlocks s g n) := by
  obtain ⟨g, hg⟩ := Option.isSome_iff_exists.mp hg
  unfold xtsRun
  rw [hk, hg]
  exact ⟨g, _, rfl⟩

/-- A write whose data can be read is past its point of no return, and its command goes out with the data encrypted. -/
theorem storageWriteEffect_issues {s : State} {c : Ctx} {e : Extent} {hostData key : List Byte}
    (he : extentOf s c.p (c.u 0 4) = some e) (hr : descReadMeets s c.p (c.desc 0x10) = none)
    (hk : keyBytes s e.keySlot = some key) (hg : (cipherEngine s).isSome = true) {bs : List Byte} {lba : Nat}
    (hbs : bs = readDesc s c.p (c.desc 0x10) hostData) (hlba : lba = e.start + c.u 8 8 / lbaSize s e) :
    slotAt (storageWriteEffect hostData .none s c) c.p c.k =
      { slotAt s c.p c.k with inputs := [bs], pastReturn := true, begun := true } ∧
    Tbl.get? (storageWriteEffect hostData .none s c).driveCmds (c.p * 32 + c.k) = some (issuedCmd s e 0x01 (c.u 8 8) bs.length
      (xtsUnits key true (lbaSize s e) (bs.length / lbaSize s e) lba bs)) := by
  subst hbs hlba
  obtain ⟨g, n, hx⟩ := xtsRun_eq hk hg true (e.start + c.u 8 8 / lbaSize s e) (readDesc s c.p (c.desc 0x10) hostData)
  unfold storageWriteEffect
  simp only [he, hr, hx]
  refine ⟨?_, issueDrive_outstanding ..⟩
  rw [slotAt_issueDrive, slotAt_setSlot_self]
  simp [slotAt, part, countBlocks]

/-- Settles O26: each ready command issues the NVMe command of its request; a write encrypts what it read first. -/
theorem storageCommandsReachTheDrive : Obligations.StorageCommandsReachTheDrive := by
  unfold Obligations.StorageCommandsReachTheDrive
  intro o s c e hb he
  have he' : extentOf s.fresh_ c.p (c.u 0 4) = some e := he
  refine ⟨?read, ?write, ?flush, ?deallocate⟩
  case read =>
    rintro h d rfl
    refine ⟨_, congrArg Host.Outcome.next (runOnce_ready _ h hb), ?_⟩
    simp only [he']
    exact markBegun_issueDrive h rfl e ..
  case write =>
    intro hostData key h hr hk hg bs lba hbs hlba
    obtain ⟨hslot, hcmd⟩ := storageWriteEffect_issues (s := s.fresh_) he' hr hk hg hbs hlba
    refine ⟨storageWriteEffect hostData .none s.fresh_ c, ?_, ?_, ?_, ?_⟩
    · simp only [exec, execStorageWrite, hb, Bool.false_eq_true, if_false, onWord_none, runOp_ready _ h]
    · exact goesOn_of_begun h rfl (by rw [hslot]; rfl) (by rw [hslot])
    · rw [hslot]
    · rw [hcmd, hlba]
      rfl
  case flush =>
    intro h
    refine ⟨_, congrArg Host.Outcome.next (runOnce_ready _ h hb), ?_⟩
    simp only [he']
    obtain ⟨hgo, hcmd, hout⟩ := markBegun_issueDrive h rfl e 0 0 0
    refine ⟨hgo, ?_, ?_⟩
    · rw [hout]
      simp
    · rw [hcmd]
      simp [issuedCmd]
  case deallocate =>
    rintro h d rfl
    refine ⟨_, congrArg Host.Outcome.next (runOnce_ready _ h hb), ?_⟩
    simp only [he']
    exact markBegun_issueDrive h rfl e ..

end Sys2Proof.Machine
end

section
/-! What drives do with NVMe commands: complete them, fail them once or for good, and fail themselves (R283, R291). -/

namespace Sys2Proof.Machine
open Sys2Proof

/-! ### Requests of slots -/

theorem finish_slotCtx (s : State) (p k : Nat) (sl : Slot) (a : Answer) : finish s (slotCtx p k sl) a = endSlot s p k a := rfl

theorem slotNumber (p k : Fin 32) : (p.val * 32 + k.val) / 32 = p ∧ (p.val * 32 + k.val) % 32 = k := by omega

/-- Nothing goes out with the end of a slot of which no hop lost a parcel. -/
theorem out_endSlot {s : State} {p k : Nat} (a : Answer) (h : (slotAt s p k).lostHop = none) : (endSlot s p k a).out = s.out :=
  out_finish (c := slotCtx p k (slotAt s p k)) a h

theorem driveCmds_endSlot (s : State) (p k : Nat) (a : Answer) : (endSlot s p k a).driveCmds = s.driveCmds := by
  rw [(endSlot_reporting s p k a).1]
  rfl

/-! ### DRIVE_COMPLETION -/

/-- Slot k's command is off the drive, and its slot knows whether it was issued twice. -/
def withCompleted (s : State) (p k : Nat) (d : DriveCmd) : State :=
  setSlot { s with driveCmds := Tbl.erase s.driveCmds (p * 32 + k) } p k (fun sl => { sl with lower := sl.lower || d.reissued })

/-- A command stands issued once more under its slot's number, its slot in repair (R114). -/
def withReissued (s : State) (o : Nat) (d : DriveCmd) : State :=
  send { setSlot s (o / 32) (o % 32) (Slot.repairing 3) with
    driveCmds := Tbl.set s.driveCmds o { d with reissued := true, issuedAt := s.now } }
    [.nvme d.link d.opcode d.ns d.lba d.len d.data]

section
variable {s : State} {p k : Fin 32} {status : Nat} {d : DriveCmd} (data : List Byte) (fault : UnitFault)

theorem driveCompletion_ok (hd : Tbl.get? s.driveCmds (p * 32 + k) = some d) (hs : status % 2048 = 0) (ho : d.opcode ≠ 2) :
    driveCompletion s (p * 32 + k) status data fault = endSlot (withCompleted s p k d) p k { status := .ok } := by
  unfold driveCompletion
  simp only [hd, slotNumber, hs, ho, false_and, and_false, if_true, if_false]
  rfl

theorem driveCompletion_read {sl : Slot} (hsl : slotAt s p k = sl) (hd : Tbl.get? s.driveCmds (p * 32 + k) = some d)
    (hs : status % 2048 = 0) (ho : d.opcode = 2) (hw : descWriteMeets s p ((slotCtx p k sl).desc 0x10) = none) :
    driveCompletion s (p * 32 + k) status data fault = readArrives (withCompleted s p k d) (slotCtx p k sl) d data fault := by
  have hwait : descWriteMeets s (slotCtx p k sl).p ((slotCtx p k sl).desc 0x10) ≠ some none := by
    rw [show descWriteMeets s (slotCtx p k sl).p _ = none from hw]
    simp
  unfold driveCompletion
  simp only [hd, slotNumber, hsl, hs, ho, hwait, and_false, if_true, if_false]
  rfl

theorem driveCompletion_failed (hd : Tbl.get? s.driveCmds (p * 32 + k) = some d) (hs : status % 2048 ≠ 0)
    (hr : bit status 14 = true ∨ d.reissued = true) :
    driveCompletion s (p * 32 + k) status data fault =
      endSlot { s with driveCmds := Tbl.erase s.driveCmds (p * 32 + k) } p k { status := .integrity, result := leBytes 2 status } := by
  have hfinal : (bit status 14 || d.reissued) = true := by simpa using hr
  unfold driveCompletion
  simp only [hd, slotNumber, hs, hfinal, false_and, if_true, if_false]
  rfl

theorem driveCompletion_reissued (hd : Tbl.get? s.driveCmds (p * 32 + k) = some d) (hs : status % 2048 ≠ 0)
    (hb : bit status 14 = false) (hr : d.reissued = false) :
    driveCompletion s (p * 32 + k) status data fault = withReissued
      (raiseAdmin (bump s 0x0802 d.link 32) 0x0404 false 0 (d.link + 65536 * status)) (p * 32 + k) d := by
  unfold driveCompletion
  simp only [hd, hs, hb, hr, false_and, Bool.or_self, Bool.false_eq_true, if_false]
  rfl

end

theorem phase_withCompleted (s : State) (p k : Nat) (d : DriveCmd) :
    (slotAt (withCompleted s p k d) p k).phase = (slotAt s p k).phase := by
  unfold withCompleted
  rw [slotAt_setSlot_self]
  rfl

/-- What a read needs of its request's objects is no matter of the command on the drive. -/
theorem objects_withCompleted (s : State) (p k : Nat) (d : DriveCmd) :
    extentOf (withCompleted s p k d) = extentOf s ∧ keyBytes (withCompleted s p k d) = keyBytes s ∧
    descWriteMeets (withCompleted s p k d) = descWriteMeets s ∧ lbaSize (withCompleted s p k d) = lbaSize s :=
  ⟨rfl, rfl, rfl, rfl⟩

/-- A partition with a command off its drive has the function it had (R275). -/
theorem function_withCompleted (s : State) (p k : Nat) (d : DriveCmd) :
    (part (withCompleted s p k d) p).port = (part s p).port ∧ (part (withCompleted s p k d) p).fn = (part s p).fn := by
  unfold withCompleted setSlot
  rw [part_setPart_self]
  exact ⟨rfl, rfl⟩

theorem phase_withReissued (s : State) (o : Nat) (d : DriveCmd) (p k : Nat) :
    (slotAt (withReissued s o d) p k).phase = (slotAt s p k).phase :=
  phase_setSlot s _ _ (Slot.repairing 3) (fun _ => rfl) p k

section
variable {s : State} {p k : Fin 32} {d : DriveCmd} {e : Extent} {key : List Byte} {sl : Slot} (data : List Byte)

/-- The data of a read that meets nothing are written where its request says, decrypted, and its slot ends with OK. -/
theorem readArrives_eq (he : extentOf s p ((slotCtx p k sl).u 0 4) = some e) (hk : keyBytes s e.keySlot = some key)
    (hg : (cipherEngine s).isSome = true) (hw : descWriteMeets s p ((slotCtx p k sl).desc 0x10) = none) {bs plain : List Byte}
    (hbs : bs = slice data 0 ((slotCtx p k sl).desc 0x10).len)
    (hplain : plain = xtsUnits key false (lbaSize s e) (bs.length / lbaSize s e) d.lba bs) : ∃ g n,
    readArrives s (slotCtx p k sl) d data .none = endSlot (writeDesc (setSlot (countBlocks s g n) p k
      (fun sl => { sl with lower := sl.lower || false })) p ((slotCtx p k sl).desc 0x10) plain) p k
      { status := .ok, writes := [plain] } := by
  subst hbs hplain
  obtain ⟨g, n, hx⟩ := xtsRun_eq hk hg false d.lba (slice data 0 ((slotCtx p k sl).desc 0x10).len)
  have he' : extentOf s (slotCtx p k sl).p ((slotCtx p k sl).u 0 4) = some e := he
  have hw' : descWriteMeets (countBlocks s g n) (slotCtx p k sl).p ((slotCtx p k sl).desc 0x10) = none := hw
  refine ⟨g, n, ?_⟩
  unfold readArrives
  simp only [he', hx, hw', finish_slotCtx, bne_self_eq_false]
  rfl

/-- A read that arrives ends with OK, and data for host memory go out as one write (R275). -/
theorem readArrives_ends (hrun : (slotAt s p k).phase = .running) (hl : (slotAt s p k).lostHop = none)
    (he : extentOf s p ((slotCtx p k sl).u 0 4) = some e) (hk : keyBytes s e.keySlot = some key)
    (hg : (cipherEngine s).isSome = true) (hw : descWriteMeets s p ((slotCtx p k sl).desc 0x10) = none) {bs : List Byte}
    (hbs : bs = slice data 0 ((slotCtx p k sl).desc 0x10).len) :
    Ended (readArrives s (slotCtx p k sl) d data .none) (.mbx p k) .ok [] ∧
    (((slotCtx p k sl).desc 0x10).kind ≠ 2 → (readArrives s (slotCtx p k sl) d data .none).out =
      s.out ++ [.hostWrite (part s p).port (part s p).fn (relaxedFor s p) ((slotCtx p k sl).desc 0x10).loc
        (xtsUnits key false (lbaSize s e) (bs.length / lbaSize s e) d.lba bs)]) := by
  obtain ⟨g, n, hr⟩ := readArrives_eq data he hk hg hw hbs rfl (d := d)
  have hslot : slotAt (setSlot (countBlocks s g n) p k (fun sl => { sl with lower := sl.lower || false })) p k =
      { slotAt s p k with lower := (slotAt s p k).lower || false } := slotAt_setSlot_self ..
  rw [hr]
  refine ⟨ended_endSlot _ ?_, fun hkind => ?_⟩
  · rw [slotAt_writeDesc, hslot]
    exact hrun
  · have hpart := part_setPart_self (countBlocks s g n) p (fun q => { q with
      slots := Tbl.modify q.slots k Slot.empty (fun sl => { sl with lower := sl.lower || false }) })
    rw [out_endSlot, writeDesc_toHost hkind]
    · simp only [send_out, relaxedFor, setSlot, hpart]
      rfl
    · rw [slotAt_writeDesc, hslot]
      exact hl

end

/-! ### DRIVE_COMMAND_TIMEOUT -/

/-- A command stands issued once more, at a moment. -/
def ReissuedAt (s : State) (o now : Nat) : Prop :=
  ∃ d, Tbl.get? s.driveCmds o = some d ∧ d.reissued = true ∧ d.issuedAt = now

/-- Every command of the list stands issued once more when all of them are issued anew. -/
theorem reissuedAt_foldl (l : Tbl DriveCmd) {s : State} {o : Nat} (h : ReissuedAt s o s.now ∨ ∃ d, (o, d) ∈ l) :
    ReissuedAt (l.foldl (fun s e => withReissued s e.1 e.2) s) o s.now := by
  induction l generalizing s with
  | nil => simpa using h
  | cons x l ih =>
    refine ih (s := withReissued s x.1 x.2) ?_
    by_cases hx : o = x.1
    · subst hx
      exact .inl ⟨_, Tbl.get?_set_self .., rfl, rfl⟩
    · refine h.imp (fun ⟨d, hd, hrest⟩ => ⟨d, (Tbl.get?_set_ne _ _ hx).trans hd, hrest⟩) (fun ⟨d, hd⟩ => ⟨d, ?_⟩)
      exact (List.mem_cons.mp hd).resolve_left fun he => hx (congrArg Prod.fst he)

/-- A drive whose controller was reset at the present moment, with its counts and its event. -/
def withReset (s : State) (k : Nat) : State :=
  setDrive (raiseAdmin (bump s 0x0803 k 16) 0x0402 true 0 (k + 256)) k (fun d => { d with resetAt := some s.now })

theorem advanceTo_self (s : State) : advanceTo s s.now = s := by
  simp [advanceTo]

theorem driveFails_again {s : State} {k r : Nat} (hr : (drive s k).ready = true) (ha : (drive s k).resetAt = some r)
    (hn : s.now ≤ r + 1000000000) (ok : Bool) : driveFails s k true ok = driveFound s k none := by
  unfold driveFails
  simp only [hr, if_true, advanceTo_self, ha, Option.any_some, decide_eq_true hn]

theorem driveFails_reset {s : State} {k : Nat} (hr : (drive s k).ready = true)
    (ha : (drive s k).resetAt.any (fun r => decide (s.now ≤ r + 1000000000)) = false) :
    driveFails s k true true =
      (s.driveCmds.filter (fun e => e.2.link == k)).foldl (fun s e => withReissued s e.1 e.2) (withReset s k) := by
  have hnow : (raiseAdmin (bump s 0x0803 k 16) 0x0402 true 0 (k + 256)).now = s.now := now_of_standing (standing_raiseAdmin ..)
  have hcmds : (raiseAdmin (bump s 0x0803 k 16) 0x0402 true 0 (k + 256)).driveCmds = s.driveCmds := (raiseAdmin_spec ..).driveCmds
  unfold driveFails
  simp only [hr, if_true, advanceTo_self, ha, Bool.not_true, Bool.false_eq_true, if_false, Nat.mul_one, hnow]
  rw [show (setDrive (raiseAdmin (bump s 0x0803 k 16) 0x0402 true 0 (k + 256)) k
    (fun d => { d with resetAt := some s.now })).driveCmds = s.driveCmds from hcmds]
  rfl

theorem driveCommandTimeout_resets {s : State} {k : Fin 4} (hr : (drive s k).ready = true)
    (ha : (drive s k).resetAt = none ∨ ∃ r, (drive s k).resetAt = some r ∧ r + 1000000000 < s.now) :
    Does (.driveCommandTimeout k true true) s (fun t => (drive t k).resetAt = some s.now ∧ (drive t k).ready = true ∧
      counter t 0x0803 k = satAdd 16 (counter s 0x0803 k) 1 ∧
      ∀ n d, Tbl.get? s.driveCmds n = some d → d.link = k.val →
        ∃ d', Tbl.get? t.driveCmds n = some d' ∧ d'.reissued = true ∧ d'.issuedAt = s.now) := by
  have hlast : (drive s k).resetAt.any (fun r => decide (s.now ≤ r + 1000000000)) = false := by
    obtain ha | ⟨r, ha, hlt⟩ := ha <;> simp [ha]
    omega
  have hevent := raiseAdmin_spec (bump s.fresh_ 0x0803 k 16) 0x0402 true 0 (k + 256)
  have hdrive : drive (withReset s.fresh_ k) k = { drive s k with resetAt := some s.now } := by
    unfold withReset
    rw [drive_setDrive_self, drive_of_drives hevent.drives]
    rfl
  have hcount : counter (withReset s.fresh_ k) 0x0803 k = satAdd 16 (counter s 0x0803 k) 1 :=
    (hevent.counter 0x0803 k).trans (counter_bump_self ..)
  have hnow : (withReset s.fresh_ k).now = s.now := now_of_standing hevent.standing
  have hkept := foldl_leaves (g := fun t : State => (t.drives, t.ctr)) (f := fun s e => withReissued s e.1 e.2) (fun _ _ => rfl)
    (s.driveCmds.filter (fun e => e.2.link == k.val)) (withReset s.fresh_ k)
  obtain ⟨hdrives, hctr⟩ := Prod.mk.inj hkept
  refine ⟨_, congrArg Host.Outcome.next (driveFails_reset (s := s.fresh_) hr hlast), ?_, ?_, ?_, fun n d hd hl => ?_⟩
  · exact (congrArg Drive.resetAt ((drive_of_drives hdrives k).trans hdrive))
  · exact (congrArg Drive.ready ((drive_of_drives hdrives k).trans hdrive)).trans hr
  · rw [← hcount]
    exact congrArg (fun x => Tbl.getD x (counterKey 0x0803 k) 0) hctr
  · have hmem : (n, d) ∈ s.driveCmds.filter (fun e => e.2.link == k.val) :=
      List.mem_filter.mpr ⟨Tbl.mem_of_get? hd, by simp [hl]⟩
    have hre := reissuedAt_foldl _ (s := withReset s.fresh_ k) (.inr ⟨d, hmem⟩)
    rwa [hnow] at hre

/-- Settles O27: each completion is one of four, and a controller's failure one of two. -/
theorem drivesCompleteFailAndRecover : Obligations.DrivesCompleteFailAndRecover := by
  unfold Obligations.DrivesCompleteFailAndRecover
  refine ⟨fun p k status data s d hd hrun => ⟨?ok, ?read, ?failed, ?reissued⟩,
    fun k s hr => ⟨driveCommandTimeout_resets hr, fun r ha hn => ?again⟩⟩
  case ok =>
    intro hs ho
    refine ⟨_, congrArg Host.Outcome.next (driveCompletion_ok (s := s.fresh_) data .none hd hs ho), ?_, ?_⟩
    · exact ended_endSlot _ ((phase_withCompleted ..).trans hrun)
    · rw [driveCmds_endSlot]
      exact Tbl.get?_erase_self ..
  case read =>
    rintro c e key rfl he hk hg hw hs ho hl bs hbs
    have hslot : slotAt (withCompleted s.fresh_ p k d) p k =
        { slotAt s p k with lower := (slotAt s p k).lower || d.reissued } := slotAt_setSlot_self ..
    obtain ⟨hext, hkey, hmeets, hlba⟩ := objects_withCompleted s.fresh_ p k d
    obtain ⟨hended, hout⟩ := readArrives_ends (s := withCompleted s.fresh_ p k d) (d := d) data (by rw [hslot]; exact hrun)
      (by rw [hslot]; exact hl) (by rw [hext]; exact he) (by rw [hkey]; exact hk) hg (by rw [hmeets, descWriteMeets_fresh]; exact hw) hbs
    refine ⟨_, congrArg Host.Outcome.next (driveCompletion_read (s := s.fresh_) (sl := slotAt s p k) data .none rfl hd hs ho
      ((descWriteMeets_fresh ..).trans hw)), hended, fun hkind => ?_⟩
    obtain ⟨hport, hfn⟩ := function_withCompleted s.fresh_ p k d
    rw [hout hkind, relaxedFor, hport, hfn, hlba]
    rfl
  case failed =>
    intro hs hf
    exact ⟨_, congrArg Host.Outcome.next (driveCompletion_failed (s := s.fresh_) data .none hd hs hf), ended_endSlot _ hrun⟩
  case reissued =>
    intro hs hb hf
    have hevent := raiseAdmin_spec (bump s.fresh_ 0x0802 d.link 32) 0x0404 false 0 (d.link + 65536 * status.toNat)
    refine ⟨_, congrArg Host.Outcome.next (driveCompletion_reissued (s := s.fresh_) data .none hd hs hb hf), ?_, ?_, ?_⟩
    · rw [phase_withReissued, hevent.slotAt]
      exact hrun
    · refine (Tbl.get?_set_self ..).trans ?_
      rw [now_of_standing hevent.standing]
      rfl
    · exact (hevent.counter 0x0802 d.link).trans (counter_bump_self ..)
  case again =>
    refine ⟨_, congrArg Host.Outcome.next (driveFails_again (s := s.fresh_) hr ha hn true), ?_⟩
    simp only [drive_driveFound_none]
    exact ⟨rfl, rfl⟩

end Sys2Proof.Machine
end

section
/-! What leaves the settings of the network ports alone, and what becomes of a frame at the gate (R284, R286). -/

namespace Sys2Proof.Machine
open Sys2Proof

/-! ### Events and ends of requests -/

theorem EventsOnly.nets {s t : State} (h : EventsOnly s t) : t.nets = s.nets := by
  obtain ⟨⟨_, _, _, rfl⟩, -⟩ := h
  rfl

theorem netAt_of_nets {s t : State} (h : t.nets = s.nets) (j : Nat) : netAt t j = netAt s j := by
  simp only [netAt, h]

theorem nets_endSlot (s : State) (p k : Nat) (a : Answer) : (endSlot s p k a).nets = s.nets := by
  rw [(endSlot_reporting s p k a).1]
  rfl

theorem domain_finish (s : State) (c : Ctx) (a : Answer) (d : Nat) : domain (finish s c a) d = domain s d := by
  rw [(finish_reporting s c a).1]
  rfl

/-! ### Slots whose requests others' ends leave alone -/

/-- The ends of requests under other numbers leave a slot as it is. -/
theorem slotAt_foldl_endSlot (a : Answer) (l : List (Nat × List Byte)) (s : State) {p k : Fin 32}
    (h : ∀ x ∈ l, x.1 ≠ p.val * 32 + k.val) :
    slotAt (l.foldl (fun s x => endSlot s (x.1 / 32) (x.1 % 32) a) s) p k = slotAt s p k := by
  induction l generalizing s with
  | nil => rfl
  | cons x l ih =>
    have hx := h x List.mem_cons_self
    rw [List.foldl_cons, ih _ fun y hy => h y (List.mem_cons_of_mem _ hy), slotAt_endSlot_ne _ _ (by omega)]

/-- A request is the one it was where its slot is. -/
theorem ctxOf_of_slotAt {s t : State} {p k : Fin 32} (h : slotAt t p k = slotAt s p k) : ctxOf t (.mbx p k) = ctxOf s (.mbx p k) := by
  simp only [ctxOf, h]

/-! ### The gate -/

theorem gateFrame_sent {s : State} {j : Nat} {f : List Byte} (hs : maySend s j (framePriority (netAt s j) f) = true)
    (hw : (netAt s j).heldTx.any (fun h => framePriority (netAt s j) h.2 == framePriority (netAt s j) f) = false) (o : Nat) :
    gateFrame s j o f = transmit_ s j o f := by
  simp only [gateFrame, hs, hw, Bool.not_false, Bool.and_self, if_true]

theorem gateFrame_held {s : State} {j : Nat} {f : List Byte} (hs : maySend s j (framePriority (netAt s j) f) = false) (o : Nat) :
    gateFrame s j o f = setNet s j (fun n => { n with heldTx := n.heldTx ++ [(o, f)] }) := by
  simp only [gateFrame, hs, Bool.false_and, Bool.false_eq_true, if_false]

/-- Where no transmit association is valid a frame goes out as it is, and its slot's command ends with the time. -/
theorem transmit_plain {s : State} {j : Nat} (hm : (netAt s j).macTx.any (fun e => e.2.valid) = false) (p k : Fin 32) (f : List Byte) :
    transmit_ s j (p * 32 + k) f = endSlot (send s [.frame j f]) p k { status := .ok, result := leBytes 8 (mainTime s) } := by
  have hslot : ¬ 1023 < p.val * 32 + k.val := by omega
  unfold transmit_ macsecSeal
  simp only [hm, Bool.not_false, Bool.or_true, if_true, if_neg hslot, slotNumber]
  rfl

/-- A frame at the gate is no matter of the sequence of telemetry datagrams (R289). -/
theorem exportSeq_macsecSeal {s t : State} {j : Nat} {f b : List Byte} (h : macsecSeal s j f = some (b, t)) :
    (netAt t j).exportSeq = (netAt s j).exportSeq := by
  unfold macsecSeal at h
  repeat' split at h
  all_goals cases h
  case isTrue => rfl
  all_goals rw [netAt_setNet_self]

theorem exportSeq_gateFrame (s : State) (j : Nat) (f : List Byte) : (netAt (gateFrame s j 1024 f) j).exportSeq = (netAt s j).exportSeq := by
  unfold gateFrame transmit_
  dsimp only
  split
  · split
    · rfl
    · next h =>
      rw [if_pos (by decide)]
      have hseq := exportSeq_macsecSeal h
      exact hseq
  · rw [netAt_setNet_self]

end Sys2Proof.Machine
end

section
/-! Network ports: frames that commands transmit, associations, settings, links and telemetry export (R284–R292, R500). -/

namespace Sys2Proof.Machine
open Sys2Proof

/-! ### FRAME_TRANSMIT -/

/-- A slot's command has read its frame, and is under way. -/
def withFrame (s : State) (c : Ctx) (f : List Byte) : State :=
  setSlot s c.p c.k (fun sl => { sl with inputs := [f], begun := true })

theorem slotAt_withFrame (s : State) (c : Ctx) (f : List Byte) :
    slotAt (withFrame s c f) c.p c.k = { slotAt s c.p c.k with inputs := [f], begun := true } :=
  slotAt_setSlot_self ..

theorem netAt_withFrame (s : State) (c : Ctx) (f : List Byte) (j : Nat) : netAt (withFrame s c f) j = netAt s j := rfl

theorem maySend_withFrame (s : State) (c : Ctx) (f : List Byte) (j priority : Nat) :
    maySend (withFrame s c f) j priority = maySend s j priority := rfl

theorem mainTime_withFrame (s : State) (c : Ctx) (f : List Byte) : mainTime (withFrame s c f) = mainTime s := rfl

section
variable {s : State} {c : Ctx} {host f : List Byte} {j : Nat}

/-- Without ESP the frame goes to the gate as it was read. -/
theorem frameTransmitEffect_plain (hj : j = c.u 0 1) (hb : bit (c.u 1 1) 0 = false) (hr : descReadMeets s c.p (c.desc 8) = none)
    (hf : f = readDesc s c.p (c.desc 8) host) :
    frameTransmitEffect host .none s c = gateFrame (withFrame s c f) j (c.p * 32 + c.k) f := by
  unfold frameTransmitEffect
  simp only [hr, hb, ← hj, ← hf, Bool.false_eq_true, if_false]
  rfl

/-- A frame that nothing holds goes out as it is, and its command ends with the time. -/
theorem frameTransmitEffect_sends {p k : Fin 32} (hj : j = c.u 0 1) (hb : bit (c.u 1 1) 0 = false)
    (hr : descReadMeets s c.p (c.desc 8) = none) (hf : f = readDesc s c.p (c.desc 8) host) (hp : c.p = p) (hk : c.k = k)
    (hs : maySend s j (framePriority (netAt s j) f) = true)
    (hw : (netAt s j).heldTx.any (fun h => framePriority (netAt s j) h.2 == framePriority (netAt s j) f) = false)
    (hm : (netAt s j).macTx.any (fun e => e.2.valid) = false) : frameTransmitEffect host .none s c =
      endSlot (send (withFrame s c f) [.frame j f]) p k { status := .ok, result := leBytes 8 (mainTime s) } := by
  rw [← netAt_withFrame s c f] at hs hw hm
  rw [← maySend_withFrame s c f] at hs
  rw [frameTransmitEffect_plain hj hb hr hf, gateFrame_sent hs hw, hp, hk, transmit_plain hm, mainTime_withFrame]

/-- A frame whose priority a pause holds waits last. -/
theorem frameTransmitEffect_waits (hj : j = c.u 0 1) (hb : bit (c.u 1 1) 0 = false) (hr : descReadMeets s c.p (c.desc 8) = none)
    (hf : f = readDesc s c.p (c.desc 8) host) (hs : maySend s j (framePriority (netAt s j) f) = false) :
    frameTransmitEffect host .none s c =
      setNet (withFrame s c f) j (fun n => { n with heldTx := n.heldTx ++ [(c.p * 32 + c.k, f)] }) := by
  rw [← netAt_withFrame s c f, ← maySend_withFrame s c f] at hs
  rw [frameTransmitEffect_plain hj hb hr hf, gateFrame_held hs]

end

/-- A data command within its quota, with a number free, whose effect leaves it running, waits in no convoy. -/
theorem inConvoy_runs {eff : State → Ctx → State} {s : State} {c : Ctx} (hq : quotaReached s c.p = false)
    (hn : (freeNumber s).isSome = true) (he : (slotAt (eff s c) c.p c.k).phase = .running) : inConvoy eff s c = eff s c := by
  obtain ⟨n, hn⟩ := Option.isSome_iff_exists.mp hn
  simp [inConvoy, hq, hn, he]

section
variable {o : Origin} {s : State} {c : Ctx} {host f : List Byte} {j : Nat}

theorem exec_frameTransmit (h : Ready 0x030B frameTransmitBudget frameTransmitChecks o s c) (hb : begun s o = false) :
    exec (.frameTransmit o ⟨host, none⟩ .none) s = .next (inConvoy (frameTransmitEffect host .none) s.fresh_ c) := by
  simp only [exec, execFrameTransmit, hb, Bool.false_eq_true, if_false, onWord_none]
  rw [runOp_ready _ h]

theorem frameTransmit_sends (h : Ready 0x030B frameTransmitBudget frameTransmitChecks o s c) (hb : begun s o = false)
    (hq : quotaReached s c.p = false) (hn : (freeNumber s).isSome = true) (hl : (slotAt s c.p c.k).lostHop = none)
    (heff : ∀ p k : Fin 32, c.p = p → c.k = k → frameTransmitEffect host .none s.fresh_ c =
      endSlot (send (withFrame s.fresh_ c f) [.frame j f]) p k { status := .ok, result := leBytes 8 (mainTime s) }) :
    Does (.frameTransmit o ⟨host, none⟩ .none) s
      (fun t => Ended t o .ok (leBytes 8 (mainTime s)) ∧ t.out = [.frame j f]) := by
  obtain ⟨n, hn⟩ := Option.isSome_iff_exists.mp hn
  obtain ⟨p, k, rfl, hrun, hp, hk⟩ := slot_of_ready h rfl
  have hslot := slotAt_withFrame s.fresh_ c f
  rw [hp, hk] at hslot hl
  have hended : Ended (frameTransmitEffect host .none s.fresh_ c) (.mbx p k) .ok (leBytes 8 (mainTime s)) := by
    rw [heff p k hp hk]
    exact ended_endSlot _ ((congrArg Slot.phase hslot).trans hrun)
  refine ⟨_, (exec_frameTransmit h hb).trans (congrArg Host.Outcome.next (inConvoy_ends (s := s.fresh_) hq hn ?_)), hended, ?_⟩
  · rw [hp, hk, hended.1]
    decide
  · rw [setConvoy_out, heff p k hp hk, out_endSlot]
    · rfl
    · exact (congrArg Slot.lostHop hslot).trans hl

theorem frameTransmit_waits (h : Ready 0x030B frameTransmitBudget frameTransmitChecks o s c) (hb : begun s o = false)
    (hq : quotaReached s c.p = false) (hn : (freeNumber s).isSome = true)
    (heff : frameTransmitEffect host .none s.fresh_ c =
      setNet (withFrame s.fresh_ c f) j (fun n => { n with heldTx := n.heldTx ++ [(c.p * 32 + c.k, f)] })) :
    Does (.frameTransmit o ⟨host, none⟩ .none) s (fun t => GoesOn t o ∧ t.out = [] ∧
      (netAt t j).heldTx = (netAt s j).heldTx ++ [(c.p * 32 + c.k, f)]) := by
  obtain ⟨p, k, -, hrun, hp, hk⟩ := slot_of_ready h rfl
  have hslot : slotAt (frameTransmitEffect host .none s.fresh_ c) c.p c.k =
      { slotAt s c.p c.k with inputs := [f], begun := true } := by
    rw [heff]
    exact slotAt_withFrame s.fresh_ c f
  have hphase : (slotAt (frameTransmitEffect host .none s.fresh_ c) c.p c.k).phase = .running := by
    rw [hslot, hp, hk]
    exact hrun
  refine ⟨_, (exec_frameTransmit h hb).trans (congrArg Host.Outcome.next (inConvoy_runs (s := s.fresh_) hq hn hphase)), ?_, ?_, ?_⟩
  · exact goesOn_of_begun h rfl (by rw [hslot]) (by rw [hslot])
  · rw [heff]
    rfl
  · rw [heff, netAt_setNet_self]
    rfl

end

/-! ### Associations -/

/-- The association an ESP_SA_SET gives. -/
def espSaAsked (c : Ctx) : EspSa :=
  ⟨bit (c.u 0x10 1) 0, c.u 4 4, c.u 8 4, c.u 0xC 4, bit (c.u 0x10 1) 1, bit (c.u 0x10 1) 2, bit (c.u 0x10 1) 3, c.u 0x12 2,
    if c.u 1 1 == 0 then c.u 0x18 8 - 1 else c.u 0x18 8, []⟩

theorem netAt_espSaSetEffect (s : State) (c : Ctx) : netAt (espSaSetEffect s c) (c.u 0 1) = if c.u 1 1 == 0
    then { netAt s (c.u 0 1) with espIn := Tbl.set (netAt s (c.u 0 1)).espIn (c.u 2 2) (espSaAsked c) }
    else { netAt s (c.u 0 1) with espOut := Tbl.set (netAt s (c.u 0 1)).espOut (c.u 2 2) (espSaAsked c) } :=
  (netAt_finish ..).trans (netAt_setNet_self ..)

/-- The association a MACSEC_SA_SET gives. -/
def macsecSaAsked (c : Ctx) : MacsecSa :=
  ⟨bit (c.u 6 1) 0, c.u 4 1, c.u 5 1, c.u 8 4, c.u 0xC 4, c.u 0x10 8, slice c.body 0x18 12, c.u 0x24 4, c.u 0x28 8⟩

theorem netAt_macsecSaSetEffect (s : State) (c : Ctx) : netAt (macsecSaSetEffect s c) (c.u 0 1) = if c.u 1 1 = 0
    then { netAt s (c.u 0 1) with macTx := Tbl.set (netAt s (c.u 0 1)).macTx (c.u 3 1) (macsecSaAsked c) }
    else { netAt s (c.u 0 1) with macRx := Tbl.set (netAt s (c.u 0 1)).macRx (c.u 2 1 * 4 + c.u 3 1) (macsecSaAsked c) } :=
  (netAt_finish ..).trans (netAt_setNet_self ..)

/-! ### Enabling and disabling -/

/-- An enabled port has its domain's clock started and held in reset where it had been disabled (R58). -/
theorem enableNet_spec (s : State) (j : Nat) : (enableNet s j).parts = s.parts ∧ (enableNet s j).twt = s.twt ∧
    (netAt (enableNet s j) j).enabled = true ∧
    ((netAt s j).enabled = false → (domain (enableNet s j) (8 + j)).clock = true ∧ (domain (enableNet s j) (8 + j)).inReset = true) := by
  unfold enableNet
  split
  · next h => exact ⟨rfl, rfl, h, fun hd => absurd (h.symm.trans hd) (by decide)⟩
  · refine ⟨rfl, rfl, by rw [netAt_setNet_self], fun _ => ?_⟩
    simp [domain, setNet]

/-- A link that is down has nothing held at its gate, which it had not before. -/
theorem netAt_networkDown (s : State) (j : Nat) : netAt (networkDown s j) j =
    if (netAt s j).linkUp then { netAt s j with linkUp := false, heldTx := [], paused := [] } else netAt s j := by
  unfold networkDown
  cases hup : (netAt s j).linkUp with
  | false => simp [hup]
  | true =>
    simp only [hup, Bool.not_true, Bool.false_eq_true, if_false, if_true]
    rw [netAt_of_nets (raiseAdmin_spec ..).nets, netAt_of_nets (s := setNet s j _)
      (foldl_leaves (g := State.nets) (fun _ _ => nets_endSlot ..) (netAt s j).heldTx _), netAt_setNet_self]

theorem linkUp_networkDown (s : State) (j : Nat) : (netAt (networkDown s j) j).linkUp = false := by
  rw [netAt_networkDown]
  cases hup : (netAt s j).linkUp <;> simp [hup]

/-- A slot with no frame at the gate is no matter of the link. -/
theorem slotAt_networkDown {s : State} {j : Nat} {p k : Fin 32} (h : ∀ x ∈ (netAt s j).heldTx, x.1 ≠ p.val * 32 + k.val) :
    slotAt (networkDown s j) p k = slotAt s p k := by
  unfold networkDown
  dsimp only
  split
  · rfl
  · rw [(raiseAdmin_spec ..).slotAt, slotAt_foldl_endSlot _ _ _ h]
    rfl

theorem disableNet_spec (s : State) (j : Nat) : (netAt (disableNet s j) j).enabled = false ∧
    (netAt (disableNet s j) j).linkUp = false ∧ ∀ p k, slotAt (disableNet s j) p k = slotAt (networkDown s j) p k := by
  have hnet : netAt (disableNet s j) j = { netAt (networkDown s j) j with enabled := false } := by
    have hset := netAt_setNet_self (networkDown s j) j (fun n => { n with enabled := false })
    unfold disableNet
    dsimp only
    split <;> exact hset
  refine ⟨by rw [hnet], by rw [hnet]; exact linkUp_networkDown s j, fun p k => ?_⟩
  unfold disableNet
  dsimp only
  split <;> rfl

/-! ### Telemetry -/

theorem telemetryEffect_off {s : State} {c : Ctx} (list : List Byte) (h : bit (c.u 1 1) 0 = false) : telemetryEffect list s c =
    finish (setNet s (c.u 0 1) (fun n => { n with telemetry := none })) c { status := .ok } := by
  simp only [telemetryEffect, h, Bool.not_false, if_true]

theorem telemetryEffect_on {s : State} {c : Ctx} {list bs : List Byte} (h : bit (c.u 1 1) 0 = true)
    (hr : descReadMeets s c.p (c.desc 0x2C) = none) (hbs : bs = readDesc s c.p (c.desc 0x2C) list)
    (hrows : (exportList bs).any (fun e => (counterRow e.1 e.2).isNone) = false) : ∃ x : Export, x.list = exportList bs ∧
    telemetryEffect list s c =
      finish (setNet s (c.u 0 1) (fun n => { n with telemetry := some x })) c { status := .ok, reads := [bs] } := by
  subst hbs
  unfold telemetryEffect
  simp only [h, hr, hrows, Bool.not_true, Bool.false_eq_true, if_false]
  exact ⟨_, rfl, rfl⟩

/-- A list of at most 80 counters goes out in one datagram. -/
theorem runsOf_single {α : Type} {l : List α} (h0 : 0 < l.length) (h : l.length ≤ 80) : runsOf 80 l.length l = [l] := by
  cases l with
  | nil => simp at h0
  | cons x l =>
    have hrest : ∀ f, runsOf 80 f ([] : List α) = [] := fun f => by cases f <;> rfl
    simp [runsOf, List.take_of_length_le h, List.drop_of_length_le h, hrest]

/-- What every round of a loop leaves of the state it carries along, the loop leaves. -/
theorem foldl_snd_leaves {α β γ : Type} {g : State → α} {f : γ × State → β → γ × State} (h : ∀ r x, g (f r x).2 = g r.2)
    (l : List β) (r : γ × State) : g (l.foldl f r).2 = g r.2 := by
  induction l generalizing r with
  | nil => rfl
  | cons x l ih => rw [List.foldl_cons, ih, h]

theorem nets_readCounter (s : State) (i n : Nat) : (readCounter s i n).2.nets = s.nets := by
  unfold readCounter
  dsimp only
  split <;> rfl

theorem nets_readRecords (s : State) (es : List (Nat × Nat)) : (readRecords s es).2.nets = s.nets :=
  foldl_snd_leaves (γ := List Byte) (g := State.nets) (fun r e => nets_readCounter r.2 e.1 e.2) es ([], s)

theorem exportSeq_sendDatagram (s : State) (j : Nat) (x : Export) (last : Bool) (es : List (Nat × Nat)) :
    (netAt (sendDatagram s j x last es) j).exportSeq = ((netAt s j).exportSeq + 1) % 4294967296 := by
  unfold sendDatagram
  dsimp only
  rw [exportSeq_gateFrame, netAt_setNet_self, netAt_of_nets (nets_readRecords ..)]

/-- A period that ends with the link up sends one datagram for a list of at most 80 counters. -/
theorem telemetryPeriod_sends {s : State} {j : Nat} {x : Export} (h : (netAt s j).telemetry = some x)
    (hup : (netAt s j).linkUp = true) (h0 : 0 < x.list.length) (hmax : x.list.length ≤ 80) :
    telemetryPeriod s j = sendDatagram s j x true x.list := by
  unfold telemetryPeriod
  simp only [h, hup, runsOf_single h0 hmax, Bool.not_true, Bool.false_eq_true, if_false]
  rfl

theorem telemetryPeriod_missed {s : State} {j : Nat} {x : Export} (h : (netAt s j).telemetry = some x)
    (hup : (netAt s j).linkUp = false) : telemetryPeriod s j =
      raiseAdmin (bump s 0x0806 j 32) 0x03C7 false 0 (j + 4294967296 * (netAt s j).exportSeq) := by
  unfold telemetryPeriod
  simp only [h, hup, Bool.not_false, if_true]

/-- Settles O46: a command's frame is sent or waits as the gate finds its priority, the setting commands leave what they were given,
and a port's timers and links change that port alone. -/
theorem networkPortsCarryFrames : Obligations.NetworkPortsCarryFrames := by
  unfold Obligations.NetworkPortsCarryFrames
  refine ⟨?_, fun j s => ⟨?up, ?stays, ?down, ?off, fun x hx => ⟨?missed, ?sent⟩⟩⟩
  · intro o s c j hj
    have hset : ∀ (s : State) (f : NetPort → NetPort) (a : Answer), netAt (finish (setNet s j f) c a) j = f (netAt s j) :=
      fun s f a => (netAt_finish ..).trans (netAt_setNet_self ..)
    refine ⟨?transmit, ?esp, ?macsec, ?configure, ?enable, ?disable, ?telemetry⟩
    case transmit =>
      intro host f h hb hesp hr hq hn hl hf
      refine ⟨fun hs hw hm => ?_, fun hs => ?_⟩
      · exact frameTransmit_sends h hb hq hn hl fun p k hp hk =>
          frameTransmitEffect_sends (s := s.fresh_) hj hesp hr hf hp hk hs hw hm
      · exact frameTransmit_waits h hb hq hn (frameTransmitEffect_waits (s := s.fresh_) hj hesp hr hf hs)
    case esp =>
      intro h
      subst hj
      refine ⟨_, congrArg Host.Outcome.next (runOp_ready _ h), ended_finish_of _ h.1 rfl rfl, espSaAsked c, ?_, rfl, rfl, rfl⟩
      rw [netAt_espSaSetEffect]
      split <;> exact Tbl.get?_set_self ..
    case macsec =>
      intro h
      subst hj
      refine ⟨_, congrArg Host.Outcome.next (runOp_ready _ h), ended_finish_of _ h.1 rfl rfl, macsecSaAsked c, ?_, rfl, rfl, rfl, rfl⟩
      rw [netAt_macsecSaSetEffect]
      split <;> exact Tbl.get?_set_self ..
    case configure =>
      intro h
      subst hj
      refine ⟨_, congrArg Host.Outcome.next (runOp_ready _ h), ended_finish_of _ h.1 rfl rfl, ?_⟩
      rw [hset]
      exact ⟨rfl, rfl, rfl, rfl⟩
    case enable =>
      intro h
      subst hj
      obtain ⟨hparts, htwt, hon, hclock⟩ := enableNet_spec s.fresh_ (c.u 0 1)
      refine ⟨_, congrArg Host.Outcome.next (runOp_ready _ h), ended_finish_of _ h.1 hparts htwt, ?_, fun hd => ?_⟩
      · rw [netAt_finish]
        exact hon
      · rw [domain_finish]
        exact hclock hd
    case disable =>
      intro h hheld
      subst hj
      obtain ⟨p, k, rfl, -, hp, hk⟩ := slot_of_ready h rfl
      rw [hp, hk] at hheld
      obtain ⟨hoff, hdown, hslot⟩ := disableNet_spec s.fresh_ (c.u 0 1)
      have hctx := ctxOf_of_slotAt ((hslot p k).trans (slotAt_networkDown (s := s.fresh_) hheld))
      refine ⟨_, congrArg Host.Outcome.next (runOp_ready _ h), ended_finish _ (hctx.trans h.1), ?_⟩
      rw [netAt_finish]
      exact ⟨hoff, hdown⟩
    case telemetry =>
      intro h
      subst hj
      refine ⟨fun list hbit => ?_, fun list bs hbit hr hbs hrows => ?_⟩
      · refine ⟨_, congrArg Host.Outcome.next ((runOp_ready _ h).trans (telemetryEffect_off list hbit)),
          ended_finish_of _ h.1 rfl rfl, ?_⟩
        rw [hset]
      · obtain ⟨x, hx, he⟩ := telemetryEffect_on (s := s.fresh_) hbit hr hbs hrows
        refine ⟨_, congrArg Host.Outcome.next ((runOp_ready _ h).trans he), ended_finish_of _ h.1 rfl rfl, x, ?_, hx⟩
        rw [hset]
  case up =>
    intro h
    have h' : linkMayRise s.fresh_ j = true := h
    refine ⟨_, congrArg Host.Outcome.next (if_pos h'), ?_⟩
    dsimp only
    rw [netAt_of_nets (raiseAdmin_spec ..).nets, netAt_setNet_self]
  case stays =>
    intro h
    have h' : ¬ linkMayRise s.fresh_ j = true := by
      rw [show linkMayRise s.fresh_ j = false from h]
      decide
    exact congrArg Host.Outcome.next (if_neg h')
  case down =>
    intro h
    have hnet := (netAt_networkDown s.fresh_ j).trans (if_pos h)
    exact ⟨_, rfl, congrArg NetPort.linkUp hnet, congrArg NetPort.heldTx hnet, congrArg NetPort.paused hnet⟩
  case off =>
    intro h
    have h' : (netAt s.fresh_ j).telemetry = none := h
    simp only [exec, execTelemetryPeriod, telemetryPeriod, h']
    rfl
  case missed =>
    intro hup
    refine ⟨_, congrArg Host.Outcome.next (telemetryPeriod_missed (s := s.fresh_) hx hup), ?_, ?_⟩
    · rw [netAt_of_nets (raiseAdmin_spec ..).nets]
      rfl
    · exact ((raiseAdmin_spec ..).counter 0x0806 j).trans (counter_bump_self ..)
  case sent =>
    intro hup h0 hmax
    exact ⟨_, congrArg Host.Outcome.next (telemetryPeriod_sends (s := s.fresh_) hx hup h0 hmax), exportSeq_sendDatagram s.fresh_ ..⟩

end Sys2Proof.Machine
end

section
/-! What events, cancellations and quiesces leave of the host ports, of their functions' configuration and of every partition's
state and binding (R155, R274, R278). -/

namespace Sys2Proof.Machine
open Sys2Proof

/-- A function's configuration, without the pending bit of its vector (R142). -/
def HostFn.configured (f : HostFn) : HostFn := { f with pendingBit := false }

/-- The host ports, their functions' configuration, and every partition's state, port and function. -/
def hostSide (s : State) : Tbl HostPort × (Nat → Nat → HostFn) × (Nat → PartitionState × Nat × Nat) :=
  (s.hosts, fun h n => (hostFn s h n).configured, fun p => ((part s p).state, (part s p).port, (part s p).fn))

theorem hostPort_of_hosts {s t : State} (h : t.hosts = s.hosts) (k : Nat) : hostPort t k = hostPort s k := by
  simp only [hostPort, h]
theorem hosts_of_hostSide {s t : State} (h : hostSide t = hostSide s) : t.hosts = s.hosts := congrArg Prod.fst h
theorem hostFn_of_hostSide {s t : State} (h : hostSide t = hostSide s) (k n : Nat) :
    (hostFn t k n).configured = (hostFn s k n).configured := congrFun (congrFun (congrArg (fun x => x.2.1) h) k) n
theorem part_of_hostSide {s t : State} (h : hostSide t = hostSide s) (p : Nat) :
    ((part t p).state, (part t p).port, (part t p).fn) = ((part s p).state, (part s p).port, (part s p).fn) :=
  congrFun (congrArg (fun x => x.2.2) h) p

theorem hostSide_foldl {β : Type} (f : State → β → State) (l : List β) (s : State)
    (h : ∀ s x, hostSide (f s x) = hostSide s) : hostSide (l.foldl f s) = hostSide s :=
  foldl_leaves h l s

/-! ### Partitions and functions -/

theorem hostSide_setPart (s : State) (p : Nat) (f : Partition → Partition)
    (hf : ∀ q, ((f q).state, (f q).port, (f q).fn) = (q.state, q.port, q.fn)) : hostSide (setPart s p f) = hostSide s := by
  refine Prod.ext rfl (Prod.ext rfl (funext fun q => ?_))
  by_cases h : q = p
  · subst h
    simp only [hostSide, part_setPart_self, hf]
  · simp only [hostSide, part_setPart_ne _ _ h]
@[simp] theorem hostSide_setSlot (s : State) (p k f) : hostSide (setSlot s p k f) = hostSide s :=
  hostSide_setPart _ _ _ fun _ => rfl
@[simp] theorem hostSide_dropSlot (s : State) (p k) : hostSide (dropSlot s p k) = hostSide s :=
  hostSide_setPart _ _ _ fun _ => rfl

theorem hostSide_setFn (s : State) (h n : Nat) (f : HostFn → HostFn) (hf : ∀ x, (f x).configured = x.configured) :
    hostSide (setFn s h n f) = hostSide s := by
  refine Prod.ext rfl (Prod.ext (funext fun k => funext fun m => ?_) rfl)
  by_cases he : k * 32 + m = h * 32 + n
  · simp [hostSide, hostFn, setFn, he, hf]
  · simp [hostSide, hostFn, setFn, he]

/-! ### Events -/

@[simp] theorem hostSide_sendMsix (s : State) (h n : Nat) : hostSide (sendMsix s h n) = hostSide s := by
  unfold sendMsix
  split
  · rfl
  · exact hostSide_setFn _ _ _ _ fun _ => rfl
@[simp] theorem hostSide_raiseMsix (s : State) (p : Nat) : hostSide (raiseMsix s p) = hostSide s := by
  unfold raiseMsix
  dsimp only
  split
  · rfl
  · split
    · rw [hostSide_sendMsix]
      exact hostSide_setPart _ _ _ fun _ => rfl
    · exact hostSide_setPart _ _ _ fun _ => rfl
theorem hostSide_setEvents (s : State) (p : Nat) (r : Partition → EventRing) :
    hostSide (setPart s p fun q => { q with events := r q }) = hostSide s :=
  hostSide_setPart _ _ _ fun _ => rfl
theorem hostSide_writeEntry (s : State) (p : Nat) (e : Event) : hostSide (writeEntry s p e) = hostSide s := by
  unfold writeEntry
  dsimp only
  split
  · rw [hostSide_raiseMsix, hostSide_setEvents]
    rfl
  · rw [hostSide_setEvents]
    rfl
theorem hostSide_drainFuel (f : Nat) (s : State) (p : Nat) : hostSide (drainFuel f s p) = hostSide s := by
  induction f generalizing s with
  | zero => rfl
  | succ f ih =>
    unfold drainFuel
    dsimp only
    split
    · split
      · split
        · rfl
        · rw [ih, hostSide_writeEntry, hostSide_setEvents]
      · rw [ih, hostSide_writeEntry, hostSide_setEvents]
    · rfl
theorem hostSide_postEvent (s : State) (p : Nat) (e : Event) : hostSide (postEvent s p e) = hostSide s := by
  unfold postEvent
  split
  · rfl
  · exact (hostSide_drainFuel ..).trans (hostSide_setPart _ _ _ fun _ => rfl)
@[simp] theorem hostSide_raiseAdmin (s : State) (code fault subject detail) :
    hostSide (raiseAdmin s code fault subject detail) = hostSide s := hostSide_postEvent ..
@[simp] theorem hostSide_raiseBoth (s : State) (p code fault detail) :
    hostSide (raiseBoth s p code fault detail) = hostSide s := by
  unfold raiseBoth
  dsimp only
  split
  · exact hostSide_raiseAdmin ..
  · exact (hostSide_postEvent ..).trans (hostSide_raiseAdmin ..)

/-! ### Commands that are withdrawn -/

theorem ParcelsOnly.hostSide {s t : State} (h : ParcelsOnly s t) : hostSide t = hostSide s := by
  obtain ⟨⟨_, _, _, _, _, _, rfl⟩, -⟩ := h
  rfl
@[simp] theorem hostSide_cancelConvoy (s : State) (n cause r) : hostSide (cancelConvoy s n cause r) = hostSide s := by
  have hfree : ∀ (l : List (Nat × List Byte)) t,
      hostSide (l.foldl (fun s e => freeEntries s (e.1 / 16) (e.1 % 16) 1) t) = hostSide t :=
    fun l t => hostSide_foldl _ l t fun _ _ => rfl
  have hdrop : ∀ t g, hostSide (dropWaitingParcels t n g) = hostSide t := fun _ _ => rfl
  have hbegun : ∀ t i, hostSide (startSweeps (bump t 0x0201 i 32) n true) = hostSide t := fun _ _ => rfl
  have hsent : ∀ (l : List (Nat × Nat)) t p g,
      hostSide (l.foldl (fun s e => sendConvoyControl s e.1 0x03 n p g 0) t) = hostSide t :=
    fun l t p g => hostSide_foldl _ l t fun _ _ => (sendConvoyControl_spec ..).hostSide
  have htold : ∀ (l : List (Nat × Nat × Nat)) t p, hostSide (l.foldl (fun s e =>
      raiseAdmin (bump s 0x0606 (e.2.2 - 1) 32) 0x0206 false p (e.2.2 - 1 + 256 * 0x04 + 4294967296 * e.1)) t) = hostSide t :=
    fun l t p => hostSide_foldl _ l t fun _ _ => (hostSide_raiseAdmin ..).trans rfl
  unfold cancelConvoy
  dsimp only
  split
  · rfl
  · change hostSide (match (convoy s n).owner with | none => _ | some o => _) = _
    split
    · rw [htold, hsent, hdrop, hbegun, hfree]
    · rw [hostSide_setSlot, htold, hsent, hdrop, hbegun, hfree]

theorem hostSide_dropWork (s : State) (d n) (f : Nat → Partition → Partition)
    (hf : ∀ p q, ((f p q).state, (f p q).port, (f p q).fn) = (q.state, q.port, q.fn)) :
    hostSide { s with driveCmds := d, nets := n, parts := Tbl.mapAll s.parts f } = hostSide s := by
  refine Prod.ext rfl (Prod.ext rfl (funext fun p => ?_))
  simp only [hostSide, part, Tbl.getD, Tbl.get?_mapAll]
  cases Tbl.get? s.parts p <;> simp [hf]

@[simp] theorem hostSide_withdraw (s : State) (p k cause) : hostSide (withdraw s p k cause) = hostSide s := by
  have hrest : ∀ t : State, hostSide (dropOffload (dropOrigins t p k) (p * 32 + k)) = hostSide t := fun _ => rfl
  unfold withdraw
  dsimp only
  rw [apply_ite hostSide, show ∀ t f, hostSide (setBoot t f) = hostSide t from fun _ _ => rfl, ite_self]
  refine Eq.trans (hostSide_dropWork (dropOffload _ (p * 32 + k)) _ _ _ ?_) ?_
  · exact fun _ _ => rfl
  rw [hrest]
  split
  · rfl
  · exact hostSide_cancelConvoy ..

/-! ### Quiesce -/

@[simp] theorem hostSide_quiesceSlot (s : State) (p k : Nat) : hostSide (quiesceSlot s p k) = hostSide s := by
  unfold quiesceSlot
  dsimp only
  split
  · simp
  · split <;> simp

/-- A quiesce leaves every port and function, and of the partitions it changes the state of one that is Active. -/
theorem hostSide_quiesce (s : State) (p cause : Nat) : hostSide (quiesce s p cause) =
    ((hostSide s).1, (hostSide s).2.1, fun q => if q = p ∧ (part s q).state = .active
      then (.quiesced, (part s q).port, (part s q).fn) else (hostSide s).2.2 q) := by
  have hslots : hostSide ((List.range 32).foldl (fun s k => quiesceSlot s p k) s) = hostSide s :=
    hostSide_foldl _ _ _ fun _ _ => hostSide_quiesceSlot ..
  unfold quiesce
  split
  · next ha =>
    generalize (List.range 32).foldl (fun s k => quiesceSlot s p k) s = u at hslots
    have hhosts : u.hosts = s.hosts := hosts_of_hostSide hslots
    have hfns : ∀ h n, (hostFn u h n).configured = (hostFn s h n).configured := hostFn_of_hostSide hslots
    refine (hostSide_raiseBoth ..).trans ?_
    refine Prod.ext hhosts (Prod.ext (funext fun h => funext (hfns h)) (funext fun q => ?_))
    have hq := part_of_hostSide hslots q
    by_cases h : q = p
    · subst h
      simp only [hostSide, part_setPart_self, ha, and_self, if_true]
      exact congrArg (Prod.mk PartitionState.quiesced) (congrArg Prod.snd hq)
    · simp only [hostSide, part_setPart_ne _ _ h, h, false_and, if_false]
      exact hq
  · next ha =>
    refine (hostSide_setPart _ _ _ ?_).trans (Prod.ext rfl (Prod.ext rfl (funext fun q => (if_neg ?_).symm)))
    · exact fun _ => rfl
    rintro ⟨rfl, hq⟩
    exact absurd (ha.symm.trans hq) (by decide)
  · next ha _ =>
    refine Prod.ext rfl (Prod.ext rfl (funext fun q => (if_neg ?_).symm))
    rintro ⟨rfl, hq⟩
    exact ha hq

theorem state_quiesce (s : State) (p cause q : Nat) : (part (quiesce s p cause) q).state =
    if q = p ∧ (part s q).state = .active then .quiesced else (part s q).state := by
  have h := congrArg (fun x => (x.2.2 q).1) (hostSide_quiesce s p cause)
  refine Eq.trans h ?_
  dsimp only
  split <;> rfl

/-- An Active partition that is met is Quiesced, and stays it. -/
theorem state_foldl_quiesce (cause p : Nat) (ns : List Nat) (s : State)
    (h : (part s p).state = .quiesced ∨ ((part s p).state = .active ∧ p ∈ ns)) :
    (part (ns.foldl (fun s p => quiesce s p cause) s) p).state = .quiesced := by
  induction ns generalizing s with
  | nil => simpa using h
  | cons n ns ih =>
    refine ih (quiesce s n cause) ?_
    rw [state_quiesce]
    rcases h with h | ⟨h, hmem⟩
    · simp [h]
    · by_cases hn : p = n
      · subst hn
        exact .inl (if_pos ⟨rfl, h⟩)
      · exact .inr ⟨by simp [hn, h], (List.mem_cons.mp hmem).resolve_left hn⟩

/-! ### Quiescing the partitions bound to certain functions -/

theorem hostSide_quiesceWhere (s : State) (f : Nat → Nat → Bool) (cause : Nat) :
    (hostSide (quiesceWhere s f cause)).1 = (hostSide s).1 ∧ (hostSide (quiesceWhere s f cause)).2.1 = (hostSide s).2.1 :=
  Prod.mk.inj (foldl_leaves (g := fun s => ((hostSide s).1, (hostSide s).2.1)) (fun s p => by rw [hostSide_quiesce])
    (Tbl.keysWhere s.parts fun _ q => f q.port q.fn) s)

theorem hostPort_quiesceWhere (s : State) (f : Nat → Nat → Bool) (cause h : Nat) :
    hostPort (quiesceWhere s f cause) h = hostPort s h :=
  hostPort_of_hosts (hostSide_quiesceWhere s f cause).1 h

/-- A function keeps its configuration. -/
theorem configured_quiesceWhere (s : State) (f : Nat → Nat → Bool) (cause h n : Nat) :
    (hostFn (quiesceWhere s f cause) h n).configured = (hostFn s h n).configured :=
  congrFun (congrFun (hostSide_quiesceWhere s f cause).2 h) n
theorem bme_quiesceWhere (s : State) (f : Nat → Nat → Bool) (cause h n : Nat) :
    (hostFn (quiesceWhere s f cause) h n).bme = (hostFn s h n).bme := by
  obtain ⟨hbme, -⟩ := HostFn.mk.inj (configured_quiesceWhere s f cause h n)
  exact hbme
theorem flr_quiesceWhere (s : State) (f : Nat → Nat → Bool) (cause h n : Nat) :
    (hostFn (quiesceWhere s f cause) h n).flr = (hostFn s h n).flr := by
  obtain ⟨-, -, -, -, -, hflr⟩ := HostFn.mk.inj (configured_quiesceWhere s f cause h n)
  exact hflr

/-- An Active partition bound to one of the functions is Quiesced. -/
theorem quiesced_quiesceWhere {s : State} {f : Nat → Nat → Bool} {p : Nat} (ha : (part s p).state = .active)
    (hf : f (part s p).port (part s p).fn = true) (cause : Nat) : (part (quiesceWhere s f cause) p).state = .quiesced := by
  refine state_foldl_quiesce cause p _ s (.inr ⟨ha, ?_⟩)
  cases hp : Tbl.get? s.parts p with
  | none => simp [part, Tbl.getD, hp, Partition.absent] at ha
  | some q =>
    have hq : part s p = q := by simp [part, Tbl.getD, hp]
    rw [hq] at hf
    exact List.mem_map.mpr ⟨(p, q), List.mem_filter.mpr ⟨Tbl.mem_of_get? hp, hf⟩, rfl⟩

end Sys2Proof.Machine
end

section
/-! ### O22: the host ports and functions change, and the partitions bound on them are Quiesced -/

namespace Sys2Proof.Machine
open Sys2Proof

/-! Functions -/

theorem hostFn_setFn_ne (s : State) (h : Nat) {m n : Nat} (f : HostFn → HostFn) (hmn : n ≠ m) :
    hostFn (setFn s h m f) h n = hostFn s h n := by
  simp [hostFn, setFn, hmn]

/-- The reset of functions writes nothing but functions. -/
theorem resetFns_fns (s : State) (h : Nat) (f : Nat → Bool) (g : HostFn) : ∃ x, resetFns s h f g = { s with fns := x } := by
  have hall : ∀ (l : List Nat) (s : State),
      ∃ x, l.foldl (fun s fn => if f fn then setFn s h fn (fun _ => g) else s) s = { s with fns := x } := by
    intro l
    induction l with
    | nil => exact fun s => ⟨s.fns, rfl⟩
    | cons n l ih =>
      intro s
      obtain ⟨x, hx⟩ := ih (if f n then setFn s h n (fun _ => g) else s)
      refine ⟨x, hx.trans ?_⟩
      split <;> rfl
  exact hall _ s

/-- A function that is reset stands as the reset leaves it. -/
theorem hostFn_resetFns {f : Nat → Bool} {n : Nat} (hn : n < 32) (hf : f n = true) (s : State) (h : Nat) (g : HostFn) :
    hostFn (resetFns s h f g) h n = g := by
  have hall : ∀ (l : List Nat) (s : State), n ∈ l ∨ hostFn s h n = g →
      hostFn (l.foldl (fun s fn => if f fn then setFn s h fn (fun _ => g) else s) s) h n = g := by
    intro l
    induction l with
    | nil => exact fun s hs => hs.resolve_left List.not_mem_nil
    | cons m l ih =>
      intro s hs
      rw [List.foldl_cons]
      refine ih _ ?_
      by_cases hm : n = m
      · subst hm
        rw [if_pos hf]
        exact .inr (hostFn_setFn_self ..)
      · refine hs.imp (fun hmem => (List.mem_cons.mp hmem).resolve_left hm) fun hg => ?_
        split
        · exact (hostFn_setFn_ne _ _ _ hm).trans hg
        · exact hg
  exact hall _ s (.inl (List.mem_range.mpr hn))

/-! Ports -/

theorem hostPort_raiseAdmin (s : State) (code fault subject detail h) :
    hostPort (raiseAdmin s code fault subject detail) h = hostPort s h :=
  hostPort_of_hosts (hosts_of_hostSide (hostSide_raiseAdmin ..)) h
theorem state_raiseAdmin (s : State) (code fault subject detail p) :
    (part (raiseAdmin s code fault subject detail) p).state = (part s p).state :=
  congrArg Prod.fst (part_of_hostSide (hostSide_raiseAdmin ..) p)
theorem hostPort_grantReady (s : State) (cls n h) : hostPort (grantReady s cls n) h = hostPort s h := by
  unfold grantReady
  split <;> rfl

/-- The reset of a port leaves the ports, and Quiesces every Active partition bound on it. -/
theorem portReset_spec (s : State) (h : Nat) : hostPort (portReset s h) h = hostPort s h ∧
    ∀ p, (part s p).state = .active → (part s p).port = h → (part (portReset s h) p).state = .quiesced := by
  obtain ⟨x, hx⟩ := resetFns_fns s h (fun _ => true) HostFn.init
  unfold portReset
  rw [hx]
  refine ⟨hostPort_quiesceWhere .., fun p ha hp => quiesced_quiesceWhere ?_ ?_ _⟩
  · exact ha
  · exact beq_iff_eq.mpr hp

/-- A reset of a port, with its report: what the port was set to stands, and every Active partition bound on it is Quiesced. -/
theorem portReset_reported {s t : State} {h : Nat} {f : HostPort → HostPort} (ht : t.hosts = (setHost s h f).hosts)
    (hparts : t.parts = s.parts) (code subject detail) :
    hostPort (raiseAdmin (portReset t h) code false subject detail) h = f (hostPort s h) ∧
    ∀ p, (part s p).state = .active → (part s p).port = h →
      (part (raiseAdmin (portReset t h) code false subject detail) p).state = .quiesced := by
  obtain ⟨hport, hquiet⟩ := portReset_spec t h
  have hpart : ∀ p, part t p = part s p := fun p => by simp only [part, hparts]
  rw [hostPort_raiseAdmin, hport, hostPort_of_hosts ht h]
  refine ⟨hostPort_setHost_self .., fun p ha hp => ?_⟩
  rw [state_raiseAdmin]
  exact hquiet p (by rw [hpart, ha]) (by rw [hpart, hp])

theorem perstRelease_spec {s : State} {h : Nat} (hmain : s.boot.mainOn = true) (hp : (hostPort s h).perst = true)
    (hout : hostOut s h = false) :
    (hostPort (perstRelease s h) h).perst = false ∧ (hostPort (perstRelease s h) h).training = true ∧
    (domain (perstRelease s h) (5 + h)).clock = true := by
  have hstay : (!(setHost s h (fun p => { p with perst := false })).boot.mainOn ||
      hostOut (setHost s h (fun p => { p with perst := false })) h) = false :=
    (congrArg₂ (fun a b => !a || b) hmain hout).trans rfl
  have hnot : (!(hostPort s h).perst) = false := congrArg not hp
  unfold perstRelease
  rw [hnot]
  dsimp only
  rw [hstay]
  simp only [Bool.false_eq_true, if_false, hostPort_setHost_self]
  refine ⟨?_, trivial, ?_⟩
  · change (hostPort (setHost s h fun p => { p with perst := false }) h).perst = false
    rw [hostPort_setHost_self]
  · change (domain (setDomain s (5 + h) fun d => { d with clock := true, inReset := true }) (5 + h)).clock = true
    rw [domain_setDomain_self]

theorem perstAssert_spec {s : State} {h : Nat} (hmain : s.boot.mainOn = true) (hp : (hostPort s h).perst = false) :
    hostPort (perstAssert s h) h = HostPort.init ∧
    ∀ p, (part s p).state = .active → (part s p).port = h → (part (perstAssert s h) p).state = .quiesced := by
  have hon : ¬ (!(setHost s h (fun _ => HostPort.init)).boot.mainOn) = true := by simp [hmain]
  unfold perstAssert
  rw [if_neg (by simp [hp])]
  dsimp only
  rw [if_neg hon]
  generalize hu : setDomain (setHost s h fun _ => HostPort.init) (5 + h) _ = u
  have hhosts : u.hosts = (setHost s h fun _ => HostPort.init).hosts := (congrArg State.hosts hu).symm
  have hparts : u.parts = s.parts := (congrArg State.parts hu).symm
  exact portReset_reported hhosts hparts ..

theorem linkDown_spec {s : State} {h : Nat} (hup : (hostPort s h).linkUp = true) (cause : Nat) :
    (hostPort (linkDown s h cause) h).linkUp = false ∧
    ∀ p, (part s p).state = .active → (part s p).port = h → (part (linkDown s h cause) p).state = .quiesced := by
  unfold linkDown
  rw [if_neg (by simp [hup])]
  obtain ⟨hport, hquiet⟩ := portReset_reported (s := s) (h := h) (f := fun p => { HostPort.init with
    perst := false, training := true, aerFunction := p.aerFunction, aerStatus := p.aerStatus }) rfl rfl 0x03C2 0 (h + 16 * cause)
  exact ⟨congrArg HostPort.linkUp hport, hquiet⟩

/-! Functions of a port -/

theorem functionReset_spec {s : State} {h n : Nat} (hn : n < 32) (hp : fnPresent s h n = true) (hf : (hostFn s h n).flr = false) :
    (hostFn (functionReset s h n) h n).flr = true ∧ (hostFn (functionReset s h n) h n).bme = false ∧
    ∀ p, (part s p).state = .active → (part s p).port = h → (part s p).fn = n →
      (part (functionReset s h n) p).state = .quiesced := by
  have hparts : (if n = 0 then dropVfs s h else s).parts = s.parts := by
    obtain ⟨x, hx⟩ := resetFns_fns s h (fun fn => decide (0 < fn)) HostFn.init
    unfold dropVfs
    rw [hx]
    split <;> rfl
  unfold functionReset
  rw [if_neg (by simp [hp, hf])]
  dsimp only
  generalize (if n = 0 then dropVfs s h else s) = u at hparts
  have hreset := hostFn_resetFns (f := fun i => i == n) hn (beq_self_eq_true n) u h { HostFn.init with flr := true }
  obtain ⟨x, hx⟩ := resetFns_fns u h (fun i => i == n) { HostFn.init with flr := true }
  rw [hx] at hreset ⊢
  rw [flr_quiesceWhere, bme_quiesceWhere, hreset]
  refine ⟨rfl, rfl, fun p ha hport hfn => ?_⟩
  have hq : part { u with fns := x } p = part s p := congrArg (fun t => Tbl.getD t p Partition.absent) hparts
  exact quiesced_quiesceWhere (by rw [hq, ha]) (by simp [hq, hport, hfn]) _

theorem disableFn_busMaster {s : State} {h n : Nat} (hb : (hostFn s h n).bme = true) :
    (hostFn (disableFn s h n .busMasterCleared) h n).bme = false ∧
    ∀ p, (part s p).state = .active → (part s p).port = h → (part s p).fn = n →
      (part (disableFn s h n .busMasterCleared) p).state = .quiesced := by
  simp only [disableFn, if_pos hb]
  refine ⟨?_, fun p ha hport hfn => quiesced_quiesceWhere ?_ ?_ _⟩
  · rw [bme_quiesceWhere, hostFn_setFn_self]
  · exact ha
  · rw [show part (setFn s h n fun f => { f with bme := false }) p = part s p from rfl, hport, hfn, beq_self_eq_true,
      beq_self_eq_true]
    rfl

theorem bme_sendPending (s : State) (h n : Nat) : (hostFn (sendPending s h n) h n).bme = (hostFn s h n).bme := by
  unfold sendPending
  dsimp only
  split
  · change (hostFn (setFn s h n fun f => { f with pendingBit := false }) h n).bme = _
    rw [hostFn_setFn_self]
  · rfl

/-! Failed host reads -/

theorem dmaReadFailure_once {s : State} {p k : Nat} (hr : (slotAt s p k).phase = .running)
    (hc : fnCanSend s (part s p).port (part s p).fn = true) (poisoned : Bool) :
    (slotAt (dmaReadFailure s p k poisoned false) p k).phase = .running ∧
    (slotAt (dmaReadFailure s p k poisoned false) p k).lower = true := by
  simp only [dmaReadFailure, hr, hc, bne_self_eq_false, Bool.false_eq_true, if_false, Bool.not_true, Bool.or_false,
    slotAt_setSlot_self]
  exact ⟨hr, trivial⟩

theorem dmaReadFailure_twice {s : State} {p k : Nat} (hr : (slotAt s p k).phase = .running)
    (hc : fnCanSend s (part s p).port (part s p).fn = true) (poisoned : Bool) :
    ∃ e, (slotAt (dmaReadFailure s p k poisoned true) p k).ending = some e ∧
      e.status = if poisoned = true then .integrity else .absent := by
  simp only [dmaReadFailure, hr, hc, bne_self_eq_false, Bool.false_eq_true, if_false, Bool.true_or, if_true, Bool.and_true]
  refine ending_endFromOutside ?_ _ ?_
  · exact hr
  cases poisoned <;> decide

/-- Settles O22: a port's reset and its loss of link are one reset of its functions, and every one of these effects quiesces
the partitions bound to what it takes away. -/
theorem hostPortsAndFunctionsReset : Obligations.HostPortsAndFunctionsReset := by
  refine ⟨fun h s hmain => ⟨?release, ?ready, ?down, ?assert, ?aer⟩,
    fun h fn s hp hf => ⟨?flr, ?disabled, ?busMaster, ?numVfs⟩, fun h fn s hf => ?complete,
    fun p k poisoned s hr hc => ⟨?once, ?twice⟩⟩
  case release => exact fun hp hout => ⟨_, rfl, perstRelease_spec (s := s.fresh_) hmain hp hout⟩
  case ready =>
    intro w r htr hp hout
    have hgo : (!(hostPort s h).training || (hostPort s h).perst || !s.boot.mainOn || hostOut s h) = false := by
      simp [htr, hp, hmain, hout]
    refine ⟨_, congrArg Host.Outcome.next (if_neg (by rw [hgo]; decide)), ?_⟩
    dsimp only
    rw [hostPort_raiseAdmin, hostPort_grantReady, hostPort_setHost_self]
    exact ⟨rfl, rfl, rfl⟩
  case down => exact fun cause hup => ⟨_, rfl, linkDown_spec (s := s.fresh_) hup _⟩
  case assert =>
    intro hp
    obtain ⟨hport, hquiet⟩ := perstAssert_spec (s := s.fresh_) hmain hp
    exact ⟨_, rfl, congrArg HostPort.perst hport, congrArg HostPort.linkUp hport, hquiet⟩
  case aer =>
    intro fn status hup
    refine ⟨_, congrArg Host.Outcome.next (if_neg (by rw [hup]; decide)), ?_⟩
    dsimp only
    rw [hostPort_raiseAdmin, hostPort_setHost_self]
    exact ⟨rfl, rfl⟩
  case flr => exact ⟨_, rfl, functionReset_spec (s := s.fresh_) fn.isLt hp hf⟩
  case disabled =>
    intro hb
    exact ⟨_, congrArg Host.Outcome.next (if_pos (by rw [hp, hf]; decide)), disableFn_busMaster (s := s.fresh_) hb⟩
  case busMaster =>
    refine ⟨_, congrArg Host.Outcome.next (if_pos (by rw [hp, hf]; decide)), ?_⟩
    exact (bme_sendPending ..).trans (congrArg HostFn.bme (hostFn_setFn_self ..))
  case numVfs =>
    intro n h0 hvf
    refine ⟨_, congrArg Host.Outcome.next (if_pos (by rw [hp, hf]; decide)), ?_⟩
    have hvf' : (hostPort s.fresh_ h).vfEnable = false := hvf
    simp [configure, h0, hvf']
  case complete =>
    exact ⟨_, congrArg Host.Outcome.next (if_pos hf), rfl, congrArg HostFn.flr (hostFn_setFn_self ..)⟩
  case once => exact ⟨_, rfl, dmaReadFailure_once (s := s.fresh_) hr hc poisoned⟩
  case twice => exact ⟨_, rfl, dmaReadFailure_twice (s := s.fresh_) hr hc poisoned⟩

end Sys2Proof.Machine
end

section
/-! A network port that holds a priority of no PFC frame paused: when its buffer empties, the count of that priority's pauses
(R284) has the key of the count of the release timer's expiries on port 0 (R314). -/

namespace Sys2Proof.Machine
open Sys2Proof

/-- A priority whose pauses by port 0 are counted under the key of port 0's release timer. Every priority is below 8 (R284). -/
def strayPriority : Nat := counterKey 0x0904 0 - counterKey 0x0805 0

/-- A frame of one byte that is resolved to be delivered nowhere. -/
def strayFrame : RxFrame := ⟨0, [0], 0, false, none, false, some ⟨[], false, 0, 0, 0, 0, 0, none, none⟩⟩

/-- Port 0 uses flow control and holds the stray priority paused; its release timer runs, and the frame waits to be released. -/
def strayPauseState : State :=
  { State.reset with
    nets := [(0, { NetPort.init with flow := 1, used := 1, xoff := [strayPriority] })]
    cls := { Classifier.init with ports := [(0, { ClsPort.init with frames := [(0, strayFrame)], timer := some 0 })] } }

/-- No expiry of the release timer was counted before this one; after it two are. -/
theorem strayPauseState_reorderReleaseTimeout : counter strayPauseState 0x0904 0 = 0 ∧
    ∃ t, exec (.reorderReleaseTimeout 0) strayPauseState = .next t ∧ counter t 0x0904 0 = 2 :=
  ⟨rfl, _, rfl, by decide +kernel⟩

/-- Refutes O48: the expiry is counted once, and the frame that is then released empties the port's buffer, which ends the pause
and counts it under the same key, since the priority paused is none of a frame. -/
theorem not_framesAreReceivedClassifiedAndReleased : ¬ Obligations.FramesAreReceivedClassifiedAndReleased := by
  unfold Obligations.FramesAreReceivedClassifiedAndReleased
  intro h
  obtain ⟨-, -, timer, -⟩ := h 0 strayPauseState
  obtain ⟨t, ht, -, counted⟩ := timer 0 (0, strayFrame) rfl rfl
  obtain ⟨before, u, hu, after⟩ := strayPauseState_reorderReleaseTimeout
  obtain rfl : u = t := Host.Outcome.next.inj (hu.symm.trans ht)
  have one : counter u 0x0904 0 = satAdd 32 (counter strayPauseState 0x0904 0) 1 := counted
  rw [before, after] at one
  exact absurd one (by decide)

end Sys2Proof.Machine
end

section
/-! The exact-match tables under a change of one entry, and what the end of a request leaves of the classifier and of a partition's
receive rings (R306, R307, R483). -/

namespace Sys2Proof.Machine
open Sys2Proof

theorem Tbl.isSome_get?_of_mem {α : Type} {t : Tbl α} {k : Nat} {v : α} (h : (k, v) ∈ t) : (Tbl.get? t k).isSome = true := by
  induction t with
  | nil => exact absurd h List.not_mem_nil
  | cons e t ih =>
    obtain ⟨k', v'⟩ := e
    unfold Tbl.get?
    split
    · rfl
    · next hk =>
      refine ih ((List.mem_cons.mp h).resolve_left fun he => hk ?_)
      exact congrArg Prod.fst he

/-- A request that passes every check finds its opcode's own resource free. -/
theorem notBusy_of_verdict_none {a b : Checks} (h : (a.both b).verdict = none) : b.busy = false := by
  unfold Checks.verdict at h
  split_ifs at h
  simp_all [Checks.both]

/-! ### The end of a request -/

@[simp] theorem cls_finish (s : State) (c : Ctx) (a : Answer) : (finish s c a).cls = s.cls := by
  rw [(finish_reporting s c a).1]
  rfl

/-- A ready request that works on the classifier alone ends with its answer, and the classifier stands as the effect left it. -/
theorem runOp_ends_onCls {op : Nat} {bop : State → Ctx → Nat} {chk : State → Ctx → Checks} {o : Origin} {s : State} {c : Ctx}
    {eff : State → Ctx → State} {x : Classifier} {a : Answer} (h : Ready op bop chk o s c)
    (he : eff s.fresh_ c = finish { s.fresh_ with cls := x } c a) :
    Ended (runOp op o s bop chk eff) o a.status a.result ∧ (runOp op o s bop chk eff).cls = x := by
  rw [runOp_ready eff h, he]
  exact ⟨ended_finish_of a h.1 rfl rfl, cls_finish ..⟩

/-- A ready request that sets what the classifier holds of one port ends with its answer, and the setting stands. -/
theorem runOp_ends_onClsPort {op : Nat} {bop : State → Ctx → Nat} {chk : State → Ctx → Checks} {o : Origin} {s : State} {c : Ctx}
    {eff : State → Ctx → State} {j : Nat} {f : ClsPort → ClsPort} {a : Answer} (h : Ready op bop chk o s c)
    (he : eff s.fresh_ c = finish (setClsPort s.fresh_ j f) c a) :
    Ended (runOp op o s bop chk eff) o a.status a.result ∧ clsPort (runOp op o s bop chk eff) j = f (clsPort s j) := by
  obtain ⟨hend, hcls⟩ := runOp_ends_onCls h he
  refine ⟨hend, ?_⟩
  rw [clsPort, hcls]
  exact clsPort_setClsPort_self s.fresh_ j f

/-- A ready request that sets or takes away a receive ring of its partition ends with its answer, and the ring stands so. -/
theorem runOp_ends_onRing {op : Nat} {bop : State → Ctx → Nat} {chk : State → Ctx → Checks} {o : Origin} {s : State} {c : Ctx}
    {eff : State → Ctx → State} {p r : Nat} {x : Option RxRing} {a : Answer} (h : Ready op bop chk o s c)
    (he : eff s.fresh_ c = finish (setRing s.fresh_ p r x) c a) :
    Ended (runOp op o s bop chk eff) o a.status a.result ∧ Tbl.get? (part (runOp op o s bop chk eff) p).rings r = x := by
  have hctx : ctxOf (setRing s.fresh_ p r x) o = some c :=
    (ctxOf_setPart s.fresh_ p _ (fun q => by cases x <;> rfl) o).trans ((ctxOf_fresh s o).trans h.1)
  rw [runOp_ready eff h, he]
  refine ⟨ended_finish a hctx, part_finish_setPart s.fresh_ p _ c a (fun q => Tbl.get? q.rings r) ?_⟩
  cases x with
  | none => exact Tbl.get?_erase_self ..
  | some x => exact Tbl.get?_set_self ..

/-! ### Entries -/

/-- The classifier with an entry at a slot of the tables and of their shadow. -/
def Classifier.withEntry (x : Classifier) (n : Nat) (e : Entry) : Classifier := { x with
  entries := Tbl.set x.entries n e, shadow := Tbl.set x.shadow n e }

/-- The classifier after the moves along a chain of slots. -/
def Classifier.withMoves (x : Classifier) (chain : List Nat) : Classifier := { x with
  entries := moveChain x.entries chain, shadow := moveChain x.shadow chain }

/-- The classifier with another action for the entry at a slot. -/
def Classifier.withAction (x : Classifier) (n : Nat) (action : List Byte) : Classifier := { x with
  entries := Tbl.mapAll x.entries (fun k e => if k = n then { e with action := action } else e)
  shadow := Tbl.mapAll x.shadow (fun k e => if k = n then { e with action := action } else e) }

/-- An insert puts its entry in a slot, after the moves that freed it where no candidate was free. -/
theorem insertEntry_puts {s t : State} {table n : Nat} {e : Entry} (h : insertEntry s table e = some (n, t)) :
    t = { s with cls := s.cls.withEntry n e } ∨ ∃ chain, t = { s with cls := (s.cls.withMoves chain).withEntry n e } := by
  unfold insertEntry at h
  dsimp only at h
  split at h
  · cases h
    exact .inl rfl
  · split at h
    · cases h
    · next chain _ =>
      cases h
      exact .inr ⟨chain, rfl⟩

/-- The first free candidate takes the entry. -/
theorem insertEntry_free {s : State} {table m : Nat} {e : Entry}
    (h : (candidateSlots s table e.profile e.key).find? (slotFree s) = some m) :
    insertEntry s table e = some (m, { s with cls := s.cls.withEntry m e }) := by
  unfold insertEntry
  dsimp only
  rw [h]
  rfl

/-- The effect of an insert that its checks let through. -/
theorem entryInsertEffect_eq {s : State} {c : Ctx} {e : Entry} (he : e = ⟨c.u 1 1, entryKey c 20, slice c.body 4 16⟩)
    (h : (insertEntry s (c.u 0 1) e).isNone = false) :
    ∃ n x, insertEntry s (c.u 0 1) e = some (n, { s with cls := Classifier.withEntry x n e }) ∧
      entryInsertEffect s c =
        finish { s with cls := x.withEntry n e } c { status := .ok, result := leBytes 1 (n / 65536 % 4) } := by
  subst he
  unfold entryInsertEffect
  cases hi : insertEntry s (c.u 0 1) ⟨c.u 1 1, entryKey c 20, slice c.body 4 16⟩ with
  | none => simp [hi] at h
  | some r =>
    obtain ⟨n, t⟩ := r
    rcases insertEntry_puts hi with rfl | ⟨chain, rfl⟩
    · exact ⟨n, s.cls, rfl, rfl⟩
    · exact ⟨n, s.cls.withMoves chain, rfl, rfl⟩

/-- Where the shadow holds a key, it has an entry. -/
theorem isSome_shadow_of_shadowAt {s : State} {table profile n : Nat} {key : List Byte}
    (h : shadowAt s table profile key = some n) : (Tbl.get? s.cls.shadow n).isSome = true := by
  obtain ⟨⟨k, e⟩, hfind, rfl⟩ := Option.map_eq_some_iff.mp h
  exact Tbl.isSome_get?_of_mem (List.mem_of_find?_eq_some hfind)

theorem shadow_withAction {x : Classifier} {n : Nat} (action : List Byte) (h : (Tbl.get? x.shadow n).isSome = true) :
    (Tbl.get? (x.withAction n action).shadow n).map (fun e => e.action) = some action := by
  obtain ⟨e, he⟩ := Option.isSome_iff_exists.mp h
  simp [Classifier.withAction, Tbl.get?_mapAll, he]

theorem entries_withAction_ne (x : Classifier) {n i : Nat} (action : List Byte) (h : i ≠ n) :
    Tbl.get? (x.withAction n action).entries i = Tbl.get? x.entries i := by
  simp [Classifier.withAction, Tbl.get?_mapAll, h]

theorem entryUpdateEffect_eq {s : State} {c : Ctx} {n : Nat} (h : shadowAt s (c.u 0 1) (c.u 1 1) (entryKey c 20) = some n) :
    entryUpdateEffect s c = finish { s with cls := s.cls.withAction n (slice c.body 4 16) } c { status := .ok } := by
  unfold entryUpdateEffect
  rw [h]
  rfl

theorem entryDeleteEffect_eq {s : State} {c : Ctx} {n : Nat} (h : shadowAt s (c.u 0 1) (c.u 1 1) (entryKey c 4) = some n) :
    entryDeleteEffect s c = finish { s with cls := { s.cls with
      entries := Tbl.erase s.cls.entries n, shadow := Tbl.erase s.cls.shadow n } } c { status := .ok } := by
  unfold entryDeleteEffect
  rw [h]
  rfl

theorem entryLookupEffect_eq {s : State} {c : Ctx} {n : Nat} {e : Entry}
    (h : shadowAt s (c.u 0 1) (c.u 1 1) (entryKey c 4) = some n) (he : Tbl.get? s.cls.shadow n = some e) :
    entryLookupEffect s c = finish s c { status := .ok, result := slice e.action 0 16 ++ leBytes 1 (n / 65536 % 4) } := by
  unfold entryLookupEffect
  simp only [h, he]
  rfl

/-! ### Receive rings -/

/-- A ring with descriptors posted behind its own. -/
theorem receiveRingPostEffect_eq (descs : List (List Byte)) (s : State) (c : Ctx) :
    ∃ new, new.length = posting (rxRing s c.p (c.u 0 1)) (c.u 4 4) ∧
      receiveRingPostEffect descs s c = finish (setRing s c.p (c.u 0 1) (some { rxRing s c.p (c.u 0 1) with
        tail := c.u 4 4, posted := (rxRing s c.p (c.u 0 1)).posted ++ new })) c { status := .ok } :=
  ⟨_, (List.length_map _).trans List.length_range, rfl⟩

/-! ### The commands -/

/-- Settles O47: an entry's command changes one slot of the tables and their shadow (an insert after the moves that free it), a
port's command sets that port, a ring's command sets that ring, and the end of the request leaves all of them. -/
theorem classifierTablesAndRingsAreSet : Obligations.ClassifierTablesAndRingsAreSet := by
  unfold Obligations.ClassifierTablesAndRingsAreSet
  rintro o s c j rfl
  refine ⟨?insert, ?update, ?delete, ?lookup, ?profile, ?pattern, ?limits, ?default, ?ringSet, ?ringPost⟩
  case insert =>
    intro e he h
    have hfound : (insertEntry s.fresh_ (c.u 0 1) e).isNone = false := he ▸ notBusy_of_verdict_none h.2.2
    obtain ⟨n, x, hput, heff⟩ := entryInsertEffect_eq he hfound
    obtain ⟨hend, hcls⟩ := runOp_ends_onCls h heff
    refine ⟨_, rfl, n, hend, ?_⟩
    rw [hcls]
    refine ⟨Tbl.get?_set_self .., Tbl.get?_set_self .., fun m hm => ?_⟩
    subst he
    obtain ⟨rfl, ht⟩ := Prod.mk.inj (Option.some.inj (hput.symm.trans (insertEntry_free (s := s.fresh_) hm)))
    rw [show x.withEntry n _ = s.cls.withEntry n _ from congrArg State.cls ht]
    exact ⟨rfl, fun i hi => Tbl.get?_set_ne _ _ hi⟩
  case update =>
    intro n h hn
    obtain ⟨hend, hcls⟩ := runOp_ends_onCls h (entryUpdateEffect_eq (s := s.fresh_) hn)
    refine ⟨_, rfl, hend, ?_⟩
    rw [hcls]
    exact ⟨shadow_withAction _ (isSome_shadow_of_shadowAt hn), fun i hi => entries_withAction_ne _ _ hi⟩
  case delete =>
    intro n h hn
    obtain ⟨hend, hcls⟩ := runOp_ends_onCls h (entryDeleteEffect_eq (s := s.fresh_) hn)
    refine ⟨_, rfl, hend, ?_⟩
    rw [hcls]
    exact ⟨Tbl.get?_erase_self .., Tbl.get?_erase_self .., fun i hi => Tbl.get?_erase_ne _ hi⟩
  case lookup =>
    intro n e h hn he
    obtain ⟨hend, hcls⟩ := runOp_ends_onCls h (entryLookupEffect_eq (s := s.fresh_) hn he)
    exact ⟨_, rfl, hcls, hend⟩
  case profile =>
    intro h
    obtain ⟨hend, hport⟩ := runOp_ends_onClsPort (eff := profileSetEffect) h rfl
    refine ⟨_, rfl, hend, ?_⟩
    rw [hport]
    exact Tbl.get?_set_self ..
  case pattern =>
    intro h
    obtain ⟨hend, hport⟩ := runOp_ends_onClsPort (eff := patternSetEffect) h rfl
    refine ⟨_, rfl, hend, ?_⟩
    rw [hport]
    exact Tbl.get?_set_self ..
  case limits =>
    intro h
    obtain ⟨hend, hport⟩ := runOp_ends_onClsPort (eff := parseLimitsEffect) h rfl
    refine ⟨_, rfl, hend, ?_⟩
    rw [hport]
    exact ⟨rfl, rfl, rfl, rfl, rfl⟩
  case default =>
    intro h
    obtain ⟨hend, hport⟩ := runOp_ends_onClsPort (eff := defaultActionEffect) h rfl
    refine ⟨_, rfl, hend, ?_⟩
    rw [hport]
    split <;> exact ⟨rfl, rfl⟩
  case ringSet =>
    intro h
    refine ⟨_, rfl, ?_⟩
    exact runOp_ends_onRing (a := { status := .ok }) h rfl
  case ringPost =>
    rintro descs r h rfl
    obtain ⟨new, hlen, heff⟩ := receiveRingPostEffect_eq descs s.fresh_ c
    obtain ⟨hend, hring⟩ := runOp_ends_onRing h heff
    refine ⟨_, rfl, hend, ?_⟩
    rw [rxRing, Tbl.getD, hring]
    refine ⟨rfl, ?_, List.take_left, rfl⟩
    exact List.length_append.trans (congrArg _ hlen)

end Sys2Proof.Machine
end

section
/-! TRANSPORT_KEY_GET whose slot lost a parcel on a hop and recovered: the request's end counts a transient fault of that hop (R68,
R106), and at the sixteenth in 24 hours the advisory event (R107) goes to the host behind the transport key (R340). -/

namespace Sys2Proof.Machine
open Sys2Proof

/-- A request for the transport key to a host buffer of 193 bytes at 0x100000, with tag 31 and sequence number 7. -/
def transportKeyRequest : List Byte :=
  leBytes 2 0x0520 ++ leBytes 2 31 ++ leBytes 4 7 ++ leBytes 2 16 ++ leBytes 6 0 ++
    (leBytes 8 0x100000 ++ leBytes 4 193 ++ [1, 0, 0, 0])

/-- A started part whose slot 31 runs that request and has recovered from a parcel lost on the way to host port 0, a hop with 15
transient faults already counted. The administrator's event ring is enabled and empty. -/
def sixteenthLossState : State :=
  { State.reset with
    boot := { Boot.init 1 0 with mainOn := true, synfyReady := true }
    faults := { State.reset.faults with transients := [(0x0C * 1024 + queueKey 9 0, List.replicate 15 0)] }
    parts := [(0, { Partition.absent with
      state := .active
      events := { EventRing.init with base := 0x20000, control := 1 }
      slots := [(31, { Slot.empty with
        phase := .running, request := transportKeyRequest, retried := true, lostHop := some (queueKey 9 0) })] })] }

/-- The request in slot 31. -/
def sixteenthLossCtx : Ctx := slotCtx 0 31 (slotAt sixteenthLossState 0 31)

theorem ready_sixteenthLossState :
    Ready 0x0520 (fixed .management) transportKeyGetChecks (.mbx 0 31) sixteenthLossState sixteenthLossCtx := by
  unfold Ready
  decide +kernel

/-- Two writes go out: the transport key with its signature, and the advisory's entry in the event ring. -/
theorem sixteenthLossState_transportKeyGet :
    ∃ t, exec (.transportKeyGet (.mbx 0 31)) sixteenthLossState = .next t ∧ t.out.length = 2 :=
  ⟨_, rfl, by decide +kernel⟩

/-- Refutes O41: unlike the cipher operation's, the clause of TRANSPORT_KEY_GET does not ask that no parcel of the request was lost,
and where the loss recovered from is the sixteenth of its hop, the advisory event goes out beside the key and its signature. -/
theorem not_cipherAndAdministratorKeysWork : ¬ Obligations.CipherAndAdministratorKeysWork := by
  unfold Obligations.CipherAndAdministratorKeysWork
  intro h
  obtain ⟨-, transport, -, -⟩ := h (.mbx 0 31) sixteenthLossState sixteenthLossCtx
  obtain ⟨t, ht, -, -, sig, -, one⟩ := transport ready_sixteenthLossState
  obtain ⟨u, hu, two⟩ := sixteenthLossState_transportKeyGet
  obtain rfl : u = t := Host.Outcome.next.inj (hu.symm.trans ht)
  rw [one] at two
  exact absurd two (by simp)

end Sys2Proof.Machine
end

section
/-! What every step keeps of the queue, and the state after reset. -/

namespace Sys2Proof.Machine
open Sys2Proof

/-- Settles O2: carrying out a command leaves the queue it is given, which is the rest behind it. -/
theorem queueIsFirstInFirstOut : Obligations.QueueIsFirstInFirstOut := by
  unfold Obligations.QueueIsFirstInFirstOut
  intro s t c rest hs ht
  rw [step_cons hs] at ht
  exact (exec_grows _ _ _ ht).queue

/-- Settles O5: reset gives each of these its value, and in an empty table every number has its default. -/
theorem resetIsSound : Obligations.ResetIsSound := by
  unfold Obligations.ResetIsSound
  have noFuse : PartIs 1 0 State.reset := ⟨rfl, fun i _ h => by simp [bit] at h⟩
  exact ⟨reset_canonical, noFuse, rfl, fun _ => rfl, rfl, rfl, fun _ => rfl, fun _ => rfl⟩

end Sys2Proof.Machine
end

section
/-! LEDGER_ATTEST whose slot lost a parcel on a hop and recovered: as for the transport key, the request's end counts a transient
fault of that hop (R68, R106), and the sixteenth sends the advisory event (R107) beside the attestation (R381). -/

namespace Sys2Proof.Machine
open Sys2Proof

/-- A request for an attestation, with a nonce of zeros, to a host buffer of 96 bytes at 0x100000, with tag 31 and sequence
number 7. -/
def ledgerAttestRequest : List Byte :=
  leBytes 2 0x0612 ++ leBytes 2 31 ++ leBytes 4 7 ++ leBytes 2 48 ++ leBytes 6 0 ++
    (List.replicate 32 0 ++ leBytes 8 0x100000 ++ leBytes 4 96 ++ [1, 0, 0, 0])

/-- The part that recovered from its hop's sixteenth loss, its slot carrying that request, with the leaf key at hand. -/
def attestLossState : State :=
  setVault (setSlot sixteenthLossState 0 31 (fun sl => { sl with request := ledgerAttestRequest }))
    (fun v => { v with leaf := true })

/-- The request in slot 31. -/
def attestLossCtx : Ctx := slotCtx 0 31 (slotAt attestLossState 0 31)

theorem ready_attestLossState :
    Ready 0x0612 (fixed .management) ledgerAttestChecks (.mbx 0 31) attestLossState attestLossCtx := by
  unfold Ready
  decide +kernel

/-- Two writes go out: the attestation, and the advisory's entry in the event ring. -/
theorem attestLossState_ledgerAttest :
    ∃ t, exec (.ledgerAttest (.mbx 0 31)) attestLossState = .next t ∧ t.out.length = 2 :=
  ⟨_, rfl, by decide +kernel⟩

/-- Refutes O45: the clause of LEDGER_ATTEST does not ask that no parcel of the request was lost, and where the loss recovered
from is the sixteenth of its hop, the advisory event goes out beside the attestation. -/
theorem not_ledgerGrowsAndIsReported : ¬ Obligations.LedgerGrowsAndIsReported := by
  unfold Obligations.LedgerGrowsAndIsReported
  rintro ⟨commands, -⟩
  obtain ⟨-, -, attest, -⟩ := commands (.mbx 0 31) attestLossState attestLossCtx
  obtain ⟨t, ht, -, -, one⟩ := attest ready_attestLossState
  obtain ⟨u, hu, two⟩ := attestLossState_ledgerAttest
  obtain rfl : u = t := Host.Outcome.next.inj (hu.symm.trans ht)
  rw [one] at two
  exact absurd two (by simp)

end Sys2Proof.Machine
end

section
/-! AXIS_HOME where the slot's record of a lost parcel's hop is no hop of the part: as for FENCE_RESOURCE, the request's end counts
a transient fault of that hop (R68, R106), here under the key of the axis's homing starts (R122, R436). -/

namespace Sys2Proof.Machine
open Sys2Proof

/-- A request to home axis 0, with tag 31 and sequence number 7. -/
def axisHomeRequest : List Byte := leBytes 2 0x0723 ++ leBytes 2 31 ++ leBytes 4 7 ++ leBytes 2 1 ++ leBytes 6 0 ++ [0]

/-- Tables of an image that uses axis 0, which names no driver rail. -/
def oneAxisTables : AonTables :=
  { AonTables.none with
    axes := [⟨true, 1, -100000, 100000, 1000, 1000, 1000, 4096, 49, 169, [], true, 1000, 100, 0, none, false, false, 1000⟩] }

/-- A started part with axis 0 in use and Unhomed, whose slot 31 runs that request and has recovered from a parcel lost at a hop
whose transient faults are counted under the key of that axis's homing starts. -/
def strayHomingState : State :=
  setSlot { strayHopState with aon := { strayHopState.aon with tables := oneAxisTables } } 0 31 (fun sl => { sl with
    request := axisHomeRequest
    lostHop := some (counterKey 0x0D06 0 - counterKey 0x0300 (0x0C * 1024)) })

/-- The request in slot 31. -/
def strayHomingCtx : Ctx := slotCtx 0 31 (slotAt strayHomingState 0 31)

theorem ready_strayHomingState :
    Ready 0x0723 (fixed .management) axisHomeChecks (.mbx 0 31) strayHomingState strayHomingCtx := by
  unfold Ready
  decide +kernel

/-- No start of homing was counted before the request; two are when it has ended. -/
theorem strayHomingState_axisHome : counter strayHomingState 0x0D06 0 = 0 ∧
    ∃ t, exec (.axisHome (.mbx 0 31)) strayHomingState = .next t ∧ counter t 0x0D06 0 = 2 :=
  ⟨rfl, _, rfl, by decide +kernel⟩

/-- Refutes O35: homing starts and is counted, but the request that then ends counts a transient fault of the hop its slot names,
and a number that is no queue's puts that count on the same counter. -/
theorem not_axisCommandsAreTaken : ¬ Obligations.AxisCommandsAreTaken := by
  unfold Obligations.AxisCommandsAreTaken
  intro h
  obtain ⟨-, -, -, home, -⟩ := h (.mbx 0 31) strayHomingState strayHomingCtx _ rfl
  obtain ⟨t, ht, -, -, -, -, counted⟩ := home ready_strayHomingState
  have axisZero : strayHomingCtx.u 0 1 = 0 := by decide +kernel
  obtain ⟨before, u, hu, after⟩ := strayHomingState_axisHome
  obtain rfl : u = t := Host.Outcome.next.inj (hu.symm.trans ht)
  rw [axisZero, before, after] at counted
  exact absurd counted (by decide)

end Sys2Proof.Machine
end

section
/-! What a host's write in its window touches where a slot number has two entries in its partition's table: the check of tags that
follows it (R160) finds the entry that no look-up by number reaches, and fences the mailbox unit. -/

namespace Sys2Proof.Machine
open Sys2Proof

/-- The write of moderation is a write in partition 0's window. -/
theorem barWindow_doubledState :
    barWindow doubledState (0 : Fin 2) (0 : Fin 32) (0x20 : Fin 524288) = some (0, 0x20) := by
  decide +kernel

/-- That write ends in the fence of the mailbox unit. -/
theorem doubledState_moderationWrite_fences : ∃ t,
    exec (.registerWrite ⟨0, 0⟩ 0x20 (leBytes 4 2) false) doubledState = .next t ∧ t.faults.mailboxFenced = true :=
  ⟨_, rfl, by decide +kernel⟩

/-- Refutes O60: with two entries of one slot number, `Untagged` sees the first and the check of tags both, so a write of
moderation fences the mailbox unit, which changes the fault record, a piece of state its frame does not name. -/
theorem not_blockCommandsTouchOnlyTheirUnit : ¬ Obligations.BlockCommandsTouchOnlyTheirUnit := by
  unfold Obligations.BlockCommandsTouchOnlyTheirUnit
  intro h
  obtain ⟨t, ht, fenced⟩ := doubledState_moderationWrite_fences
  obtain ⟨-, -, -, -, -, -, -, -, -, -, -, -, -, -, -, -, -, -, -, -, -, -, -, written, -⟩ := h doubledState t
  have framed := written 0 0 0x20 (leBytes 4 2) false (fun p off hw => by
    obtain ⟨rfl, -⟩ := Prod.mk.inj (Option.some.inj (barWindow_doubledState.symm.trans hw))
    exact untagged_doubledState) ht
  have kept : t.faults = doubledState.faults := by rw [framed]
  rw [kept] at fenced
  exact absurd fenced (by decide)

end Sys2Proof.Machine
end

section
/-! TWT's exchange with its controller (R452–R454, R459, R463). -/

namespace Sys2Proof.Machine
open Sys2Proof

/-- TWT holding a frame as its request, as it has just come in. -/
def holding (s : State) (f : List Byte) : State :=
  { s with out := [], twt := { s.twt with
    request := some f, running := true, begun := false, overrun := none, response := none, unread := false } }

section
variable {s : State} {f : List Byte}

/-- A frame that TWT can take, where it is answering. -/
theorem twtRequest_whole (ha : twtAnswers s = true) (h8 : 8 ≤ f.length) (h64 : f.length ≤ 64) :
    twtRequest s.fresh_ f true = if s.twt.running then { s.fresh_ with twt := { s.twt with overrun := some (slice f 2 4) } }
      else match (twtChecks (holding s f) (twtCtx f)).verdict with
        | some st => twtAnswer (holding s f) st []
        | none => holding s f := by
  have ha' : twtAnswers s.fresh_ = true := ha
  have h : ¬(64 < f.length) := by omega
  have h' : ¬(f.length < 8) := by omega
  unfold twtRequest
  simp only [ha', h, h', decide_false, Bool.not_true, Bool.or_self, Bool.false_eq_true, if_false]
  rfl

/-- One that meets a request being processed is turned away. -/
theorem exec_twtRequest_busy (ha : twtAnswers s = true) (h8 : 8 ≤ f.length) (h64 : f.length ≤ 64) (hr : s.twt.running = true) :
    exec (.twtRequest f true) s = .next { s.fresh_ with twt := { s.twt with overrun := some (slice f 2 4) } } := by
  rw [exec, execTwtRequest, twtRequest_whole ha h8 h64, if_pos hr]

/-- One that finds TWT idle is held, and checked. -/
theorem exec_twtRequest_idle (ha : twtAnswers s = true) (h8 : 8 ≤ f.length) (h64 : f.length ≤ 64) (hr : s.twt.running = false) :
    exec (.twtRequest f true) s = .next (match (twtChecks (holding s f) (twtCtx f)).verdict with
      | some st => twtAnswer (holding s f) st []
      | none => holding s f) := by
  rw [exec, execTwtRequest, twtRequest_whole ha h8 h64, if_neg (by simp [hr])]

theorem exec_twtRequest_badPec : exec (.twtRequest f false) s = .next { s with out := [] } := by
  simp [exec, execTwtRequest, twtRequest, State.fresh_]

theorem unread_twtAnswer_holding (st : Status) (result : List Byte) : (twtAnswer (holding s f) st result).twt.unread = true := rfl

/-- A read finds BUSY for the frame turned away. -/
theorem exec_twtResponseRead_overrun {seq : List Byte} (ha : twtAnswers s = true) (ho : s.twt.overrun = some seq) :
    exec .twtResponseRead s = .next (send { s.fresh_ with twt := { s.twt with overrun := none } } [.twt (twtBusy seq)]) := by
  have ha' : twtAnswers s.fresh_ = true := ha
  have ho' : s.fresh_.twt.overrun = some seq := ho
  rw [exec, execTwtResponseRead, twtResponseRead, if_neg (by simp [ha']), ho']
  rfl

/-- A read finds the response held. -/
theorem exec_twtResponseRead_held {bs : List Byte} (ha : twtAnswers s = true) (ho : s.twt.overrun = none)
    (hr : s.twt.running = false) (hb : s.twt.response = some bs) :
    exec .twtResponseRead s = .next (send { s.fresh_ with twt := { s.twt with response := some bs, unread := false } } [.twt bs]) := by
  have ha' : twtAnswers s.fresh_ = true := ha
  have ho' : s.fresh_.twt.overrun = none := ho
  have hr' : ¬ s.fresh_.twt.running = true := by simp [State.fresh_, hr]
  have hb' : s.fresh_.twt.response = some bs := hb
  rw [exec, execTwtResponseRead, twtResponseRead, if_neg (by simp [ha']), ho']
  dsimp only
  rw [if_neg hr', hb']
  rfl

/-- A read of the events gives the oldest and takes it off. -/
theorem does_twtEventRead {e : Event} {rest : List Event} (ha : twtAnswers s = true) (he : s.twt.events = e :: rest) :
    Does .twtEventRead s (fun t => t.twt.events = rest ∧ ∃ n ph, t.out = [.twt (eventBytes n ph e)]) := by
  have ha' : twtAnswers s.fresh_ = true := ha
  have he' : s.fresh_.twt.events = e :: rest := he
  refine ⟨_, rfl, ?_⟩
  unfold twtEventRead
  rw [ha', he']
  exact ⟨rfl, _, _, rfl⟩

/-- A timeout of TWT's controller is counted, under a counter that its event leaves. -/
theorem does_twtTargetTimeout (hv : s.boot.vaon = true) :
    Does .twtTargetTimeout s (fun t => counter t 0x0E05 0 = satAdd 16 (counter s 0x0E05 0) 1) := by
  refine ⟨_, congrArg Host.Outcome.next (if_pos hv), ?_⟩
  refine ((raiseAon_spec ..).counter (by decide) (by decide)).trans ?_
  rw [counter_bump_self]
  rfl

end

/-- Settles O55: a frame is held, turned away or left, a read gives what is held, and a timeout is counted. -/
theorem twtAnswersItsController : Obligations.TwtAnswersItsController := by
  unfold Obligations.TwtAnswersItsController
  refine ⟨fun f s ha h8 h64 => ⟨fun hr => ?busy, fun hr held hheld => ⟨fun hv => ?taken, fun st hv => ?answered⟩, exec_twtRequest_badPec⟩,
    fun s ha => ⟨fun seq ho => ⟨_, exec_twtResponseRead_overrun ha ho, rfl, rfl⟩,
      fun bs ho hr hb => ⟨_, exec_twtResponseRead_held ha ho hr hb, rfl, rfl, rfl⟩, fun e rest he => does_twtEventRead ha he⟩,
    fun s => does_twtTargetTimeout⟩
  case busy => exact ⟨_, exec_twtRequest_busy ha h8 h64 hr, rfl, hr, rfl⟩
  case taken =>
    subst hheld
    exact (exec_twtRequest_idle ha h8 h64 hr).trans (by rw [show (twtChecks (holding s f) (twtCtx f)).verdict = none from hv]; rfl)
  case answered =>
    subst hheld
    refine ⟨_, exec_twtRequest_idle ha h8 h64 hr, ?_⟩
    rw [show (twtChecks (holding s f) (twtCtx f)).verdict = some st from hv]
    exact ⟨ended_twtAnswer st [] rfl, unread_twtAnswer_holding st []⟩

end Sys2Proof.Machine
end

section
/-! What events, the fault record, the counters, staged ledger entries and the ends of requests leave of the part (R99, R122, R133,
R378, R389). -/

namespace Sys2Proof.Machine
open Sys2Proof

/-- The vault without what it holds for a later start: events and staged entries (R378, R389). -/
def Vault.unstaged (v : Vault) : Vault := { v with heldEvents := [], staging := [], stagingLost := 0 }

/-- A state without outputs, partitions, fault record, counters, host functions, TWT's exchange, held events and staged entries. -/
def plant (s : State) : State :=
  { s with out := [], parts := [], faults := Faults.init, ctr := [], fns := [], twt := Twt.init, vault := s.vault.unstaged }

theorem aon_of_plant {s t : State} (h : plant t = plant s) : t.aon = s.aon := (congrArg State.aon h :)
theorem boot_of_plant {s t : State} (h : plant t = plant s) : t.boot = s.boot := (congrArg State.boot h :)
theorem now_of_plant {s t : State} (h : plant t = plant s) : t.now = s.now := (congrArg State.now h :)
theorem buses_of_plant {s t : State} (h : plant t = plant s) : t.buses = s.buses := (congrArg State.buses h :)
theorem domains_of_plant {s t : State} (h : plant t = plant s) : t.domains = s.domains := (congrArg State.domains h :)
theorem timebase_of_plant {s t : State} (h : plant t = plant s) : t.timebase = s.timebase := (congrArg State.timebase h :)
theorem tensor_of_plant {s t : State} (h : plant t = plant s) : t.tensor = s.tensor := (congrArg State.tensor h :)
theorem unstaged_of_plant {s t : State} (h : plant t = plant s) : t.vault.unstaged = s.vault.unstaged := (congrArg State.vault h :)

@[simp] theorem plant_ite (c : Prop) {_ : Decidable c} (s t : State) :
    plant (if c then s else t) = if c then plant s else plant t := apply_ite ..
@[simp] theorem plant_foldl {β : Type} (f : State → β → State) (l : List β) (s : State)
    (h : ∀ s x, plant (f s x) = plant s) : plant (l.foldl f s) = plant s := foldl_leaves h l s
@[simp] theorem requests_ite (c : Prop) {_ : Decidable c} (s t : State) :
    requests (if c then s else t) = if c then requests s else requests t := apply_ite ..

/-! ### Updates of one field -/

@[simp] theorem plant_fresh_ (s : State) : plant s.fresh_ = plant s := rfl
@[simp] theorem plant_send (s : State) (o) : plant (send s o) = plant s := rfl
@[simp] theorem plant_bump (s : State) (i n w) : plant (bump s i n w) = plant s := rfl
@[simp] theorem plant_bumpBy (s : State) (i n w k) : plant (bumpBy s i n w k) = plant s := rfl
@[simp] theorem plant_with_faults (s : State) (x) : plant { s with faults := x } = plant s := rfl
@[simp] theorem plant_with_ctr (s : State) (x) : plant { s with ctr := x } = plant s := rfl
@[simp] theorem plant_with_parts (s : State) (x) : plant { s with parts := x } = plant s := rfl
@[simp] theorem plant_setSlot (s : State) (p k f) : plant (setSlot s p k f) = plant s := rfl
@[simp] theorem requests_fresh_ (s : State) : requests s.fresh_ = requests s := rfl
@[simp] theorem requests_send (s : State) (o) : requests (send s o) = requests s := rfl
@[simp] theorem requests_advanceTo (s : State) (t) : requests (advanceTo s t) = requests s := rfl
@[simp] theorem requests_bump (s : State) (i n w) : requests (bump s i n w) = requests s := rfl
@[simp] theorem requests_bumpBy (s : State) (i n w k) : requests (bumpBy s i n w k) = requests s := rfl
@[simp] theorem requests_with_faults (s : State) (x) : requests { s with faults := x } = requests s := rfl
@[simp] theorem requests_setVault (s : State) (f) : requests (setVault s f) = requests s := rfl
@[simp] theorem requests_setAon (s : State) (f) : requests (setAon s f) = requests s := rfl
@[simp] theorem requests_setBoot (s : State) (f) : requests (setBoot s f) = requests s := rfl
@[simp] theorem requests_setTensor (s : State) (f) : requests (setTensor s f) = requests s := rfl
@[simp] theorem requests_setBus (s : State) (b f) : requests (setBus s b f) = requests s := rfl

/-! ### Events -/

theorem ReportsOnly.plant {s t : State} (h : ReportsOnly s t) : plant t = plant s := by
  obtain ⟨⟨_, _, _, _, _, _, _, rfl⟩, -, -⟩ := h
  rfl
theorem ReportsOnly.requests {s t : State} (h : ReportsOnly s t) : requests t = requests s := requests_of_bearing h.bearing
@[simp] theorem plant_raiseAdmin (s : State) (code fault subject detail) :
    plant (raiseAdmin s code fault subject detail) = plant s := (raiseAdmin_spec ..).reports.plant
@[simp] theorem requests_raiseAdmin (s : State) (code fault subject detail) :
    requests (raiseAdmin s code fault subject detail) = requests s := (raiseAdmin_spec ..).reports.requests
@[simp] theorem plant_raiseAon (s : State) (code fault detail) : plant (raiseAon s code fault detail) = plant s :=
  (raiseAon_spec ..).plant
@[simp] theorem requests_raiseAon (s : State) (code fault detail) : requests (raiseAon s code fault detail) = requests s :=
  (raiseAon_spec ..).requests
@[simp] theorem plant_raiseVault (s : State) (code fault detail) : plant (raiseVault s code fault detail) = plant s := by
  unfold raiseVault
  split
  · exact plant_raiseAdmin ..
  · rfl
@[simp] theorem requests_raiseVault (s : State) (code fault detail) :
    requests (raiseVault s code fault detail) = requests s := by
  unfold raiseVault
  split
  · exact requests_raiseAdmin ..
  · rfl
@[simp] theorem plant_stage (s : State) (kind source detail waiter) : plant (stage s kind source detail waiter) = plant s := by
  unfold stage
  dsimp only
  repeat' split
  all_goals rfl
@[simp] theorem requests_stage (s : State) (kind source detail waiter) :
    requests (stage s kind source detail waiter) = requests s := by simp [stage]

/-! ### Faults -/

@[simp] theorem plant_guard (s : State) : plant (guard s) = plant s := by
  obtain ⟨_, h⟩ := guard_spec s
  exact h.reports.plant
@[simp] theorem requests_guard (s : State) : requests (guard s) = requests s := by
  obtain ⟨_, h⟩ := guard_spec s
  exact h.reports.requests
@[simp] theorem plant_fence (s : State) (g i) : plant (fence s g i) = plant s := by
  obtain ⟨_, _, h⟩ := fence_spec s g i
  rw [h]
  rfl
@[simp] theorem requests_fence (s : State) (g i) : requests (fence s g i) = requests s := by
  obtain ⟨_, _, h⟩ := fence_spec s g i
  rw [h]
  rfl
@[simp] theorem plant_transient (s : State) (g i) : plant (transient s g i) = plant s := by
  obtain ⟨_, _, h⟩ := transient_spec s g i
  exact h.plant
@[simp] theorem requests_transient (s : State) (g i) : requests (transient s g i) = requests s := by
  obtain ⟨_, _, h⟩ := transient_spec s g i
  exact h.requests
@[simp] theorem plant_lastingFault (s : State) (g i) : plant (lastingFault s g i) = plant s := by simp [lastingFault]
@[simp] theorem requests_lastingFault (s : State) (g i) : requests (lastingFault s g i) = requests s := by simp [lastingFault]
@[simp] theorem plant_operatingCondition (s : State) (q i o) : plant (operatingCondition s q i o) = plant s := by
  simp [operatingCondition]

/-! ### The end of a request -/

theorem plant_of_reporting {s t : State} (h : t = reporting s t) : plant t = plant s := by
  rw [h]
  rfl
@[simp] theorem plant_endSlot (s : State) (p k a) : plant (endSlot s p k a) = plant s :=
  plant_of_reporting (endSlot_reporting s p k a).1
@[simp] theorem plant_twtAnswer (s : State) (st r) : plant (twtAnswer s st r) = plant s :=
  plant_of_reporting (twtAnswer_reporting s st r).1
@[simp] theorem plant_finish (s : State) (c a) : plant (finish s c a) = plant s := plant_of_reporting (finish_reporting s c a).1
@[simp] theorem plant_finishOrigin (s : State) (o a) : plant (finishOrigin s o a) = plant s := by
  cases o <;> simp [finishOrigin]
/-- A ready request has no fault of its own opcode's checks against it. -/
theorem own_checks_of_ready {op : Nat} {bop : State → Ctx → Nat} {chk : State → Ctx → Checks} {o : Origin} {s : State} {c : Ctx}
    (h : Ready op bop chk o s c) : (chk s.fresh_ c).badCommand = false ∧ (chk s.fresh_ c).badParameter = false := by
  obtain ⟨-, -, hv⟩ := h
  obtain ⟨hc, hp⟩ := checks_of_verdict_none hv
  simp only [Checks.both, Bool.or_eq_false_iff] at hc hp
  exact ⟨hc.2, hp.2⟩
theorem vault_finish (s : State) (c : Ctx) (a : Answer) : (finish s c a).vault = s.vault := by
  rw [(finish_reporting s c a).1]
  rfl

end Sys2Proof.Machine
end

section
/-! The vault's time, alarms and time-stamp channels (R360–R366, R370). -/

namespace Sys2Proof.Machine
open Sys2Proof

/-! ### Alarms (R364) -/

theorem alarm_of_unstaged {s t : State} (h : t.vault.unstaged = s.vault.unstaged) (i : Nat) : alarm t i = alarm s i :=
  (congrArg (fun v : Vault => Tbl.getD v.alarms i Alarm.init) h :)
theorem alarm_of_plant {s t : State} (h : plant t = plant s) (i : Nat) : alarm t i = alarm s i :=
  alarm_of_unstaged (unstaged_of_plant h) i

theorem alarm_fireAlarm_self (s : State) (i : Nat) : (alarm (fireAlarm s i) i).flag = true := by
  unfold fireAlarm
  rw [alarm_of_plant (plant_raiseVault ..)]
  simp [alarm]
theorem alarm_fireAlarm_ne (s : State) {i j : Nat} (h : i ≠ j) : alarm (fireAlarm s j) i = alarm s i := by
  unfold fireAlarm
  rw [alarm_of_plant (plant_raiseVault ..)]
  simp [alarm, h]

/-- One round over the alarms. -/
def fireDue (from_ upTo : Nat) (s : State) (i : Nat) : State :=
  if (alarm s i).enable && decide (from_ < (alarm s i).match_) && decide ((alarm s i).match_ ≤ upTo) then fireAlarm s i else s

theorem fireAlarms_eq (s : State) (from_ upTo : Nat) : fireAlarms s from_ upTo = [0, 1, 2, 3].foldl (fireDue from_ upTo) s := rfl

theorem alarm_fireDue_ne (s : State) {i j : Nat} (from_ upTo : Nat) (h : i ≠ j) :
    alarm (fireDue from_ upTo s j) i = alarm s i := by
  unfold fireDue
  split
  · exact alarm_fireAlarm_ne s h
  · rfl

theorem alarm_foldl_fireDue_ne {i : Nat} (from_ upTo : Nat) (l : List Nat) (s : State) (h : i ∉ l) :
    alarm (l.foldl (fireDue from_ upTo) s) i = alarm s i := by
  induction l generalizing s with
  | nil => rfl
  | cons j l ih =>
    rw [List.foldl_cons, ih _ (List.not_mem_of_not_mem_cons h), alarm_fireDue_ne s from_ upTo (List.ne_of_not_mem_cons h)]

/-- An enabled alarm whose match value has come is flagged, whatever fires beside it. -/
theorem flag_foldl_fireDue {i from_ upTo : Nat} (l : List Nat) (s : State) (hi : i ∈ l) (hl : l.Nodup)
    (he : (alarm s i).enable = true) (hm : from_ < (alarm s i).match_ ∧ (alarm s i).match_ ≤ upTo) :
    (alarm (l.foldl (fireDue from_ upTo) s) i).flag = true := by
  induction l generalizing s with
  | nil => cases hi
  | cons j l ih =>
    obtain ⟨hj, hl⟩ := List.nodup_cons.mp hl
    rw [List.foldl_cons]
    by_cases h : i = j
    · subst h
      rw [alarm_foldl_fireDue_ne _ _ _ _ hj, fireDue, if_pos (by simp [he, hm])]
      exact alarm_fireAlarm_self s i
    · have hs := alarm_fireDue_ne s from_ upTo h
      exact ih _ (List.mem_of_ne_of_mem h hi) hl (by rw [hs, he]) (by rw [hs]; exact hm)

theorem flag_fireAlarms {s : State} {i from_ upTo : Nat} (hi : i < 4) (he : (alarm s i).enable = true)
    (hm : from_ < (alarm s i).match_ ∧ (alarm s i).match_ ≤ upTo) : (alarm (fireAlarms s from_ upTo) i).flag = true := by
  rw [fireAlarms_eq]
  refine flag_foldl_fireDue _ s ?_ (by decide) he hm
  simp
  omega

/-- A vault without its alarms. -/
def Vault.unalarmed (v : Vault) : Vault := { v.unstaged with alarms := [] }

/-- What firing alarms leaves of the part: the plant without the vault's alarms. -/
def quiet (s : State) : State := { plant s with vault := s.vault.unalarmed }

theorem quiet_of_plant {s t : State} (h : plant t = plant s) : quiet t = quiet s :=
  (congrArg (fun u : State => { u with vault := { u.vault with alarms := [] } }) h :)
theorem unalarmed_of_quiet {s t : State} (h : quiet t = quiet s) : t.vault.unalarmed = s.vault.unalarmed :=
  (congrArg State.vault h :)

theorem now_of_quiet {s t : State} (h : quiet t = quiet s) : t.now = s.now := (congrArg State.now h :)

@[simp] theorem quiet_fireAlarms (s : State) (from_ upTo) : quiet (fireAlarms s from_ upTo) = quiet s := by
  refine foldl_leaves (g := quiet) (fun s i => ?_) _ s
  split
  · exact (quiet_of_plant (plant_raiseVault ..)).trans rfl
  · rfl
@[simp] theorem requests_fireAlarms (s : State) (from_ upTo) : requests (fireAlarms s from_ upTo) = requests s := by
  refine foldl_leaves (g := requests) (fun s i => ?_) _ s
  split
  · exact requests_raiseVault ..
  · rfl
@[simp] theorem plant_tellValidity (before s : State) : plant (tellValidity before s) = plant s := by simp [tellValidity]
@[simp] theorem requests_tellValidity (before s : State) : requests (tellValidity before s) = requests s := by simp [tellValidity]

/-! ### The second and the trim (R361, R363) -/

/-- The state whose seconds counter has moved on, with the overflow told at the end of the calendar. -/
def secondCounted (s : State) : State :=
  let s := setVault s (fun v => { v with seconds := s.vault.seconds + 1 })
  if s.vault.seconds = calendarEnd + 1 ∧ !s.vault.overflow then
    stage (setVault s (fun v => { v with overflow := true })) 0x0E 0 0 none
  else s

theorem countSecond_eq (s : State) :
    countSecond s = fireAlarms (secondCounted s) s.vault.seconds (s.vault.seconds + 1) := rfl

/-- The vault's clock: seconds, ticks and the trims. -/
def clockOf (v : Vault) : Nat × Nat × Nat × Int × Int := (v.seconds, v.tickBase, v.tickAt, v.trim, v.trimNext)

theorem clockOf_of_quiet {s t : State} (h : quiet t = quiet s) : clockOf t.vault = clockOf s.vault :=
  (congrArg clockOf (unalarmed_of_quiet h) :)
theorem clockOf_of_unstaged {v w : Vault} (h : v.unstaged = w.unstaged) : clockOf v = clockOf w := (congrArg clockOf h :)
theorem clockOf_of_plant {s t : State} (h : plant t = plant s) : clockOf t.vault = clockOf s.vault :=
  clockOf_of_quiet (quiet_of_plant h)

theorem secondCounted_spec (s : State) :
    clockOf (secondCounted s).vault = clockOf { s.vault with seconds := s.vault.seconds + 1 } ∧
    (∀ i, alarm (secondCounted s) i = alarm s i) ∧ (secondCounted s).now = s.now := by
  unfold secondCounted
  dsimp only
  split
  · exact ⟨clockOf_of_plant (plant_stage ..), fun i => (alarm_of_plant (plant_stage ..) i).trans rfl, (now_of_plant (plant_stage ..)).trans rfl⟩
  · exact ⟨rfl, fun _ => rfl, rfl⟩

theorem clockOf_countSecond (s : State) :
    clockOf (countSecond s).vault = clockOf { s.vault with seconds := s.vault.seconds + 1 } := by
  rw [countSecond_eq, clockOf_of_quiet (quiet_fireAlarms ..), (secondCounted_spec s).1]

theorem now_countSecond (s : State) : (countSecond s).now = s.now := by
  rw [countSecond_eq, now_of_quiet (quiet_fireAlarms ..)]
  exact (secondCounted_spec s).2.2

theorem flag_countSecond {s : State} {i : Nat} (hi : i < 4) (he : (alarm s i).enable = true)
    (hm : (alarm s i).match_ = s.vault.seconds + 1) : (alarm (countSecond s) i).flag = true := by
  obtain ⟨-, halarm, -⟩ := secondCounted_spec s
  rw [countSecond_eq]
  exact flag_fireAlarms hi (by rw [halarm, he]) (by rw [halarm, hm]; omega)

theorem discipline_spec (s : State) (gain : Int) : ∃ b, discipline s gain = { s with timebase := b } := by
  unfold discipline
  split
  · exact ⟨s.timebase, rfl⟩
  · exact ⟨_, rfl⟩

/-- The vault is no matter of the discipline of the main timebase, nor of what is told of it. -/
theorem told_discipline (before s : State) (gain : Int) :
    (tellValidity before (discipline s gain)).vault.unstaged = s.vault.unstaged ∧
    (tellValidity before (discipline s gain)).now = s.now := by
  obtain ⟨b, hb⟩ := discipline_spec s gain
  have told := plant_tellValidity before (discipline s gain)
  rw [unstaged_of_plant told, now_of_plant told, hb]
  exact ⟨rfl, rfl⟩

/-- The state at the boundary of a second, its ticks begun anew. -/
def atBoundary (s : State) : State :=
  let t := advanceTo s.fresh_ (s.vault.tickAt + ceilDiv ((32768 - s.vault.tickBase) * 1000000000) 32768)
  setVault t (fun v => { v with tickBase := 0, tickAt := t.now })

theorem exec_rtcSecond {s : State} (gain : Int) (h : vaultOn s = true) :
    exec (.rtcSecond gain) s = .next (tellValidity s.fresh_ (discipline (countSecond (atBoundary s)) gain)) :=
  congrArg Host.Outcome.next (if_pos h)

theorem does_rtcSecond {s : State} (gain : Int) (h : vaultOn s = true) :
    Does (.rtcSecond gain) s (fun t => t.vault.seconds = s.vault.seconds + 1 ∧ t.vault.tickBase = 0 ∧
      t.now = max s.now (s.vault.tickAt + ceilDiv ((32768 - s.vault.tickBase) * 1000000000) 32768) ∧
      ∀ i, i < 4 → (alarm s i).enable = true → (alarm s i).match_ = s.vault.seconds + 1 → (alarm t i).flag = true) := by
  refine ⟨_, exec_rtcSecond gain h, ?_⟩
  obtain ⟨vaults, nows⟩ := told_discipline s.fresh_ (countSecond (atBoundary s)) gain
  have counted := (clockOf_of_unstaged vaults).trans (clockOf_countSecond (atBoundary s))
  simp only [clockOf, Prod.mk.injEq] at counted
  obtain ⟨seconds, ticks, -⟩ := counted
  refine ⟨seconds, ticks, nows.trans (now_countSecond _), fun i hi he hm => ?_⟩
  rw [alarm_of_unstaged vaults]
  exact flag_countSecond (s := atBoundary s) hi he hm

/-- The prescaler advances or holds by the trim in force, and the next one comes into force. -/
theorem trimInterval_trim (s : State) : (trimInterval s).vault.trim = s.vault.trimNext := by
  unfold trimInterval
  dsimp only
  rw [setVault_vault]
  dsimp only
  split_ifs
  · have counted := clockOf_countSecond
      (setVault s (fun v => { v with tickBase := (rtcTicks s + s.vault.trim.toNat) % 32768, tickAt := s.now }))
    simp only [clockOf, Prod.mk.injEq] at counted
    obtain ⟨-, -, -, -, next⟩ := counted
    exact next
  all_goals rfl

theorem trimInterval_zero {s : State} (h : s.vault.trim = 0) :
    trimInterval s = { s with vault := { s.vault with trim := s.vault.trimNext } } := by
  simp [trimInterval, h, setVault]

theorem exec_trimInterval {s : State} (h : vaultOn s = true) : exec .trimInterval s = .next (trimInterval s.fresh_) :=
  congrArg Host.Outcome.next (if_pos h)

/-! ### Captures (R365) -/

theorem channel_capture (s : State) (ch : Nat) (dir : Bool) : channel (capture s ch dir) ch =
    ⟨if (channel s ch).count = 0 then captureValue s dir else (channel s ch).first, captureValue s dir,
      satAdd 16 (channel s ch).count 1⟩ := by
  rw [channel, capture, setVault_vault, Tbl.getD_modify_self]
  rfl

theorem exec_evtCapture (i : Fin 2) (rising : Bool) (s : State) : exec (.evtCapture i rising) s =
    .next (if vaultOn s && bit (s.vault.evtEdges.getD i 0) (if rising then 0 else 1) then capture s.fresh_ (4 + i) false
      else s.fresh_) := rfl

/-! ### The commands of the vault's time (R360–R365, R370) -/

/-- A state whose time is set, with what is told of it, before the alarms of the time passed over fire. -/
def timeWritten (s : State) (seconds ticks : Nat) : State :=
  let t := setVault s (fun v => { v with
    seconds := seconds, tickBase := ticks, tickAt := s.now, timeSet := true, overflow := false, untrusted := false })
  let t := stage t 0x06 0 (saturated16 ((seconds : Int) - s.vault.seconds)) none
  { t with timebase := { t.timebase with stepNext := true } }

theorem setTime_eq (s : State) (seconds ticks : Nat) :
    setTime s seconds ticks = tellValidity s (fireAlarms (timeWritten s seconds ticks) s.vault.seconds seconds) := rfl

theorem quiet_setTime (s : State) (seconds ticks : Nat) : quiet (setTime s seconds ticks) = quiet (timeWritten s seconds ticks) := by
  rw [setTime_eq, quiet_of_plant (plant_tellValidity ..), quiet_fireAlarms]

theorem requests_setTime (s : State) (seconds ticks : Nat) : requests (setTime s seconds ticks) = requests s := by
  rw [setTime_eq, requests_tellValidity, requests_fireAlarms]
  exact (requests_stage ..).trans (requests_setVault ..)

/-- What the vault and the timebase hold when the time has been written. -/
theorem timeWritten_spec (s : State) (seconds ticks : Nat) :
    (timeWritten s seconds ticks).vault.unstaged = { s.vault.unstaged with
      seconds := seconds, tickBase := ticks, tickAt := s.now, timeSet := true, overflow := false, untrusted := false } ∧
    (timeWritten s seconds ticks).now = s.now ∧ (timeWritten s seconds ticks).timebase.stepNext = true := by
  have staged := plant_stage (setVault s (fun v => { v with
    seconds := seconds, tickBase := ticks, tickAt := s.now, timeSet := true, overflow := false, untrusted := false }))
    0x06 0 (saturated16 ((seconds : Int) - s.vault.seconds)) none
  exact ⟨unstaged_of_plant staged, (now_of_plant staged).trans rfl, rfl⟩

theorem timeSet_spec {s : State} {c : Ctx} (a : Answer) (seconds ticks : Nat) (hticks : ticks ≤ 32767) :
    let t := finish (setTime s seconds ticks) c a
    t.vault.seconds = seconds ∧ rtcTicks t = ticks ∧ t.vault.timeSet = true ∧ t.vault.overflow = false ∧
      t.vault.untrusted = false ∧ t.timebase.stepNext = true := by
  intro t
  have ht : quiet t = quiet (timeWritten s seconds ticks) := (quiet_of_plant (plant_finish ..)).trans (quiet_setTime ..)
  obtain ⟨written, nows, step⟩ := timeWritten_spec s seconds ticks
  have vaults : t.vault.unalarmed = _ :=
    (unalarmed_of_quiet ht).trans (congrArg (fun v : Vault => { v with alarms := [] }) written)
  have now : t.now = s.now := (now_of_quiet ht).trans nows
  have base : t.timebase = (timeWritten s seconds ticks).timebase := (congrArg State.timebase ht :)
  have tickBase : t.vault.tickBase = ticks := (congrArg Vault.tickBase vaults :)
  have tickAt : t.vault.tickAt = s.now := (congrArg Vault.tickAt vaults :)
  refine ⟨(congrArg Vault.seconds vaults :), ?_, (congrArg Vault.timeSet vaults :), (congrArg Vault.overflow vaults :),
    (congrArg Vault.untrusted vaults :), by rw [base, step]⟩
  simp [rtcTicks, tickBase, tickAt, now, hticks]

/-- Settles O42: each command of the time ends with its answer and what it stores, the second advances the counter and fires the
alarms that have come due, and an edge the configuration names is captured. -/
theorem timeIsSetReadAndCaptured : Obligations.TimeIsSetReadAndCaptured := by
  unfold Obligations.TimeIsSetReadAndCaptured
  refine ⟨fun o s c => ⟨?read, ?set, ?trim, ?alarm, ?stamp, ?rate⟩,
    fun s hon => ⟨fun gain => does_rtcSecond gain hon, ?interval, ?untrimmed, fun i rising => ⟨?edge, ?noEdge⟩⟩⟩
  case read =>
    intro h
    exact ⟨_, congrArg Host.Outcome.next (runOp_ready _ h), ended_finish _ h.1, vault_finish ..⟩
  case set =>
    intro h
    obtain ⟨-, good⟩ := own_checks_of_ready h
    simp only [timeSetChecks, Bool.or_eq_false_iff, decide_eq_false_iff_not, not_lt] at good
    exact ⟨_, congrArg Host.Outcome.next (runOp_ready _ h), ended_finish_of_requests _ h.1 (requests_setTime ..),
      timeSet_spec _ _ _ good.2⟩
  case trim =>
    intro h
    have staged := unstaged_of_plant ((plant_finish _ c { status := .ok }).trans (plant_stage (setVault s.fresh_
      (fun v => { v with trimNext := toSigned (c.u 0 2) 16, nvTrim := toSigned (c.u 0 2) 16 }))
      0x07 0 (ofSigned (toSigned (c.u 0 2) 16) 9) none))
    exact ⟨_, congrArg Host.Outcome.next (runOp_ready _ h), ended_finish_of_requests _ h.1 (requests_stage ..),
      (congrArg Vault.trimNext staged :), (congrArg Vault.nvTrim staged :), (congrArg Vault.trim staged :)⟩
  case alarm =>
    intro h
    refine ⟨_, congrArg Host.Outcome.next (runOp_ready _ h), ended_finish_of_requests _ h.1 rfl, ?_⟩
    rw [alarm_of_plant (plant_finish ..)]
    simp [alarm]
  case stamp =>
    rintro h _ rfl
    refine ⟨_, congrArg Host.Outcome.next (runOp_ready _ h), ?_⟩
    dsimp only
    split
    · refine ⟨ended_finish_of_requests _ h.1 rfl, ?_⟩
      simp [channel, vault_finish]
    · refine ⟨ended_finish _ h.1, ?_⟩
      simp [channel, vault_finish]
  case rate =>
    intro h
    refine ⟨_, congrArg Host.Outcome.next (runOp_ready _ h), ended_finish_of_requests _ h.1 rfl, ?_⟩
    rw [vault_finish]
    rfl
  case interval => exact ⟨_, exec_trimInterval hon, trimInterval_trim s.fresh_⟩
  case untrimmed =>
    intro hz
    exact ⟨_, exec_trimInterval hon, trimInterval_zero (s := s.fresh_) hz⟩
  case edge =>
    intro hb
    refine ⟨_, (exec_evtCapture i rising s).trans (congrArg Host.Outcome.next (if_pos (by rw [hon, hb]; rfl))), ?_⟩
    dsimp only
    rw [channel_capture]
    exact ⟨rfl, rfl, fun hn => if_neg hn⟩
  case noEdge =>
    intro hb
    rw [exec_evtCapture, hb, Bool.and_false]
    rfl

end Sys2Proof.Machine
end

section
/-! What the stop of the main domain and the loss of VAON leave (R24, R36, R382, R510, R537). -/

namespace Sys2Proof.Machine
open Sys2Proof

/-- An update cut off is gone, and leaves of the plant what its report leaves. -/
theorem plant_cutUpdate (s : State) : plant (cutUpdate s) = plant (setBoot s (fun b => { b with update := none })) := by
  unfold cutUpdate
  split
  · next h => simp only [plant, setBoot, ← h]
  · exact plant_raiseAon ..

/-- The boot state of a main domain that has stopped. -/
def Boot.stopped (b : Boot) : Boot :=
  { b with
    mainOn := false
    phase := if b.phase == .mainStart || b.phase == .ready then .accepted else b.phase
    loaded := [], sectionRetry := [], selfTestDone := false, stages := 0, classifierLoaded := false, synfyReady := false
    nodeDoneDriven := true, nodeDoneHigh := false, soloTimer := none, solo := false, update := none }

theorem stopMain_off {s : State} (h : s.boot.mainOn = false) : stopMain s = { s with domains := stopDomains s.domains } := by
  simp [stopMain, h]

/-- The stop of a running main domain, of what lies outside it. -/
theorem stopMain_on {s : State} (h : s.boot.mainOn = true) :
    (stopMain s).boot = s.boot.stopped ∧ (stopMain s).aon = (dropMailboxWork s).aon ∧
    (stopMain s).vault.unstaged = s.vault.unstaged ∧ (stopMain s).now = s.now ∧ (stopMain s).parts = [] := by
  have cut := plant_cutUpdate (setBoot (dropMailboxWork s) (fun b => { b with
    mainOn := false
    phase := if b.phase == .mainStart || b.phase == .ready then .accepted else b.phase
    loaded := [], sectionRetry := [], selfTestDone := false, stages := 0, classifierLoaded := false, synfyReady := false
    nodeDoneDriven := true, nodeDoneHigh := false, soloTimer := none, solo := false }))
  unfold stopMain
  rw [if_neg (by simp [h])]
  exact ⟨(boot_of_plant cut :), (aon_of_plant cut :), (unstaged_of_plant cut :), (now_of_plant cut :), rfl⟩

theorem unstaged_stopMain (s : State) : (stopMain s).vault.unstaged = s.vault.unstaged := by
  cases h : s.boot.mainOn with
  | true => exact (stopMain_on h).2.2.1
  | false => rw [stopMain_off h]

/-- The identity of the part, which a stop leaves. -/
theorem part_stopMain (s : State) :
    (stopMain s).boot.product = s.boot.product ∧ (stopMain s).boot.fuses = s.boot.fuses ∧ (stopMain s).boot.vaon = s.boot.vaon := by
  cases h : s.boot.mainOn with
  | true =>
    rw [(stopMain_on h).1]
    exact ⟨rfl, rfl, rfl⟩
  | false =>
    rw [stopMain_off h]
    exact ⟨rfl, rfl, rfl⟩

/-- The fence map stands when the main domain stops. -/
theorem fenceMap_stopMain (s : State) : (stopMain s).faults.fenceMap = s.faults.fenceMap := by
  have report (u : State) (code : Nat) (fault : Bool) (detail : Nat) : (raiseAon u code fault detail).faults.fenceMap = u.faults.fenceMap := by
    obtain ⟨⟨_, _, _, _, _, _, _, h⟩, -⟩ := raiseAon_spec u code fault detail
    rw [h]
  have cut (u : State) : (cutUpdate u).faults.fenceMap = u.faults.fenceMap := by
    unfold cutUpdate
    split
    · rfl
    · exact report ..
  unfold stopMain
  split
  · rfl
  · exact cut _

/-! ### The loss of VAON -/

theorem alwaysOnReset_off {s : State} (h : s.boot.vaon = false) : alwaysOnReset s = s := by simp [alwaysOnReset, h]

theorem alwaysOnReset_on {s : State} (h : s.boot.vaon = true) : (alwaysOnReset s).boot = Boot.init s.boot.product s.boot.fuses := by
  obtain ⟨product, fuses, -⟩ := part_stopMain s
  unfold alwaysOnReset
  rw [if_neg (by simp [h])]
  dsimp only
  rw [product, fuses]

theorem unstaged_alwaysOnReset (s : State) : (alwaysOnReset s).vault.unstaged = s.vault.unstaged := by
  cases h : s.boot.vaon with
  | true =>
    unfold alwaysOnReset
    rw [if_neg (by simp [h])]
    exact unstaged_stopMain s
  | false => rw [alwaysOnReset_off h]

theorem vaon_alwaysOnReset (s : State) : (alwaysOnReset s).boot.vaon = false := by
  cases h : s.boot.vaon with
  | true =>
    rw [alwaysOnReset_on h]
    rfl
  | false => rw [alwaysOnReset_off h, h]

end Sys2Proof.Machine
end

section
/-! The vault's supplies (R357, R358, R374, R382, R389, R390). -/

namespace Sys2Proof.Machine
open Sys2Proof

/-! ### The power-on reset -/

/-- A vault at its power-on reset, before it is told of. -/
def poweredVault (s : State) (vaonValid : Bool) : State :=
  let trip := s.vault.nvTripped || [0, 1, 2, 3].any (fun i => restoredArming s i == .armed)
  let s := { s with domains := Tbl.set s.domains 4 ⟨true, true, false, false⟩ }
  setVault s (fun v => { v with
    supply := if vaonValid then .returning else .backup
    returnFrom := if vaonValid then some s.now else none
    tickAt := s.now
    low := v.nvLow, high := v.nvHigh, trim := v.nvTrim, trimNext := v.nvTrim
    sources := (List.range 6).map (fun i => (i, restoredSource s i))
    tripped := trip, tamperOut := trip })

theorem plant_vaultReset {s : State} (v : Bool) (h : vaultOn s = false) :
    plant (vaultReset s v) = plant (poweredVault s.fresh_ v) := by
  have h' : ¬ vaultOn s.fresh_ = true := by
    rw [show vaultOn s.fresh_ = vaultOn s from rfl, h]
    decide
  unfold vaultReset
  dsimp only
  rw [if_neg h', plant_stage, plant_raiseVault]
  rfl

theorem does_vaultPowerOnReset {s : State} (v : Bool) (h : vaultOn s = false) : Does (.vaultPowerOnReset v) s (fun t =>
    t.vault.supply = (if v then .returning else .backup) ∧ domain t 4 = ⟨true, true, false, false⟩ ∧
    t.vault.low = s.vault.nvLow ∧ t.vault.high = s.vault.nvHigh ∧ t.vault.trim = s.vault.nvTrim ∧ t.vault.tripped = t.vault.tamperOut ∧
    (t.vault.tripped = true ↔ s.vault.nvTripped = true ∨ ∃ i, i < 4 ∧ restoredArming s i = .armed)) := by
  refine ⟨_, rfl, ?_⟩
  have vault := unstaged_of_plant (plant_vaultReset v h)
  have tripped : (vaultReset s v).vault.tripped =
      (s.vault.nvTripped || [0, 1, 2, 3].any (fun i => restoredArming s i == .armed)) := (congrArg Vault.tripped vault :)
  refine ⟨(congrArg Vault.supply vault :), ?_, (congrArg Vault.low vault :), (congrArg Vault.high vault :),
    (congrArg Vault.trim vault :), tripped.trans (congrArg Vault.tamperOut vault :).symm, ?_⟩
  · rw [domain, domains_of_plant (plant_vaultReset v h)]
    exact Tbl.getD_set_self ..
  · rw [tripped, Bool.or_eq_true, List.any_eq_true]
    refine or_congr Iff.rfl ⟨fun ⟨i, hi, ha⟩ => ⟨i, ?_, by simpa using ha⟩, fun ⟨i, hi, ha⟩ => ⟨i, ?_, by simp [ha]⟩⟩
    · simp at hi
      omega
    · simp
      omega

/-! ### Switches of the supply -/

theorem plant_supplySwitched (s : State) (toVbat : Bool) : plant (supplySwitched s toVbat) = plant (capture s 7 toVbat) := by
  simp [supplySwitched]

theorem channel_of_unstaged {s t : State} (h : t.vault.unstaged = s.vault.unstaged) (i : Nat) : channel t i = channel s i :=
  (congrArg (fun v : Vault => Tbl.getD v.channels i Channel.init) h :)

/-- The vault on its battery, before the switch is captured and told. -/
def onBattery (s : State) : State := setVault s (fun v => { v with supply := .backup, returnFrom := none })

theorem exec_vaultSwitchToVbat {s : State} (h : s.vault.supply = .main) :
    exec .vaultSwitchToVbat s = .next (if s.boot.mainOn
      then operatingCondition (supplySwitched (onBattery s.fresh_) true) 3 0 true
      else supplySwitched (onBattery s.fresh_) true) := by
  have on : (supplySwitched (onBattery s.fresh_) true).boot.mainOn = s.boot.mainOn :=
    (congrArg Boot.mainOn (boot_of_plant (plant_supplySwitched ..)) :)
  rw [← on]
  exact congrArg Host.Outcome.next (if_pos (beq_iff_eq.mpr h))

theorem does_vaultSwitchToVbat {s : State} (h : s.vault.supply = .main) : Does .vaultSwitchToVbat s (fun t =>
    t.vault.supply = .backup ∧ t.vault.returnFrom = none ∧ (channel t 7).latest = captureValue s true) := by
  refine ⟨_, exec_vaultSwitchToVbat h, ?_⟩
  have settled : plant (if s.boot.mainOn then operatingCondition (supplySwitched (onBattery s.fresh_) true) 3 0 true
      else supplySwitched (onBattery s.fresh_) true) = plant (capture (onBattery s.fresh_) 7 true) := by
    simp [plant_supplySwitched]
  have vault := unstaged_of_plant settled
  refine ⟨(congrArg Vault.supply vault :), (congrArg Vault.returnFrom vault :), ?_⟩
  rw [channel_of_unstaged vault, channel_capture]
  rfl

theorem exec_vaonReturn_above {s : State} (h : s.vault.supply = .backup) : exec (.vaonReturn true) s =
    .next (setVault s.fresh_ (fun v => { v with supply := .returning, returnFrom := some s.now })) := by
  simp only [exec, execVaonReturn, State.fresh_, h]
theorem exec_vaonReturn_below {s : State} (h : s.vault.supply = .returning) : exec (.vaonReturn false) s =
    .next (setVault s.fresh_ (fun v => { v with supply := .backup, returnFrom := none })) := by
  simp only [exec, execVaonReturn, State.fresh_, h]

theorem exec_vaultReturnToMain {s : State} {m : Nat} (h : s.vault.supply = .returning) (hm : s.vault.returnFrom = some m) :
    exec .vaultReturnToMain s = .next (operatingCondition (supplySwitched (setVault (advanceTo s.fresh_ (m + 10000000))
      (fun v => { v with supply := .main, returnFrom := none })) false) 3 0 false) := by
  simp only [exec, execVaultReturnToMain, State.fresh_, h, hm]

theorem does_vaultReturnToMain {s : State} {m : Nat} (h : s.vault.supply = .returning) (hm : s.vault.returnFrom = some m) :
    Does .vaultReturnToMain s (fun t => t.vault.supply = .main ∧ t.vault.returnFrom = none ∧
      t.now = max s.now (m + 10000000)) := by
  refine ⟨_, exec_vaultReturnToMain h hm, ?_⟩
  have settled := (plant_operatingCondition (supplySwitched (setVault (advanceTo s.fresh_ (m + 10000000))
    (fun v => { v with supply := .main, returnFrom := none })) false) 3 0 false).trans (plant_supplySwitched ..)
  have vault := unstaged_of_plant settled
  exact ⟨(congrArg Vault.supply vault :), (congrArg Vault.returnFrom vault :), (now_of_plant settled).trans rfl⟩

/-! ### The loss of both supplies -/

theorem does_vaultOff (s : State) : Does .vaultOff s (fun t => t.vault.supply = .off ∧ t.vault.ledger = s.vault.ledger ∧
    t.vault.akek = none ∧ t.vault.adminKey = none ∧ t.vault.seconds = 0 ∧ t.vault.alarms = [] ∧ t.faults.fenceMap = [] ∧
    t.aon.seq.stored = false ∧ t.boot.vaon = false ∧
    (s.boot.vaon = true → t.boot = Boot.init s.boot.product s.boot.fuses)) :=
  ⟨_, rfl, rfl, (congrArg Vault.ledger (unstaged_alwaysOnReset s.fresh_) :), rfl, rfl, rfl, rfl, rfl, rfl,
    vaon_alwaysOnReset s.fresh_, fun h => alwaysOnReset_on (s := s.fresh_) h⟩

/-- Settles O43: power-on reset, switches and loss of the vault's supplies, a low battery's event and the crystal's start. -/
theorem vaultSuppliesComeAndGo : Obligations.VaultSuppliesComeAndGo := by
  unfold Obligations.VaultSuppliesComeAndGo
  intro s
  refine ⟨fun v h => does_vaultPowerOnReset v h, does_vaultSwitchToVbat, ?stays, ?returns, ?falls,
    fun m h hm => does_vaultReturnToMain h hm, does_vaultOff s, fun mv => ⟨?low, ?good⟩, ?crystal⟩
  case stays =>
    intro h
    exact congrArg Host.Outcome.next (if_neg (fun e => h (beq_iff_eq.mp e)))
  case returns =>
    intro h
    exact ⟨_, exec_vaonReturn_above h, rfl, rfl⟩
  case falls =>
    intro h
    exact ⟨_, exec_vaonReturn_below h, rfl, rfl⟩
  case low =>
    intro hon hlow
    simp [exec, execVbatMeasurement, State.fresh_, raiseVault, hon, hlow]
  case good =>
    intro h
    rcases h with h | h <;> simp [exec, execVbatMeasurement, State.fresh_, h]
  case crystal =>
    intro hon
    refine ⟨_, congrArg Host.Outcome.next (if_pos hon), ?_⟩
    have told := unstaged_of_plant (plant_tellValidity s.fresh_ (setVault s.fresh_ (fun v => { v with crystalOk := true })))
    exact (congrArg Vault.crystalOk told :)

end Sys2Proof.Machine
end

section
/-! The tamper sources, their response and its acknowledgement (R369, R371–R374, R385). -/

namespace Sys2Proof.Machine
open Sys2Proof

/-! ### Fences that stand -/

theorem isFenced_stage (s : State) (kind source detail : Nat) (waiter : Option Nat) (g i : Nat) :
    isFenced (stage s kind source detail waiter) g i = isFenced s g i := by
  unfold stage
  dsimp only
  repeat' split
  all_goals rfl
theorem isFenced_raiseVault (s : State) (code : Nat) (fault : Bool) (detail g i : Nat) :
    isFenced (raiseVault s code fault detail) g i = isFenced s g i := by
  obtain ⟨v, h⟩ := raiseVault_spec s code fault detail
  exact h.isFenced g i
theorem isFenced_guard (s : State) (g i : Nat) : isFenced (guard s) g i = isFenced s g i := by
  obtain ⟨v, h⟩ := guard_spec s
  exact h.isFenced g i

/-- What is fenced stays so when another resource is. -/
theorem isFenced_fence_of_isFenced {s : State} {g i : Nat} (h : isFenced s g i = true) (g' i' : Nat) :
    isFenced (fence s g' i') g i = true := by
  unfold fence
  dsimp only
  split_ifs
  · exact h
  all_goals
    simp only [isFenced, List.contains_eq_mem, List.mem_append, Bool.or_eq_true, decide_eq_true_eq] at h ⊢
    tauto

theorem isFenced_fenceDetector_of_isFenced {s : State} {g i : Nat} (h : isFenced s g i = true) (d : Nat) :
    isFenced (fenceDetector s d) g i = true := by
  unfold fenceDetector
  split
  · exact h
  · rw [isFenced_stage, isFenced_raiseVault, lastingFault, isFenced_guard]
    exact isFenced_fence_of_isFenced (s := bump s 0x0301 0x05 16) h ..
theorem isFenced_fenceDetector_self (s : State) (d : Nat) : isFenced (fenceDetector s d) 0x05 d = true := by
  unfold fenceDetector
  split
  · assumption
  · rw [isFenced_stage, isFenced_raiseVault]
    exact isFenced_lastingFault ..

/-! ### Exercises (R371, R385) -/

@[simp] theorem plant_fenceDetector (s : State) (d) : plant (fenceDetector s d) = plant s := by simp [fenceDetector]
@[simp] theorem requests_fenceDetector (s : State) (d) : requests (fenceDetector s d) = requests s := by simp [fenceDetector]
@[simp] theorem plant_exerciseResult (s : State) (i r) : plant (exerciseResult s i r) = plant s := by simp [exerciseResult]
@[simp] theorem requests_exerciseResult (s : State) (i r) : requests (exerciseResult s i r) = requests s := by
  simp [exerciseResult]

theorem exerciseResult_failed (s : State) (d : Nat) : exerciseResult s (4 + d) 2 = fenceDetector s d := by
  simp [exerciseResult]

/-- One source of a self-test. -/
def testSource (mask passed : Nat) (s : State) (i : Nat) : State :=
  if bit mask i && !bit passed i then exerciseResult s i 2 else s

theorem selfTest_eq (s : State) (mask passed : Nat) : selfTest s mask passed = (List.range 6).foldl (testSource mask passed) s := rfl

theorem isFenced_testSource_of_isFenced {s : State} {g i : Nat} (h : isFenced s g i = true) (mask passed j : Nat) :
    isFenced (testSource mask passed s j) g i = true := by
  unfold testSource exerciseResult
  split_ifs
  · exact h
  · contradiction
  · exact isFenced_fenceDetector_of_isFenced h _
  · exact h

/-- A detector that a self-test names and that fails is fenced, whatever is tested beside it. -/
theorem isFenced_foldl_testSource {mask passed d : Nat} (hm : bit mask (4 + d) = true) (hp : bit passed (4 + d) = false)
    (l : List Nat) (s : State) (h : 4 + d ∈ l ∨ isFenced s 0x05 d = true) :
    isFenced (l.foldl (testSource mask passed) s) 0x05 d = true := by
  induction l generalizing s with
  | nil => exact h.resolve_left List.not_mem_nil
  | cons j l ih =>
    refine ih _ ?_
    rcases h with h | h
    · rcases List.mem_cons.mp h with rfl | h
      · refine .inr ?_
        rw [testSource, hm, hp, if_pos (by decide), exerciseResult_failed]
        exact isFenced_fenceDetector_self ..
      · exact .inl h
    · exact .inr (isFenced_testSource_of_isFenced h ..)

@[simp] theorem requests_selfTest (s : State) (mask passed) : requests (selfTest s mask passed) = requests s := by
  rw [selfTest_eq]
  refine foldl_leaves (g := requests) (fun s i => ?_) _ s
  simp [testSource]

theorem isFenced_finish (s : State) (c : Ctx) (a : Answer) (g i : Nat) : isFenced (finish s c a) g i = isFenced s g i := by
  unfold finish
  split
  · unfold twtAnswer
    split <;> rfl
  · exact (endSlot_storeKept ..).2 g i

/-! ### Sources -/

theorem source_of_unstaged {s t : State} (h : t.vault.unstaged = s.vault.unstaged) (i : Nat) : source t i = source s i :=
  (congrArg (fun v : Vault => Tbl.getD v.sources i Source.init) h :)
theorem source_of_plant {s t : State} (h : plant t = plant s) (i : Nat) : source t i = source s i :=
  source_of_unstaged (unstaged_of_plant h) i

/-! ### The response (R373, R374) -/

/-- What a trip is about: that the vault is tripped, what it zeroises, and the sources. -/
structure Secrets where
  tripped : Bool
  tamperOut : Bool
  akek : Option (List Byte)
  adminKey : Option (List Byte)
  leaf : Bool
  mainOn : Bool
  keys : Tbl KeySlot
  sources : Tbl Source

/-- That part of a state. -/
def secrets (s : State) : Secrets :=
  ⟨s.vault.tripped, s.vault.tamperOut, s.vault.akek, s.vault.adminKey, s.vault.leaf, s.boot.mainOn, s.keys, s.vault.sources⟩

theorem secrets_of_plant {s t : State} (h : plant t = plant s) : secrets t = secrets s := (congrArg secrets h :)

@[simp] theorem secrets_ite (c : Prop) {_ : Decidable c} (s t : State) :
    secrets (if c then s else t) = if c then secrets s else secrets t := apply_ite ..
@[simp] theorem secrets_raiseVault (s : State) (code fault detail) : secrets (raiseVault s code fault detail) = secrets s :=
  secrets_of_plant (plant_raiseVault ..)
@[simp] theorem secrets_stage (s : State) (kind source detail waiter) :
    secrets (stage s kind source detail waiter) = secrets s := secrets_of_plant (plant_stage ..)
@[simp] theorem secrets_capture (s : State) (ch dir) : secrets (capture s ch dir) = secrets s := rfl
@[simp] theorem secrets_exerciseResult (s : State) (i r) : secrets (exerciseResult s i r) = secrets s :=
  secrets_of_plant (plant_exerciseResult ..)
@[simp] theorem secrets_setSource (s : State) (i f) :
    secrets (setSource s i f) = { secrets s with sources := Tbl.modify (secrets s).sources i Source.init f } := rfl
@[simp] theorem secrets_setVault (s : State) (f) : secrets (setVault s f) =
    ⟨(f s.vault).tripped, (f s.vault).tamperOut, (f s.vault).akek, (f s.vault).adminKey, (f s.vault).leaf, s.boot.mainOn, s.keys,
      (f s.vault).sources⟩ := rfl
/-- An update under way is gone, with its report and the end of its command. -/
@[simp] theorem secrets_abortUpdate (s : State) : secrets (abortUpdate s) = secrets s := by
  unfold abortUpdate
  split
  · rfl
  · exact (secrets_of_plant (plant_endSlot ..)).trans ((secrets_stage ..).trans
      ((secrets_of_plant (plant_raiseAon ..)).trans rfl))
@[simp] theorem secrets_cipherZeroise (s : State) : secrets (cipherZeroise s) = { secrets s with keys := [] } := by
  unfold cipherZeroise
  dsimp only
  generalize keyUsers s = users
  have ended : secrets (users.foldl (fun s u => endSlot s u.1 u.2 { status := .cancelled }) s) = secrets s :=
    secrets_of_plant (plant_foldl _ _ _ fun _ _ => plant_endSlot ..)
  exact (secrets_of_plant (plant_raiseAdmin ..)).trans (congrArg (fun x : Secrets => { x with keys := [] }) ended)

/-- The vault tripped by a source: the first trip zeroises, and every trip records its source. -/
def Secrets.trip (x : Secrets) (i : Nat) : Secrets :=
  { x with
    tamperOut := true, tripped := true
    akek := if x.tripped then x.akek else none
    adminKey := if x.tripped then x.adminKey else none
    leaf := x.tripped && x.leaf
    keys := if !x.tripped && x.mainOn then [] else x.keys
    sources := Tbl.modify (if x.tripped then x.sources else Tbl.mapAll x.sources (fun _ y => { y with recorded := false }))
      i Source.init (fun y => { y with recorded := true, trips := satAdd 16 y.trips 1 }) }

theorem boot_raiseVault (s : State) (code : Nat) (fault : Bool) (detail : Nat) : (raiseVault s code fault detail).boot = s.boot :=
  boot_of_plant (plant_raiseVault ..)
theorem boot_stage (s : State) (kind source detail : Nat) (waiter : Option Nat) :
    (stage s kind source detail waiter).boot = s.boot := boot_of_plant (plant_stage ..)

theorem secrets_tamper (s : State) (i kind src detail : Nat) : secrets (tamper s i kind src detail) = (secrets s).trip i := by
  have boot (b : Bool) (u v : State) (hu : u.boot = s.boot) (hv : v.boot = s.boot) : (if b then u else v).boot = s.boot := by
    cases b
    · exact hv
    · exact hu
  unfold tamper
  dsimp only
  rw [boot]
  · cases ht : s.vault.tripped <;> cases hm : s.boot.mainOn
    all_goals
      simp only [secrets_ite, secrets_abortUpdate, secrets_cipherZeroise, secrets_raiseVault, secrets_stage, secrets_setSource,
        secrets_capture, ite_self]
      simp [Secrets.trip, secrets, ht, hm, zeroiseKeyStore]
  · exact (boot_raiseVault ..).trans ((boot_stage ..).trans (boot _ _ _ rfl rfl))
  · exact boot _ _ _ rfl rfl

/-- A source of the secrets. -/
def Secrets.source (x : Secrets) (i : Nat) : Source := Tbl.getD x.sources i Source.init

theorem source_eq (s : State) (i : Nat) : Machine.source s i = (secrets s).source i := rfl

/-- A source senses: it is armed and its receiver is on (R4, R368). -/
def Source.senses (y : Source) : Prop := y.arming = .armed ∧ y.receiverOff = false

/-- A sample of a source noted, which leaves its arming, its receiver and whether it is recorded. -/
def Secrets.note (x : Secrets) (i : Nat) (beyond : Bool) (lfsr : Nat) : Secrets :=
  { x with sources := Tbl.modify x.sources i Source.init (fun y => { y with beyond := beyond, lfsr := lfsr }) }

/-- A trip has zeroised what it should, and with the main domain on (`m`) every key slot. -/
structure Secrets.Spent (m : Bool) (x : Secrets) : Prop where
  tripped : x.tripped = true
  tamperOut : x.tamperOut = true
  akek : x.akek = none
  adminKey : x.adminKey = none
  leaf : x.leaf = false
  keys : m = true → x.keys = []

theorem Secrets.Spent.note {m : Bool} {x : Secrets} (h : x.Spent m) (i : Nat) (b : Bool) (l : Nat) : (x.note i b l).Spent m := by
  obtain ⟨tripped, tamperOut, akek, adminKey, leaf, keys⟩ := h
  exact ⟨tripped, tamperOut, akek, adminKey, leaf, keys⟩

theorem Secrets.Spent.trip {m : Bool} {x : Secrets} (h : x.Spent m) (i : Nat) : (x.trip i).Spent m := by
  obtain ⟨tripped, -, akek, adminKey, leaf, keys⟩ := h
  constructor <;> simp +contextual [Secrets.trip, tripped, akek, adminKey, leaf, keys]

/-- The first trip zeroises. -/
theorem Secrets.spent_trip {x : Secrets} (h : x.tripped = false) (i : Nat) : (x.trip i).Spent x.mainOn := by
  constructor <;> simp +contextual [Secrets.trip, h]

theorem Secrets.source_trip_self (x : Secrets) (i : Nat) : ((x.trip i).source i).recorded = true := by
  simp [Secrets.source, Secrets.trip]

theorem Secrets.source_trip_ne {x : Secrets} {i j : Nat} (ht : x.tripped = true) (h : i ≠ j) : (x.trip j).source i = x.source i := by
  simp [Secrets.source, Secrets.trip, ht, h]

theorem Secrets.senses_trip (x : Secrets) (i j : Nat) : ((x.trip j).source i).senses ↔ (x.source i).senses := by
  have cleared : ((Tbl.getD (if x.tripped then x.sources else Tbl.mapAll x.sources (fun _ y => { y with recorded := false })) i
      Source.init).senses ↔ (Tbl.getD x.sources i Source.init).senses) := by
    split
    · rfl
    · rw [Tbl.getD, Tbl.get?_mapAll, Tbl.getD]
      cases Tbl.get? x.sources i <;> rfl
  rw [Secrets.source, Secrets.trip]
  by_cases h : i = j
  · subst h
    rw [Tbl.getD_modify_self]
    exact cleared
  · rw [Tbl.getD_modify_ne _ _ _ h]
    exact cleared

theorem Secrets.source_note_self (x : Secrets) (i : Nat) (b : Bool) (l : Nat) :
    (x.note i b l).source i = { x.source i with beyond := b, lfsr := l } := by
  simp [Secrets.source, Secrets.note]
theorem Secrets.source_note_ne (x : Secrets) {i j : Nat} (b : Bool) (l : Nat) (h : i ≠ j) :
    (x.note j b l).source i = x.source i := by
  simp [Secrets.source, Secrets.note, h]

/-- What a source's sample does: nothing, a note, or a note and a trip. -/
inductive Sampled (j : Nat) (x : Secrets) : Secrets → Prop
  | nothing : Sampled j x x
  | note (b : Bool) (l : Nat) : Sampled j x (x.note j b l)
  | trip (b : Bool) (l : Nat) : Sampled j x ((x.note j b l).trip j)

/-- The source will be found to differ: it senses, and nothing is tripped before, or has been zeroised with the trip. -/
def Secrets.Awaits (m : Bool) (i : Nat) (x : Secrets) : Prop :=
  x.mainOn = m ∧ (x.source i).senses ∧ (x.tripped = false ∨ x.Spent m)

/-- A trip has zeroised, and the source is recorded in it. -/
def Secrets.Told (m : Bool) (i : Nat) (x : Secrets) : Prop := x.Spent m ∧ (x.source i).recorded = true

theorem Secrets.Awaits.note {m : Bool} {i : Nat} {x : Secrets} (h : x.Awaits m i) (j : Nat) (b : Bool) (l : Nat) :
    (x.note j b l).Awaits m i := by
  obtain ⟨on, senses, state⟩ := h
  refine ⟨on, ?_, state.imp id (·.note j b l)⟩
  by_cases hj : i = j
  · subst hj
    rw [Secrets.source_note_self]
    exact senses
  · rwa [Secrets.source_note_ne x b l hj]

theorem Secrets.Awaits.spent {m : Bool} {i : Nat} {x : Secrets} (h : x.Awaits m i) (j : Nat) : (x.trip j).Spent m := by
  obtain ⟨on, -, state⟩ := h
  rcases state with fresh | spent
  · exact on ▸ Secrets.spent_trip fresh j
  · exact spent.trip j

theorem Sampled.awaits {m : Bool} {i j : Nat} {x y : Secrets} (hs : Sampled j x y) (h : x.Awaits m i) : y.Awaits m i := by
  cases hs with
  | nothing => exact h
  | note b l => exact h.note j b l
  | trip b l =>
    obtain ⟨on, senses, -⟩ := h.note j b l
    exact ⟨on, (Secrets.senses_trip ..).mpr senses, .inr ((h.note j b l).spent j)⟩

theorem Secrets.Told.note {m : Bool} {i : Nat} {x : Secrets} (h : x.Told m i) (j : Nat) (b : Bool) (l : Nat) :
    (x.note j b l).Told m i := by
  obtain ⟨spent, recorded⟩ := h
  refine ⟨spent.note j b l, ?_⟩
  by_cases hj : i = j
  · subst hj
    rw [Secrets.source_note_self]
    exact recorded
  · rwa [Secrets.source_note_ne x b l hj]

theorem Sampled.told {m : Bool} {i j : Nat} {x y : Secrets} (hs : Sampled j x y) (h : x.Told m i) : y.Told m i := by
  cases hs with
  | nothing => exact h
  | note b l => exact h.note j b l
  | trip b l =>
    obtain ⟨spent, recorded⟩ := h.note j b l
    refine ⟨spent.trip j, ?_⟩
    by_cases hj : i = j
    · subst hj
      exact Secrets.source_trip_self ..
    · rwa [Secrets.source_trip_ne spent.tripped hj]

/-! ### The regular sample (R373) -/

theorem secrets_noted (s : State) (i : Nat) (b : Bool) (f : Source → Nat) :
    secrets (setSource s i (fun x => { x with beyond := b, lfsr := f x })) = (secrets s).note i b (f (source s i)) := rfl

theorem samplePair_deaf {s : State} {i : Nat} (d : Nat) (h : (source s i).arming ≠ .armed) : samplePair s i d = s := by
  simp [samplePair, h]

theorem sampled_samplePair (s : State) (i d : Nat) : Sampled i (secrets s) (secrets (samplePair s i d)) := by
  unfold samplePair
  dsimp only
  split
  · exact .nothing
  · split
    · exact .note _ _
    · rw [secrets_tamper]
      exact .trip _ _

/-- A pair that senses a difference trips. -/
theorem told_samplePair {m : Bool} {s : State} {i d : Nat} (h : (secrets s).Awaits m i) (hd : d ≠ 0) :
    (secrets (samplePair s i d)).Told m i := by
  obtain ⟨arming, receiver⟩ : (source s i).arming = .armed ∧ (source s i).receiverOff = false := h.2.1
  unfold samplePair
  dsimp only
  rw [if_neg (by simp [arming, receiver]), if_neg hd, secrets_tamper, secrets_noted]
  exact ⟨(h.note ..).spent i, Secrets.source_trip_self ..⟩

theorem sampleDetector_deaf {s : State} {d : Nat} (side other : Nat) (t : Int) (h : (source s (4 + d)).arming ≠ .armed) :
    sampleDetector s d side other t = s := by
  simp [sampleDetector, h]

theorem sampled_sampleDetector (s : State) (d side other : Nat) (t : Int) :
    Sampled (4 + d) (secrets s) (secrets (sampleDetector s d side other t)) := by
  unfold sampleDetector
  dsimp only
  split
  · exact .nothing
  · split
    · exact .note _ _
    · rw [secrets_tamper]
      exact .trip _ _

/-- The pairs of a sample, and then the detectors. -/
def pairsSampled (s : State) (t : Int) (diffs : List Nat) : State :=
  [0, 1, 2, 3].foldl (fun s i => samplePair s i (diffs.getD i 0)) (setVault s (fun v => { v with tdB := t }))
def detectorsSampled (s : State) (a : Nat) (t : Int) (diffs : List Nat) : State :=
  let s := pairsSampled s t diffs
  sampleDetector (sampleDetector s 0 a (sideB s t) t) 1 (sideB s t) a t

/-- The exercises that a disagreement brings leave the plant as the samples did. -/
theorem plant_sample (s : State) (a : Nat) (t : Int) (diffs : List Nat) (failA failB : Nat) :
    plant (sample s a t diffs failA failB) = plant (detectorsSampled s a t diffs) := by
  unfold sample detectorsSampled pairsSampled
  dsimp only
  repeat' split
  all_goals simp

theorem detectorsSampled_deaf {s : State} (a : Nat) (t : Int) (diffs : List Nat)
    (h : ∀ i, i < 6 → (source s i).arming ≠ .armed) : detectorsSampled s a t diffs = setVault s (fun v => { v with tdB := t }) := by
  have heard (i : Nat) (hi : i < 6) : (source (setVault s (fun v => { v with tdB := t })) i).arming ≠ .armed := h i hi
  have pairs : pairsSampled s t diffs = setVault s (fun v => { v with tdB := t }) := by
    simp only [pairsSampled, List.foldl_cons, List.foldl_nil]
    rw [samplePair_deaf _ (heard 0 (by omega)), samplePair_deaf _ (heard 1 (by omega)), samplePair_deaf _ (heard 2 (by omega)),
      samplePair_deaf _ (heard 3 (by omega))]
  unfold detectorsSampled
  dsimp only
  rw [pairs, sampleDetector_deaf (d := 0) _ _ _ (heard 4 (by omega)), sampleDetector_deaf (d := 1) _ _ _ (heard 5 (by omega))]

theorem foldl_samplePair_told {m : Bool} {i : Nat} (d : Nat → Nat) (l : List Nat) (s : State) (h : (secrets s).Told m i) :
    (secrets (l.foldl (fun s i => samplePair s i (d i)) s)).Told m i := by
  induction l generalizing s with
  | nil => exact h
  | cons j l ih => exact ih _ ((sampled_samplePair ..).told h)

/-- A pair that senses a difference is told of, whatever trips beside it. -/
theorem foldl_samplePair_awaits {m : Bool} {i : Nat} {d : Nat → Nat} (hd : d i ≠ 0) (l : List Nat) (s : State) (hi : i ∈ l)
    (h : (secrets s).Awaits m i) : (secrets (l.foldl (fun s i => samplePair s i (d i)) s)).Told m i := by
  induction l generalizing s with
  | nil => cases hi
  | cons j l ih =>
    rw [List.foldl_cons]
    by_cases hj : i = j
    · subst hj
      exact foldl_samplePair_told d l _ (told_samplePair h hd)
    · exact ih _ (List.mem_of_ne_of_mem hj hi) ((sampled_samplePair ..).awaits h)

theorem told_sample {s : State} {i : Nat} (a : Nat) (t : Int) (diffs : List Nat) (failA failB : Nat) (hi : i < 4)
    (hs : (source s i).senses) (hd : diffs.getD i 0 ≠ 0) (ht : s.vault.tripped = false) :
    (secrets (sample s a t diffs failA failB)).Told s.boot.mainOn i := by
  rw [secrets_of_plant (plant_sample ..)]
  have awaits : (secrets (setVault s (fun v => { v with tdB := t }))).Awaits s.boot.mainOn i := ⟨rfl, hs, .inl ht⟩
  have member : i ∈ [0, 1, 2, 3] := by
    simp
    omega
  have pairs : (secrets (pairsSampled s t diffs)).Told s.boot.mainOn i :=
    foldl_samplePair_awaits (d := fun i => diffs.getD i 0) hd _ _ member awaits
  exact (sampled_sampleDetector ..).told ((sampled_sampleDetector ..).told pairs)

/-! ### The commands (R369, R371, R374) -/

/-- An arming set, before it is stored and staged. -/
def armingSet (s : State) (c : Ctx) : State :=
  setSource (drawBytes s 2).2 (c.u 0 1) (fun x => { x with
    arming := if c.u 1 1 == 2 then .armed else .disarmed
    dynamic := decide (c.u 0 1 < 4) && c.u 2 1 == 1
    level := decide (c.u 0 1 < 4) && c.u 3 1 == 1
    lfsr := if c.u 1 1 == 2 && decide (c.u 0 1 < 4) && c.u 2 1 == 1 then leNat (drawBytes s 2).1 % 65535 + 1 else x.lfsr
    beyond := false })

theorem armingEffect_eq (s : State) (c : Ctx) : armingEffect s c =
    finish (stage (storeArming (armingSet s c)) 0x04 (c.u 0 1) (c.u 1 1) none) c { status := .ok } := rfl

theorem source_armingEffect (s : State) (c : Ctx) (j : Nat) : source (armingEffect s c) j = source (armingSet s c) j := by
  rw [armingEffect_eq, source_of_plant ((plant_finish ..).trans (plant_stage ..))]
  rfl

/-- The vault acknowledged, before it is told and staged. -/
def acknowledged (s : State) : State :=
  setVault s (fun v => { v with
    tripped := false, tamperOut := false, nvTripped := false, leaf := true
    sources := Tbl.mapAll v.sources (fun _ x => { x with recorded := false }) })

theorem plant_acknowledge (s : State) : plant (acknowledge s) = plant (acknowledged s) := by
  unfold acknowledge
  dsimp only
  rw [plant_stage, plant_raiseVault]
  rfl
theorem requests_acknowledge (s : State) : requests (acknowledge s) = requests s := by
  unfold acknowledge
  dsimp only
  rw [requests_stage, requests_raiseVault, requests_setVault]

theorem exec_insertedSample {s : State} {i : Fin 6} (r : Fin 3) (hon : vaultOn s = true) (hf : sourceFused s i = false) :
    exec (.insertedSample i r) s = .next (exerciseResult s.fresh_ i r) := by
  have hon' : vaultOn s.fresh_ = true := hon
  have hf' : sourceFused s.fresh_ i = false := hf
  exact congrArg Host.Outcome.next (if_pos (by rw [hon', hf']; rfl))

/-- Settles O44: arming, self-test, acknowledgement and status of the sources, the samples and the trip they bring. -/
theorem tamperTripsZeroisesAndIsAcknowledged : Obligations.TamperTripsZeroisesAndIsAcknowledged := by
  unfold Obligations.TamperTripsZeroisesAndIsAcknowledged
  refine ⟨fun o s c => ⟨?arming, ?test, ?acknowledge, ?status⟩,
    fun s hon => ⟨fun tdA tdB diffs failA failB => ⟨?deaf, ?trip⟩, fun i hf => ⟨?failed, ?passed⟩⟩⟩
  case arming =>
    intro first h
    refine ⟨_, congrArg Host.Outcome.next (runOp_ready _ h), ended_finish_of_requests _ h.1 (requests_stage ..), ?_, fun j hj => ?_⟩
    · rw [source_armingEffect, armingSet, source_setSource_self]
      simp
    · rw [source_armingEffect, armingSet, source_setSource_ne _ _ hj]
      rfl
  case test =>
    intro passed h
    refine ⟨_, congrArg Host.Outcome.next (runOp_ready _ h), ended_finish_of_requests _ h.1 (requests_selfTest ..),
      fun d hd hm hp => ?_⟩
    dsimp only
    rw [isFenced_finish, selfTest_eq]
    refine isFenced_foldl_testSource hm hp _ _ (.inl ?_)
    simp
    omega
  case acknowledge =>
    intro h
    have vault := unstaged_of_plant ((plant_finish (acknowledge s.fresh_) c { status := .ok }).trans (plant_acknowledge _))
    exact ⟨_, congrArg Host.Outcome.next (runOp_ready _ h), ended_finish_of_requests _ h.1 (requests_acknowledge ..),
      (congrArg Vault.tripped vault :), (congrArg Vault.tamperOut vault :), (congrArg Vault.nvTripped vault :),
      (congrArg Vault.leaf vault :)⟩
  case status =>
    intro h
    exact ⟨_, congrArg Host.Outcome.next (runOp_ready _ h), ended_finish _ h.1, vault_finish ..⟩
  case deaf =>
    intro h
    refine ⟨_, congrArg Host.Outcome.next (if_pos hon), ?_⟩
    have sampled := (plant_sample s.fresh_ tdA tdB (diffs.map (fun d => d.toNat)) failA failB).trans
      (congrArg plant (detectorsSampled_deaf (s := s.fresh_) tdA tdB _ h))
    have vault := unstaged_of_plant sampled
    exact ⟨(congrArg Vault.tripped vault :), (congrArg Vault.tdB vault :), (congrArg Vault.akek vault :),
      (congrArg State.keys sampled :)⟩
  case trip =>
    intro i hi harmed hreceiver hd ht
    obtain ⟨⟨tripped, tamperOut, akek, adminKey, leaf, keys⟩, recorded⟩ :=
      told_sample (s := s.fresh_) tdA tdB (diffs.map (fun d => d.toNat)) failA failB hi ⟨harmed, hreceiver⟩ hd ht
    exact ⟨_, congrArg Host.Outcome.next (if_pos hon), tripped, tamperOut, akek, adminKey, leaf, recorded, keys⟩
  case failed =>
    intro hi
    refine ⟨_, exec_insertedSample 2 hon hf, ?_⟩
    obtain ⟨d, hd⟩ : ∃ d, (i : Nat) = 4 + d := ⟨i - 4, by omega⟩
    rw [hd, Nat.add_sub_cancel_left, show ((2 : Fin 3) : Nat) = 2 from rfl, exerciseResult_failed]
    exact isFenced_fenceDetector_self ..
  case passed =>
    rw [exec_insertedSample 0 hon hf]
    simp [exerciseResult, State.fresh_]

end Sys2Proof.Machine
end

section
/-! Firmware update and the SPDM responder (R279, R375, R376, R507). -/

namespace Sys2Proof.Machine
open Sys2Proof

/-! ### The update -/

/-- A request whose phase stands is still the same request of its slot or of TWT. -/
theorem requests_setSlot (s : State) (p k : Nat) (f : Slot → Slot) (hf : ∀ x, (f x).phase = x.phase) :
    requests (setSlot s p k f) = requests s := requests_of_bearing (bearing_setSlot s p k f hf)

/-- An image that passes: its command is begun, and the update is under way with the sections written. -/
theorem updateBegin_good {s : State} {c : Ctx} {host : List Byte} {ok : Bool} (hm : descReadMeets s c.p (c.desc 0) = none)
    (hi : imageOk (readDesc s c.p (c.desc 0) host) ok = true) : updateBegin host ok s c =
    send (setBoot (setSlot s c.p c.k (fun sl => { sl with begun := true, inputs := [readDesc s c.p (c.desc 0) host] }))
      (fun b => { b with update := some c.k, updateCopy := spareCopy s }))
      (sectionWrites (spareCopy s) (readDesc s c.p (c.desc 0) host)) := by
  unfold updateBegin
  rw [hm]
  simp [hi]

/-- An image that fails is reported, and its command ends. -/
theorem updateBegin_bad {s : State} {c : Ctx} {host : List Byte} {ok : Bool} (hm : descReadMeets s c.p (c.desc 0) = none)
    (hi : imageOk (readDesc s c.p (c.desc 0) host) ok = false) : updateBegin host ok s c =
    finish (raiseAon s 0x0A28 true (spareCopy s + 256 * 0x02)) c
      { status := .integrity, reads := [readDesc s c.p (c.desc 0) host] } := by
  unfold updateBegin
  rw [hm]
  simp [hi]

/-- The update over, before its report and the end of its command. -/
def updateOver (s : State) (c : Ctx) (readBack : Nat) : State :=
  let t := setBoot s (fun b => { b with update := none })
  if readBack = 2 then t
  else send (setSlot t c.p c.k (fun sl => { sl with lower := sl.lower || readBack == 1 }))
    [.flash s.boot.updateCopy 0 (newHeader t ((slotAt s c.p c.k).inputs.headD [])),
      .flash s.boot.updateCopy 0xFFC (leBytes 4 0x5AA5C33C)]

/-- What an update answers. -/
def updateAnswer (s : State) (c : Ctx) (readBack : Nat) : Answer :=
  let image := (slotAt s c.p c.k).inputs.headD []
  if readBack = 2 then { status := .lasting }
  else { status := .ok, result := leBytes 1 s.boot.updateCopy ++ [0] ++ leBytes 1 (field image 6 1) ++ leBytes 1 (field image 7 1) }

theorem updateEnd_eq (s : State) (c : Ctx) (readBack : Nat) : ∃ code fault detail, updateEnd readBack s c =
    finish (raiseAon (updateOver s c readBack) code fault detail) c (updateAnswer s c readBack) := by
  unfold updateEnd updateOver updateAnswer
  dsimp only
  split <;> exact ⟨_, _, _, rfl⟩

theorem requests_updateOver (s : State) (c : Ctx) (readBack : Nat) : requests (updateOver s c readBack) = requests s := by
  unfold updateOver
  dsimp only
  split
  · rfl
  · exact requests_setSlot _ _ _ _ fun _ => rfl

theorem update_updateOver (s : State) (c : Ctx) (readBack : Nat) : (updateOver s c readBack).boot.update = none := by
  unfold updateOver
  dsimp only
  split <;> rfl

/-- What has been read back ends the update and its command. -/
theorem updateEnd_spec {s : State} {o : Origin} {c : Ctx} (h : ctxOf s o = some c) (readBack : Nat) :
    (updateEnd readBack s c).boot.update = none ∧
    Ended (updateEnd readBack s c) o (updateAnswer s c readBack).status (updateAnswer s c readBack).result := by
  obtain ⟨code, fault, detail, he⟩ := updateEnd_eq s c readBack
  rw [he]
  refine ⟨?_, ended_finish_of_requests _ h ((requests_raiseAon ..).trans (requests_updateOver ..))⟩
  rw [boot_of_plant ((plant_finish ..).trans (plant_raiseAon ..)), update_updateOver]

theorem exec_firmwareUpdate_begin {s : State} {o : Origin} {c : Ctx} (host : List Byte) (ok : Bool) (readBack : Fin 3)
    (h : Ready 0x0A05 firmwareUpdateBudget updateChecks o s c) (hb : begun s o = false) :
    exec (.firmwareUpdate o host ok readBack) s = .next (updateBegin host ok s.fresh_ c) := by
  refine (congrArg Host.Outcome.next (if_neg ?_)).trans (congrArg Host.Outcome.next (runOp_ready _ h))
  simp [hb]

theorem exec_firmwareUpdate_end {s : State} {o : Origin} {c : Ctx} (host : List Byte) (ok : Bool) (readBack : Fin 3)
    (h : ctxOf s.fresh_ o = some c) (hop : c.op = 0x0A05) (hb : begun s o = true) (hu : s.boot.update = some c.k) :
    exec (.firmwareUpdate o host ok readBack) s = .next (updateEnd readBack s.fresh_ c) := by
  have hu' : s.fresh_.boot.update = some c.k := hu
  refine congrArg Host.Outcome.next ((if_pos hb).trans ?_)
  rw [h]
  simp [hop, hu]

theorem goesOn_updateBegin {s : State} {o : Origin} {c : Ctx} {host : List Byte} {ok : Bool}
    (h : Ready 0x0A05 firmwareUpdateBudget updateChecks o s c) (hm : descReadMeets s c.p (c.desc 0) = none)
    (hi : imageOk (readDesc s c.p (c.desc 0) host) ok = true) : GoesOn (updateBegin host ok s.fresh_ c) o := by
  rw [updateBegin_good (s := s.fresh_) hm hi]
  have hslot := slotAt_setSlot_self s.fresh_ c.p c.k (fun sl => { sl with begun := true, inputs := [readDesc s c.p (c.desc 0) host] })
  exact goesOn_of_begun h rfl (congrArg Slot.phase hslot :) (congrArg Slot.begun hslot :)

/-! ### SPDM -/

theorem exec_spdmRequest_ready {h : Fin 2} {r : List Byte} {s : State} (hr : (hostPort s h).ready = true)
    (hf : (hostFn s h 0).flr = false) : exec (.spdmRequest h r) s = .next (spdmRequest s.fresh_ h r) :=
  congrArg Host.Outcome.next (if_pos (by rw [hr, hf]; rfl))

theorem spdmRequest_version {h : Nat} {r : List Byte} (s : State) (hr : field r 1 1 = 0x84) : spdmRequest s h r =
    spdmAnswer s h [0x10, 4, 0, 0, 0, 1, 0, 0x12]
      (fun p => { p with spdmA := r ++ [0x10, 4, 0, 0, 0, 1, 0, 0x12], spdmB := [], spdmL := [] }) := by
  unfold spdmRequest
  rw [hr]
  rfl

theorem spdmRequest_unsigned {h : Nat} {r : List Byte} {s : State} (hr : field r 1 1 = 0x83) (hp : field r 2 1 = 0)
    (hs : s.vault.tripped = true ∨ s.vault.leaf = false) : spdmRequest s h r = spdmAnswer s h (spdmError 0x03 0) id := by
  have unable : canSign s = false := by
    unfold canSign
    rcases hs with hs | hs <;> simp [hs]
  unfold spdmRequest
  rw [hr]
  simp [spdmChallenge, hp, unable]

/-- Settles O57: an update begins or its image fails, what is read back ends it, and SPDM answers a version request and a challenge
that cannot be signed. -/
theorem firmwareUpdateAndSpdm : Obligations.FirmwareUpdateAndSpdm := by
  unfold Obligations.FirmwareUpdateAndSpdm
  refine ⟨fun o s c host image ok readBack => ⟨?begins, ?ends⟩, fun h r s => ⟨fun hr hf => ⟨?version, ?challenge⟩, ?quiet⟩⟩
  case begins =>
    rintro h hb hm rfl
    refine ⟨fun hi => ⟨_, exec_firmwareUpdate_begin host ok readBack h hb, goesOn_updateBegin h hm hi, ?_⟩,
      fun hi => ⟨_, exec_firmwareUpdate_begin host ok readBack h hb, ?_⟩⟩
    · rw [updateBegin_good (s := s.fresh_) hm hi]
      exact ⟨rfl, rfl, rfl⟩
    · rw [updateBegin_bad (s := s.fresh_) hm hi]
      refine ⟨ended_finish_of_requests _ h.1 (requests_raiseAon ..), ?_⟩
      rw [boot_of_plant ((plant_finish ..).trans (plant_raiseAon ..))]
      rfl
  case ends =>
    rintro hc - hop hb hu rfl
    have hc' : ctxOf s.fresh_ o = some c := (ctxOf_congr rfl rfl o).trans hc
    obtain ⟨gone, ended⟩ := updateEnd_spec hc' readBack
    refine ⟨_, exec_firmwareUpdate_end host ok readBack hc' hop hb hu, gone, ?_⟩
    by_cases hr : readBack = 2
    · subst hr
      exact ended
    · have hn : ¬(readBack : Nat) = 2 := fun e => hr (Fin.ext e)
      simp only [updateAnswer, hn, if_false] at ended
      rw [if_neg hr]
      exact ended
  case version =>
    intro hv
    refine ⟨_, exec_spdmRequest_ready hr hf, ?_⟩
    rw [spdmRequest_version _ hv]
    have port := hostPort_setHost_self s.fresh_ h
      (fun p => { p with spdmA := r ++ [0x10, 4, 0, 0, 0, 1, 0, 0x12], spdmB := [], spdmL := [] })
    exact ⟨rfl, congrArg HostPort.spdmA port, congrArg HostPort.spdmB port, congrArg HostPort.spdmL port⟩
  case challenge =>
    intro hv hp hs
    refine ⟨_, exec_spdmRequest_ready hr hf, ?_⟩
    rw [spdmRequest_unsigned (s := s.fresh_) hv hp hs]
    rfl
  case quiet =>
    intro hr
    exact congrArg Host.Outcome.next (if_neg (by simp [hr]))

end Sys2Proof.Machine
end

section
/-! Synfy ready, the default content, NODE_DONE, solo mode and boundary scan (R325, R500, R502–R504, R530). -/

namespace Sys2Proof.Machine
open Sys2Proof

/-! ### Synfy ready -/

/-- The boot state, the time, the fault record and the events the vault holds. -/
def heldFor (s : State) : Boot × Nat × List Event × List Event := (s.boot, s.now, s.faults.record, s.vault.heldEvents)

theorem EventsOnly.heldFor {s t : State} (h : EventsOnly s t) : heldFor t = heldFor s := by
  obtain ⟨⟨_, _, _, rfl⟩, -⟩ := h
  rfl
@[simp] theorem heldFor_raiseAdmin (s : State) (code fault subject detail) :
    heldFor (raiseAdmin s code fault subject detail) = heldFor s := (raiseAdmin_spec ..).heldFor
@[simp] theorem heldFor_grantReady (s : State) (cls n) : heldFor (grantReady s cls n) = heldFor s := by
  unfold grantReady
  split <;> rfl
@[simp] theorem heldFor_foldl {β : Type} (f : State → β → State) (l : List β) (s : State)
    (h : ∀ s x, heldFor (f s x) = heldFor s) : heldFor (l.foldl f s) = heldFor s := foldl_leaves h l s

/-- With the record delivered nothing of it is held. -/
theorem heldFor_deliverRecord (s : State) : heldFor (deliverRecord s) = (s.boot, s.now, [], []) := by
  have post : ∀ (u : State) (e : Event), heldFor (postEvent u 0 e) = heldFor u := fun u e => (postEvent_spec ..).heldFor
  unfold deliverRecord
  dsimp only
  rw [heldFor_foldl _ _ _ post]
  split
  · rw [heldFor_foldl _ _ _ post]
    rfl
  · rw [heldFor_raiseAdmin, heldFor_foldl _ _ _ post]
    rfl

/-- The state with self-test ended, in which Synfy starts. -/
def testedState (s : State) : State :=
  if s.boot.selfTestDone then s else formStatus (setBoot s (fun b => { b with selfTestDone := true }))

theorem plant_formStatus (s : State) : plant (formStatus s) = plant s := (plant_raiseAdmin ..).trans rfl

theorem testedState_spec (s : State) :
    (testedState s).boot = { s.boot with selfTestDone := true } ∧ (testedState s).now = s.now := by
  unfold testedState
  split
  · next h => exact ⟨by rw [← h], rfl⟩
  · exact ⟨boot_of_plant (plant_formStatus _), (now_of_plant (plant_formStatus _)).trans rfl⟩

/-- Synfy granted, before the record is delivered. -/
def synfyGranted (s : State) : State :=
  grantReady (setBoot (testedState s) (fun b => { b with phase := .ready, synfyReady := true })) 11 0

theorem synfyGranted_spec (s : State) : (synfyGranted s).boot =
    { s.boot with selfTestDone := true, phase := .ready, synfyReady := true } ∧ (synfyGranted s).now = s.now := by
  obtain ⟨boot, now⟩ := testedState_spec s
  have granted := heldFor_grantReady (setBoot (testedState s) (fun b => { b with phase := .ready, synfyReady := true })) 11 0
  simp only [heldFor, Prod.mk.injEq] at granted
  obtain ⟨hboot, hnow, -⟩ := granted
  refine ⟨hboot.trans ?_, hnow.trans now⟩
  rw [setBoot_boot, boot]

/-- The record delivered, with event 0x0A26. -/
def recordTold (s : State) : State := raiseAon (deliverRecord s) 0x0A26 false ((s.now - s.boot.startAt) / 1000000 % 4294967296)

theorem heldFor_recordTold {s : State} (h : s.boot.mainOn = true) : heldFor (recordTold s) = (s.boot, s.now, [], []) := by
  have delivered := heldFor_deliverRecord s
  have on : (deliverRecord s).boot.mainOn = true := by
    rw [(Prod.mk.inj delivered).1, h]
  unfold recordTold raiseAon
  rw [if_pos on, heldFor_raiseAdmin, delivered]

/-- Partner ports enabled at Synfy ready, under fresh hash seeds of the classifier. -/
def partnersEnabled (s : State) : State :=
  (List.range 8).foldl (fun s n =>
    if bit s.aon.tables.partnerPorts n && !portFenced s n && (portAt s n).state == .disabled then enablePort s n else s)
    { s with cls := { s.cls with seeds := (List.range 4).map (fun i => s.fresh + i) }, fresh := s.fresh + 4 }

/-- And the network ports' speeds set. -/
def portsOpened (s : State) : State :=
  [0, 1].foldl (fun s j => setNet s j (fun n => { n with speed := s.aon.tables.netSpeeds.getD j n.speed })) (partnersEnabled s)

theorem heldFor_portsOpened (s : State) : heldFor (portsOpened s) = heldFor s := by
  have partners : heldFor (partnersEnabled s) = heldFor s :=
    heldFor_foldl _ _ _ fun u n => by
      split <;> rfl
  unfold portsOpened
  generalize partnersEnabled s = u at partners ⊢
  exact (heldFor_foldl _ [0, 1] u fun _ _ => rfl).trans partners

theorem synfyReady_eq {s : State} (hon : s.boot.mainOn = true) (hp : s.boot.phase = .mainStart)
    (hl : s.boot.loaded.contains 2 = true) (ht : s.boot.selfTestDone = true ∨ s.aon.tables.selfTest = false) :
    synfyReady s = setBoot (portsOpened (recordTold (synfyGranted s)))
      (fun b => { b with nodeDoneDriven := false, soloTimer := some (portsOpened (recordTold (synfyGranted s))).now }) := by
  have due : ¬ (!s.boot.mainOn || s.boot.phase != .mainStart || !s.boot.loaded.contains 2 ||
      !(s.boot.selfTestDone || !s.aon.tables.selfTest)) = true := by
    rw [hon, hp, hl]
    rcases ht with ht | ht <;> simp [ht]
  exact if_neg due

theorem heldFor_synfyReady {s : State} (hon : s.boot.mainOn = true) :
    heldFor (portsOpened (recordTold (synfyGranted s))) =
      ({ s.boot with selfTestDone := true, phase := .ready, synfyReady := true }, s.now, [], []) := by
  obtain ⟨boot, now⟩ := synfyGranted_spec s
  rw [heldFor_portsOpened, heldFor_recordTold (by rw [boot]; exact hon), boot, now]

/-! ### The default content -/

theorem boot_loadItem (s : State) (c : Ctx) : (loadItem s c).boot = s.boot := by
  have ended : ∀ (u : State) (a : Answer), (finish u c a).boot = u.boot := fun _ _ => boot_of_plant (plant_finish ..)
  unfold loadItem
  split
  · split
    · unfold entryInsertEffect
      split
      · exact ended ..
      · next n t h =>
        rw [ended]
        rcases insertEntry_puts h with rfl | ⟨_, rfl⟩ <;> rfl
    all_goals exact (ended ..).trans rfl
  · exact (boot_of_plant (plant_raiseAon ..)).trans rfl

theorem boot_enableListed (s : State) : (enableListed s).boot = s.boot := by
  have enabled : ∀ (u : State) (j : Nat), (if bit u.aon.tables.netPorts j && !u.cls.failed.contains j && !netOut u j
      then enableNet u j else u).boot = u.boot := fun u j => by
    unfold enableNet
    split_ifs <;> rfl
  unfold enableListed
  dsimp only
  split
  · rfl
  · exact foldl_leaves (g := State.boot) enabled _ s

theorem classifierLoaded_loadContent {s : State} (content : List (Nat × List Byte)) (hr : s.boot.synfyReady = true)
    (hl : s.boot.classifierLoaded = false) (hp : s.boot.sections.contains 5 = true → s.boot.loaded.contains 5 = true) :
    (loadContent s content).boot.classifierLoaded = true := by
  have due : ¬ (!s.boot.synfyReady || s.boot.classifierLoaded || (s.boot.sections.contains 5 && !s.boot.loaded.contains 5)) = true := by
    rw [hr, hl]
    cases h : s.boot.sections.contains 5 with
    | false => simp
    | true => rw [hp h]; simp
  unfold loadContent
  dsimp only
  rw [if_neg due, boot_enableListed]
  rfl

/-! ### NODE_DONE -/

theorem portAt_of_plant {s t : State} (h : plant t = plant s) (n : Nat) : portAt t n = portAt s n :=
  (congrArg (fun u : State => Tbl.getD u.ports n Port.init) h :)

/-- A port as NODE_DONE's rise finds it: one in Seek that has seen a signal trains. -/
def trainSeen (s : State) (n : Nat) : State :=
  if (portAt s n).state == .seek && (portAt s n).seen then
    setPort s n (fun q => { q with state := .train, stateFrom := s.now, empty := 0, seen := false, bursting := false })
  else s

theorem boot_trainSeen (s : State) (n : Nat) : (trainSeen s n).boot = s.boot := by
  unfold trainSeen
  split <;> rfl

theorem trainSeen_self {s : State} {n : Nat} (h : (portAt s n).state = .seek ∧ (portAt s n).seen = true) :
    (portAt (trainSeen s n) n).state = .train := by
  rw [trainSeen, if_pos (by simp [h]), portAt_setPort_self]

theorem trainSeen_ne (s : State) {n m : Nat} (h : n ≠ m) : portAt (trainSeen s m) n = portAt s n := by
  unfold trainSeen
  split
  · exact portAt_setPort_ne _ _ h
  · rfl

theorem trainSeen_trained {s : State} {n : Nat} (m : Nat) (h : (portAt s n).state = .train) :
    (portAt (trainSeen s m) n).state = .train := by
  by_cases hm : n = m
  · subst hm
    rw [trainSeen, if_neg (by simp [h]), h]
  · rw [trainSeen_ne s hm, h]

theorem foldl_trainSeen_trained {n : Nat} (l : List Nat) (s : State) (h : (portAt s n).state = .train) :
    (portAt (l.foldl trainSeen s) n).state = .train := by
  induction l generalizing s with
  | nil => exact h
  | cons m l ih => exact ih _ (trainSeen_trained m h)

/-- A port that waits for its partner and is among those looked at trains. -/
theorem foldl_trainSeen_seen {n : Nat} (l : List Nat) (s : State) (hn : n ∈ l)
    (h : (portAt s n).state = .seek ∧ (portAt s n).seen = true) : (portAt (l.foldl trainSeen s) n).state = .train := by
  induction l generalizing s with
  | nil => cases hn
  | cons m l ih =>
    rw [List.foldl_cons]
    by_cases hm : n = m
    · subst hm
      exact foldl_trainSeen_trained l _ (trainSeen_self h)
    · exact ih _ (List.mem_of_ne_of_mem hm hn) (by rwa [trainSeen_ne s hm])

/-- The line noted as high, with its event. -/
def lineHigh (s : State) : State :=
  raiseAdmin (setBoot s (fun b => { b with nodeDoneHigh := true, solo := false, soloTimer := none })) 0x0A25 false 0 (b2n s.boot.solo)

theorem nodeDoneRises_eq {s : State} (hv : s.boot.vaon = true) (hd : s.boot.nodeDoneDriven = false)
    (hh : s.boot.nodeDoneHigh = false) : nodeDoneRises s = (List.range 8).foldl trainSeen (lineHigh s) :=
  if_neg (by simp [hv, hd, hh])

theorem does_nodeDoneHigh {s : State} (hv : s.boot.vaon = true) (hd : s.boot.nodeDoneDriven = false)
    (hh : s.boot.nodeDoneHigh = false) : Does .nodeDoneHigh s (fun t => t.boot.nodeDoneHigh = true ∧ t.boot.solo = false ∧
      t.boot.soloTimer = none ∧ ∀ n, n < 8 → (portAt s n).state = .seek → (portAt s n).seen = true → (portAt t n).state = .train) := by
  refine ⟨_, congrArg Host.Outcome.next (nodeDoneRises_eq (s := s.fresh_) hv hd hh), ?_⟩
  have told : plant (lineHigh s.fresh_) =
      plant (setBoot s.fresh_ (fun b => { b with nodeDoneHigh := true, solo := false, soloTimer := none })) := plant_raiseAdmin ..
  have boot : ((List.range 8).foldl trainSeen (lineHigh s.fresh_)).boot =
      { s.boot with nodeDoneHigh := true, solo := false, soloTimer := none } :=
    (foldl_leaves (g := State.boot) boot_trainSeen _ _).trans (boot_of_plant told)
  refine ⟨by rw [boot], by rw [boot], by rw [boot], fun n hn hs hseen => ?_⟩
  have port : portAt (lineHigh s.fresh_) n = portAt s n := portAt_of_plant told n
  exact foldl_trainSeen_seen _ _ (List.mem_range.mpr hn) (by rw [port]; exact ⟨hs, hseen⟩)

/-! ### Solo mode and boundary scan -/

theorem exec_soloMode {s : State} {m : Nat} (h : s.boot.soloTimer = some m) : ∃ detail, exec .soloMode s =
    .next (raiseAdmin (setBoot (advanceTo s.fresh_ (m + 3000000000)) (fun b => { b with solo := true, soloTimer := none }))
      0x0A24 false 0 detail) := by
  have h' : s.fresh_.boot.soloTimer = some m := h
  refine ⟨maskOf 8 (fun n => (portAt s n).state != .disabled), ?_⟩
  simp only [exec, execSoloMode, soloMode, h']
  rfl

theorem Tbl.getD_mapAll {α : Type} (t : Tbl α) (f : Nat → α → α) (k : Nat) {d : α} (hd : f k d = d) :
    Tbl.getD (Tbl.mapAll t f) k d = f k (Tbl.getD t k d) := by
  rw [Tbl.getD, Tbl.get?_mapAll, Tbl.getD]
  cases Tbl.get? t k with
  | none => exact hd.symm
  | some x => rfl

/-- What the stop of the main domain leaves of a rail: all but the mailbox request its run was for. -/
theorem rail_stopMain (s : State) (v : Nat) : ∃ run, rail (stopMain s) v = { rail s v with run := run } := by
  cases h : s.boot.mainOn with
  | false =>
    rw [stopMain_off h]
    exact ⟨_, rfl⟩
  | true =>
    obtain ⟨-, aon, -⟩ := stopMain_on h
    rw [rail, aon]
    exact ⟨_, Tbl.getD_mapAll s.aon.rails
      (fun _ r => { r with run := r.run.map (fun x => { x with origin := keepTwt x.origin }) }) v rfl⟩

/-- With the main domain off an event goes to the record and to TWT. -/
theorem parts_raiseAon_off {s : State} (code : Nat) (fault : Bool) (detail : Nat) (h : s.boot.mainOn = false) :
    (raiseAon s code fault detail).parts = s.parts := by
  have twt : ∀ e, (twtEvent s e).parts = s.parts := fun e => by
    unfold twtEvent
    split <;> rfl
  unfold raiseAon
  rw [if_neg (by simp [h])]
  dsimp only
  split <;> exact twt _

theorem scanInstruction_eq {s : State} (i : Nat) (hv : s.boot.vaon = true) (hon : s.boot.mainOn = true) : scanInstruction s i =
    raiseAon (setBoot (setBoot (stopMain s) (fun b => { b with testLogicReset := false }))
      (fun b => { b with scanStopped := true })) 0x0A40 true (Config.scanCode i).toNat :=
  (if_neg (by simp [hv])).trans (if_pos hon)

/-- The scan noted and told of, on a state whose main domain has stopped. -/
theorem scanTold_spec {u : State} (code : Nat) (fault : Bool) (detail : Nat) (h : u.boot.mainOn = false) :
    let t := raiseAon (setBoot (setBoot u (fun b => { b with testLogicReset := false })) (fun b => { b with scanStopped := true }))
      code fault detail
    t.boot = { u.boot with testLogicReset := false, scanStopped := true } ∧ t.parts = u.parts ∧ t.aon = u.aon := by
  have told := plant_raiseAon (setBoot (setBoot u (fun b => { b with testLogicReset := false })) (fun b => { b with scanStopped := true }))
    code fault detail
  exact ⟨boot_of_plant told, parts_raiseAon_off _ _ _ h, (aon_of_plant told).trans rfl⟩

theorem does_boundaryScan {s : State} (instr : Fin 5) (hv : s.boot.vaon = true) (hon : s.boot.mainOn = true) :
    Does (.boundaryScanInstruction instr) s (fun t => t.boot.mainOn = false ∧ t.boot.scanStopped = true ∧
      t.boot.testLogicReset = false ∧ t.parts = [] ∧ ∀ v, (rail t v).enabled = (rail s v).enabled) := by
  refine ⟨_, congrArg Host.Outcome.next (scanInstruction_eq (s := s.fresh_) instr hv hon), ?_⟩
  obtain ⟨stopped, -, -, -, none⟩ := stopMain_on (s := s.fresh_) hon
  have rails := rail_stopMain s.fresh_
  generalize stopMain s.fresh_ = u at stopped none rails ⊢
  obtain ⟨boot, parts, aon⟩ := scanTold_spec (u := u) 0x0A40 true (Config.scanCode instr).toNat (by rw [stopped]; rfl)
  rw [boot, parts, stopped]
  refine ⟨rfl, rfl, rfl, none, fun v => ?_⟩
  obtain ⟨run, hrun⟩ := rails v
  rw [rail, aon]
  exact (congrArg Rail.enabled hrun :)

/-- Settles O53: Synfy's readiness, the default content, NODE_DONE and solo mode, and boundary scan. -/
theorem synfyReadinessAndNodeDone : Obligations.SynfyReadinessAndNodeDone := by
  unfold Obligations.SynfyReadinessAndNodeDone
  refine ⟨fun s hon hp hl ht => ?ready, fun content s hr hl hp => ⟨_, rfl, classifierLoaded_loadContent (s := s.fresh_) content hr hl hp⟩,
    fun s => ⟨does_nodeDoneHigh, ⟨_, rfl, rfl, rfl⟩, fun m hm => ?solo, fun instr hv hon => ?scan, ⟨_, rfl, rfl, rfl⟩⟩⟩
  case ready =>
    refine ⟨_, congrArg Host.Outcome.next (synfyReady_eq (s := s.fresh_) hon hp hl ht), ?_⟩
    have held := heldFor_synfyReady (s := s.fresh_) hon
    simp only [heldFor, Prod.mk.injEq] at held
    obtain ⟨boot, now, record, events⟩ := held
    simp only [setBoot_boot, boot, now]
    exact ⟨trivial, trivial, trivial, trivial, rfl, record, events⟩
  case solo =>
    obtain ⟨detail, hexec⟩ := exec_soloMode hm
    refine ⟨_, hexec, ?_⟩
    have boot := boot_of_plant (plant_raiseAdmin (setBoot (advanceTo s.fresh_ (m + 3000000000))
      (fun b => { b with solo := true, soloTimer := none })) 0x0A24 false 0 detail)
    dsimp only
    rw [boot, now_of_plant (plant_raiseAdmin ..)]
    exact ⟨rfl, rfl, rfl⟩
  case scan => exact does_boundaryScan instr hv hon

end Sys2Proof.Machine
end

section
/-! What the KT ceiling and the calibration runs leave of the always-on unit (R26, R168, R421, R468, R470, R471). -/

namespace Sys2Proof.Machine
open Sys2Proof

/-! ### The KT ceiling -/

/-- A rail but for the window in which its setpoint changes (R397). -/
def Rail.settled (r : Rail) : Rail := { r with window := none }

/-- The plant without KT's operating point, the ceiling that is formed for it and the rails. -/
def ceilingFree (s : State) : State :=
  { plant s with
    tensor := Tensor.init
    aon := { s.aon with rails := [], thermal := { s.aon.thermal with throttled := false, ceiling := 0 } } }

/-- That, and every rail but for its window. -/
def steady (s : State) : State × (Nat → Rail) := (ceilingFree s, fun v => (rail s v).settled)

theorem steady_of_plant {s t : State} (h : plant t = plant s) : steady t = steady s :=
  (congrArg (fun u : State => (ceilingFree u, fun v => (rail u v).settled)) h :)
theorem ceilingFree_of_steady {s t : State} (h : steady t = steady s) : ceilingFree t = ceilingFree s := congrArg Prod.fst h
theorem rail_of_steady {s t : State} (h : steady t = steady s) (v : Nat) : (rail t v).settled = (rail s v).settled :=
  congrFun (congrArg Prod.snd h) v
theorem axis_of_steady {s t : State} (h : steady t = steady s) (i : Nat) : axis t i = axis s i :=
  (congrArg (fun u : State => Tbl.getD u.aon.axes i Axis.init) (ceilingFree_of_steady h) :)
theorem fan_of_steady {s t : State} (h : steady t = steady s) (i : Nat) :
    Tbl.getD t.aon.fans i Fan.init = Tbl.getD s.aon.fans i Fan.init :=
  (congrArg (fun u : State => Tbl.getD u.aon.fans i Fan.init) (ceilingFree_of_steady h) :)
theorem cal_of_steady {s t : State} (h : steady t = steady s) : t.aon.cal = s.aon.cal :=
  (congrArg (fun u : State => u.aon.cal) (ceilingFree_of_steady h) :)
theorem seq_of_steady {s t : State} (h : steady t = steady s) : t.aon.seq = s.aon.seq :=
  (congrArg (fun u : State => u.aon.seq) (ceilingFree_of_steady h) :)
theorem tables_of_steady {s t : State} (h : steady t = steady s) : t.aon.tables = s.aon.tables :=
  (congrArg (fun u : State => u.aon.tables) (ceilingFree_of_steady h) :)
theorem boot_of_steady {s t : State} (h : steady t = steady s) : t.boot = s.boot :=
  (congrArg (fun u : State => u.boot) (ceilingFree_of_steady h) :)
theorem now_of_steady {s t : State} (h : steady t = steady s) : t.now = s.now :=
  (congrArg (fun u : State => u.now) (ceilingFree_of_steady h) :)
theorem unstaged_of_steady {s t : State} (h : steady t = steady s) : t.vault.unstaged = s.vault.unstaged :=
  (congrArg State.vault (ceilingFree_of_steady h) :)

@[simp] theorem steady_ite (c : Prop) {_ : Decidable c} (s t : State) :
    steady (if c then s else t) = if c then steady s else steady t := apply_ite ..
@[simp] theorem steady_bump (s : State) (i n w) : steady (bump s i n w) = steady s := rfl
@[simp] theorem steady_setTensor (s : State) (f) : steady (setTensor s f) = steady s := rfl
@[simp] theorem steady_raiseAon (s : State) (code fault detail) : steady (raiseAon s code fault detail) = steady s :=
  steady_of_plant (plant_raiseAon ..)
@[simp] theorem steady_transient (s : State) (g i) : steady (transient s g i) = steady s := steady_of_plant (plant_transient ..)
@[simp] theorem steady_finish (s : State) (c a) : steady (finish s c a) = steady s := steady_of_plant (plant_finish ..)
@[simp] theorem steady_finishOrigin (s : State) (o a) : steady (finishOrigin s o a) = steady s :=
  steady_of_plant (plant_finishOrigin ..)

@[simp] theorem steady_writeSetpoint (s : State) (old) : steady (writeSetpoint s old) = steady s := by
  unfold writeSetpoint
  split
  · rfl
  · next v _ =>
    refine Prod.ext rfl (funext fun w => ?_)
    by_cases h : w = v
    · subst h
      exact (congrArg Rail.settled (rail_setRail_self s w _)).trans rfl
    · exact congrArg Rail.settled (rail_setRail_ne _ _ h)
@[simp] theorem steady_retune (s : State) : steady (retune s) = steady s := by simp [retune]
@[simp] theorem steady_setCeiling (s : State) (c) : steady (setCeiling s c) = steady s := by simp [setCeiling]

/-- The ceiling that an update starts from: a throttle that begins is counted. -/
def throttleNoted (s : State) : State :=
  let s := if throttling s && !s.aon.thermal.throttled then bump s 0x0D03 0 32 else s
  setAon s (fun a => { a with thermal := { a.thermal with throttled := throttling s } })

theorem updateCeiling_eq (s : State) : updateCeiling s =
    if (ceilingNow s).1 = (throttleNoted s).aon.thermal.ceiling then
      (if (throttleNoted s).tensor.ceiling = (ceilingNow s).1 then throttleNoted s else setCeiling (throttleNoted s) (ceilingNow s).1)
    else setCeiling (setAon (raiseAon (throttleNoted s) 0x0746 false ((ceilingNow s).1 + 256 * (ceilingNow s).2))
      (fun a => { a with thermal := { a.thermal with ceiling := (ceilingNow s).1 } })) (ceilingNow s).1 := rfl

@[simp] theorem steady_throttleNoted (s : State) : steady (throttleNoted s) = steady s := by
  unfold throttleNoted
  dsimp only
  split <;> rfl
@[simp] theorem steady_ceilingSet (s : State) (c : Nat) :
    steady (setAon s (fun a => { a with thermal := { a.thermal with ceiling := c } })) = steady s := rfl
@[simp] theorem steady_updateCeiling (s : State) : steady (updateCeiling s) = steady s := by
  simp [updateCeiling_eq]

theorem requests_writeSetpoint (s : State) (old : Nat) : requests (writeSetpoint s old) = requests s := by
  obtain ⟨a, h⟩ := writeSetpoint_spec s old
  rw [h]
  rfl
@[simp] theorem requests_setCeiling (s : State) (c : Nat) : requests (setCeiling s c) = requests s := by
  obtain ⟨g, r, f, a, h⟩ := retune_spec (setTensor s (fun t => { t with ceiling := c, allowed := min t.allowed c }))
  rw [setCeiling, h]
  rfl
@[simp] theorem requests_throttleNoted (s : State) : requests (throttleNoted s) = requests s := by
  unfold throttleNoted
  dsimp only
  split <;> rfl
@[simp] theorem requests_updateCeiling (s : State) : requests (updateCeiling s) = requests s := by
  simp [updateCeiling_eq]

theorem ctr_setCeiling (s : State) (c : Nat) : (setCeiling s c).ctr = s.ctr := by
  obtain ⟨g, r, f, a, h⟩ := retune_spec (setTensor s (fun t => { t with ceiling := c, allowed := min t.allowed c }))
  rw [setCeiling, h]
  rfl

/-- The counters that the management core's own work may raise: those of events that found no room, and of throttles. -/
def OwnCount (i n : Nat) : Prop :=
  counterKey i n = counterKey 0x0E06 0 ∨ counterKey i n = counterKey 0x0305 0 ∨ counterKey i n = counterKey 0x0D03 0

theorem counter_raiseAon {s : State} {i n : Nat} (code : Nat) (fault : Bool) (detail : Nat) (h : ¬ OwnCount i n) :
    counter (raiseAon s code fault detail) i n = counter s i n := by
  simp only [OwnCount, not_or] at h
  obtain ⟨lost, dropped, -⟩ := h
  exact (raiseAon_spec ..).counter lost dropped

theorem counter_updateCeiling {s : State} {i n : Nat} (h : ¬ OwnCount i n) : counter (updateCeiling s) i n = counter s i n := by
  have noted : counter (throttleNoted s) i n = counter s i n := by
    unfold throttleNoted
    dsimp only
    split
    · exact counter_bump_ne s 32 (fun e => h (.inr (.inr e)))
    · rfl
  have set (u : State) (c : Nat) : counter (setCeiling u c) i n = counter u i n := by
    simp only [counter, ctr_setCeiling]
  rw [updateCeiling_eq]
  split_ifs
  · exact noted
  · rw [set, noted]
  · rw [set]
    exact (counter_raiseAon _ _ _ h).trans noted

/-! ### Calibration runs -/

/-- The plant without the axes and the run in progress and those that wait (R468, R470): what a run's course leaves. -/
def runFree (s : State) : State :=
  { plant s with aon := { s.aon with
    axes := [], cal := { s.aon.cal with run := none, waiting := [], count := 0, lastSeconds := 0, lastTicks := 0 } } }

theorem runFree_of_plant {s t : State} (h : plant t = plant s) : runFree t = runFree s := (congrArg runFree h :)
@[simp] theorem runFree_ite (c : Prop) {_ : Decidable c} (s t : State) :
    runFree (if c then s else t) = if c then runFree s else runFree t := apply_ite ..
@[simp] theorem runFree_raiseAon (s : State) (code fault detail) : runFree (raiseAon s code fault detail) = runFree s :=
  runFree_of_plant (plant_raiseAon ..)
@[simp] theorem runFree_finishOrigin (s : State) (o a) : runFree (finishOrigin s o a) = runFree s :=
  runFree_of_plant (plant_finishOrigin ..)
@[simp] theorem runFree_setAxis (s : State) (i f) : runFree (setAxis s i f) = runFree s := rfl
@[simp] theorem runFree_startFrontEnd (s : State) (i) : runFree (startFrontEnd s i) = runFree s := rfl
@[simp] theorem runFree_setCalRun (s : State) (f) : runFree (setCalRun s f) = runFree s := rfl

theorem runFree_deferAxes (s : State) (mask : Nat) : runFree (deferAxes s mask).1 = runFree s := by
  unfold deferAxes
  dsimp only
  split
  · rfl
  · refine (foldl_leaves (g := runFree) (fun s i => ?_) _ _).trans (runFree_raiseAon ..)
    split <;> rfl
@[simp] theorem runFree_beginRun (s : State) (mask automatic o) : runFree (beginRun s mask automatic o) = runFree s := by
  have deferred := runFree_deferAxes s mask
  unfold beginRun
  generalize deferAxes s mask = p at deferred ⊢
  exact Eq.trans rfl deferred
@[simp] theorem runFree_closeRun (s : State) (r) : runFree (closeRun s r) = runFree s := by
  unfold closeRun
  dsimp only
  split
  · rw [runFree_raiseAon]
    split <;> rfl
  · rw [runFree_finishOrigin, runFree_raiseAon]
    split <;> rfl
@[simp] theorem runFree_settleAxes (f : Nat) (s : State) : runFree (settleAxes f s) = runFree s := by
  induction f generalizing s with
  | zero => rfl
  | succ f ih =>
    unfold settleAxes
    dsimp only
    repeat' split
    all_goals simp [ih]
@[simp] theorem runFree_pursueRuns (f : Nat) (s : State) : runFree (pursueRuns f s) = runFree s := by
  induction f generalizing s with
  | zero => rfl
  | succ f ih =>
    unfold pursueRuns
    dsimp only
    repeat' split
    · rw [ih, runFree_closeRun, runFree_settleAxes]
    · exact runFree_settleAxes ..
    · exact runFree_settleAxes ..
    · rw [ih, runFree_beginRun]
      exact runFree_settleAxes ..
@[simp] theorem runFree_pursue (s : State) : runFree (pursue s) = runFree s := runFree_pursueRuns ..
@[simp] theorem runFree_startRun (s : State) (mask automatic o) : runFree (startRun s mask automatic o) = runFree s := by
  unfold startRun
  split
  · rfl
  · rw [runFree_pursue, runFree_beginRun]

theorem boot_of_runFree {s t : State} (h : runFree t = runFree s) : t.boot = s.boot := (congrArg State.boot h :)
theorem now_of_runFree {s t : State} (h : runFree t = runFree s) : t.now = s.now := (congrArg State.now h :)
theorem tables_of_runFree {s t : State} (h : runFree t = runFree s) : t.aon.tables = s.aon.tables :=
  (congrArg (fun u : State => u.aon.tables) h :)
theorem seq_of_runFree {s t : State} (h : runFree t = runFree s) : t.aon.seq = s.aon.seq :=
  (congrArg (fun u : State => u.aon.seq) h :)
theorem rail_of_runFree {s t : State} (h : runFree t = runFree s) (v : Nat) : rail t v = rail s v :=
  (congrArg (fun u : State => rail u v) h :)
theorem unstaged_of_runFree {s t : State} (h : runFree t = runFree s) : t.vault.unstaged = s.vault.unstaged :=
  (congrArg State.vault h :)
theorem notes_of_runFree {s t : State} (h : runFree t = runFree s) :
    t.aon.cal.itemSeconds = s.aon.cal.itemSeconds ∧ t.aon.cal.codes = s.aon.cal.codes ∧ t.aon.cal.periodicAt = s.aon.cal.periodicAt :=
  ⟨(congrArg (fun u : State => u.aon.cal.itemSeconds) h :), (congrArg (fun u : State => u.aon.cal.codes) h :),
    (congrArg (fun u : State => u.aon.cal.periodicAt) h :)⟩

end Sys2Proof.Machine
end

section
/-! Start-up: VAON, the selection of an image, its sections and self-test (R490, R492, R494–R497, R500, R535, R537). -/

namespace Sys2Proof.Machine
open Sys2Proof

/-! ### VAON -/

/-- The always-on domain with VAON come. -/
def vaonCome (s : State) (straps : Nat) : State :=
  let s := setBoot s (fun b => { b with
    vaon := true, vaonAt := s.now, startAt := s.now, phase := .selecting, twtStraps := straps, nodeDoneDriven := true })
  let s := setCal s (fun c => { c with periodicAt := s.now })
  { s with
    domains := Tbl.set s.domains 3 ⟨true, true, false, false⟩
    memory := { s.memory with generations := [], generationBase := s.vault.powerUps % 65536 } }

theorem exec_vaonValid {s : State} (straps : Fin 4) (hv : s.boot.vaon = false) (hon : vaultOn s = true) :
    exec (.vaonValid straps) s = .next (vaonCome s.fresh_ straps) := by
  have hon' : vaultOn s.fresh_ = true := hon
  have hv' : s.fresh_.boot.vaon = false := hv
  exact congrArg Host.Outcome.next (if_neg (by rw [hv', hon']; decide))

/-- VAON presented while it is valid, or without the vault, changes nothing. -/
theorem exec_vaonValid_idle {s : State} (straps : Fin 4) (h : s.boot.vaon = true ∨ vaultOn s = false) :
    exec (.vaonValid straps) s = .next s.fresh_ := by
  refine congrArg Host.Outcome.next (if_pos ?_)
  rw [show s.fresh_.boot.vaon = s.boot.vaon from rfl, show vaultOn s.fresh_ = vaultOn s from rfl]
  rcases h with h | h <;> simp [h]

theorem does_alwaysOnReset {s : State} (h : s.boot.vaon = true) : Does .alwaysOnReset s (fun t =>
    t.boot = Boot.init s.boot.product s.boot.fuses ∧ t.twt = Twt.init ∧ t.buses = [] ∧ t.vault.ledger = s.vault.ledger ∧
    t.faults.fenceMap = s.faults.fenceMap ∧ t.faults.record = [] ∧ t.tensor.ceiling = 1) := by
  refine ⟨_, rfl, alwaysOnReset_on (s := s.fresh_) h, ?_⟩
  have ledger : (alwaysOnReset s.fresh_).vault.ledger = s.vault.ledger :=
    (congrArg Vault.ledger (unstaged_alwaysOnReset s.fresh_) :)
  have map := fenceMap_stopMain s.fresh_
  rw [ledger]
  unfold alwaysOnReset
  rw [if_neg (by simp [State.fresh_, h])]
  generalize stopMain s.fresh_ = u at map ⊢
  exact ⟨rfl, rfl, rfl, map, rfl, rfl⟩

/-! ### The selection of an image -/

/-- A copy that was rejected or is not eligible is no candidate. -/
theorem examine_out {s : State} {i : Nat} {c : ImageCopy} (h : s.boot.rejected.contains i = true ∨ (ineligible c).isSome = true) :
    (examine s i c).2 = [] ∧ plant (examine s i c).1 = plant s := by
  unfold examine
  split
  · exact ⟨rfl, rfl⟩
  · next hr =>
    obtain ⟨w, hw⟩ := Option.isSome_iff_exists.mp (h.resolve_left (by simpa using hr))
    rw [hw]
    exact ⟨rfl, plant_raiseAon ..⟩

/-- A copy that is eligible is a candidate. -/
theorem examine_in {s : State} {i : Nat} {c : ImageCopy} (hr : s.boot.rejected.contains i = false) (he : ineligible c = none) :
    examine s i c = (s, [(i, c)]) := by
  unfold examine
  rw [if_neg (by rw [hr]; decide), he]

theorem exec_imageSelection (a b : ImageCopy) {s : State} (hv : s.boot.vaon = true) (hp : s.boot.phase = .selecting) :
    ∃ first : Bool, exec (.imageSelection a b) s = .next (
      let x := examine (drawNat s.fresh_).2 0 a
      let y := examine x.1 1 b
      trySelect y.1 (if first then y.2 ++ x.2 else x.2 ++ y.2)) := by
  have hv' : s.fresh_.boot.vaon = true := hv
  have hp' : s.fresh_.boot.phase = .selecting := hp
  exact ⟨_, congrArg Host.Outcome.next (if_neg (by rw [hv', hp']; decide))⟩

/-- With no copy eligible there is no image. -/
theorem trySelect_nil (s : State) : (trySelect s []).boot = { s.boot with phase := .noImage, copy := none, noQualify := false } :=
  boot_of_plant (plant_raiseAon ..)

/-- The boot state and the tables in force. -/
def imaged (s : State) : Boot × AonTables := (s.boot, s.aon.tables)

@[simp] theorem imaged_applyBuses (s : State) : imaged (applyBuses s) = imaged s := by
  refine foldl_leaves (g := imaged) (fun s i => ?_) _ s
  split <;> rfl
@[simp] theorem imaged_updateCeiling (s : State) : imaged (updateCeiling s) = imaged s :=
  Prod.ext (boot_of_steady (steady_updateCeiling s)) (tables_of_steady (steady_updateCeiling s))
@[simp] theorem imaged_startFans (s : State) : imaged (startFans s) = imaged s := by
  refine foldl_leaves (g := imaged) (fun s i => ?_) _ s
  split <;> rfl
@[simp] theorem imaged_startAxes (s : State) : imaged (startAxes s) = imaged s := by
  refine foldl_leaves (g := imaged) (fun s i => ?_) _ s
  dsimp only
  split <;> rfl
@[simp] theorem imaged_startRun (s : State) (mask automatic o) : imaged (startRun s mask automatic o) = imaged s :=
  Prod.ext (boot_of_runFree (runFree_startRun ..)) (tables_of_runFree (runFree_startRun ..))
@[simp] theorem imaged_raiseAon (s : State) (code fault detail) : imaged (raiseAon s code fault detail) = imaged s :=
  Prod.ext (boot_of_plant (plant_raiseAon ..)) (congrArg AlwaysOn.tables (aon_of_plant (plant_raiseAon ..)))

/-- A copy taken: its header's fields in the boot state, its tables in force. -/
def copyTaken (s : State) (copy : Nat) (c : ImageCopy) : State :=
  let h := c.header
  let s := setBoot s (fun b => { b with
    phase := .accepted, copy := some copy, engineering := bit (field h 5 1) 0, major := field h 6 1, minor := field h 7 1
    imageSeq := field h 8 4, sections := sectionTypes h, loaded := [], sectionRetry := [], noQualify := false })
  { s with
    aon := { s.aon with tables := c.tables }
    vault := { s.vault with evtEdges := c.tables.evtEdges } }

theorem imaged_acceptCopy (s : State) (copy : Nat) (c : ImageCopy) :
    imaged (acceptCopy s copy c) = imaged (copyTaken s copy c) := by
  have sequenced (u : State) (b : Bool) : imaged (if b then startSequence u .sequencing 1 else u) = imaged u := by
    cases b <;> rfl
  unfold acceptCopy
  dsimp only
  rw [sequenced, imaged_startRun, imaged_startAxes, imaged_startFans, imaged_updateCeiling, imaged_applyBuses, imaged_raiseAon]
  rfl

theorem trySelect_good {s : State} {i : Nat} {c : ImageCopy} {rest : List (Nat × ImageCopy)} (hf : c.first.contains 1 = true)
    (ht : tablesOk c.tables = true) : trySelect s ((i, c) :: rest) = acceptCopy s i c := by
  rw [trySelect, if_neg (by rw [hf]; simp), if_neg (by rw [ht]; decide)]

/-! ### Sections -/

theorem sectionRead_good {s : State} {t : Nat} (hon : s.boot.mainOn = true) (hd : s.aon.seq.down = none)
    (hn : nextSection s = some t) : (sectionRead s t true).boot.loaded = s.boot.loaded ++ [t] := by
  unfold sectionRead
  dsimp only
  rw [hon, hd, hn, if_neg (by simp), if_pos rfl, boot_enableListed]
  rfl

theorem sectionRead_firstBad {s : State} {t : Nat} (hon : s.boot.mainOn = true) (hd : s.aon.seq.down = none)
    (hn : nextSection s = some t) (hr : s.boot.sectionRetry.contains t = false) :
    sectionRead s t false = setBoot s (fun b => { b with sectionRetry := b.sectionRetry ++ [t] }) := by
  unfold sectionRead
  dsimp only
  rw [hon, hd, hn, if_neg (by simp), if_neg (by decide), if_neg (by rw [hr]; decide)]

/-! ### Self-test -/

/-- Node memory zero and every unit scrubbed, as a self-test that found nothing leaves them. -/
def tested (s : State) : State :=
  let s := setMemory s (fun m => { m with bytes := [], tags := [] })
  let s := { s with faults := { s.faults with scrubOwed := [], selfTestFailed := s.faults.selfTestFailed || false } }
  setBoot s (fun b => { b with selfTestDone := true })

theorem exec_selfTestEnd_clean {s : State} (hon : s.boot.mainOn = true) (hd : s.boot.selfTestDone = false)
    (he : s.aon.tables.selfTest = true) : exec (.selfTestEnd [] []) s = .next (formStatus (tested s.fresh_)) := by
  have hon' : s.fresh_.boot.mainOn = true := hon
  have hd' : s.fresh_.boot.selfTestDone = false := hd
  have he' : s.fresh_.aon.tables.selfTest = true := he
  refine congrArg Host.Outcome.next ((if_neg (by rw [hon', hd', he']; decide)).trans ?_)
  exact if_neg (by simp [State.fresh_, hon])

/-- The faults that a status formed leaves: all but the status itself. -/
theorem faults_formStatus (s : State) : (formStatus s).faults = { s.faults with status := some (guaranteeStatus s) } := by
  obtain ⟨⟨_, _, _, h⟩, -⟩ := raiseAdmin_spec { s with faults := { s.faults with status := some (guaranteeStatus s) } }
    0x0907 false 0 (guaranteeStatus s)
  rw [formStatus, h]

/-- Settles O52: VAON's coming and loss, PLL-A's lock, the selection of an image, the sections read and the self-test. -/
theorem startUpBringsTheNodeUp : Obligations.StartUpBringsTheNodeUp := by
  unfold Obligations.StartUpBringsTheNodeUp
  refine ⟨fun straps s hv hon => ⟨_, exec_vaonValid straps hv hon, rfl, rfl, rfl, rfl, ?domain, rfl, rfl⟩,
    fun straps s _ hoff => exec_vaonValid_idle straps (.inr hoff), fun s hv => ⟨does_alwaysOnReset hv, ?lock⟩,
    fun a b s hv hp hb => ⟨fun ha => ?noImage, fun hr he hf ht => ?imageA⟩,
    fun kind s hon hd hn => ⟨⟨_, rfl, sectionRead_good (s := s.fresh_) hon hd hn⟩, fun hr => ?badSection⟩,
    fun s hon hd he => ?selfTest⟩
  case domain => exact Tbl.getD_set_self ..
  case lock =>
    refine ⟨_, rfl, ?_⟩
    rw [hv]
    cases s.boot.pllLost <;> simp [State.fresh_]
  case noImage =>
    obtain ⟨first, hexec⟩ := exec_imageSelection a b hv hp
    obtain ⟨hx, px⟩ := examine_out (s := (drawNat s.fresh_).2) (i := 0) (c := a) ha
    obtain ⟨hy, -⟩ := examine_out (s := (examine (drawNat s.fresh_).2 0 a).1) (i := 1) (c := b)
      (by rw [boot_of_plant px]; exact hb)
    refine ⟨_, hexec, ?_⟩
    dsimp only
    rw [hx, hy, List.append_nil, ite_self, trySelect_nil]
    exact ⟨rfl, rfl⟩
  case imageA =>
    obtain ⟨first, hexec⟩ := exec_imageSelection a b hv hp
    have hx := examine_in (s := (drawNat s.fresh_).2) (i := 0) (c := a) hr he
    obtain ⟨hy, -⟩ := examine_out (s := (drawNat s.fresh_).2) (i := 1) (c := b) hb
    have chosen (u : State) : imaged (trySelect u (if first then [] ++ [(0, a)] else [(0, a)] ++ [])) = imaged (copyTaken u 0 a) := by
      rw [List.nil_append, List.append_nil, ite_self, trySelect_good hf ht, imaged_acceptCopy]
    refine ⟨_, hexec, ?_⟩
    dsimp only
    rw [hx, hy]
    obtain ⟨boot, tables⟩ := Prod.mk.inj (chosen (examine (drawNat s.fresh_).2 1 b).1)
    rw [boot, tables]
    exact ⟨rfl, rfl, rfl⟩
  case badSection =>
    refine ⟨_, congrArg Host.Outcome.next (sectionRead_firstBad (s := s.fresh_) hon hd hn hr), rfl, rfl⟩
  case selfTest =>
    refine ⟨_, exec_selfTestEnd_clean hon hd he, ?_⟩
    have told : plant (formStatus (tested s.fresh_)) = plant (tested s.fresh_) := plant_formStatus _
    have memory : (formStatus (tested s.fresh_)).memory = (tested s.fresh_).memory := (congrArg State.memory told :)
    dsimp only
    rw [boot_of_plant told, memory, faults_formStatus]
    exact ⟨rfl, rfl, rfl, rfl, rfl⟩

end Sys2Proof.Machine
end

section
/-! Calibration runs, their items and the axes' front ends (R433, R465–R472). -/

namespace Sys2Proof.Machine
open Sys2Proof

theorem busy_of_verdict_none {ch : Checks} (h : ch.verdict = none) : ch.busy = false := by
  unfold Checks.verdict at h
  split_ifs at h with _ _ _ _ _ _ _ hbusy
  exact Bool.not_eq_true _ ▸ hbusy

/-- A ready request has nothing to wait for under its opcode. -/
theorem free_of_ready {op : Nat} {bop : State → Ctx → Nat} {chk : State → Ctx → Checks} {o : Origin} {s : State} {c : Ctx}
    (h : Ready op bop chk o s c) : (chk s.fresh_ c).busy = false := by
  obtain ⟨-, -, hv⟩ := h
  exact (Bool.or_eq_false_iff.mp (busy_of_verdict_none hv)).2

/-! ### The start of a run -/

/-- A run whose lowest item is no axis stays at that item. -/
theorem pursue_item {s : State} {r : CalRun} (h : s.aon.cal.run = some r) (hn : firstItem r.left < 4) : pursue s = s := by
  have settled : settleAxes 6 s = s := by
    unfold settleAxes
    rw [h]
    dsimp only
    rw [if_pos (.inl ⟨by omega, by simp; omega⟩)]
  have some_left : r.left ≠ 0 := by
    intro h0
    rw [h0] at hn
    exact absurd hn (by decide)
  unfold pursue pursueRuns
  dsimp only
  rw [settled, h]
  dsimp only
  rw [if_neg some_left]

theorem firstItem_of_bit {m : Nat} (h : bit m 0 = true) : firstItem m = 0 := by
  unfold firstItem
  rw [show List.range 9 = [0, 1, 2, 3, 4, 5, 6, 7, 8] from rfl, List.find?_cons_of_pos h]
  rfl

/-- The run that begins: its items but those of axes that must wait. -/
def begunRun (mask d : Nat) (automatic : Bool) (o : Option Origin) : CalRun := ⟨mask, mask - d, 1, 0, d, 0, false, automatic, o⟩

theorem beginRun_run (s : State) (mask : Nat) (automatic : Bool) (o : Option Origin) :
    (beginRun s mask automatic o).aon.cal.run = some (begunRun mask (deferAxes s mask).2 automatic o) := rfl

/-- A run with item [0] starts there. -/
theorem startRun_item {s : State} (mask : Nat) (automatic : Bool) (o : Option Origin) (hr : s.aon.cal.run = none)
    (hm : bit (mask - (deferAxes s mask).2) 0 = true) : startRun s mask automatic o = beginRun s mask automatic o := by
  have first : firstItem (begunRun mask (deferAxes s mask).2 automatic o).left = 0 := firstItem_of_bit hm
  unfold startRun
  rw [hr, if_neg (by decide), pursue_item (beginRun_run ..) (by rw [first]; decide)]

/-- Without axis items none is deferred. -/
theorem deferAxes_none (s : State) {mask : Nat} (h : mask < 32) : deferAxes s mask = (s, 0) := by
  have none_ : ∀ i, bit mask (5 + i) = false := fun i => by
    have : mask < 2 ^ (5 + i) := lt_of_lt_of_le h (by rw [pow_add]; exact Nat.le_mul_of_pos_right 32 (by positivity))
    simp [bit, Nat.div_eq_of_lt this]
  unfold deferAxes
  simp [none_]

/-- What is deferred are axis items: the run's other items stay. -/
theorem deferAxes_axes (s : State) (mask : Nat) : (deferAxes s mask).2 % 32 = 0 ∧ (deferAxes s mask).2 ≤ 0x1E0 := by
  have sum : ∀ f : Nat → Bool, (((List.range 4).map (fun i => if f i then 2 ^ (5 + i) else 0)).sum % 32 = 0 ∧
      ((List.range 4).map (fun i => if f i then 2 ^ (5 + i) else 0)).sum ≤ 0x1E0) := fun f => by
    simp only [show List.range 4 = [0, 1, 2, 3] from rfl, List.map_cons, List.map_nil, List.sum_cons, List.sum_nil]
    split_ifs <;> decide
  unfold deferAxes
  dsimp only
  split
  · exact ⟨rfl, Nat.zero_le _⟩
  · exact sum (fun i => bit mask (5 + i) && axisItem s i == 1)

/-- A run without axis items begins on the spot. -/
theorem startRun_plain {s : State} {mask : Nat} (automatic : Bool) (o : Option Origin) (hr : s.aon.cal.run = none)
    (hm : mask < 32) (h0 : bit mask 0 = true) :
    startRun s mask automatic o = setCal s (fun c => { c with run := some (begunRun mask 0 automatic o) }) := by
  rw [startRun_item mask automatic o hr (by rw [deferAxes_none s hm]; exact h0)]
  unfold beginRun
  rw [deferAxes_none s hm]
  rfl

theorem startRun_waits {s : State} (mask : Nat) (automatic : Bool) (o : Option Origin) (hr : s.aon.cal.run.isSome = true) :
    startRun s mask automatic o = setCal s (fun c => { c with waiting := c.waiting ++ [mask] }) := by
  rw [startRun, if_pos hr]

theorem setBit_lt {m : Nat} (h : m < 32) : setBit m 0 < 32 := by
  unfold setBit
  split
  · exact h
  · next hb =>
    simp only [bit, pow_zero, Nat.div_one, beq_iff_eq] at hb ⊢
    omega

theorem aon_markBegun (s : State) (o : Origin) : (markBegun s o).aon = s.aon := by
  unfold markBegun
  split
  · rfl
  · cases o <;> rfl

/-- A request that has ended stays so while the calibration moves on. -/
theorem ended_setCal {t : State} {o : Origin} {st : Status} {r : List Byte} (f : Calibration → Calibration) (h : Ended t o st r) :
    Ended (setCal t f) o st r := by
  cases o <;> exact h

theorem does_calibrationRun {o : Origin} {s : State} {c : Ctx} (h : Ready 0x0A01 calibrationRunBudget calibrationRunChecks o s c)
    (hb : begun s o = false) (hm : c.u 0 2 < 32) : Does (.calibrationRun o) s (fun t => GoesOn t o ∧
      ∃ r, t.aon.cal.run = some r ∧ r.left = setBit (c.u 0 2) 0 ∧ r.automatic = false ∧ r.origin = some o ∧ r.attempt = 1) := by
  have idle : s.fresh_.aon.cal.run = none := by
    have := free_of_ready h
    simpa [calibrationRunChecks] using this
  have started := startRun_plain false (some o) idle (setBit_lt hm) (bit_setBit_self ..)
  refine ⟨_, congrArg Host.Outcome.next (runOnce_ready _ h hb), ?_⟩
  dsimp only
  rw [started]
  refine ⟨goesOn_markBegun ((ctxOf_congr rfl rfl o).trans h.1), begunRun (setBit (c.u 0 2) 0) 0 false (some o), ?_, rfl, rfl, rfl, rfl⟩
  rw [aon_markBegun]
  rfl

/-- After new limits a run of items [0] and [4] starts or waits, and nothing else is touched. -/
theorem startRun_limits (s : State) : ∃ f, startRun s 0x11 true none = setCal s f ∧ (f s.aon.cal).run.isSome = true := by
  cases hr : s.aon.cal.run with
  | none => exact ⟨_, startRun_plain true none hr (by decide) (by decide), rfl⟩
  | some r => exact ⟨_, startRun_waits 0x11 true none (by rw [hr]; rfl), by rw [hr]; rfl⟩

theorem does_tamperLimitsSet {o : Origin} {s : State} {c : Ctx} (h : Ready 0x0606 (fixed .management) tamperLimitsSetChecks o s c) :
    Does (.tamperLimitsSet o) s (fun t => Ended t o .ok [] ∧ t.vault.low = toSigned (c.u 0 1) 8 ∧
      t.vault.high = toSigned (c.u 1 1) 8 ∧ t.aon.cal.run.isSome = true) := by
  refine ⟨_, congrArg Host.Outcome.next (runOp_ready _ h), ?_⟩
  dsimp only
  have ended : Ended (finish (setVault s.fresh_ (fun v => { v with
      low := toSigned (c.u 0 1) 8, high := toSigned (c.u 1 1) 8, nvLow := toSigned (c.u 0 1) 8, nvHigh := toSigned (c.u 1 1) 8 }))
      c { status := .ok }) o .ok [] := ended_finish_of_requests _ h.1 (requests_setVault ..)
  have vault := vault_finish (setVault s.fresh_ (fun v => { v with
      low := toSigned (c.u 0 1) 8, high := toSigned (c.u 1 1) 8, nvLow := toSigned (c.u 0 1) 8, nvHigh := toSigned (c.u 1 1) 8 }))
      c { status := .ok }
  generalize finish _ c { status := .ok } = t at ended vault ⊢
  obtain ⟨f, hf, run⟩ := startRun_limits t
  rw [hf]
  exact ⟨ended_setCal f ended, (congrArg Vault.low vault :), (congrArg Vault.high vault :), run⟩

/-! ### Runs of the device's own (R468) -/

/-- The moment of the periodic run, from which the next one is timed. -/
def periodicDue (s : State) : State :=
  setCal (advanceTo s.fresh_ (s.aon.cal.periodicAt + day)) (fun c => { c with periodicAt := max s.now (s.aon.cal.periodicAt + day) })

theorem exec_calibrationPeriodic {s : State} (h : managementRuns s = true) :
    exec .calibrationPeriodic s = .next (startRun (periodicDue s) 0x1FF true none) :=
  congrArg Host.Outcome.next (if_pos h)

theorem does_calibrationPeriodic_starts {s : State} (h : managementRuns s = true) (hr : s.aon.cal.run = none) :
    Does .calibrationPeriodic s (fun t => t.now = max s.now (s.aon.cal.periodicAt + day) ∧ t.aon.cal.periodicAt = t.now ∧
      ∃ r, t.aon.cal.run = some r ∧ r.automatic = true ∧ firstItem r.left = 0) := by
  obtain ⟨axes, most⟩ := deferAxes_axes (periodicDue s) 0x1FF
  have item : bit (0x1FF - (deferAxes (periodicDue s) 0x1FF).2) 0 = true := by
    simp only [bit, pow_zero, Nat.div_one, beq_iff_eq]
    omega
  have idle : (periodicDue s).aon.cal.run = none := hr
  have free := runFree_startRun (periodicDue s) 0x1FF true none
  have now := now_of_runFree free
  obtain ⟨-, -, periodic⟩ := notes_of_runFree free
  have run : (startRun (periodicDue s) 0x1FF true none).aon.cal.run =
      some (begunRun 0x1FF (deferAxes (periodicDue s) 0x1FF).2 true none) := by
    rw [startRun_item 0x1FF true none idle item, beginRun_run]
  refine ⟨_, exec_calibrationPeriodic h, ?_⟩
  generalize startRun (periodicDue s) 0x1FF true none = t at now periodic run ⊢
  exact ⟨now, periodic.trans now.symm, _, run, rfl, firstItem_of_bit item⟩

theorem does_calibrationDrift {s : State} (h : managementRuns s = true) (hr : s.aon.cal.run = none)
    (hd : 30 < (dieTemperature s - s.aon.cal.item3Temp).natAbs) :
    Does .calibrationDrift s (fun t => ∃ r, t.aon.cal.run = some r ∧ r.automatic = true ∧ r.left = 0x1F) := by
  have due : (managementRuns s.fresh_ && decide (30 < (dieTemperature s.fresh_ - s.fresh_.aon.cal.item3Temp).natAbs)) = true := by
    rw [show managementRuns s.fresh_ = managementRuns s from rfl, h, Bool.true_and]
    exact decide_eq_true hd
  refine ⟨_, congrArg Host.Outcome.next (if_pos due), ?_⟩
  rw [startRun_plain (s := s.fresh_) true none hr (by decide) (by decide)]
  exact ⟨_, rfl, rfl, rfl⟩

/-! ### Items (R466, R471, R472) -/

theorem time_writeCodes (s : State) (n : Nat) (m : List Int) :
    (writeCodes s n m).vault.seconds = s.vault.seconds ∧ timeValid (writeCodes s n m) = timeValid s := by
  unfold writeCodes
  split <;> simp [timeValid, setCal]

/-- What is noted of a passed item: its codes, and when it passed. -/
theorem notes_notePass (s : State) (n : Nat) (m : List Int) :
    Tbl.get? (notePass (writeCodes s n m) n).aon.cal.itemSeconds n = some (s.vault.seconds, !timeValid s) ∧
    (n = 1 → Tbl.get? (notePass (writeCodes s n m) n).aon.cal.codes 0 = some (m.getD 0 0)) ∧
    (n = 2 → Tbl.get? (notePass (writeCodes s n m) n).aon.cal.codes 1 = some (m.getD 0 0)) := by
  obtain ⟨seconds, valid⟩ := time_writeCodes s n m
  refine ⟨?_, ?_, ?_⟩
  · rw [notePass, seconds, valid]
    exact Tbl.get?_set_self ..
  · rintro rfl
    exact Tbl.get?_set_self s.aon.cal.codes 0 (m.getD 0 0)
  · rintro rfl
    exact Tbl.get?_set_self s.aon.cal.codes 1 (m.getD 0 0)

/-- A passed item noted, before its run goes on. -/
def itemNoted (s : State) (n : Nat) (m : List Int) (r : CalRun) : State :=
  let s := notePass (writeCodes s n m) n
  let s := if n = 0 then operatingCondition s 4 0 false else s
  if r.attempt = 2 then transient s 0x16 n else s

theorem plant_itemNoted (s : State) (n : Nat) (m : List Int) (r : CalRun) :
    plant (itemNoted s n m r) = plant (notePass (writeCodes s n m) n) := by simp [itemNoted]

theorem itemEnd_passes {s : State} {n : Nat} {m : List Int} {r : CalRun} (hr : s.aon.cal.run = some r)
    (hf : firstItem r.left = n) (hn : n < 5) (hp : itemPasses s n m = true) : itemEnd s n m =
    pursue (setCalRun (itemNoted s.fresh_ n m r) (fun r => { r with
      left := clearBit r.left n, passed := setBit r.passed n, retried := r.retried || r.attempt == 2, attempt := 1 })) := by
  have hr' : s.fresh_.aon.cal.run = some r := hr
  have hp' : itemPasses s.fresh_ n m = true := by
    rw [← hp]
    cases n <;> rfl
  unfold itemEnd
  dsimp only
  rw [hr']
  dsimp only
  rw [if_neg (by simp [hf, hn]), if_pos hp']
  rfl

theorem itemEnd_firstFailure {s : State} {n : Nat} {m : List Int} {r : CalRun} (hr : s.aon.cal.run = some r)
    (hf : firstItem r.left = n) (hn : n < 5) (hp : itemPasses s n m = false) (ha : r.attempt = 1) :
    (itemEnd s n m).aon.cal.run = some { r with attempt := 2 } := by
  have hr' : s.fresh_.aon.cal.run = some r := hr
  have hp' : itemPasses s.fresh_ n m = false := by
    rw [← hp]
    cases n <;> rfl
  have failed : (itemFailed s.fresh_ n false).aon = s.aon := aon_of_plant (plant_raiseAon ..)
  unfold itemEnd
  dsimp only
  rw [hr']
  dsimp only
  rw [if_neg (by simp [hf, hn]), if_neg (by rw [hp']; decide), if_pos ha, setCalRun, setCal, setAon, failed]
  dsimp only
  rw [hr]
  rfl

theorem does_itemPassed {s : State} {n : Fin 9} {m : List Int} {r : CalRun} (hr : s.aon.cal.run = some r)
    (hf : firstItem r.left = n.val) (hn : n.val < 5) (hp : itemPasses s n m = true) : Does (.calibrationItemEnd n m) s (fun t =>
      Tbl.get? t.aon.cal.itemSeconds n = some (s.vault.seconds, !timeValid s) ∧
      (n.val = 1 → Tbl.get? t.aon.cal.codes 0 = some (m.getD 0 0)) ∧ (n.val = 2 → Tbl.get? t.aon.cal.codes 1 = some (m.getD 0 0))) := by
  refine ⟨_, congrArg Host.Outcome.next (itemEnd_passes hr hf hn hp), ?_⟩
  have free := (runFree_pursue (setCalRun (itemNoted s.fresh_ n m r) (fun r => { r with
      left := clearBit r.left n, passed := setBit r.passed n, retried := r.retried || r.attempt == 2, attempt := 1 }))).trans
    ((runFree_setCalRun ..).trans (runFree_of_plant (plant_itemNoted ..)))
  obtain ⟨seconds, codes, -⟩ := notes_of_runFree free
  dsimp only
  rw [seconds, codes]
  exact notes_notePass s.fresh_ n m

/-! ### Axis front ends (R433, R470) -/

/-- What an axis's passed item writes: its codes, the amplitude and the time. -/
def frontEndNoted (s : State) (i : Nat) (sin cos : Int) (amplitude : Nat) : State :=
  let again := decide (0 < (axis s i).frontEndTries)
  let s := setCal s (fun c => { c with codes := Tbl.set (Tbl.set c.codes (18 + 2 * i) sin) (19 + 2 * i) cos })
  let s := notePass (setAxis s i (fun x => { x with amplitude := amplitude })) (5 + i)
  if again then transient s 0x16 (5 + i) else s

theorem aon_frontEndNoted (s : State) (i : Nat) (sin cos : Int) (amplitude : Nat) :
    axis (frontEndNoted s i sin cos amplitude) i = { axis s i with amplitude := amplitude } ∧
    (frontEndNoted s i sin cos amplitude).aon.cal.run = s.aon.cal.run ∧
    (frontEndNoted s i sin cos amplitude).aon.cal.codes = Tbl.set (Tbl.set s.aon.cal.codes (18 + 2 * i) sin) (19 + 2 * i) cos := by
  have noted (u : State) (b : Bool) : (if b then transient u 0x16 (5 + i) else u).aon = u.aon := by
    cases b
    · rfl
    · exact aon_of_plant (plant_transient ..)
  unfold frontEndNoted
  dsimp only
  have written := axis_setAxis_self
    (setCal s (fun c => { c with codes := Tbl.set (Tbl.set c.codes (18 + 2 * i) sin) (19 + 2 * i) cos })) i
    (fun x => { x with amplitude := amplitude })
  rw [axis, noted]
  exact ⟨written, rfl, rfl⟩

/-- An axis at rest in Calibrating without a queued target holds. -/
theorem endCalibrating_holds {s : State} {i : Nat} (h3 : (axis s i).state = 3) (hq : (axis s i).queued = none) :
    endCalibrating s i = setAxis s i (fun x => { x with state := 2, restAt := s.now, calibrate := false, queued := none }) := by
  unfold endCalibrating
  dsimp only
  rw [if_pos h3, hq]

theorem frontEndDone_passes {s : State} {i : Nat} {sin cos : Int} {amplitude : Nat} (h3 : (axis s i).state = 3)
    (hr : s.aon.cal.run = none) (hs : inTrimRange sin = true) (hc : inTrimRange cos = true)
    (hlow : (axisCfg s i).amplitude ≤ 2 * amplitude) (hhigh : amplitude ≤ 2 * (axisCfg s i).amplitude) :
    frontEndDone s i sin cos amplitude =
      raiseAon (endCalibrating (frontEndNoted s.fresh_ i sin cos amplitude) i) 0x0A01 false (2 ^ (5 + i) + 4294967296) := by
  have h3' : (axis s.fresh_ i).state = 3 := h3
  have lowOk : (axisCfg s.fresh_ i).amplitude ≤ 2 * amplitude := hlow
  have highOk : amplitude ≤ 2 * (axisCfg s.fresh_ i).amplitude := hhigh
  have outside : inRunItem (frontEndNoted s.fresh_ i sin cos amplitude) i = false := by
    rw [inRunItem, (aon_frontEndNoted s.fresh_ i sin cos amplitude).2.1, show s.fresh_.aon.cal.run = none from hr]
  unfold frontEndDone
  dsimp only
  rw [if_neg (by simp [h3']), hs, hc, if_pos (by simp [lowOk, highOk])]
  exact if_neg (Bool.not_eq_true _ ▸ outside : ¬ inRunItem (frontEndNoted s.fresh_ i sin cos amplitude) i = true)

theorem does_frontEndPassed {i : Fin 4} {sin cos : Int} {amplitude : Nat} {s : State} (h3 : (axis s i).state = 3)
    (hr : s.aon.cal.run = none) (hs : inTrimRange sin = true) (hc : inTrimRange cos = true)
    (hlow : (axisCfg s i).amplitude ≤ 2 * amplitude) (hhigh : amplitude ≤ 2 * (axisCfg s i).amplitude)
    (hq : (axis s i).queued = none) : Does (.axisCalibrationEnd i sin cos amplitude) s (fun t => (axis t i).state = 2 ∧
      (axis t i).amplitude = amplitude ∧ (axis t i).calibrate = false ∧ Tbl.get? t.aon.cal.codes (18 + 2 * i) = some sin ∧
      Tbl.get? t.aon.cal.codes (19 + 2 * i) = some cos) := by
  obtain ⟨axis_, -, codes⟩ := aon_frontEndNoted s.fresh_ i sin cos amplitude
  have h3' : (axis (frontEndNoted s.fresh_ i sin cos amplitude) i).state = 3 := by
    rw [axis_]
    exact h3
  have hq' : (axis (frontEndNoted s.fresh_ i sin cos amplitude) i).queued = none := by
    rw [axis_]
    exact hq
  refine ⟨_, congrArg Host.Outcome.next (frontEndDone_passes h3 hr hs hc hlow hhigh), ?_⟩
  rw [endCalibrating_holds h3' hq']
  generalize frontEndNoted s.fresh_ i sin cos amplitude = u at axis_ codes ⊢
  have told := aon_of_plant (plant_raiseAon (setAxis u i (fun x => { x with
    state := 2, restAt := u.now, calibrate := false, queued := none })) 0x0A01 false (2 ^ (5 + (i : Nat)) + 4294967296))
  have left : Tbl.get? u.aon.cal.codes (18 + 2 * i) = some sin := by
    rw [codes, Tbl.get?_set_ne _ _ (by omega)]
    exact Tbl.get?_set_self ..
  have right : Tbl.get? u.aon.cal.codes (19 + 2 * i) = some cos := by
    rw [codes]
    exact Tbl.get?_set_self ..
  have now := axis_setAxis_self u i (fun x => { x with state := 2, restAt := u.now, calibrate := false, queued := none })
  simp only [axis, told] at now axis_ ⊢
  rw [now, axis_]
  exact ⟨rfl, rfl, rfl, left, right⟩

theorem does_frontEndFailed {i : Fin 4} {sin : Int} (cos : Int) (amplitude : Nat) {s : State} (h3 : (axis s i).state = 3)
    (hs : inTrimRange sin = false) (ht : (axis s i).frontEndTries = 0) :
    Does (.axisCalibrationEnd i sin cos amplitude) s (fun t => (axis t i).state = 3 ∧ (axis t i).frontEndTries = 1) := by
  have h3' : (axis s.fresh_ i).state = 3 := h3
  have ht' : (axis s.fresh_ i).frontEndTries = 0 := ht
  have failed : frontEndDone s i sin cos amplitude =
      setAxis (itemFailed s.fresh_ (5 + i) false) i (fun x => { x with frontEndTries := 1 }) := by
    unfold frontEndDone
    dsimp only
    rw [if_neg (by simp [h3']), hs, if_neg (by simp), if_neg (by rw [ht']; decide)]
  have told : axis (itemFailed s.fresh_ (5 + i) false) i = axis s i :=
    congrArg (fun a : AlwaysOn => Tbl.getD a.axes i Axis.init) (aon_of_plant (plant_raiseAon ..))
  refine ⟨_, congrArg Host.Outcome.next failed, ?_⟩
  dsimp only
  rw [axis_setAxis_self, told]
  exact ⟨h3, rfl⟩

/-- Settles O39: how runs start, at a request, with new limits and of the device's own, and how their items and an axis's front end
end. -/
theorem calibrationRunsStartAndEnd : Obligations.CalibrationRunsStartAndEnd := by
  unfold Obligations.CalibrationRunsStartAndEnd
  exact ⟨fun o s c => ⟨does_calibrationRun, does_tamperLimitsSet⟩,
    fun s h => ⟨does_calibrationPeriodic_starts h,
      fun hr => ⟨_, (exec_calibrationPeriodic h).trans (congrArg Host.Outcome.next (startRun_waits 0x1FF true none hr)), rfl, rfl⟩,
      does_calibrationDrift h⟩,
    fun n m s r hr hf hn => ⟨does_itemPassed hr hf hn, fun hp ha => ⟨_, rfl, itemEnd_firstFailure hr hf hn hp ha⟩⟩,
    fun i sin cos amplitude s h3 => ⟨does_frontEndPassed h3, does_frontEndFailed cos amplitude h3⟩⟩

end Sys2Proof.Machine
end

section
/-! Valve axes: samples, trajectory, homing, faults and their recovery (R424–R434). -/

namespace Sys2Proof.Machine
open Sys2Proof

theorem axis_of_plant {s t : State} (h : plant t = plant s) (i : Nat) : axis t i = axis s i :=
  axis_of_steady (steady_of_plant h) i

/-! ### The end of a release and the fencing of an axis -/

/-- The end of a release takes the command that waits and nothing else of the axis. -/
theorem axis_endRelease (s : State) (i : Nat) (st : Status) :
    axis (endRelease s i st) i = { axis s i with release := none } := by
  unfold endRelease
  split
  · next h => rw [← h]
  · rw [axis_of_plant (plant_finishOrigin ..), axis_setAxis_self]

theorem now_endRelease (s : State) (i : Nat) (st : Status) : (endRelease s i st).now = s.now := by
  unfold endRelease
  split
  · rfl
  · exact (now_of_plant (plant_finishOrigin ..)).trans rfl

/-- A request that ends without having succeeded counts no retry. -/
theorem ctr_finishOrigin {a : Answer} (hok : a.status ≠ .ok) (hre : a.status ≠ .recovered) (s : State) (o : Origin) :
    (finishOrigin s o a).ctr = s.ctr := by
  cases o with
  | mbx p k => exact ctr_endSlot hok hre s p k
  | twt =>
    simp only [finishOrigin, twtAnswer]
    split <;> rfl

theorem ctr_endRelease_lasting (s : State) (i : Nat) : (endRelease s i .lasting).ctr = s.ctr := by
  unfold endRelease
  split
  · rfl
  · exact (ctr_finishOrigin (by simp) (by simp) ..).trans rfl

/-- A fenced axis (R432). -/
def Axis.fenced (x : Axis) : Axis := { x with state := 7, enable := false, velocity := 0, acceleration := 0 }

/-- An axis fenced, counted and told (R432). -/
def fencedTold (s : State) (i cause : Nat) : State :=
  raiseAon (setAxis (bump s 0x0301 0x13 16) i Axis.fenced) 0x074B true (i + 256 * cause)

theorem fenceAxis_eq (s : State) (i cause : Nat) :
    fenceAxis s i cause = updateCeiling (endRelease (fencedTold s i cause) i .lasting) := rfl

theorem axis_fencedTold (s : State) (i cause : Nat) : axis (fencedTold s i cause) i = (axis s i).fenced := by
  rw [fencedTold, axis_of_plant (plant_raiseAon ..), axis_setAxis_self]
  rfl

theorem axis_fenceAxis (s : State) (i cause : Nat) :
    axis (fenceAxis s i cause) i = { (axis s i).fenced with release := none } := by
  rw [fenceAxis_eq, axis_of_steady (steady_updateCeiling _), axis_endRelease, axis_fencedTold]

theorem now_fenceAxis (s : State) (i cause : Nat) : (fenceAxis s i cause).now = s.now := by
  rw [fenceAxis_eq, now_of_steady (steady_updateCeiling _), now_endRelease, fencedTold, now_of_plant (plant_raiseAon ..)]
  rfl

theorem notOwnCount_lasting : ¬ OwnCount 0x0301 0x13 := by
  simp [OwnCount, counterKey]

theorem counter_fenceAxis (s : State) (i cause : Nat) :
    counter (fenceAxis s i cause) 0x0301 0x13 = satAdd 16 (counter s 0x0301 0x13) 1 := by
  have ended (u : State) : counter (endRelease u i .lasting) 0x0301 0x13 = counter u 0x0301 0x13 := by
    rw [counter, ctr_endRelease_lasting, counter]
  rw [fenceAxis_eq, counter_updateCeiling notOwnCount_lasting, ended, fencedTold, counter_raiseAon _ _ _ notOwnCount_lasting]
  exact counter_bump_self ..

/-! ### Samples -/

/-- An axis after a sample that moved it to a position and an angle (R424), its bad samples counted (R425, R427). -/
def Axis.sampled (x : Axis) (r2 : Nat) (angle : Nat) (out far active : Bool) (passFrom : Option Nat) : Axis :=
  { x with
    r2 := r2, position := wrap32 (x.position + angleStep x.angle angle), angle := angle
    badAmplitude := if out && active then x.badAmplitude + 1 else 0
    badFollowing := if far && active then x.badFollowing + 1 else 0
    passFrom := passFrom }

theorem single_below_two (c : Prop) {_ : Decidable c} : ¬ 2 ≤ if c then 0 + 1 else 0 := by
  split <;> decide

/-- One bad sample alone is no fault. -/
theorem axis_feedback {s : State} {i : Nat} (sin cos : Int) (angle : Nat) (hu : (axisCfg s i).used = true)
    (h3 : (axis s i).state ≠ 3) (ha : (axis s i).badAmplitude = 0) (hf : (axis s i).badFollowing = 0) :
    ∃ r2 out far active passFrom,
      axis (feedback s i sin cos angle) i = (axis s i).sampled r2 angle out far active passFrom := by
  have hu' : (axisCfg s.fresh_ i).used = true := hu
  have h3' : (axis s.fresh_ i).state ≠ 3 := h3
  unfold feedback
  dsimp only
  rw [if_neg (by simp [hu', h3'])]
  simp only [axis_setAxis_self]
  rw [if_neg, if_neg]
  · exact ⟨_, _, _, _, _, by simp only [axis_setAxis_self]; rfl⟩
  · have hf' : (axis s.fresh_ i).badFollowing = 0 := hf
    rw [hf']
    exact single_below_two _
  · have ha' : (axis s.fresh_ i).badAmplitude = 0 := ha
    rw [ha']
    exact single_below_two _

theorem does_axisFeedbackSample {i : Fin 4} {s : State} (sin cos : Int) (angle : Fin 4096) (hu : (axisCfg s i).used = true)
    (h3 : (axis s i).state ≠ 3) (ha : (axis s i).badAmplitude = 0) (hf : (axis s i).badFollowing = 0) :
    Does (.axisFeedbackSample i sin cos angle) s (fun t =>
      (axis t i).position = wrap32 ((axis s i).position + angleStep (axis s i).angle angle) ∧
      (axis t i).angle = angle ∧ (axis t i).state = (axis s i).state ∧ (axis t i).command = (axis s i).command) := by
  obtain ⟨r2, out, far, active, passFrom, sampled⟩ := axis_feedback sin cos angle hu h3 ha hf
  refine ⟨_, rfl, ?_⟩
  dsimp only
  rw [sampled]
  exact ⟨rfl, rfl, rfl, rfl⟩

/-! ### Homing -/

theorem does_trajectoryUpdate {i : Fin 4} {s : State} {pos vel acc : Int} (h1 : (axis s i).state = 1)
    (hu : (axisCfg s i).used = true) (he : (axis s i).enable = true) (hs : s.faults.safeState = false)
    (ha : updateAllowed (axisCfg s i) (axis s i) pos vel acc = true) :
    Does (.trajectoryUpdate i pos vel acc) s (fun t => (axis t i).command = pos ∧ (axis t i).velocity = vel ∧
      (axis t i).acceleration = acc ∧ (axis t i).state = 1) := by
  have h1' : (axis s.fresh_ i).state = 1 := h1
  have free : (!(axisCfg s.fresh_ i).used || !(axis s.fresh_ i).enable || s.fresh_.faults.safeState) = false := by
    rw [show (axisCfg s.fresh_ i).used = true from hu, show (axis s.fresh_ i).enable = true from he,
      show s.fresh_.faults.safeState = false from hs]
    rfl
  have allowed : updateAllowed (axisCfg s.fresh_ i) (axis s.fresh_ i) pos vel acc = true := ha
  have taken : trajectory s i pos vel acc =
      setAxis s.fresh_ i (fun x => { x with command := pos, velocity := vel, acceleration := acc }) := by
    unfold trajectory
    dsimp only
    rw [if_neg (c := (axis s.fresh_ i).state = 2 ∧ (axis s.fresh_ i).velocity ≠ 0) (by rw [h1']; simp), free,
      if_neg Bool.false_ne_true, if_pos allowed, if_pos h1']
  refine ⟨_, congrArg Host.Outcome.next taken, ?_⟩
  dsimp only
  rw [axis_setAxis_self]
  exact ⟨rfl, rfl, rfl, h1⟩

theorem exec_trajectoryUpdate_forbidden {i : Fin 4} {s : State} {pos vel acc : Int} (h1 : (axis s i).state = 1)
    (ha : updateAllowed (axisCfg s i) (axis s i) pos vel acc = false) :
    exec (.trajectoryUpdate i pos vel acc) s = .next { s with out := [] } := by
  have h1' : (axis s.fresh_ i).state = 1 := h1
  have forbidden : ¬ updateAllowed (axisCfg s.fresh_ i) (axis s.fresh_ i) pos vel acc = true :=
    Bool.not_eq_true _ ▸ ha
  refine congrArg Host.Outcome.next ?_
  unfold trajectory
  dsimp only
  rw [if_neg (c := (axis s.fresh_ i).state = 2 ∧ (axis s.fresh_ i).velocity ≠ 0) (by rw [h1']; simp), if_neg forbidden]
  exact ite_self _

/-- The judgement of a move leaves the axis where it is and enabled, and does not begin homing. -/
theorem judgeMove_spec {s : State} {i : Nat} (h : (axis s i).state ≠ 1) :
    (axis (judgeMove s i) i).position = (axis s i).position ∧ (axis (judgeMove s i) i).enable = (axis s i).enable ∧
    (axis (judgeMove s i) i).state ≠ 1 := by
  have bumped : axis (bump s 0x0D07 i 32) i = axis s i := rfl
  unfold judgeMove
  dsimp only
  split
  · exact ⟨rfl, rfl, h⟩
  · split_ifs <;> simp [h, bumped]

/-- The position a mark gives, and the target it keeps where the limits still hold it (R434). -/
def markTarget (x : Axis) (p : Int) : Int :=
  match x.target with
  | some t => if x.lower ≤ t ∧ t ≤ x.upper then t else p
  | none => p

/-- An axis at its mark (R434). -/
def Axis.homed (x : Axis) (p : Int) (angle now : Nat) : Axis :=
  { x with state := 2, position := p, angle := angle, command := p, target := some (markTarget x p), restAt := now, fromFault := false }

/-- The state once a mark is seen and told. -/
def markTold (s : State) (i : Nat) (p : Int) (angle : Nat) : State :=
  let u := raiseAon (setAxis s i (fun x => x.homed p angle s.now)) 0x074A false (i + 256 * b2n (axis s i).fromFault)
  if (axis s i).fromFault then transient u 0x13 i else u

theorem axis_markTold (s : State) (i : Nat) (p : Int) (angle : Nat) :
    axis (markTold s i p angle) i = (axis s i).homed p angle s.now := by
  unfold markTold
  dsimp only
  split
  · rw [axis_of_plant (plant_transient ..), axis_of_plant (plant_raiseAon ..), axis_setAxis_self]
  · rw [axis_of_plant (plant_raiseAon ..), axis_setAxis_self]

/-- A mark seen by an axis in no release that no plan drives. -/
theorem referenceMark_eq {i : Nat} {s : State} {sin cos : Int} (angle : Nat) (h1 : (axis s i).state = 1)
    (he : (axis s i).enable = true) (hs : 0 < sin) (hc : 0 < cos) (hd : (axis s i).planDriven = false)
    (hr : (axis s i).release = none) : referenceMark s i sin cos angle =
      updateCeiling (judgeMove (markTold s.fresh_ i (wrap32 ((axisCfg s i).homeOffset + angle)) angle) i) := by
  have told := axis_markTold s.fresh_ i (wrap32 ((axisCfg s i).homeOffset + angle)) angle
  have released : (axis (markTold s.fresh_ i (wrap32 ((axisCfg s i).homeOffset + angle)) angle) i).release = none := by
    rw [told]
    exact hr
  have driven : (axis (markTold s.fresh_ i (wrap32 ((axisCfg s i).homeOffset + angle)) angle) i).planDriven = false := by
    rw [told]
    exact hd
  have seen : referenceMark s i sin cos angle = updateCeiling (judgeMove (planRetarget (endRelease
      (markTold s.fresh_ i (wrap32 ((axisCfg s i).homeOffset + angle)) angle) i .ok) i) i) := by
    unfold referenceMark
    dsimp only
    have open_ : ¬ ((axis s.fresh_ i).state ≠ 1 ∨ (!(axis s.fresh_ i).enable) = true ∨ sin ≤ 0 ∨ cos ≤ 0) := by
      rw [show (axis s.fresh_ i).state = 1 from h1, show (axis s.fresh_ i).enable = true from he]
      simp [hs, hc]
    rw [if_neg open_]
    rfl
  rw [seen]
  generalize markTold s.fresh_ i (wrap32 ((axisCfg s i).homeOffset + angle)) angle = u at released driven ⊢
  have rested : endRelease u i .ok = u := by rw [endRelease, released]
  rw [rested, planRetarget, driven, Bool.and_false, Bool.false_and, if_neg Bool.false_ne_true]

theorem does_referenceMark {i : Fin 4} {s : State} {sin cos : Int} (angle : Fin 4096) (h1 : (axis s i).state = 1)
    (he : (axis s i).enable = true) (hs : 0 < sin) (hc : 0 < cos) (hd : (axis s i).planDriven = false)
    (hr : (axis s i).release = none) : Does (.referenceMark i sin cos angle) s (fun t =>
      (axis t i).position = wrap32 ((axisCfg s i).homeOffset + angle.val) ∧ (axis t i).state ≠ 1 ∧ (axis t i).enable = true) := by
  refine ⟨_, congrArg Host.Outcome.next (referenceMark_eq angle h1 he hs hc hd hr), ?_⟩
  have told := axis_markTold s.fresh_ i (wrap32 ((axisCfg s i).homeOffset + angle.val)) angle
  generalize markTold s.fresh_ i (wrap32 ((axisCfg s i).homeOffset + angle.val)) angle = u at told ⊢
  obtain ⟨position, enable, state⟩ := judgeMove_spec (s := u) (i := i) (by rw [told]; simp [Axis.homed])
  dsimp only
  rw [axis_of_steady (steady_updateCeiling _), position, enable, told]
  exact ⟨rfl, state, he⟩

theorem does_homingAttemptFailed_first {i : Fin 4} {s : State} (h1 : (axis s i).state = 1) (he : (axis s i).enable = true)
    (ha : (axis s i).attempt = 1) (hf : (axis s i).fromFault = false) (hr : (axis s i).release = none) :
    Does (.homingAttemptFailed i) s (fun t =>
      (axis t i).state = 1 ∧ (axis t i).enable = false ∧ (axis t i).attempt = 2) := by
  have under : ¬ ((axis s i).state ≠ 1 ∨ (!(axis s i).enable) = true) := by simp [h1, he]
  have first : (axis s i).attempt = 1 ∧ (!(axis s i).fromFault) = true ∧ (axis s i).release.isNone = true := by
    simp [ha, hf, hr]
  refine ⟨_, congrArg Host.Outcome.next ((if_neg under).trans (if_pos first)), ?_⟩
  dsimp only
  rw [axis_setAxis_self]
  exact ⟨h1, rfl, rfl⟩

theorem does_homingAttemptFailed_second {i : Fin 4} {s : State} (h1 : (axis s i).state = 1) (he : (axis s i).enable = true)
    (ha : (axis s i).attempt ≠ 1) : Does (.homingAttemptFailed i) s (fun t => (axis t i).state = 7 ∧ (axis t i).enable = false ∧
      counter t 0x0301 0x13 = satAdd 16 (counter s 0x0301 0x13) 1) := by
  have under : ¬ ((axis s i).state ≠ 1 ∨ (!(axis s i).enable) = true) := by simp [h1, he]
  refine ⟨fenceAxis s.fresh_ i 0, congrArg Host.Outcome.next ((if_neg under).trans (if_neg fun h => ha h.1)), ?_⟩
  dsimp only
  rw [axis_fenceAxis, counter_fenceAxis]
  exact ⟨rfl, rfl, rfl⟩

theorem does_homingRetryExpiry {i : Fin 4} {s : State} (h1 : (axis s i).state = 1) (he : (axis s i).enable = false)
    (ha : (axis s i).attempt = 2) : Does (.homingRetryExpiry i) s (fun t => (axis t i).enable = true ∧
      (axis t i).command = (axis s i).position ∧ t.now = max s.now ((axis s i).restAt + 100000000)) := by
  have waits : (axis s i).state = 1 ∧ (!(axis s i).enable) = true ∧ (axis s i).attempt = 2 := by simp [h1, he, ha]
  refine ⟨_, congrArg Host.Outcome.next (if_pos waits), ?_⟩
  dsimp only
  rw [axis_setAxis_self]
  exact ⟨rfl, rfl, rfl⟩

/-! ### Recovery of a Faulted axis -/

theorem does_axisFaultRecovery_fences {i : Fin 4} {s : State} (h6 : (axis s i).state = 6) (hp : (axis s i).passFrom = none) :
    Does (.axisFaultRecovery i) s (fun t => (axis t i).state = 7 ∧ t.now = max s.now ((axis s i).faultAt + 1000000000)) := by
  have fences : faultRecovery s i = fenceAxis (advanceTo s.fresh_ ((axis s i).faultAt + 1000000000)) i 1 := by
    unfold faultRecovery
    dsimp only
    rw [if_neg (not_not.mpr (show (axis s.fresh_ i).state = 6 from h6)),
      show (axis s.fresh_ i).passFrom = none from hp]
    rfl
  refine ⟨_, congrArg (fun u => Host.Outcome.next (updateCeiling u)) fences, ?_⟩
  dsimp only
  rw [axis_of_steady (steady_updateCeiling _), now_of_steady (steady_updateCeiling _), axis_fenceAxis, now_fenceAxis]
  exact ⟨rfl, rfl⟩

theorem does_axisFaultRecovery_homes {i : Fin 4} {s : State} {m : Nat} (h6 : (axis s i).state = 6)
    (hp : (axis s i).passFrom = some m) (hm : m + 100000000 ≤ (axis s i).faultAt + 1000000000) :
    Does (.axisFaultRecovery i) s (fun t =>
      (axis t i).state = 1 ∧ (axis t i).fromFault = true ∧ t.now = max s.now (m + 100000000)) := by
  have homes : faultRecovery s i = startHoming (advanceTo s.fresh_ (m + 100000000)) i true none := by
    unfold faultRecovery
    dsimp only
    rw [if_neg (not_not.mpr (show (axis s.fresh_ i).state = 6 from h6)),
      show (axis s.fresh_ i).passFrom = some m from hp]
    exact if_pos hm
  refine ⟨_, congrArg (fun u => Host.Outcome.next (updateCeiling u)) homes, ?_⟩
  dsimp only
  rw [axis_of_steady (steady_updateCeiling _), now_of_steady (steady_updateCeiling _), startHoming, axis_setAxis_self]
  exact ⟨rfl, rfl, rfl⟩

theorem does_axisCalibrationStart {i : Fin 4} {s : State} (h2 : (axis s i).state = 2) (hv : (axis s i).velocity = 0)
    (hc : (axis s i).calibrate = true) : Does (.axisCalibrationStart i) s (fun t => (axis t i).state = 3 ∧
      t.now = max s.now ((axis s i).restAt + 100000000)) := by
  refine ⟨_, congrArg Host.Outcome.next (if_pos ⟨h2, hv, hc⟩), ?_⟩
  dsimp only
  rw [startFrontEnd, axis_setAxis_self]
  exact ⟨if_pos h2, rfl⟩

/-- Settles O36: what a sample, an update, a mark, a failed attempt, its retry, a recovery and a calibration's start do to their
axis. -/
theorem axesMoveHomeAndRecover : Obligations.AxesMoveHomeAndRecover := by
  unfold Obligations.AxesMoveHomeAndRecover
  rintro i s _ rfl
  exact ⟨does_axisFeedbackSample, fun pos vel acc h1 => ⟨does_trajectoryUpdate h1, exec_trajectoryUpdate_forbidden h1⟩,
    fun sin cos angle => does_referenceMark angle,
    fun h1 he => ⟨does_homingAttemptFailed_first h1 he, does_homingAttemptFailed_second h1 he⟩,
    does_homingRetryExpiry,
    fun h6 => ⟨does_axisFaultRecovery_fences h6, fun m => does_axisFaultRecovery_homes h6⟩,
    does_axisCalibrationStart⟩

end Sys2Proof.Machine
end

section
/-! Fans: spin-up, its retry, and the supervision of their tach (R412–R417). -/

namespace Sys2Proof.Machine
open Sys2Proof

/-! ### A fold that visits an index once -/

/-- A fold over distinct indices acts once on what only the step of one index changes. -/
theorem foldl_visits {σ α β : Type} {f : σ → α → σ} {g : σ → β} {i : α} (hne : ∀ s j, j ≠ i → g (f s j) = g s) :
    ∀ (l : List α) (s : σ), l.Nodup → i ∈ l → ∃ u, g u = g s ∧ g (l.foldl f s) = g (f u i)
  | [], _, _, h => absurd h (List.not_mem_nil)
  | x :: l, s, hd, h => by
    obtain ⟨hx, hd⟩ := List.nodup_cons.mp hd
    by_cases hi : x = i
    · subst hi
      have rest (l : List α) (u : σ) (hl : x ∉ l) : g (l.foldl f u) = g u := by
        induction l generalizing u with
        | nil => rfl
        | cons y l ih =>
          rw [List.foldl_cons, ih _ (fun h => hl (List.mem_cons_of_mem _ h)),
            hne _ _ (fun h => hl (h ▸ List.mem_cons_self ..))]
      exact ⟨s, rfl, rest l (f s x) hx⟩
    · obtain ⟨u, hu, hf⟩ := foldl_visits hne l (f s x) hd ((List.mem_cons.mp h).resolve_left (Ne.symm hi))
      exact ⟨u, hu.trans (hne s x hi), hf⟩

/-! ### A fan under the operations of fans -/

theorem fan_of_plant {s t : State} (h : plant t = plant s) (i : Nat) : fan t i = fan s i := fan_of_steady (steady_of_plant h) i
@[simp] theorem fan_updateCeiling (s : State) (i : Nat) : fan (updateCeiling s) i = fan s i :=
  fan_of_steady (steady_updateCeiling s) i
theorem now_updateCeiling (s : State) : (updateCeiling s).now = s.now := now_of_steady (steady_updateCeiling s)

/-- What the commanded duty of one fan does to its state (R417). -/
def updateFan (s : State) (i : Nat) : State :=
  if !(fanCfg s i).used then s
  else if (fan s i).state = 1 ∧ 0 < commandedDuty s i then startSpin s i 2
  else if (fan s i).state = 5 ∧ commandedDuty s i = 0 then setFan s i (fun f => { f with state := 1 })
  else s

theorem updateFans_eq (s : State) : updateFans s = (List.range 12).foldl updateFan s := rfl

theorem requests_updateFans (s : State) : requests (updateFans s) = requests s := by
  rw [updateFans_eq]
  refine foldl_leaves (fun s i => ?_) _ s
  simp [updateFan, startSpin, setFan]
theorem now_updateFans (s : State) : (updateFans s).now = s.now := by
  rw [updateFans_eq]
  refine foldl_leaves (g := State.now) (fun s i => ?_) _ s
  unfold updateFan
  split_ifs <;> rfl
theorem ctr_updateFans (s : State) : (updateFans s).ctr = s.ctr := by
  rw [updateFans_eq]
  refine foldl_leaves (g := State.ctr) (fun s i => ?_) _ s
  unfold updateFan
  split_ifs <;> rfl

theorem fan_updateFan_ne (s : State) {i j : Nat} (h : j ≠ i) : fan (updateFan s j) i = fan s i := by
  unfold updateFan
  split_ifs
  · rfl
  · exact fan_setFan_ne _ _ h.symm
  · exact fan_setFan_ne _ _ h.symm
  · rfl

theorem floor_updateFan (s : State) (i j : Nat) : (fan (updateFan s j) i).floor = (fan s i).floor := by
  by_cases h : j = i
  · subst h
    unfold updateFan
    split_ifs
    · rfl
    · rw [startSpin, fan_setFan_self]
    · rw [fan_setFan_self]
    · rfl
  · rw [fan_updateFan_ne s h]

theorem floor_updateFans (s : State) (i : Nat) : (fan (updateFans s) i).floor = (fan s i).floor := by
  rw [updateFans_eq]
  exact foldl_leaves (g := fun s => (fan s i).floor) (fun s j => floor_updateFan s i j) _ s

/-- A Running fan stays Running or becomes Idle. -/
theorem updateFans_running {s : State} {i : Nat} (hi : i < 12) (h : (fan s i).state = 5) :
    (fan (updateFans s) i).state = 5 ∨ (fan (updateFans s) i).state = 1 := by
  obtain ⟨u, hu, hf⟩ := foldl_visits (g := fun s => fan s i) (fun s j h => fan_updateFan_ne s h) (List.range 12) s
    List.nodup_range (List.mem_range.mpr hi)
  have running : (fan u i).state = 5 := by rw [hu, h]
  rw [updateFans_eq, hf, updateFan, running, if_neg (c := 5 = 1 ∧ 0 < commandedDuty u i) (by simp)]
  split_ifs
  · exact .inl running
  · exact .inr (by rw [fan_setFan_self])
  · exact .inl running

/-! ### The commands (R414, R417) -/

theorem does_fanFloorSet {o : Origin} {s : State} {c : Ctx} (h : Ready 0x0710 (fixed .management) fanFloorSetChecks o s c) :
    Does (.fanFloorSet o) s (fun t => Ended t o .ok [] ∧ (fan t (c.u 0 1)).floor = c.u 2 2) := by
  refine ⟨_, congrArg Host.Outcome.next (runOp_ready _ h), ended_finish_of_requests _ h.1 ?_, ?_⟩
  · exact (requests_updateFans _).trans rfl
  · rw [fan_of_plant (plant_finish ..), floor_updateFans, fan_setFan_self]

theorem does_fanRestart {o : Origin} {s : State} {c : Ctx} (h : Ready 0x0711 (fixed .management) fanRestartChecks o s c) :
    Does (.fanRestart o) s (fun t => Ended t o .ok [] ∧ (fan t (c.u 0 1)).state = 2 ∧ (fan t (c.u 0 1)).startedAt = s.now) := by
  refine ⟨_, congrArg Host.Outcome.next (runOp_ready _ h), ended_finish_of_requests _ h.1 ?_, ?_⟩
  · exact (requests_updateCeiling _).trans rfl
  · rw [fan_of_plant (plant_finish ..), fan_updateCeiling, startSpin, fan_setFan_self]
    exact ⟨rfl, rfl⟩

/-! ### Spin-up (R415, R417) -/

/-- The moment at which an attempt is judged. -/
def judgedAt (s : State) (i : Nat) (final : Bool) : State :=
  advanceTo s.fresh_ ((fan s i).startedAt + if final then 5000000000 else 2000000000)

/-- An attempt under way is judged by its pulses and its speed. -/
theorem spinCheck_eq {s : State} {i : Nat} (final : Bool) (h : (fan s i).state = 2 ∨ (fan s i).state = 4) :
    spinCheck s i final =
      if !(fan s i).pulse then spinFailed (judgedAt s i final) i true
      else if reachedSpeed (fan s i) then spinPassed (judgedAt s i final) i
      else if final then spinFailed (judgedAt s i final) i false
      else judgedAt s i final := by
  have under : ¬ ((fan s.fresh_ i).state != 2 && (fan s.fresh_ i).state != 4) = true := by
    rcases h with h | h <;> simp [show (fan s.fresh_ i).state = (fan s i).state from rfl, h]
  unfold spinCheck
  dsimp only
  exact if_neg under

theorem spinCheck_silent {s : State} {i : Nat} (final : Bool) (h : (fan s i).state = 2 ∨ (fan s i).state = 4)
    (hp : (fan s i).pulse = false) : spinCheck s i final = spinFailed (judgedAt s i final) i true :=
  (spinCheck_eq final h).trans (if_pos (by rw [hp]; rfl))

theorem does_spinUpCheck_first {i : Fin 12} {s : State} (final : Bool) (h2 : (fan s i).state = 2) (hp : (fan s i).pulse = false) :
    Does (.spinUpCheck i final) s (fun t => (fan t i).state = 3 ∧
      t.now = max s.now ((fan s i).startedAt + if final then 5000000000 else 2000000000) ∧ (fan t i).startedAt = t.now) := by
  have failed : spinFailed (judgedAt s i final) i true = raiseAon
      (setFan (judgedAt s i final) i (fun f => { f with state := 3, startedAt := (judgedAt s i final).now })) 0x0741 true
      (i + 16 * b2n true) := if_pos h2
  refine ⟨_, congrArg Host.Outcome.next ((spinCheck_silent final (.inl h2) hp).trans failed), ?_⟩
  dsimp only
  rw [fan_of_plant (plant_raiseAon ..), now_of_plant (plant_raiseAon ..), fan_setFan_self]
  exact ⟨rfl, rfl, rfl⟩

theorem does_spinUpCheck_second {i : Fin 12} {s : State} (final : Bool) (h4 : (fan s i).state = 4)
    (hp : (fan s i).pulse = false) : Does (.spinUpCheck i final) s (fun t => (fan t i).state = 7) := by
  have second : ¬ (fan (judgedAt s i final) i).state = 2 := by
    rw [show (fan (judgedAt s i final) i).state = 4 from h4]
    decide
  refine ⟨_, congrArg Host.Outcome.next ((spinCheck_silent final (.inr h4) hp).trans (if_neg second)), ?_⟩
  dsimp only
  rw [fan_updateCeiling, fan_of_plant (plant_raiseAon ..), fan_of_plant (plant_bump ..), fan_setFan_self]

/-- A fan whose attempt has passed (R417). -/
def spun (s : State) (i : Nat) : State := setFan s i (fun f => { f with state := 5, pulseAt := s.now, lasting := false })

theorem spinPassed_eq (s : State) (i : Nat) : spinPassed s i =
    updateCeiling (updateFans (if (fan s i).state = 4 then transient (spun s i) 0x12 i else spun s i)) := rfl

/-- A passed attempt leaves its fan Running, or Idle. -/
theorem spinPassed_running {s : State} {i : Nat} (hi : i < 12) :
    (fan (spinPassed s i) i).state = 5 ∨ (fan (spinPassed s i) i).state = 1 := by
  have running : (fan (spun s i) i).state = 5 := by rw [spun, fan_setFan_self]
  rw [spinPassed_eq, fan_updateCeiling]
  refine updateFans_running hi ?_
  generalize spun s i = u at running ⊢
  split
  · rw [fan_of_plant (plant_transient ..), running]
  · exact running

theorem does_spinUpCheck_passed {i : Fin 12} {s : State} (final : Bool) (h : (fan s i).state = 2 ∨ (fan s i).state = 4)
    (hp : (fan s i).pulse = true) (hr : reachedSpeed (fan s i) = true) :
    Does (.spinUpCheck i final) s (fun t => (fan t i).state = 5 ∨ (fan t i).state = 1) := by
  have passed : spinCheck s i final = spinPassed (judgedAt s i final) i :=
    (spinCheck_eq final h).trans ((if_neg (by simp [hp])).trans (if_pos hr))
  exact ⟨_, congrArg Host.Outcome.next passed, spinPassed_running i.isLt⟩

theorem does_fanPauseExpiry {i : Fin 12} {s : State} (h3 : (fan s i).state = 3) : Does (.fanPauseExpiry i) s (fun t =>
    (fan t i).state = 4 ∧ t.now = max s.now ((fan s i).startedAt + 3000000000) ∧
    counter t 0x0D00 i = satAdd 16 (counter s 0x0D00 i) 1) := by
  refine ⟨_, congrArg Host.Outcome.next (if_pos h3), ?_⟩
  dsimp only
  rw [counter_bump_self, fan_of_plant (plant_bump ..), startSpin, fan_setFan_self]
  exact ⟨rfl, rfl, rfl⟩

/-! ### Supervision (R412, R416) -/

theorem does_fanTachPulse {i : Fin 12} {s : State} (rpm : Nat) (hu : (fanCfg s i).used = true) (h5 : (fan s i).state = 5) :
    Does (.fanTachPulse i rpm) s (fun t => (fan t i).speed = rpm ∧ (fan t i).pulseAt = s.now ∧ (fan t i).state = 5) := by
  have used : ¬ (!(fanCfg s.fresh_ i).used) = true := by simp [show (fanCfg s.fresh_ i).used = true from hu]
  have h5' : (fan s.fresh_ i).state = 5 := h5
  refine ⟨_, congrArg Host.Outcome.next (if_neg used), ?_⟩
  dsimp only
  rw [h5', if_neg (by simp), fan_setFan_self]
  exact ⟨rfl, rfl, h5⟩

theorem notOwnCount_fan {j : Nat} (hj : j = 0x0D01 ∨ j = 0x0301) (i : Nat) (hi : i < 65536) : ¬ OwnCount j i := by
  simp only [OwnCount, counterKey]
  omega

theorem does_tachLost {i : Fin 12} {s : State} (h5 : (fan s i).state = 5) (hd : 0 < commandedDuty s i) :
    Does (.tachLost i) s (fun t => (fan t i).state = 6 ∧ (fan t i).lasting = false ∧
      t.now = max s.now ((fan s i).pulseAt + tachWindow (fanCfg s i)) ∧
      counter t 0x0D01 i = satAdd 16 (counter s 0x0D01 i) 1) := by
  have runs : (fan s.fresh_ i).state = 5 ∧ 0 < commandedDuty s.fresh_ i := ⟨h5, hd⟩
  refine ⟨_, congrArg Host.Outcome.next (if_pos runs), ?_⟩
  dsimp only
  rw [fan_of_plant (plant_raiseAon ..), now_of_plant (plant_raiseAon ..),
    counter_raiseAon _ _ _ (notOwnCount_fan (.inl rfl) i (by omega)), fan_setFan_self]
  exact ⟨rfl, rfl, rfl, counter_bump_self ..⟩

theorem does_tachRestored {i : Fin 12} {s : State} {m : Nat} (h6 : (fan s i).state = 6) (hl : (fan s i).lasting = false)
    (hf : (fan s i).fastFrom = some m) (hm : m + 1000000000 ≤ (fan s i).lostAt + 10000000000) :
    Does (.tachRestored i) s (fun t => ((fan t i).state = 5 ∨ (fan t i).state = 1) ∧ t.now = max s.now (m + 1000000000)) := by
  have in_time : (fan s.fresh_ i).state = 6 ∧ (!(fan s.fresh_ i).lasting) = true ∧
      m + 1000000000 ≤ (fan s.fresh_ i).lostAt + 10000000000 := ⟨h6, by rw [show (fan s.fresh_ i).lasting = false from hl]; rfl, hm⟩
  have restored : tachRestored s i = updateCeiling (updateFans (raiseAon (transient
      (setFan (advanceTo s.fresh_ (m + 1000000000)) i (fun f => { f with
        state := 5, airflow := false, pulseAt := (advanceTo s.fresh_ (m + 1000000000)).now })) 0x12 i) 0x0744 false i)) := by
    unfold tachRestored
    dsimp only
    rw [show (fan s.fresh_ i).fastFrom = some m from hf]
    exact if_pos in_time
  refine ⟨_, congrArg Host.Outcome.next restored, ?_⟩
  dsimp only
  rw [fan_updateCeiling, now_updateCeiling, now_updateFans]
  refine ⟨updateFans_running i.isLt ?_, ?_⟩
  · rw [fan_of_plant (plant_raiseAon ..), fan_of_plant (plant_transient ..), fan_setFan_self]
  · rw [now_of_plant (plant_raiseAon ..), now_of_plant (plant_transient ..)]
    rfl

theorem does_tachLostLasting {i : Fin 12} {s : State} (h6 : (fan s i).state = 6) (hl : (fan s i).lasting = false) :
    Does (.tachLostLasting i) s (fun t => (fan t i).state = 6 ∧ (fan t i).lasting = true ∧
      t.now = max s.now ((fan s i).lostAt + 10000000000) ∧ counter t 0x0301 0x12 = satAdd 16 (counter s 0x0301 0x12) 1) := by
  have lost : (fan s.fresh_ i).state = 6 ∧ (!(fan s.fresh_ i).lasting) = true :=
    ⟨h6, by rw [show (fan s.fresh_ i).lasting = false from hl]; rfl⟩
  refine ⟨_, congrArg Host.Outcome.next (if_pos lost), ?_⟩
  dsimp only
  rw [counter_bump_self, fan_of_plant (plant_bump ..), fan_setFan_self]
  exact ⟨h6, rfl, rfl, rfl⟩

/-- Settles O33: the commands of fans, and the course of a fan through spin-up, supervision and loss. -/
theorem fansSpinUpAndAreSupervised : Obligations.FansSpinUpAndAreSupervised := by
  unfold Obligations.FansSpinUpAndAreSupervised
  refine ⟨fun o s c => ⟨does_fanFloorSet, does_fanRestart,
    fun h => ⟨_, congrArg Host.Outcome.next (runOp_ready _ h), ended_finish _ h.1⟩⟩, ?_⟩
  rintro i s final _ rfl
  exact ⟨does_spinUpCheck_first final, does_spinUpCheck_second final, does_spinUpCheck_passed final, does_fanPauseExpiry,
    does_fanTachPulse, does_tachLost, fun m => does_tachRestored, does_tachLostLasting⟩

end Sys2Proof.Machine
end

section
/-! What the stop of the main domain, the release of rails and a power-down leave of the tables, the sequencer, the thermal plan and
the time (R36, R396, R420, R473). -/

namespace Sys2Proof.Machine
open Sys2Proof

/-! ### What the course of rails, fans, axes and calibration leaves -/

/-- The accepted tables, the sequencer, the thermal plan and the device time. -/
def course (s : State) : AonTables × Sequencer × Thermal × Nat := (s.aon.tables, s.aon.seq, s.aon.thermal, s.now)

theorem course_of_plant {s t : State} (h : plant t = plant s) : course t = course s :=
  (congrArg (fun u : State => (u.aon.tables, u.aon.seq, u.aon.thermal, u.now)) h :)
theorem tables_of_course {s t : State} (h : course t = course s) : t.aon.tables = s.aon.tables := congrArg Prod.fst h
theorem seq_of_course {s t : State} (h : course t = course s) : t.aon.seq = s.aon.seq :=
  congrArg (fun p : AonTables × Sequencer × Thermal × Nat => p.2.1) h
theorem thermal_of_course {s t : State} (h : course t = course s) : t.aon.thermal = s.aon.thermal :=
  congrArg (fun p : AonTables × Sequencer × Thermal × Nat => p.2.2.1) h
theorem now_of_course {s t : State} (h : course t = course s) : t.now = s.now :=
  congrArg (fun p : AonTables × Sequencer × Thermal × Nat => p.2.2.2) h

@[simp] theorem course_ite (c : Prop) {_ : Decidable c} (s t : State) :
    course (if c then s else t) = if c then course s else course t := apply_ite ..
@[simp] theorem course_bump (s : State) (i n w) : course (bump s i n w) = course s := rfl
@[simp] theorem course_setRail (s : State) (v f) : course (setRail s v f) = course s := rfl
@[simp] theorem course_setAxis (s : State) (i f) : course (setAxis s i f) = course s := rfl
@[simp] theorem course_setFan (s : State) (i f) : course (setFan s i f) = course s := rfl
@[simp] theorem course_raiseAon (s : State) (code fault detail) : course (raiseAon s code fault detail) = course s :=
  course_of_plant (plant_raiseAon ..)
@[simp] theorem course_finishOrigin (s : State) (o a) : course (finishOrigin s o a) = course s := course_of_plant (plant_finishOrigin ..)
@[simp] theorem course_operatingCondition (s : State) (q i o) : course (operatingCondition s q i o) = course s :=
  course_of_plant (plant_operatingCondition ..)

@[simp] theorem course_releaseRail (s : State) (v) : course (releaseRail s v) = course s := rfl
@[simp] theorem course_stopMain (s : State) : course (stopMain s) = course s := by
  cases h : s.boot.mainOn with
  | false => rw [stopMain_off h]; rfl
  | true =>
    obtain ⟨-, aon, -, now, -⟩ := stopMain_on h
    rw [course, aon, now]
    rfl
@[simp] theorem course_releaseStep (s : State) (i) : course (releaseStep s i) = course s := by
  simp [releaseStep]
@[simp] theorem course_abandonCalibration (s : State) : course (abandonCalibration s) = course s := by
  unfold abandonCalibration
  dsimp only
  split
  · rfl
  · split
    · rfl
    · exact (course_finishOrigin ..).trans rfl

/-- A rail's own course ends, and with it the request behind it. -/
def endRun (st : Status) (s : State) (v : Nat) : State :=
  match (rail s v).run with
  | none => s
  | some r => match r.origin with
    | some o => finishOrigin (setRail s v (fun x => { x with run := none })) o { status := st }
    | none => setRail s v (fun x => { x with run := none })

theorem endRuns_eq (s : State) (st : Status) : endRuns s st = (List.range 24).foldl (endRun st) s := rfl

theorem course_endRun (st : Status) (s : State) (v : Nat) : course (endRun st s v) = course s := by
  unfold endRun
  split
  · rfl
  · split <;> simp
@[simp] theorem course_endRuns (s : State) (st) : course (endRuns s st) = course s := by
  rw [endRuns_eq]
  exact foldl_leaves (course_endRun st) _ s
@[simp] theorem course_driverGood (s : State) (v) : course (driverGood s v) = course s := by
  unfold driverGood
  exact foldl_leaves (fun s i => by simp [startHoming]) _ s
theorem course_updateFans (s : State) : course (updateFans s) = course s := by
  rw [updateFans_eq]
  exact foldl_leaves (fun s i => by simp [updateFan, startSpin]) _ s
theorem course_judgeMove (s : State) (i : Nat) : course (judgeMove s i) = course s := by
  unfold judgeMove
  dsimp only
  split
  · rfl
  · split_ifs <;> rfl
theorem course_planRetarget (s : State) (i : Nat) : course (planRetarget s i) = course s := by
  unfold planRetarget retarget
  dsimp only
  repeat' split
  all_goals simp [course_judgeMove]

/-! ### The thermal plan through a power-down -/

theorem thermal_setSeq (s : State) (f : Sequencer → Sequencer) : (setSeq s f).aon.thermal = s.aon.thermal := rfl

theorem thermal_endProof (s : State) (ok : Bool) : (endProof s ok).aon.thermal = s.aon.thermal := by
  unfold endProof
  dsimp only
  split
  · rfl
  · split
    · exact (thermal_of_course ((course_finishOrigin ..).trans (course_raiseAon ..))).trans rfl
    · exact (thermal_of_course (course_finishOrigin ..)).trans rfl

theorem thermal_endDown (s : State) (goal : DownTo) : (endDown s goal).aon.thermal = s.aon.thermal := by
  cases goal with
  | heldOff => exact (thermal_of_course (course_stopMain _)).trans rfl
  | proved ok => exact thermal_endProof ..
  | off | restart | reselect | retry => rfl

theorem thermal_downNext (s : State) : (downNext s).aon.thermal = s.aon.thermal := by
  unfold downNext
  split
  · exact (thermal_endDown ..).trans (thermal_of_course (course_stopMain s))
  · next i _ _ _ => exact (thermal_setSeq ..).trans (thermal_of_course (course_releaseStep s i))
  · rfl

theorem thermal_powerDown (s : State) (goal : DownTo) : (powerDown s goal).aon.thermal = s.aon.thermal := by
  rw [powerDown, thermal_downNext, thermal_setSeq]
  exact thermal_of_course ((course_endRuns ..).trans (course_abandonCalibration s))

end Sys2Proof.Machine
end

section
/-! The thermal plan: readings, the rows they select and the critical temperature (R418, R420, R422). -/

namespace Sys2Proof.Machine
open Sys2Proof

/-! ### Board sensors (R418, R420) -/

theorem ownTraffic_answered {s : State} {b addr : Nat} (h : noTraffic s b addr = false) : ownTraffic s b addr true = (true, s) := by
  rw [ownTraffic, h]
  rfl

/-- What does not answer is absent. -/
theorem ownTraffic_silent (s : State) (b addr : Nat) : ∃ t, ownTraffic s b addr false = (false, t) ∧ t.aon = s.aon := by
  unfold ownTraffic
  split
  · exact ⟨s, rfl, rfl⟩
  · refine ⟨_, rfl, ?_⟩
    rw [markTargetAbsent, aon_of_plant (plant_raiseAon ..)]
    rfl

theorem does_boardSensorRead_answers {i : Fin 16} {s : State} {r : Int} (hi : i.val < s.aon.tables.boardAddresses.length)
    (ha : noTraffic s 1 (s.aon.tables.boardAddresses.getD i 0) = false) :
    Does (.boardSensorRead i (some r)) s (fun t => Tbl.get? t.aon.thermal.board i = some r) := by
  refine ⟨_, congrArg Host.Outcome.next (if_neg (not_le.mpr hi)), ?_⟩
  have answered := ownTraffic_answered (s := s.fresh_) (b := 1) (addr := s.aon.tables.boardAddresses.getD i 0) ha
  dsimp only [Option.isSome_some]
  rw [show s.fresh_.aon.tables = s.aon.tables from rfl, answered]
  dsimp only
  rw [if_pos rfl]
  dsimp only
  split
  · rw [aon_of_plant (plant_raiseAon ..)]
    exact Tbl.get?_set_self ..
  · exact Tbl.get?_set_self ..

theorem does_boardSensorRead_absent {i : Fin 16} {s : State} (hi : i.val < s.aon.tables.boardAddresses.length) :
    Does (.boardSensorRead i none) s (fun t => t.aon.thermal.boardAbsent.contains i.val = true) := by
  refine ⟨_, congrArg Host.Outcome.next (if_neg (not_le.mpr hi)), ?_⟩
  obtain ⟨u, silent, aon⟩ := ownTraffic_silent s.fresh_ 1 (s.aon.tables.boardAddresses.getD i 0)
  dsimp only [Option.isSome_none]
  rw [show s.fresh_.aon.tables = s.aon.tables from rfl, silent]
  dsimp only
  rw [if_neg Bool.false_ne_true]
  dsimp only
  split
  · next was =>
    rw [aon]
    exact was
  · rw [aon_of_plant (plant_raiseAon ..)]
    simp [setAon]

/-! ### What a temperature depends on -/

/-- A state without fans, axes, counters and the zones' own records: temperatures and rows are selected from what is left. -/
def sensing (s : State) : State :=
  { s with ctr := [], aon := { s.aon with
    fans := [], axes := [], thermal := { s.aon.thermal with zoneTemps := [], zoneRows := [] } } }

/-- A zone's temperature noted, before its row is selected. -/
def zoneNoted (s : State) (z : Nat) : State :=
  setAon s (fun a => { a with thermal := { a.thermal with zoneTemps := a.thermal.zoneTemps.set z (zoneTemperature s z) } })

/-- A zone's row stored, a change counted (R420, R436). -/
def zoneRowSet (s : State) (z new : Nat) : State :=
  if new = s.aon.thermal.zoneRows.getD z 0 then s
  else setAon (bump s 0x0D02 z 32) (fun a => { a with thermal := { a.thermal with zoneRows := a.thermal.zoneRows.set z new } })

theorem evaluateZone_eq (s : State) (z : Nat) : evaluateZone s z =
    if !(zoneNoted s z).boot.mainOn then zoneNoted s z
    else zoneRowSet (zoneNoted s z) z (if zoneAbsent (zoneNoted s z) z then (zoneNoted s z).aon.tables.rows.length - 1
      else selectRow (zoneNoted s z) ((zoneNoted s z).aon.thermal.zoneRows.getD z 0) (zoneTemperature s z)) := rfl

theorem sensing_zoneNoted (s : State) (z : Nat) : sensing (zoneNoted s z) = sensing s := rfl
theorem sensing_zoneRowSet (s : State) (z new : Nat) : sensing (zoneRowSet s z new) = sensing s := by
  unfold zoneRowSet
  split <;> rfl
theorem sensing_evaluateZone (s : State) (z : Nat) : sensing (evaluateZone s z) = sensing s := by
  rw [evaluateZone_eq]
  split
  · exact sensing_zoneNoted s z
  · exact (sensing_zoneRowSet ..).trans (sensing_zoneNoted s z)
theorem sensing_zones (s : State) (l : List Nat) : sensing (l.foldl evaluateZone s) = sensing s :=
  foldl_leaves sensing_evaluateZone l s

/-- The die temperature depends on the readings and on which channels are fenced. -/
theorem dieTemperature_congr {s t : State} (ht : t.aon.thermal.dieA = s.aon.thermal.dieA ∧ t.aon.thermal.dieB = s.aon.thermal.dieB)
    (hf : ∀ g i, isFenced t g i = isFenced s g i) : dieTemperature t = dieTemperature s := by
  have same : dieReading t = dieReading s := by
    funext i
    simp only [dieReading, ht, hf]
  rw [dieTemperature, same, dieTemperature]

/-- A zone's temperature depends on the readings, the tables and on which channels are fenced. -/
theorem zoneTemperature_congr {s t : State} (ht : t.aon = s.aon) (hf : ∀ g i, isFenced t g i = isFenced s g i) (z : Nat) :
    zoneTemperature t z = zoneTemperature s z := by
  have same : dieReading t = dieReading s := by
    funext i
    simp only [dieReading, ht, hf]
  simp only [zoneTemperature, zoneReadings, ht, same]

theorem selectRow_congr {s t : State} (h : t.aon.tables = s.aon.tables) : selectRow t = selectRow s := by
  funext present temp
  simp only [selectRow, h]

/-! ### Zones -/

/-- What the zones other than one leave to it. -/
def zoneView (z : Nat) (s : State) : State × Nat × Nat :=
  (sensing s, s.aon.thermal.zoneRows.length, s.aon.thermal.zoneRows.getD z 0)

theorem zoneView_zoneRowSet_ne (s : State) {z w : Nat} (new : Nat) (h : w ≠ z) :
    zoneView z (zoneRowSet s w new) = zoneView z s := by
  rw [zoneView, sensing_zoneRowSet]
  unfold zoneRowSet
  split
  · rfl
  · simp [zoneView, setAon, bump, bumpBy, List.getD_eq_getElem?_getD, List.getElem?_set_ne h]

theorem zoneView_evaluateZone_ne (s : State) {z w : Nat} (h : w ≠ z) : zoneView z (evaluateZone s w) = zoneView z s := by
  rw [evaluateZone_eq]
  split
  · rfl
  · exact (zoneView_zoneRowSet_ne _ _ h).trans rfl

theorem zoneRow_zoneRowSet {s : State} {z : Nat} (new : Nat) (hz : z < s.aon.thermal.zoneRows.length) :
    (zoneRowSet s z new).aon.thermal.zoneRows.getD z 0 = new := by
  unfold zoneRowSet
  split
  · next same => exact same.symm
  · simp [setAon, bump, bumpBy, List.getD_eq_getElem?_getD, hz]

/-- With the main domain on, a zone without an absent sensor selects the row of its temperature. -/
theorem zoneRow_evaluateZone {s : State} {z : Nat} (hon : s.boot.mainOn = true) (hz : z < s.aon.thermal.zoneRows.length)
    (ha : zoneAbsent s z = false) : (evaluateZone s z).aon.thermal.zoneRows.getD z 0 =
      selectRow s (s.aon.thermal.zoneRows.getD z 0) (zoneTemperature s z) := by
  have on : (zoneNoted s z).boot.mainOn = true := hon
  have absent : zoneAbsent (zoneNoted s z) z = false := ha
  have hz' : z < (zoneNoted s z).aon.thermal.zoneRows.length := hz
  rw [evaluateZone_eq, on, absent, if_neg (by decide), if_neg Bool.false_ne_true, zoneRow_zoneRowSet _ hz',
    selectRow_congr (s := s) rfl]
  rfl

theorem zoneRow_zones {s : State} {z : Nat} (h4 : z < 4) (hon : s.boot.mainOn = true) (hz : z < s.aon.thermal.zoneRows.length)
    (ha : zoneAbsent s z = false) : ([0, 1, 2, 3].foldl evaluateZone s).aon.thermal.zoneRows.getD z 0 =
      selectRow s (s.aon.thermal.zoneRows.getD z 0) (zoneTemperature s z) := by
  obtain ⟨u, view, fold⟩ := foldl_visits (f := evaluateZone) (g := zoneView z) (i := z)
    (fun s w h => zoneView_evaluateZone_ne s h) [0, 1, 2, 3] s (by decide) (by simp; omega)
  obtain ⟨senses, length, row⟩ : sensing u = sensing s ∧ u.aon.thermal.zoneRows.length = s.aon.thermal.zoneRows.length ∧
      u.aon.thermal.zoneRows.getD z 0 = s.aon.thermal.zoneRows.getD z 0 := by
    simpa only [zoneView, Prod.mk.injEq] using view
  have on : u.boot.mainOn = true := (congrArg (fun v : State => v.boot.mainOn) senses :).trans hon
  have absent : zoneAbsent u z = false := (congrArg (fun v : State => zoneAbsent v z) senses :).trans ha
  have temperature : zoneTemperature u z = zoneTemperature s z := (congrArg (fun v : State => zoneTemperature v z) senses :)
  have rows : selectRow u = selectRow s := (congrArg selectRow senses :)
  have row_ : ([0, 1, 2, 3].foldl evaluateZone s).aon.thermal.zoneRows.getD z 0 =
      (evaluateZone u z).aon.thermal.zoneRows.getD z 0 := congrArg (fun v : State × Nat × Nat => v.2.2) fold
  rw [row_, zoneRow_evaluateZone on (length ▸ hz) absent, row, temperature, rows]

/-! ### The evaluation (R420, R422) -/

/-- The die readings of an evaluation stored. -/
def dieRead (s : State) (dieA dieB : List Int) : State :=
  setAon s.fresh_ (fun a => { a with thermal := { a.thermal with dieA := dieA, dieB := dieB } })

/-- The device's own row selected by the die temperature. -/
def dieRowSet (s : State) (t : Int) : State :=
  setAon s (fun a => { a with thermal := { a.thermal with ktRow := selectRow s a.thermal.ktRow t } })

/-- The readings judged against the operating range, and zones and device at their rows. -/
def rowsSelected (s : State) : State :=
  dieRowSet ([0, 1, 2, 3].foldl evaluateZone (operatingCondition s 1 0
    (decide (dieTemperature s < 0) || decide (210 < dieTemperature s)))) (dieTemperature s)

theorem safeState_operatingCondition (s : State) (q i : Nat) (o : Bool) :
    (operatingCondition s q i o).faults.safeState = s.faults.safeState := by
  unfold operatingCondition
  dsimp only
  split
  · rfl
  · exact (safeState_of_standing ((standing_guard _).trans (standing_raiseAon ..))).trans rfl

theorem isFenced_operatingCondition (s : State) (q i : Nat) (o : Bool) (g n : Nat) :
    isFenced (operatingCondition s q i o) g n = isFenced s g n := by
  unfold operatingCondition
  dsimp only
  split
  · rfl
  · rw [isFenced_guard, (raiseAon_spec ..).isFenced]
    rfl

/-- An evaluation with a plan, outside the safe state. -/
theorem evaluatePlan_eq {s : State} (dieA dieB : List Int) (hr : s.aon.tables.rows ≠ []) (hs : s.faults.safeState = false) :
    evaluatePlan s dieA dieB = evaluateShutdown (updateFans (updateCeiling ([0, 1, 2, 3].foldl planRetarget
      (evaluateCritical (evaluateAirflow (rowsSelected (dieRead s dieA dieB))))))) := by
  have rows := aon_of_plant (plant_operatingCondition (dieRead s dieA dieB) 1 0
    (decide (dieTemperature (dieRead s dieA dieB) < 0) || decide (210 < dieTemperature (dieRead s dieA dieB))))
  have safe := safeState_operatingCondition (dieRead s dieA dieB) 1 0
    (decide (dieTemperature (dieRead s dieA dieB) < 0) || decide (210 < dieTemperature (dieRead s dieA dieB)))
  have plan : ¬ ((operatingCondition (dieRead s dieA dieB) 1 0 (decide (dieTemperature (dieRead s dieA dieB) < 0) ||
      decide (210 < dieTemperature (dieRead s dieA dieB)))).aon.tables.rows.isEmpty ||
      (operatingCondition (dieRead s dieA dieB) 1 0 (decide (dieTemperature (dieRead s dieA dieB) < 0) ||
      decide (210 < dieTemperature (dieRead s dieA dieB)))).faults.safeState) = true := by
    rw [rows, safe, show (dieRead s dieA dieB).faults.safeState = false from hs,
      show (dieRead s dieA dieB).aon.tables.rows = s.aon.tables.rows from rfl]
    simp [hr]
  exact if_neg plan

/-- The airflow loss of one fan (R421). -/
def noteAirflow (s : State) (i : Nat) : State :=
  if (fan s i).state = 6 ∧ !(fan s i).airflow ∧
      ((fan s i).zoneTemp + 10 ≤ s.aon.thermal.zoneTemps.getD (fanCfg s i).zone 0 ∨
        (fan s i).zoneRow < s.aon.thermal.zoneRows.getD (fanCfg s i).zone 0) then
    raiseAon (setFan s i (fun f => { f with airflow := true })) 0x0745 true (i + 16 * (fanCfg s i).zone)
  else s

theorem evaluateAirflow_eq (s : State) : evaluateAirflow s = (List.range 12).foldl noteAirflow s := rfl

theorem course_evaluateAirflow (s : State) : course (evaluateAirflow s) = course s := by
  rw [evaluateAirflow_eq]
  exact foldl_leaves (fun s i => by simp [noteAirflow]) _ s

theorem isFenced_noteAirflow (s : State) (i g n : Nat) : isFenced (noteAirflow s i) g n = isFenced s g n := by
  unfold noteAirflow
  split
  · exact ((raiseAon_spec ..).isFenced g n).trans rfl
  · rfl

theorem isFenced_evaluateAirflow (s : State) (g n : Nat) : isFenced (evaluateAirflow s) g n = isFenced s g n := by
  rw [evaluateAirflow_eq]
  exact foldl_leaves (g := fun s => isFenced s g n) (fun s i => isFenced_noteAirflow s i g n) _ s

/-- Whether the critical temperature is in force after an evaluation (R422). -/
def criticalNext (s : State) : Bool :=
  if s.aon.thermal.critical then !decide (dieTemperature s < 2 * s.aon.tables.critical - 2 * s.aon.tables.hysteresis)
  else decide (2 * s.aon.tables.critical ≤ dieTemperature s)

theorem thermal_evaluateCritical (s : State) :
    (evaluateCritical s).aon.thermal = { s.aon.thermal with critical := criticalNext s } := by
  unfold evaluateCritical criticalNext
  dsimp only
  split
  · next critical =>
    split
    · next left => simp [setAon, left]
    · next stays => simp [stays, ← critical]
  · next clear =>
    split
    · next reached =>
      rw [aon_of_plant (plant_raiseAon ..)]
      simp [setAon, reached, bump, bumpBy]
    · next below => simp [below, ← Bool.not_eq_true _ ▸ clear]

/-- The shutdown changes nothing of the plan. -/
theorem thermal_evaluateShutdown (s : State) : (evaluateShutdown s).aon.thermal = s.aon.thermal := by
  have told := fun detail => aon_of_plant (plant_raiseAon s 0x0748 true detail)
  unfold evaluateShutdown
  dsimp only
  split
  · rfl
  · split
    · rfl
    · split
      · rw [thermal_setSeq, told]
      · rw [thermal_powerDown, told]

/-- What the ceiling and the fans leave of the plan's choice: the record but for the ceiling formed from it. -/
def choice (x : Thermal) : Thermal := { x with throttled := false, ceiling := 0 }

theorem choice_updateCeiling (s : State) : choice (updateCeiling s).aon.thermal = choice s.aon.thermal :=
  (congrArg (fun u : State => u.aon.thermal) (ceilingFree_of_steady (steady_updateCeiling s)) :)

theorem choice_evaluatePlan {s : State} (dieA dieB : List Int) (hr : s.aon.tables.rows ≠ []) (hs : s.faults.safeState = false) :
    choice (evaluatePlan s dieA dieB).aon.thermal = choice { (rowsSelected (dieRead s dieA dieB)).aon.thermal with
      critical := criticalNext (evaluateAirflow (rowsSelected (dieRead s dieA dieB))) } := by
  rw [evaluatePlan_eq dieA dieB hr hs, thermal_evaluateShutdown, thermal_of_course (course_updateFans _), choice_updateCeiling,
    thermal_of_course (foldl_leaves course_planRetarget _ _), thermal_evaluateCritical,
    thermal_of_course (course_evaluateAirflow _)]

/-- The readings, the device's own row and the critical temperature once the rows are selected. -/
theorem rowsSelected_spec (s : State) :
    ((rowsSelected s).aon.thermal.dieA = s.aon.thermal.dieA ∧ (rowsSelected s).aon.thermal.dieB = s.aon.thermal.dieB) ∧
    (rowsSelected s).aon.thermal.ktRow = selectRow s s.aon.thermal.ktRow (dieTemperature s) ∧
    (rowsSelected s).aon.thermal.critical = s.aon.thermal.critical ∧ (rowsSelected s).aon.tables = s.aon.tables ∧
    ∀ g n, isFenced (rowsSelected s) g n = isFenced s g n := by
  unfold rowsSelected
  generalize hu : operatingCondition s 1 0 (decide (dieTemperature s < 0) || decide (210 < dieTemperature s)) = u
  have aon : u.aon = s.aon := hu ▸ aon_of_plant (plant_operatingCondition ..)
  have fenced : ∀ g n, isFenced u g n = isFenced s g n := fun g n => hu ▸ isFenced_operatingCondition s 1 0 _ g n
  have zones := sensing_zones u [0, 1, 2, 3]
  generalize [0, 1, 2, 3].foldl evaluateZone u = v at zones ⊢
  have thermal : ({ v.aon.thermal with zoneTemps := [], zoneRows := [] } : Thermal) =
      { u.aon.thermal with zoneTemps := [], zoneRows := [] } := (congrArg (fun w : State => w.aon.thermal) zones :)
  have tables : v.aon.tables = u.aon.tables := (congrArg (fun w : State => w.aon.tables) zones :)
  rw [aon] at thermal tables
  refine ⟨⟨(congrArg Thermal.dieA thermal :), (congrArg Thermal.dieB thermal :)⟩, ?_, (congrArg Thermal.critical thermal :), tables,
    fun g n => (congrArg (fun w : State => isFenced w g n) zones :).trans (fenced g n)⟩
  have row : v.aon.thermal.ktRow = s.aon.thermal.ktRow := (congrArg Thermal.ktRow thermal :)
  exact congrArg₂ (fun f x => f x (dieTemperature s)) (selectRow_congr tables) row

/-- The row of a zone without an absent sensor once the rows are selected. -/
theorem rowsSelected_zone {s : State} {z : Nat} (hon : s.boot.mainOn = true) (h4 : z < 4)
    (hz : z < s.aon.thermal.zoneRows.length) (ha : zoneAbsent s z = false) :
    (rowsSelected s).aon.thermal.zoneRows.getD z 0 =
      selectRow s (s.aon.thermal.zoneRows.getD z 0) (zoneTemperature s z) := by
  unfold rowsSelected
  generalize hu : operatingCondition s 1 0 (decide (dieTemperature s < 0) || decide (210 < dieTemperature s)) = u
  have same : plant u = plant s := hu ▸ plant_operatingCondition ..
  have aon := aon_of_plant same
  have fenced : ∀ g n, isFenced u g n = isFenced s g n := fun g n => hu ▸ isFenced_operatingCondition s 1 0 _ g n
  have absent : zoneAbsent u z = false := by
    rw [← ha, zoneAbsent, aon, zoneAbsent]
  have on : u.boot.mainOn = true := by rw [boot_of_plant same, hon]
  have zone := zoneRow_zones h4 on (aon ▸ hz) absent
  rw [zoneTemperature_congr aon fenced, selectRow_congr (congrArg AlwaysOn.tables aon), aon] at zone
  exact zone

theorem does_thermalPlanEvaluation {dieA dieB : List Int} {s : State} (hr : s.aon.tables.rows ≠ [])
    (hs : s.faults.safeState = false) : Does (.thermalPlanEvaluation dieA dieB) s (fun t =>
      t.aon.thermal.dieA = dieA ∧ t.aon.thermal.dieB = dieB ∧
      t.aon.thermal.ktRow = selectRow (dieRead s dieA dieB) s.aon.thermal.ktRow (dieTemperature (dieRead s dieA dieB)) ∧
      t.aon.thermal.critical = criticalNext (dieRead s dieA dieB) ∧
      ∀ z, s.boot.mainOn = true → z < 4 → z < s.aon.thermal.zoneRows.length → zoneAbsent s z = false →
        t.aon.thermal.zoneRows.getD z 0 =
          selectRow (dieRead s dieA dieB) (s.aon.thermal.zoneRows.getD z 0) (zoneTemperature (dieRead s dieA dieB) z)) := by
  have chosen := choice_evaluatePlan dieA dieB hr hs
  obtain ⟨die, row, critical, tables, fenced⟩ := rowsSelected_spec (dieRead s dieA dieB)
  have zone {z : Nat} := rowsSelected_zone (s := dieRead s dieA dieB) (z := z)
  refine ⟨_, rfl, ?_⟩
  dsimp only
  generalize evaluatePlan s dieA dieB = t at chosen
  have settled : criticalNext (evaluateAirflow (rowsSelected (dieRead s dieA dieB))) = criticalNext (dieRead s dieA dieB) := by
    have airflow := course_evaluateAirflow (rowsSelected (dieRead s dieA dieB))
    have temperature : dieTemperature (evaluateAirflow (rowsSelected (dieRead s dieA dieB))) =
        dieTemperature (dieRead s dieA dieB) := by
      refine dieTemperature_congr ?_ (fun g n => (isFenced_evaluateAirflow _ g n).trans (fenced g n))
      rw [thermal_of_course airflow]
      exact die
    rw [criticalNext, temperature, thermal_of_course airflow, tables_of_course airflow, critical, tables, criticalNext]
  rw [settled] at chosen
  exact ⟨(congrArg Thermal.dieA chosen :).trans die.1, (congrArg Thermal.dieB chosen :).trans die.2,
    (congrArg Thermal.ktRow chosen :).trans row, (congrArg Thermal.critical chosen :), fun z hon h4 hz ha =>
      (congrArg (fun x : Thermal => x.zoneRows.getD z 0) chosen :).trans (zone hon h4 hz ha)⟩

/-- Settles O34: what a board sensor's answer, an evaluation of the plan and a status do. -/
theorem thermalPlanActsOnReadings : Obligations.ThermalPlanActsOnReadings := by
  unfold Obligations.ThermalPlanActsOnReadings
  refine ⟨fun i s hi => ⟨fun r => does_boardSensorRead_answers hi, does_boardSensorRead_absent hi⟩, ?_,
    fun o s c h => ⟨_, congrArg Host.Outcome.next (runOp_ready _ h), ended_finish _ h.1⟩⟩
  rintro dieA dieB s _ hr hs rfl
  exact does_thermalPlanEvaluation hr hs

end Sys2Proof.Machine
end

section
/-! The power sequence: its steps, the power-down, the retry, the proving time, the collapse and the restart (R395, R396, R402, R404,
R405). -/

namespace Sys2Proof.Machine
open Sys2Proof

/-! ### Steps (R395) -/

theorem seqStep_of_course {s t : State} (h : course t = course s) (i : Nat) : seqStep t i = seqStep s i := by
  rw [seqStep, tables_of_course h, seqStep]

theorem rail_of_plant {s t : State} (h : plant t = plant s) (v : Nat) : rail t v = rail s v :=
  (congrArg (fun u : State => rail u v) h :)

/-- A good driver rail starts axes and leaves every rail. -/
theorem rail_driverGood (s : State) (v w : Nat) : rail (driverGood s v) w = rail s w := by
  unfold driverGood
  refine foldl_leaves (g := fun s => rail s w) (fun s i => ?_) _ s
  split <;> rfl

/-- A step that writes no setpoint meets no absent target. -/
theorem setpointAbsent_plain (s : State) {st : SeqStep} (h : bit st.flags 1 = false) (absent : Bool) :
    setpointAbsent s st absent = (false, s) := by
  simp [setpointAbsent, h]

theorem does_sequenceStepAct {s : State} {i : Fin 48} (hs : sequencing s = true) (hi : s.aon.seq.step = i.val)
    (ha : s.aon.seq.acted = false) (hv : (seqStep s i).rail < 24) (hg : bit (seqStep s i).flags 0 = true)
    (hp : bit (seqStep s i).flags 1 = false) (hn : (railCfg s (seqStep s i).rail).nominal ≠ 0) :
    Does (.sequenceStepAct i false) s (fun t => (rail t (seqStep s i).rail).enabled = true ∧
      (rail t (seqStep s i).rail).status = 1 ∧ t.aon.seq.acted = true ∧ t.now = max s.now s.aon.seq.timer ∧
      t.aon.seq.timer = t.now + 100000 * (seqStep s i).timeout ∧ t.aon.seq.done = i.val :: s.aon.seq.done) := by
  have due : (sequencing s.fresh_ && s.fresh_.aon.seq.step == i.val && !s.fresh_.aon.seq.acted) = true := by
    rw [show sequencing s.fresh_ = true from hs, show s.fresh_.aon.seq.step = i.val from hi,
      show s.fresh_.aon.seq.acted = false from ha]
    simp
  have step : seqStep s.fresh_ i = seqStep s i := rfl
  have acted : stepAct s i false = setSeq (enableRail (setSeq (advanceTo s.fresh_ s.aon.seq.timer)
      (fun q => { q with done := i.val :: q.done })) (seqStep s i).rail)
      (fun q => { q with acted := true, timer := max s.now s.aon.seq.timer + 100000 * (seqStep s i).timeout }) := by
    unfold stepAct
    dsimp only
    rw [if_pos due, step, setpointAbsent_plain _ hp]
    dsimp only
    rw [if_neg Bool.false_ne_true, if_pos hg, if_pos ⟨hv, hn⟩]
    rfl
  refine ⟨_, congrArg Host.Outcome.next acted, ?_⟩
  have enabled := rail_setRail_self (setSeq (advanceTo s.fresh_ s.aon.seq.timer) (fun q => { q with done := i.val :: q.done }))
    (seqStep s i).rail (fun r => { r with enabled := true, status := 1, changedAt := max s.now s.aon.seq.timer, badA := 0, badB := 0 })
  exact ⟨(congrArg Rail.enabled enabled :), (congrArg Rail.status enabled :), rfl, rfl, rfl, rfl⟩

/-- Power good noted on a rail, and the axes it drives started (R395, R432). -/
def railGood (s : State) (v mv : Nat) : State :=
  driverGood (setRail s v (fun r => { r with good := true, status := 2, a := mv, changedAt := s.now, readAt := s.now })) v

theorem course_railGood (s : State) (v mv : Nat) : course (railGood s v mv) = course s := course_driverGood ..

theorem rail_railGood (s : State) (v mv : Nat) : rail (railGood s v mv) v =
    { rail s v with good := true, status := 2, a := mv, changedAt := s.now, readAt := s.now } := by
  rw [railGood, rail_driverGood, rail_setRail_self]

/-- Without a proof under way, a step that is not the last is followed by the next. -/
theorem nextStep_spec {s : State} (hp : s.aon.seq.proof = none) (hl : bit (seqStep s s.aon.seq.step).flags 2 = false) :
    (∀ v, rail (nextStep s) v = rail s v) ∧ (nextStep s).aon.seq.step = s.aon.seq.step + 1 ∧
    (nextStep s).aon.seq.acted = false := by
  unfold nextStep
  dsimp only
  rw [hp, hl, if_neg (by simp), if_neg (by simp)]
  exact ⟨fun v => rfl, rfl, rfl⟩

theorem does_sequenceStepPowerGood {s : State} {i : Fin 48} {mv : Nat} (hs : sequencing s = true) (hi : s.aon.seq.step = i.val)
    (ha : s.aon.seq.acted = true) (hp : s.aon.seq.proof = none) (hv : (seqStep s i).rail < 24)
    (hw : windowSide (railCfg s (seqStep s i).rail) (railCfg s (seqStep s i).rail).nominal mv = 0)
    (hl : bit (seqStep s i).flags 2 = false) : Does (.sequenceStepPowerGood i mv) s (fun t =>
      (rail t (seqStep s i).rail).status = 2 ∧ (rail t (seqStep s i).rail).good = true ∧ (rail t (seqStep s i).rail).a = mv ∧
      t.aon.seq.step = i.val + 1 ∧ t.aon.seq.acted = false) := by
  have due : (sequencing s.fresh_ && s.fresh_.aon.seq.step == i.val && s.fresh_.aon.seq.acted) = true := by
    rw [show sequencing s.fresh_ = true from hs, show s.fresh_.aon.seq.step = i.val from hi,
      show s.fresh_.aon.seq.acted = true from ha]
    simp
  have step : seqStep s.fresh_ i = seqStep s i := rfl
  have inside : ¬ (windowSide (railCfg s.fresh_ (seqStep s i).rail) (railCfg s.fresh_ (seqStep s i).rail).nominal mv != 0 ||
      decide (24 ≤ (seqStep s i).rail)) = true := by
    rw [show railCfg s.fresh_ = railCfg s from rfl, hw]
    simp
    omega
  have moved : stepGood s i mv = nextStep (railGood s.fresh_ (seqStep s i).rail mv) := by
    unfold stepGood
    dsimp only
    rw [step, if_neg inside, if_pos due]
    rfl
  have kept := course_railGood s.fresh_ (seqStep s i).rail mv
  have good := rail_railGood s.fresh_ (seqStep s i).rail mv
  refine ⟨_, congrArg Host.Outcome.next moved, ?_⟩
  generalize railGood s.fresh_ (seqStep s i).rail mv = u at kept good
  have seq : u.aon.seq = s.aon.seq := seq_of_course kept
  obtain ⟨rails, next, acted⟩ := nextStep_spec (s := u) (by rw [seq, hp]) (by rw [seq, hi, seqStep_of_course kept]; exact hl)
  rw [rails, good, next, seq, hi]
  exact ⟨rfl, rfl, rfl, rfl, acted⟩

/-! ### Power-down (R396, R402) -/

theorem ctr_endRun {st : Status} (hok : st ≠ .ok) (hre : st ≠ .recovered) (s : State) (v : Nat) : (endRun st s v).ctr = s.ctr := by
  unfold endRun
  split
  · rfl
  · split
    · exact (ctr_finishOrigin hok hre ..).trans rfl
    · rfl

theorem ctr_endRuns {st : Status} (hok : st ≠ .ok) (hre : st ≠ .recovered) (s : State) : (endRuns s st).ctr = s.ctr := by
  rw [endRuns_eq]
  exact foldl_leaves (g := State.ctr) (ctr_endRun hok hre) _ s

theorem ctr_abandonCalibration (s : State) : (abandonCalibration s).ctr = s.ctr := by
  unfold abandonCalibration
  dsimp only
  split
  · rfl
  · split
    · rfl
    · exact (ctr_finishOrigin (by simp) (by simp) ..).trans rfl

/-- The counters of the power sequence outlive the main domain. -/
theorem counter_stopMain {s : State} {j n : Nat} (hlow : 0x0B00 ≤ j) (hhigh : j < 0x1000) (hn : n < 65536) (h : ¬ OwnCount j n) :
    counter (stopMain s) j n = counter s j n := by
  have surviving (c : Tbl Nat) : Tbl.getD (survivingCounters c) (counterKey j n) 0 = Tbl.getD c (counterKey j n) 0 := by
    have group : counterKey j n / 65536 = j := by
      unfold counterKey
      omega
    have passes : (decide (0x0B00 ≤ counterKey j n / 65536) && decide (counterKey j n / 65536 < 0x1000) ||
        counterKey j n / 65536 == 0x0305) = true := by
      rw [group]
      simp [hlow, hhigh]
    rw [Tbl.getD, survivingCounters, Tbl.get?_filter_key c (fun k =>
      (decide (0x0B00 ≤ k / 65536) && decide (k / 65536 < 0x1000)) || k / 65536 == 0x0305), if_pos passes, Tbl.getD]
  have cut (u : State) : counter (cutUpdate u) j n = counter u j n := by
    unfold cutUpdate
    split
    · rfl
    · exact (counter_raiseAon _ _ _ h).trans rfl
  cases hon : s.boot.mainOn with
  | false => rw [stopMain_off hon]; rfl
  | true =>
    unfold stopMain
    rw [if_neg (by simp [hon])]
    exact (surviving _).trans ((cut _).trans rfl)

/-- A rail that is released is not enabled. -/
theorem enabled_releaseStep {s : State} {i : Nat} (hv : (seqStep s i).rail < 24) :
    (rail (releaseStep s i) (seqStep s i).rail).enabled = false := by
  unfold releaseStep
  dsimp only
  rw [if_neg (by omega), releaseRail, rail_setRail_self]

theorem counter_releaseStep {s : State} {j n : Nat} (i : Nat) (hlow : 0x0B00 ≤ j) (hhigh : j < 0x1000) (hn : n < 65536)
    (h : ¬ OwnCount j n) : counter (releaseStep s i) j n = counter s j n := by
  have released (u : State) (v : Nat) : counter (releaseRail u v) j n = counter u j n := rfl
  unfold releaseStep
  dsimp only
  split
  · rfl
  · rw [released]
    split
    · exact counter_stopMain hlow hhigh hn h
    · rfl

/-- A power-down with steps left to release releases the latest and starts its down delay. -/
theorem downNext_releases {s : State} {goal : DownTo} {i : Nat} {rest : List Nat} (hd : s.aon.seq.down = some goal)
    (hl : s.aon.seq.done = i :: rest) : downNext s =
      setSeq (releaseStep s i) (fun q => { q with timer := s.now + 10000 * (seqStep s i).down }) := by
  rw [downNext, hd, hl]

theorem downNext_ends {s : State} {goal : DownTo} (hd : s.aon.seq.down = some goal) (hl : s.aon.seq.done = []) :
    downNext s = endDown (stopMain s) goal := by
  rw [downNext, hd, hl]

/-- A power-down for a retry is under way, or the off time already runs. -/
theorem powerDown_retry (s : State) :
    ((powerDown s .retry).aon.seq.down = some .retry ∨ (powerDown s .retry).aon.seq.state = .retry) ∧
    (powerDown s .retry).now = s.now ∧
    ∀ {j n : Nat}, 0x0B00 ≤ j → j < 0x1000 → n < 65536 → ¬ OwnCount j n → counter (powerDown s .retry) j n = counter s j n := by
  have ended := (course_endRuns (abandonCalibration s) .busy).trans (course_abandonCalibration s)
  have counted : (endRuns (abandonCalibration s) .busy).ctr = s.ctr :=
    (ctr_endRuns (by simp) (by simp) _).trans (ctr_abandonCalibration s)
  unfold powerDown
  generalize endRuns (abandonCalibration s) .busy = u at ended counted ⊢
  have now : (setSeq u (fun q => { q with down := some .retry })).now = s.now :=
    (now_of_course ended : u.now = s.now)
  have down : (setSeq u (fun q => { q with down := some .retry })).aon.seq.down = some .retry := rfl
  have counts (j n : Nat) : counter (setSeq u (fun q => { q with down := some .retry })) j n = counter s j n :=
    congrArg (fun c => Tbl.getD c (counterKey j n) 0) counted
  generalize setSeq u (fun q => { q with down := some .retry }) = v at now down counts ⊢
  match hl : v.aon.seq.done with
  | [] =>
    rw [downNext_ends down hl]
    have stopped := now_of_course (course_stopMain v)
    have counted {j n : Nat} := counter_stopMain (s := v) (j := j) (n := n)
    generalize stopMain v = w at stopped counted ⊢
    exact ⟨.inr rfl, stopped.trans now, fun hlow hhigh hn h => (counted hlow hhigh hn h).trans (counts ..)⟩
  | i :: rest =>
    rw [downNext_releases down hl]
    have kept := course_releaseStep v i
    exact ⟨.inl ((congrArg Sequencer.down (seq_of_course kept) :).trans down), (now_of_course kept).trans now,
      fun hlow hhigh hn h => (counter_releaseStep i hlow hhigh hn h).trans (counts ..)⟩

theorem does_powerGoodTimeout {s : State} {i : Fin 48} (hs : sequencing s = true) (hi : s.aon.seq.step = i.val)
    (ha : s.aon.seq.acted = true) (hp : s.aon.seq.proof = none) (h1 : s.aon.seq.attempt = 1) :
    Does (.powerGoodTimeout i) s (fun t => t.now = max s.now s.aon.seq.timer ∧
      counter t 0x0C02 i = satAdd 16 (counter s 0x0C02 i) 1 ∧ (t.aon.seq.down = some .retry ∨ t.aon.seq.state = .retry)) := by
  have due : (sequencing s.fresh_ && s.fresh_.aon.seq.step == i.val && s.fresh_.aon.seq.acted) = true := by
    rw [show sequencing s.fresh_ = true from hs, show s.fresh_.aon.seq.step = i.val from hi,
      show s.fresh_.aon.seq.acted = true from ha]
    simp
  have attempt : (advanceTo s.fresh_ s.aon.seq.timer).aon.seq.attempt = 1 := h1
  have unproved : ¬ (advanceTo s.fresh_ s.aon.seq.timer).aon.seq.proof.isSome = true := by
    rw [show (advanceTo s.fresh_ s.aon.seq.timer).aon.seq.proof = none from hp]
    decide
  obtain ⟨detail, timedOut⟩ : ∃ detail, goodTimeout s i =
      powerDown (raiseAon (bump (advanceTo s.fresh_ s.aon.seq.timer) 0x0C02 s.aon.seq.step 16) 0x0702 true detail) .retry :=
    ⟨_, (if_pos due).trans ((if_neg unproved).trans (if_pos attempt))⟩
  rw [hi] at timedOut
  refine ⟨_, congrArg Host.Outcome.next timedOut, ?_⟩
  have free : ¬ OwnCount 0x0C02 i := by
    simp only [OwnCount, counterKey]
    omega
  obtain ⟨down, now, counts⟩ := powerDown_retry
    (raiseAon (bump (advanceTo s.fresh_ s.aon.seq.timer) 0x0C02 i 16) 0x0702 true detail)
  dsimp only
  rw [now, counts (by decide) (by decide) (by omega) free, now_of_plant (plant_raiseAon ..), counter_raiseAon _ _ _ free,
    counter_bump_self]
  exact ⟨rfl, rfl, down⟩

theorem does_powerDownDelayExpiry {s : State} {i : Fin 48} {goal : DownTo} {j : Nat} {rest : List Nat}
    (hd : s.aon.seq.down = some goal) (hl : s.aon.seq.done = i.val :: j :: rest) (hv : (seqStep s j).rail < 24) :
    Does (.powerDownDelayExpiry i) s (fun t => t.aon.seq.done = j :: rest ∧ t.now = max s.now s.aon.seq.timer ∧
      (rail t (seqStep s j).rail).enabled = false) := by
  have due : (s.fresh_.aon.seq.down.isSome && s.fresh_.aon.seq.done.head? == some i.val) = true := by
    rw [show s.fresh_.aon.seq.down = some goal from hd, show s.fresh_.aon.seq.done = i.val :: j :: rest from hl]
    simp
  have down : (setSeq (advanceTo s.fresh_ s.aon.seq.timer) (fun q => { q with done := q.done.tail })).aon.seq.down = some goal := hd
  have left : (setSeq (advanceTo s.fresh_ s.aon.seq.timer) (fun q => { q with done := q.done.tail })).aon.seq.done = j :: rest :=
    congrArg List.tail hl
  have expired : downExpiry s i = downNext (setSeq (advanceTo s.fresh_ s.aon.seq.timer) (fun q => { q with done := q.done.tail })) :=
    if_pos due
  refine ⟨_, congrArg Host.Outcome.next (expired.trans (downNext_releases down left)), ?_⟩
  have step : seqStep (setSeq (advanceTo s.fresh_ s.aon.seq.timer) (fun q => { q with done := q.done.tail })) j = seqStep s j := rfl
  have now : (setSeq (advanceTo s.fresh_ s.aon.seq.timer) (fun q => { q with done := q.done.tail })).now =
      max s.now s.aon.seq.timer := rfl
  generalize setSeq (advanceTo s.fresh_ s.aon.seq.timer) (fun q => { q with done := q.done.tail }) = u at left step now
  have kept := course_releaseStep u j
  rw [← step] at hv ⊢
  exact ⟨(congrArg Sequencer.done (seq_of_course kept) :).trans left, (now_of_course kept).trans now, enabled_releaseStep hv⟩

/-! ### Retry and proving (R402, R404) -/

theorem does_retryOffTime {s : State} (hr : s.aon.seq.state = .retry) (hd : s.aon.seq.down = none) :
    Does (.retryOffTimeExpiry none) s (fun t => t.aon.seq.state = .sequencing ∧ t.aon.seq.attempt = 2 ∧ t.aon.seq.step = 0 ∧
      t.now = max s.now s.aon.seq.timer) := by
  have off : (s.fresh_.aon.seq.state == .retry && s.fresh_.aon.seq.down.isNone) = true := by
    rw [show s.fresh_.aon.seq.state = .retry from hr, show s.fresh_.aon.seq.down = none from hd]
    rfl
  exact ⟨_, congrArg Host.Outcome.next (if_pos off), rfl, rfl, rfl, rfl⟩

theorem does_railRetryOffTime {s : State} {w : Fin 24} {r : RailRun} (hr : (rail s w).run = some r) (h3 : r.stage = 3) :
    Does (.retryOffTimeExpiry (some w)) s (fun t => (rail t w).run = some ⟨0, r.purpose, 2, r.origin⟩) := by
  have off : offTimeExpiry s.fresh_ (some w.val) = startRail s.fresh_ w r.purpose 2 r.origin := by
    unfold offTimeExpiry
    dsimp only
    rw [show (rail s.fresh_ w.val).run = some r from hr]
    exact if_pos h3
  refine ⟨_, congrArg Host.Outcome.next off, ?_⟩
  dsimp only
  rw [startRail, setRun, rail_setRail_self]

theorem does_railProvingExpiry {s : State} {w : Fin 24} {m : Nat} (hm : (rail s w).proving = some m) :
    Does (.railProvingExpiry w) s (fun t => (rail t w).proving = none ∧ t.now = max s.now m) := by
  have proved : provingExpiry s w = raiseAon (transient (setRail (advanceTo s.fresh_ m) w (fun r => { r with proving := none }))
      0x11 w) 0x0703 false (w + 4096) := by
    unfold provingExpiry
    dsimp only
    rw [show (rail s.fresh_ w).proving = some m from hm]
  have own : exec (.railProvingExpiry w) s = .next (provingExpiry s w) := by
    refine congrArg Host.Outcome.next ?_
    split
    · exact if_neg (by simp [hm])
    · rfl
  refine ⟨_, own.trans (congrArg Host.Outcome.next proved), ?_⟩
  dsimp only
  rw [rail_of_plant (plant_raiseAon ..), rail_of_plant (plant_transient ..), now_of_plant (plant_raiseAon ..),
    now_of_plant (plant_transient ..), rail_setRail_self]
  exact ⟨rfl, rfl⟩

/-! ### Collapse and restart (R401, R402, R405) -/

theorem enabled_endRun (st : Status) (s : State) (v w : Nat) : (rail (endRun st s v) w).enabled = (rail s w).enabled := by
  have dropped : (rail (setRail s v (fun x => { x with run := none })) w).enabled = (rail s w).enabled := by
    by_cases h : w = v
    · subst h
      rw [rail_setRail_self]
    · rw [rail_setRail_ne _ _ h]
  unfold endRun
  split
  · rfl
  · split
    · rw [rail_of_plant (plant_finishOrigin ..), dropped]
    · exact dropped
theorem boot_endRun (st : Status) (s : State) (v : Nat) : (endRun st s v).boot = s.boot := by
  unfold endRun
  split
  · rfl
  · split
    · exact (boot_of_plant (plant_finishOrigin ..)).trans rfl
    · rfl

theorem enabled_dropRuns (s : State) (w : Nat) : (rail (dropRuns s) w).enabled = (rail s w).enabled := by
  rw [dropRuns, endRuns_eq]
  exact foldl_leaves (g := fun s => (rail s w).enabled) (fun s v => enabled_endRun .lasting s v w) _ s
theorem boot_dropRuns (s : State) : (dropRuns s).boot = s.boot := by
  rw [dropRuns, endRuns_eq]
  exact foldl_leaves (g := State.boot) (boot_endRun .lasting) _ s
theorem course_dropRuns (s : State) : course (dropRuns s) = course s := course_endRuns ..

/-- A rail's enable released if it was given. -/
def releaseEnabled (s : State) (v : Nat) : State := if (rail s v).enabled then releaseRail s v else s

theorem releaseAll_eq (s : State) : releaseAll s = (List.range 24).foldl releaseEnabled s := rfl

theorem rail_releaseEnabled_ne (s : State) {v w : Nat} (h : w ≠ v) : rail (releaseEnabled s w) v = rail s v := by
  unfold releaseEnabled
  split
  · exact rail_setRail_ne _ _ h.symm
  · rfl
theorem enabled_releaseEnabled (s : State) (v : Nat) : (rail (releaseEnabled s v) v).enabled = false := by
  unfold releaseEnabled
  split
  · rw [releaseRail, rail_setRail_self]
  · next off => exact Bool.not_eq_true _ ▸ off

theorem enabled_releaseAll (s : State) {w : Nat} (hw : w < 24) : (rail (releaseAll s) w).enabled = false := by
  obtain ⟨u, -, fold⟩ := foldl_visits (g := fun s => rail s w) (fun s v h => rail_releaseEnabled_ne s h) (List.range 24) s
    List.nodup_range (List.mem_range.mpr hw)
  rw [releaseAll_eq]
  exact (congrArg Rail.enabled fold).trans (enabled_releaseEnabled u w)
theorem course_releaseAll (s : State) : course (releaseAll s) = course s := by
  rw [releaseAll_eq]
  exact foldl_leaves (fun s v => by simp [releaseEnabled]) _ s

theorem mainOn_stopMain (s : State) : (stopMain s).boot.mainOn = false := by
  cases h : s.boot.mainOn with
  | false => rw [stopMain_off h]; exact h
  | true => rw [(stopMain_on h).1]; rfl

/-- The supplies gone: no calibration, no enable, no main domain (R405). -/
def suppliesGone (s : State) : State := stopMain (releaseAll (abandonCalibration s))

theorem course_suppliesGone (s : State) : course (suppliesGone s) = course s :=
  (course_stopMain _).trans ((course_releaseAll _).trans (course_abandonCalibration s))
theorem mainOn_suppliesGone (s : State) : (suppliesGone s).boot.mainOn = false := by rw [suppliesGone, mainOn_stopMain]
theorem enabled_suppliesGone (s : State) {w : Nat} (hw : w < 24) : (rail (suppliesGone s) w).enabled = false := by
  have released := enabled_releaseAll (abandonCalibration s) hw
  unfold suppliesGone
  generalize releaseAll (abandonCalibration s) = u at released ⊢
  obtain ⟨run, stopped⟩ := rail_stopMain u w
  rw [stopped]
  exact released

/-- The snapshot of a collapse stored (R405, R407). -/
def collapseStored (s : State) (bytes : List Byte) : State :=
  setSeq (bump s 0x0C03 0 16) (fun q => { q with snapshot := bytes, stored := true, unread := true })

theorem now_collapseStored (s : State) (bytes : List Byte) : (collapseStored s bytes).now = s.now := rfl

/-- The snapshot told and entered in the ledger (R405). -/
def collapseTold (s : State) (detail first : Nat) : State := stage (raiseAon s 0x0705 false detail) 0x0C 0 first none

theorem course_collapseTold (s : State) (detail first : Nat) : course (collapseTold s detail first) = course s :=
  course_of_plant ((plant_stage ..).trans (plant_raiseAon ..))

/-- The collapses of the last 60 s and the present one. -/
def recentCollapses (s : State) (l : List Nat) : List Nat := l.filter (fun t => decide (s.now < t + 60000000000)) ++ [s.now]

/-- A collapse told and the sequencer in Collapsed. -/
def collapsedFrom (s : State) (detail : Nat) (recent : List Nat) : State :=
  setSeq (dropRuns (raiseAon s 0x0704 true detail)) (fun q => { q with
    state := .collapsed, down := none, acted := false, done := [], collapses := recent, faultRail := none, proving := none })

/-- A collapse of the running device, stored and told once its supplies are gone (R405, R407). -/
def collapseNoted (s gone : State) : State :=
  collapseTold (collapseStored gone (snapshotBytes { s with aon := { s.aon with tables := gone.aon.tables } } 0x01))
    (0x01 + 256 * b2n s.aon.seq.unread) (firstFailing s)

/-- The third collapse within 60 s holds the device off (R402). -/
def collapseHeld (s : State) : State :=
  setSeq (raiseAon (bump s 0x0C00 0 16) 0x0707 true 0) (fun q => { q with state := .heldOff })

/-- What a collapse noted leads to, from the state before it (R402, R405). -/
def collapseEnd (s noted : State) : State :=
  let recent := recentCollapses noted s.aon.seq.collapses
  let t := collapsedFrom noted ((if s.aon.seq.state == .on then 0x3F else s.aon.seq.step) + 256 * recent.length) recent
  if recent.length < 3 then t else collapseHeld t

theorem collapse_run {s : State} (hp : ¬ s.fresh_.aon.seq.proof.isSome = true)
    (hu : ¬ ((s.fresh_.aon.seq.state == .off || s.fresh_.aon.seq.state == .heldOff) && s.fresh_.aon.seq.down.isNone) = true)
    (hc : ¬ (s.fresh_.aon.seq.state == .collapsed) = true) :
    collapse s = collapseEnd s.fresh_ (collapseNoted s.fresh_ (stopMain (releaseAll (abandonCalibration s.fresh_)))) :=
  (if_neg hp).trans ((if_neg hu).trans (if_neg hc))

theorem now_collapseNoted (s gone : State) : (collapseNoted s gone).now = gone.now := by
  rw [collapseNoted, now_of_course (course_collapseTold ..), now_collapseStored]

/-- A collapse from On that is not the third within 60 s. -/
theorem collapse_eq {s : State} (hon : s.aon.seq.state = .on) (hp : s.aon.seq.proof = none)
    (hc : (s.aon.seq.collapses.filter (fun m => decide (s.now < m + 60000000000))).length < 2) :
    ∃ detail recent, collapse s = collapsedFrom (collapseNoted s.fresh_ (suppliesGone s.fresh_)) detail recent := by
  have state : s.fresh_.aon.seq.state = .on := hon
  have unproved : ¬ s.fresh_.aon.seq.proof.isSome = true := by
    rw [show s.fresh_.aon.seq.proof = none from hp]
    decide
  have up : ¬ ((s.fresh_.aon.seq.state == .off || s.fresh_.aon.seq.state == .heldOff) && s.fresh_.aon.seq.down.isNone) = true := by
    rw [state]
    simp
  have uncollapsed : ¬ (s.fresh_.aon.seq.state == .collapsed) = true := by
    rw [state]
    decide
  have gone : (suppliesGone s.fresh_).now = s.now := now_of_course (course_suppliesGone s.fresh_)
  have now := (now_collapseNoted s.fresh_ (suppliesGone s.fresh_)).trans gone
  rw [collapse_run unproved up uncollapsed, ← suppliesGone]
  generalize collapseNoted s.fresh_ (suppliesGone s.fresh_) = u at now
  have few : (recentCollapses u s.fresh_.aon.seq.collapses).length < 3 := by
    rw [recentCollapses, now, List.length_append, List.length_singleton, show s.fresh_.aon.seq.collapses = s.aon.seq.collapses from rfl]
    omega
  exact ⟨_, _, if_pos few⟩

theorem boot_collapseTold (s : State) (detail first : Nat) : (collapseTold s detail first).boot = s.boot :=
  (boot_stage ..).trans (boot_of_plant (plant_raiseAon ..))

theorem collapseNoted_spec (s : State) {gone : State} (off : gone.boot.mainOn = false)
    (released : ∀ w, w < 24 → (rail gone w).enabled = false) :
    (collapseNoted s gone).boot.mainOn = false ∧ (collapseNoted s gone).aon.seq.stored = true ∧
    (collapseNoted s gone).aon.seq.unread = true ∧ ∀ w, w < 24 → (rail (collapseNoted s gone) w).enabled = false := by
  unfold collapseNoted
  generalize snapshotBytes { s with aon := { s.aon with tables := gone.aon.tables } } 0x01 = bytes
  have seq := seq_of_course (course_collapseTold (collapseStored gone bytes) (0x01 + 256 * b2n s.aon.seq.unread) (firstFailing s))
  have boot := boot_collapseTold (collapseStored gone bytes) (0x01 + 256 * b2n s.aon.seq.unread) (firstFailing s)
  have report := (plant_stage (raiseAon (collapseStored gone bytes) 0x0705 false (0x01 + 256 * b2n s.aon.seq.unread)) 0x0C 0
    (firstFailing s) none).trans (plant_raiseAon ..)
  exact ⟨(congrArg Boot.mainOn boot :).trans off, (congrArg Sequencer.stored seq :), (congrArg Sequencer.unread seq :),
    fun w hw => (congrArg Rail.enabled (rail_of_plant report w)).trans (released w hw)⟩

theorem collapsedFrom_spec (s : State) (detail : Nat) (recent : List Nat) :
    (collapsedFrom s detail recent).aon.seq.state = .collapsed ∧ (collapsedFrom s detail recent).boot = s.boot ∧
    (collapsedFrom s detail recent).aon.seq.stored = s.aon.seq.stored ∧
    (collapsedFrom s detail recent).aon.seq.unread = s.aon.seq.unread ∧
    ∀ w, (rail (collapsedFrom s detail recent) w).enabled = (rail s w).enabled := by
  have told := plant_raiseAon s 0x0704 true detail
  have seq : (dropRuns (raiseAon s 0x0704 true detail)).aon.seq = s.aon.seq :=
    seq_of_course ((course_dropRuns _).trans (course_of_plant told))
  have boot := (boot_dropRuns (raiseAon s 0x0704 true detail)).trans (boot_of_plant told)
  have enabled (w : Nat) := (enabled_dropRuns (raiseAon s 0x0704 true detail) w).trans
    (congrArg Rail.enabled (rail_of_plant told w))
  unfold collapsedFrom
  generalize dropRuns (raiseAon s 0x0704 true detail) = u at seq boot enabled
  exact ⟨rfl, boot, (congrArg Sequencer.stored seq :), (congrArg Sequencer.unread seq :), enabled⟩

theorem does_collapse {s : State} (hon : s.aon.seq.state = .on) (hp : s.aon.seq.proof = none)
    (hc : (s.aon.seq.collapses.filter (fun m => decide (s.now < m + 60000000000))).length < 2) :
    Does .collapse s (fun t => t.aon.seq.state = .collapsed ∧ t.boot.mainOn = false ∧ t.aon.seq.stored = true ∧
      t.aon.seq.unread = true ∧ ∀ w, w < 24 → (rail t w).enabled = false) := by
  obtain ⟨detail, recent, collapsed⟩ := collapse_eq hon hp hc
  refine ⟨_, congrArg Host.Outcome.next collapsed, ?_⟩
  obtain ⟨state, boot, stored, unread, enabled⟩ := collapsedFrom_spec
    (collapseNoted s.fresh_ (suppliesGone s.fresh_)) detail recent
  obtain ⟨off, kept, snapshot, released⟩ := collapseNoted_spec s.fresh_ (mainOn_suppliesGone s.fresh_)
    (fun w hw => enabled_suppliesGone s.fresh_ hw)
  exact ⟨state, by rw [boot, off], stored.trans kept, unread.trans snapshot,
    fun w hw => (enabled w).trans (released w hw)⟩

theorem does_restartQualified {s : State} (hc : s.aon.seq.state = .collapsed) (hs : s.boot.scanStopped = false) :
    Does .restartQualified s (fun t => t.aon.seq.state = .sequencing ∧ t.aon.seq.step = 0 ∧ t.aon.seq.attempt = 1 ∧
      counter t 0x0C00 0 = satAdd 16 (counter s 0x0C00 0) 1) := by
  have starts : qualified s = startSequence (setBoot (bump s.fresh_ 0x0C00 0 16) (fun b => { b with startAt := s.now }))
      .sequencing 1 := by
    unfold qualified
    dsimp only
    rw [show s.fresh_.aon.seq.state = .collapsed from hc]
    exact if_neg (Bool.not_eq_true _ ▸ hs)
  exact ⟨_, congrArg Host.Outcome.next starts, rfl, rfl, rfl, counter_bump_self s.fresh_ 0x0C00 0 16⟩

theorem does_collapseWindowExpiry {s : State} {m : Nat} {rest : List Nat} (h : s.aon.seq.collapses = m :: rest) :
    Does .collapseWindowExpiry s (fun t => t.aon.seq.collapses = rest ∧ t.now = max s.now (m + 60000000000)) := by
  have oldest : s.fresh_.aon.seq.collapses = m :: rest := h
  have forgotten : exec .collapseWindowExpiry s =
      .next (setSeq (advanceTo s.fresh_ (m + 60000000000)) (fun q => { q with collapses := rest })) := by
    refine congrArg Host.Outcome.next ?_
    rw [oldest]
  exact ⟨_, forgotten, rfl, rfl⟩

/-- Settles O37: the steps of the power sequence, its power-down and retry, a rail's proving time, a collapse, the restart and the
collapse window. -/
theorem powerSequenceRuns : Obligations.PowerSequenceRuns := by
  unfold Obligations.PowerSequenceRuns
  rintro s i _ rfl
  exact ⟨does_sequenceStepAct, fun hs hi ha hp => ⟨fun mv => does_sequenceStepPowerGood hs hi ha hp, does_powerGoodTimeout hs hi ha hp⟩,
    fun goal j rest => does_powerDownDelayExpiry, does_retryOffTime, fun w r => does_railRetryOffTime,
    fun w m => does_railProvingExpiry, fun hon hp _ => does_collapse hon hp, does_restartQualified,
    fun m rest => does_collapseWindowExpiry⟩

end Sys2Proof.Machine
end

section
/-! Pass-through transactions, absent targets and hung buses (R443–R451, R456–R458). -/

namespace Sys2Proof.Machine
open Sys2Proof

/-! ### A bus and the transaction at its head -/

/-- A mode and filter that waited take effect on an idle bus (R443). -/
def Bus.settle (x : Bus) : Bus :=
  match x.queue, x.next with
  | [], some (mode, filter) => { x with mode := mode, filter := filter, next := none }
  | _, _ => x

theorem settleBus_eq (s : State) (b : Nat) : settleBus s b = setBus s b Bus.settle := rfl

theorem Bus.settle_spec (x : Bus) : x.settle.queue = x.queue ∧ x.settle.absent = x.absent ∧ x.settle.hung = x.hung := by
  unfold Bus.settle
  split <;> exact ⟨rfl, rfl, rfl⟩

theorem bus_of_plant {s t : State} (h : plant t = plant s) (b : Nat) : bus t b = bus s b :=
  (congrArg (fun u : State => bus u b) h :)
theorem bus_markBegun (s : State) (o : Origin) (b : Nat) : bus (markBegun s o) b = bus s b := by
  unfold markBegun
  split
  · rfl
  · cases o <;> rfl

theorem bus_endJob (s : State) (b : Nat) (j : TwJob) (st : Status) (data : List Byte) :
    bus (endJob s b j st data) b = ({ bus s b with queue := (bus s b).queue.drop 1 } : Bus).settle := by
  rw [endJob, settleBus_eq, bus_setBus_self, bus_of_plant (plant_finishOrigin ..), bus_setBus_self]

theorem queue_endJob (s : State) (b : Nat) (j : TwJob) (st : Status) (data : List Byte) :
    (bus (endJob s b j st data) b).queue = (bus s b).queue.drop 1 := by
  rw [bus_endJob, (Bus.settle_spec _).1]
theorem absent_endJob (s : State) (b : Nat) (j : TwJob) (st : Status) (data : List Byte) :
    (bus (endJob s b j st data) b).absent = (bus s b).absent := by
  rw [bus_endJob, (Bus.settle_spec _).2.1]

theorem ctr_endJob {st : Status} (hok : st ≠ .ok) (hre : st ≠ .recovered) (s : State) (b : Nat) (j : TwJob) (data : List Byte) :
    (endJob s b j st data).ctr = s.ctr :=
  (ctr_finishOrigin (a := { status := st, result := data }) hok hre (setBus s b (fun x => { x with queue := x.queue.drop 1 }))
    j.origin :)

/-- The request behind a transaction of the mailbox ends with it. -/
theorem ended_endJob {s : State} {b : Nat} {j : TwJob} {p k : Fin 32} (st : Status) (data : List Byte) (ho : j.origin = .mbx p k)
    (hr : (slotAt s p k).phase = .running) : Ended (endJob s b j st data) j.origin st data := by
  have running : (slotAt (setBus s b (fun x => { x with queue := x.queue.drop 1 })) p k).phase = .running := hr
  rw [endJob, ho, finishOrigin]
  exact (ended_endSlot { status := st, result := data } running :)

/-- With its target not absent the head of a queue stays. -/
theorem settleQueue_head {s : State} {b : Nat} {j : TwJob} {rest : List TwJob} (hq : (bus s b).queue = j :: rest)
    (ha : Tbl.get? (bus s b).absent j.addr = none) : settleQueue s b = s := by
  have traffic : ¬ (Tbl.get? (bus s b).absent j.addr).isSome = true := by
    rw [ha]
    decide
  rw [settleQueue, hq, List.length_cons, dropAbsent, hq]
  exact if_neg traffic

/-! ### Requests (R444, R445, R456) -/

theorem does_transaction {o : Origin} {s : State} {c : Ctx} (h : Ready 0x0801 (fixed .management) transactionChecks o s c)
    (hb : begun s o = false) : Does (.transaction o) s (fun t => GoesOn t o ∧ (bus t (c.u 0 1)).queue = (bus s (c.u 0 1)).queue ++
      [⟨o, c.u 1 1, c.u 2 1, c.u 4 1, bit (c.u 3 1) 0, slice c.body 8 (c.u 5 1), c.u 6 1, 1, 0⟩]) := by
  refine ⟨_, congrArg Host.Outcome.next (runOnce_ready _ h hb), goesOn_markBegun ((ctxOf_congr rfl rfl o).trans h.1), ?_⟩
  rw [bus_markBegun, transactionEffect, bus_setBus_self]
  rfl

theorem does_busConfigure {o : Origin} {s : State} {c : Ctx} (h : Ready 0x0802 (fixed .management) busConfigureChecks o s c) :
    Does (.busConfigure o) s (fun t => Ended t o .ok [] ∧
      if (bus s (c.u 0 1)).queue = [] then (bus t (c.u 0 1)).mode = c.u 1 1 ∧ (bus t (c.u 0 1)).filter = c.u 2 1 ∧
        (bus t (c.u 0 1)).next = none
      else (bus t (c.u 0 1)).mode = (bus s (c.u 0 1)).mode ∧ (bus t (c.u 0 1)).next = some (c.u 1 1, c.u 2 1)) := by
  refine ⟨_, congrArg Host.Outcome.next (runOp_ready _ h), ended_finish_of_requests _ h.1 rfl, ?_⟩
  rw [bus_of_plant (plant_finish ..), settleBus_eq, bus_setBus_self, bus_setBus_self, show bus s.fresh_ = bus s from rfl]
  generalize bus s (c.u 0 1) = x
  match hq : x.queue with
  | [] =>
    rw [if_pos rfl, Bus.settle]
    exact ⟨rfl, rfl, rfl⟩
  | j :: rest =>
    rw [if_neg (List.cons_ne_nil j rest), Bus.settle]
    exact ⟨rfl, rfl⟩

theorem does_busStatus {o : Origin} {s : State} {c : Ctx} (h : Ready 0x0803 (fixed .management) busStatusChecks o s c) :
    Does (.busStatus o) s (fun t => t.buses = s.buses ∧ ∃ r, Ended t o .ok r ∧ r.length = 20 ∧
      r.take 3 = leBytes 1 (b2n (bus s (c.u 0 1)).hung.isSome + 2 * b2n ((bus s (c.u 0 1)).hung == some true))
        ++ leBytes 1 (bus s (c.u 0 1)).mode ++ leBytes 1 (bus s (c.u 0 1)).filter) := by
  refine ⟨_, congrArg Host.Outcome.next (runOp_ready _ h), (buses_of_plant (plant_finish ..) :), _, ended_finish _ h.1, ?_, ?_⟩
  · simp only [List.length_append, leBytes_length, slice_length]
  · rw [List.append_assoc, List.take_append_of_le_length (by simp), List.take_of_length_le (by simp)]
    rfl

/-! ### Transactions (R446–R450) -/

/-- The state in which the head of a queue has issued its START (R446). -/
def started (s : State) (b : Nat) (j : TwJob) : State := send s.fresh_ [.twoWire b j.addr (jobWrites j) (jobReads j)]

theorem bus_started (s : State) (b : Nat) (j : TwJob) (n : Nat) : bus (started s b j) n = bus s n := rfl
theorem slotAt_started (s : State) (b : Nat) (j : TwJob) (p k : Nat) : slotAt (started s b j) p k = slotAt s p k := rfl
theorem counter_started (s : State) (b : Nat) (j : TwJob) (i n : Nat) : counter (started s b j) i n = counter s i n := rfl

/-- What came of the attempt of a queue's head. -/
def outcome (s : State) (b : Nat) (j : TwJob) (t : TwTry) : State :=
  match t with
  | .addressNack =>
    if j.attempt < 2 then secondAttempt (bump s 0x0E00 b 32) b j
    else settleQueue (endJob (markTargetAbsent s b j.addr) b j .absent []) b
  | .dataNack => dataFailure s b j false
  | .pecBad => dataFailure s b j true
  | .done data =>
    endJob (if j.attempt < 2 then s else transient s 0x14 (b * 128 + j.addr)) b j (if j.attempt < 2 then .ok else .recovered)
      (slice data 0 (min (jobReads j) 48))

theorem exec_busFreeStart {b : Fin 3} {s : State} (t : TwTry) (hh : (bus s b).hung = none) {j : TwJob} {rest : List TwJob}
    (hq : (bus s b).queue = j :: rest) (ha : Tbl.get? (bus s b).absent j.addr = none) :
    exec (.busFreeStart b t) s = .next (outcome (started s b j) b j t) := by
  have free : ¬ (bus s b).hung.isSome = true := by
    rw [hh]
    decide
  have head : settleQueue s.fresh_ b = s.fresh_ := settleQueue_head (s := s.fresh_) hq ha
  refine congrArg Host.Outcome.next ((if_neg free).trans ?_)
  unfold attempt
  dsimp only
  rw [head, show (bus s.fresh_ b).queue = j :: rest from hq]
  cases t <;> rfl

theorem phase_of_requests {s t : State} (h : requests t = requests s) (p k : Nat) : (slotAt t p k).phase = (slotAt s p k).phase :=
  congrFun (congrFun (congrArg Prod.fst h) p) k

/-- A transaction that is carried out ends with the bytes read. -/
theorem outcome_done {s : State} {b : Nat} {j : TwJob} {p k : Fin 32} (data : List Byte) (ho : j.origin = .mbx p k)
    (hr : (slotAt s p k).phase = .running) : (bus (outcome s b j (.done data)) b).queue = (bus s b).queue.drop 1 ∧
    Ended (outcome s b j (.done data)) j.origin (if j.attempt < 2 then .ok else .recovered) (slice data 0 (min (jobReads j) 48)) := by
  have plant_ : plant (if j.attempt < 2 then s else transient s 0x14 (b * 128 + j.addr)) = plant s := by simp
  have requests_ : requests (if j.attempt < 2 then s else transient s 0x14 (b * 128 + j.addr)) = requests s := by simp
  unfold outcome
  dsimp only
  generalize (if j.attempt < 2 then s else transient s 0x14 (b * 128 + j.addr)) = u at plant_ requests_
  exact ⟨by rw [queue_endJob, bus_of_plant plant_], ended_endJob _ _ ho ((phase_of_requests requests_ p k).trans hr)⟩

theorem queue_secondAttempt (s : State) (b : Nat) (j : TwJob) :
    (bus (secondAttempt s b j) b).queue = { j with attempt := 2 } :: (bus s b).queue.drop 1 := by
  rw [secondAttempt, bus_setBus_self]
theorem counter_secondAttempt (s : State) (b : Nat) (j : TwJob) (i n : Nat) :
    counter (secondAttempt s b j) i n = counter s i n := rfl

/-! ### An absent target -/

theorem absent_markTargetAbsent (s : State) (b addr : Nat) :
    (Tbl.get? (bus (markTargetAbsent s b addr) b).absent addr).isSome = true := by
  rw [markTargetAbsent, bus_of_plant (plant_raiseAon ..), bus_of_plant (plant_bump ..), bus_of_plant (plant_bump ..),
    bus_setBus_self, Tbl.get?_set_self]
  rfl
theorem requests_markTargetAbsent (s : State) (b addr : Nat) : requests (markTargetAbsent s b addr) = requests s := by
  simp [markTargetAbsent]

/-- A request that has ended is left as it is by the ends of others. -/
theorem slotAt_endSlot_of_decided {s : State} {q j : Nat} (h : (slotAt s q j).phase = .decided) (p k : Nat) (a : Answer) :
    slotAt (endSlot s p k a) q j = slotAt s q j := by
  by_cases same : q = p ∧ j = k
  · obtain ⟨rfl, rfl⟩ := same
    rw [endSlot_eq, if_neg (by simp [h])]
  · exact slotAt_endSlot_ne s a (by omega)

theorem slotAt_twtAnswer (s : State) (st : Status) (result : List Byte) (p k : Nat) :
    slotAt (twtAnswer s st result) p k = slotAt s p k := by
  unfold twtAnswer
  split <;> rfl

theorem slotAt_finishOrigin_of_decided {s : State} {q j : Nat} (h : (slotAt s q j).phase = .decided) (o : Origin) (a : Answer) :
    slotAt (finishOrigin s o a) q j = slotAt s q j := by
  cases o with
  | mbx p k => exact slotAt_endSlot_of_decided h p k a
  | twt => exact slotAt_twtAnswer ..

theorem slotAt_endJob_of_decided {s : State} {q i : Nat} (h : (slotAt s q i).phase = .decided) (b : Nat) (j : TwJob) (st : Status)
    (data : List Byte) : slotAt (endJob s b j st data) q i = slotAt s q i :=
  (slotAt_finishOrigin_of_decided (s := setBus s b (fun x => { x with queue := x.queue.drop 1 })) h j.origin
    { status := st, result := data } :)

/-- The transactions that end with an absent target leave the marks and what has ended. -/
theorem dropAbsent_spec (f : Nat) {s : State} (b : Nat) {p k : Nat} (h : (slotAt s p k).phase = .decided) :
    slotAt (dropAbsent f s b) p k = slotAt s p k ∧ (bus (dropAbsent f s b) b).absent = (bus s b).absent := by
  induction f generalizing s with
  | zero => exact ⟨rfl, rfl⟩
  | succ f ih =>
    unfold dropAbsent
    split
    · exact ⟨rfl, rfl⟩
    · next j _ _ =>
      split
      · have same := slotAt_endJob_of_decided h b j .absent []
        obtain ⟨slot, marks⟩ := ih (s := endJob s b j .absent []) (by rw [same, h])
        exact ⟨slot.trans same, marks.trans (absent_endJob ..)⟩
      · exact ⟨rfl, rfl⟩

theorem ended_of_slotAt {s t : State} {p k : Fin 32} {st : Status} {result : List Byte} (h : slotAt t p k = slotAt s p k)
    (he : Ended s (.mbx p k) st result) : Ended t (.mbx p k) st result := by
  unfold Ended at he ⊢
  dsimp only at he ⊢
  rw [h]
  exact he

/-- The second attempt that no target acknowledges ends with ABSENT. -/
theorem outcome_absent {s : State} {b : Nat} {j : TwJob} {p k : Fin 32} (h2 : ¬ j.attempt < 2) (ho : j.origin = .mbx p k)
    (hr : (slotAt s p k).phase = .running) : Ended (outcome s b j .addressNack) j.origin .absent [] ∧
    (Tbl.get? (bus (outcome s b j .addressNack) b).absent j.addr).isSome = true := by
  have marked := absent_markTargetAbsent s b j.addr
  have running := (phase_of_requests (requests_markTargetAbsent s b j.addr) p k).trans hr
  unfold outcome
  dsimp only
  rw [if_neg h2]
  generalize markTargetAbsent s b j.addr = u at marked running ⊢
  have ended := ended_endJob (b := b) .absent [] ho running
  rw [← absent_endJob u b j .absent []] at marked
  generalize endJob u b j .absent [] = v at marked ended ⊢
  rw [ho] at ended ⊢
  obtain ⟨slot, marks⟩ := dropAbsent_spec (bus v b).queue.length b ended.1
  exact ⟨ended_of_slotAt slot ended, by rw [settleQueue, marks, marked]⟩

/-! ### Failures of data -/

/-- A failed attempt counted and told (R450). -/
def failureTold (s : State) (b detail : Nat) : State := raiseAon (bump s 0x0E02 b 32) 0x0805 true detail

theorem dataFailure_eq (s : State) (b : Nat) (j : TwJob) (pec : Bool) : ∃ detail, dataFailure s b j pec =
    if j.attempt < 2 then secondAttempt (failureTold s b detail) b j
    else endJob (bump (failureTold s b detail) 0x0301 0x14 16) b j .integrity [] := by
  refine ⟨b + 256 * j.addr + 65536 * b2n pec + 131072 * b2n (decide (2 ≤ j.attempt)), ?_⟩
  unfold dataFailure failureTold
  dsimp only
  by_cases h : j.attempt < 2
  · rw [if_pos h, if_neg (by simp [h])]
  · rw [if_neg h, if_pos (by simp; omega)]

theorem counter_failureTold (s : State) {b : Nat} (hb : b < 3) (detail : Nat) :
    counter (failureTold s b detail) 0x0E02 b = satAdd 32 (counter s 0x0E02 b) 1 := by
  have free : ¬ OwnCount 0x0E02 b := by
    simp only [OwnCount, counterKey]
    omega
  rw [failureTold, counter_raiseAon _ _ _ free, counter_bump_self]

theorem dataFailure_spec {s : State} {b : Nat} (hb : b < 3) {j : TwJob} {p k : Fin 32} (pec : Bool) (ho : j.origin = .mbx p k)
    (hr : (slotAt s p k).phase = .running) : counter (dataFailure s b j pec) 0x0E02 b = satAdd 32 (counter s 0x0E02 b) 1 ∧
    if j.attempt < 2 then (bus (dataFailure s b j pec) b).queue = { j with attempt := 2 } :: (bus s b).queue.drop 1
    else (bus (dataFailure s b j pec) b).queue = (bus s b).queue.drop 1 ∧ Ended (dataFailure s b j pec) j.origin .integrity [] := by
  obtain ⟨detail, failed⟩ := dataFailure_eq s b j pec
  have bus_ : bus (failureTold s b detail) b = bus s b := bus_of_plant ((plant_raiseAon ..).trans (plant_bump ..)) b
  have running : (slotAt (failureTold s b detail) p k).phase = .running :=
    (phase_of_requests ((requests_raiseAon ..).trans (requests_bump ..)) p k).trans hr
  have counted := counter_failureTold s hb detail
  rw [failed]
  generalize failureTold s b detail = u at bus_ running counted ⊢
  split
  · rw [counter_secondAttempt, queue_secondAttempt, bus_]
    exact ⟨counted, rfl⟩
  · have others : counter (bump u 0x0301 0x14 16) 0x0E02 b = counter u 0x0E02 b :=
      counter_bump_ne _ _ (counterKey_ne (by omega) (by decide) (.inl (by decide)))
    have running' : (slotAt (bump u 0x0301 0x14 16) p k).phase = .running := running
    have ctr := ctr_endJob (st := .integrity) (by simp) (by simp) (bump u 0x0301 0x14 16) b j []
    refine ⟨?_, ?_, ended_endJob _ _ ho running'⟩
    · rw [counter, ctr, ← counter, others, counted]
    · rw [queue_endJob, bus_of_plant (plant_bump ..), bus_]

/-! ### Lost arbitration (R447) -/

theorem does_arbitrationLost {b : Fin 3} {s : State} {j : TwJob} {rest : List TwJob} {p k : Fin 32}
    (hh : (bus s b).hung = none) (hq : (bus s b).queue = j :: rest) (ha : Tbl.get? (bus s b).absent j.addr = none)
    (ho : j.origin = .mbx p k) (hr : (slotAt s p k).phase = .running) : Does (.arbitrationLost b) s (fun t =>
      counter t 0x0E03 b = satAdd 32 (counter s 0x0E03 b) 1 ∧ if j.losses < 7
      then (bus t b).queue = { j with losses := j.losses + 1 } :: rest
      else (bus t b).queue = rest ∧ Ended t j.origin .busy []) := by
  have free : ¬ (bus s b).hung.isSome = true := by
    rw [hh]
    decide
  have head : settleQueue s.fresh_ b = s.fresh_ := settleQueue_head (s := s.fresh_) hq ha
  have lost : arbitrationLost s.fresh_ b =
      if 7 ≤ j.losses then endJob (raiseAon (bump s.fresh_ 0x0E03 b 32) 0x0804 false (b + 256 * j.addr)) b j .busy []
      else setBus (bump s.fresh_ 0x0E03 b 32) b (fun x => { x with queue := { j with losses := j.losses + 1 } :: rest }) := by
    unfold arbitrationLost
    dsimp only
    rw [head, show (bus s.fresh_ b).queue = j :: rest from hq]
  refine ⟨_, congrArg Host.Outcome.next ((if_neg free).trans lost), ?_⟩
  dsimp only
  by_cases h7 : j.losses < 7
  · rw [if_neg (by omega), if_pos h7, bus_setBus_self]
    exact ⟨counter_bump_self .., rfl⟩
  · rw [if_pos (by omega), if_neg h7]
    have own : ¬ OwnCount 0x0E03 b := by
      simp only [OwnCount, counterKey]
      omega
    have ctr := ctr_endJob (st := .busy) (by simp) (by simp) (raiseAon (bump s.fresh_ 0x0E03 b 32) 0x0804 false (b + 256 * j.addr))
      b j []
    refine ⟨?_, ?_, ended_endJob _ _ ho ((phase_of_requests ((requests_raiseAon ..).trans (requests_bump ..)) p k).trans hr)⟩
    · rw [counter, ctr, ← counter, counter_raiseAon _ _ _ own, counter_bump_self]
      rfl
    · rw [queue_endJob, bus_of_plant (plant_raiseAon ..), bus_of_plant (plant_bump ..), show bus s.fresh_ = bus s from rfl, hq]
      rfl

/-! ### Polls and alerts (R449, R451) -/

/-- The next poll of a target after its mark, once a mode that waited has taken effect. -/
def polled (s : State) (b addr m : Nat) : State :=
  send (settleBus (advanceTo s (m + ((s.now - m) / 1000000000 + 1) * 1000000000)) b) [.twoWire b addr [] 0]

theorem bus_polled (s : State) (b addr m : Nat) : bus (polled s b addr m) b = (bus s b).settle :=
  (bus_setBus_self (advanceTo s (m + ((s.now - m) / 1000000000 + 1) * 1000000000)) b Bus.settle :)

theorem exec_absentPoll {b : Fin 3} {addr : Fin 128} {s : State} {m : Nat} (r : PollResult) (hh : (bus s b).hung = none)
    (hm : Tbl.get? (bus s b).absent addr = some m) : ∃ detail, exec (.absentPoll b addr r) s = .next
      (match r with
      | .notAcknowledged => polled s.fresh_ b addr m
      | .lost => bump (polled s.fresh_ b addr m) 0x0E03 b 32
      | .acknowledged => raiseAon (setBus (polled s.fresh_ b addr m) b (fun x => { x with absent := Tbl.erase x.absent addr }))
          0x0802 false detail) := by
  have free : ¬ (bus s b).hung.isSome = true := by
    rw [hh]
    decide
  refine ⟨b + 256 * addr + 4294967296 * (((setBus (polled s.fresh_ b addr m) b (fun x => { x with
    absent := Tbl.erase x.absent addr })).now - m) / 1000000000 % 4294967296), congrArg Host.Outcome.next ((if_neg free).trans ?_)⟩
  unfold absentPoll
  rw [show Tbl.get? (bus s.fresh_ b).absent addr = some m from hm]
  cases r <;> rfl

theorem does_absentPoll {b : Fin 3} {addr : Fin 128} {s : State} {m : Nat} (hh : (bus s b).hung = none)
    (hm : Tbl.get? (bus s b).absent addr = some m) :
    Does (.absentPoll b addr .acknowledged) s (fun t => Tbl.get? (bus t b).absent addr = none ∧
      t.now = max s.now (m + ((s.now - m) / 1000000000 + 1) * 1000000000)) ∧
    Does (.absentPoll b addr .notAcknowledged) s (fun t => Tbl.get? (bus t b).absent addr = some m) := by
  obtain ⟨_, cleared⟩ := exec_absentPoll .acknowledged hh hm
  obtain ⟨_, stays⟩ := exec_absentPoll .notAcknowledged hh hm
  refine ⟨⟨_, cleared, ?_, ?_⟩, _, stays, ?_⟩
  · dsimp only
    rw [bus_of_plant (plant_raiseAon ..), bus_setBus_self]
    exact Tbl.get?_erase_self ..
  · dsimp only
    rw [now_of_plant (plant_raiseAon ..)]
    rfl
  · dsimp only
    rw [bus_polled, (Bus.settle_spec _).2.1]
    exact hm

theorem exec_alertResponse {b : Fin 3} {s : State} (hh : (bus s b).hung = none) (hs : s.aon.tables.steps ≠ []) :
    exec (.alertResponse b none) s = .next { s with out := [.twoWire b 0x0C [] 1] } ∧
    ∀ a : Fin 128, exec (.alertResponse b (some a)) s =
      .next (raiseAon { s with out := [.twoWire b 0x0C [] 1] } 0x0806 false (b.val + 256 * a.val)) := by
  have open_ : ¬ ((bus s.fresh_ b).hung.isSome || controllersIdle s.fresh_) = true := by
    rw [show (bus s.fresh_ b).hung = none from hh, controllersIdle]
    simpa [State.fresh_] using hs
  exact ⟨congrArg Host.Outcome.next (if_neg open_), fun a => congrArg Host.Outcome.next (if_neg open_)⟩

/-! ### A hung bus (R456–R458) -/

/-- What a hang's effects elsewhere leave: the buses, every slot and the count of hangs of a bus. -/
def hangView (b : Nat) (s : State) : Tbl Bus × (Nat → Nat → Slot) × Nat := (s.buses, slotAt s, counter s 0x0E04 b)

theorem notOwnCount_hang {b : Nat} (hb : b < 3) : ¬ OwnCount 0x0E04 b := by
  simp only [OwnCount, counterKey]
  omega

theorem hangView_raiseAon (s : State) {b : Nat} (hb : b < 3) (code : Nat) (fault : Bool) (detail : Nat) :
    hangView b (raiseAon s code fault detail) = hangView b s :=
  Prod.ext (buses_of_plant (plant_raiseAon ..)) (Prod.ext
    (funext fun p => funext fun k => (raiseAon_spec ..).slotAt p k) (counter_raiseAon _ _ _ (notOwnCount_hang hb)))

theorem hangView_lastingFault (s : State) {b : Nat} (hb : b < 3) {g : Nat} (hg : g < 65536) (i : Nat) :
    hangView b (lastingFault s g i) = hangView b s := by
  have counted : counter (bump s 0x0301 g 16) 0x0E04 b = counter s 0x0E04 b :=
    counter_bump_ne _ _ (counterKey_ne (by omega) hg (.inl (by decide)))
  have fenced : hangView b (fence (bump s 0x0301 g 16) g i) = hangView b s := by
    obtain ⟨x, y, h⟩ := fence_spec (bump s 0x0301 g 16) g i
    rw [h]
    exact Prod.ext rfl (Prod.ext rfl counted)
  obtain ⟨v, h⟩ := guard_spec (fence (bump s 0x0301 g 16) g i)
  refine Eq.trans ?_ fenced
  exact Prod.ext (buses_of_plant (plant_guard _)) (Prod.ext (funext fun p => funext fun k => h.slotAt p k) (h.counter ..))

theorem hangView_fenceChannel (s : State) {b : Nat} (hb : b < 3) (sensor channel : Nat) :
    hangView b (fenceChannel s sensor channel) = hangView b s := by
  have fenced := hangView_lastingFault s hb (g := 0x04) (by decide) (sensor * 2 + channel)
  unfold fenceChannel
  dsimp only
  split
  · exact fenced
  · exact (hangView_raiseAon _ hb ..).trans fenced

theorem hangView_hangEffects (s : State) {b : Nat} (hb : b < 3) : hangView b (hangEffects s b) = hangView b s := by
  unfold hangEffects
  split
  · refine foldl_leaves (fun s v => ?_) _ s
    split
    · exact hangView_fenceChannel s hb ..
    · rfl
  · refine foldl_leaves (fun s i => ?_) _ s
    split
    · rfl
    · exact (hangView_raiseAon _ hb ..).trans rfl
  · rfl

/-- A request that runs, or has ended because its bus hung. -/
def Hanging (s : State) (p k : Nat) : Prop :=
  (slotAt s p k).phase = .running ∨
  (slotAt s p k).phase = .decided ∧ ∃ e, (slotAt s p k).ending = some e ∧ e.status = .hung

/-- A queued request ends with HUNG (R456). -/
def endHung (s : State) (j : TwJob) : State := finishOrigin s j.origin { status := .hung }

theorem hung_of_endHung {s : State} {j : TwJob} {p k : Fin 32} (ho : j.origin = .mbx p k) (h : Hanging s p k) :
    (slotAt (endHung s j) p k).phase = .decided ∧ ∃ e, (slotAt (endHung s j) p k).ending = some e ∧ e.status = .hung := by
  rw [endHung, ho]
  rcases h with running | ⟨decided, ended⟩
  · obtain ⟨phase, e, ending, status, -⟩ := ended_endSlot { status := .hung } running
    exact ⟨phase, e, ending, status.resolve_right (by simp)⟩
  · have same : slotAt (finishOrigin s (.mbx p k) { status := .hung }) p k = slotAt s p k :=
      slotAt_endSlot_of_decided decided p k _
    rw [same]
    exact ⟨decided, ended⟩

theorem Hanging.endHung {s : State} {p k : Fin 32} (h : Hanging s p k) (j : TwJob) : Hanging (endHung s j) p k := by
  cases ho : j.origin with
  | twt =>
    have same : slotAt (Machine.endHung s j) p k = slotAt s p k := by
      rw [Machine.endHung, ho]
      exact slotAt_twtAnswer ..
    rw [Hanging, same]
    exact h
  | mbx q i =>
    by_cases hslot : q = p ∧ i = k
    · obtain ⟨rfl, rfl⟩ := hslot
      exact .inr (hung_of_endHung ho h)
    · have same : slotAt (Machine.endHung s j) p k = slotAt s p k := by
        rw [Machine.endHung, ho]
        exact slotAt_endSlot_ne _ _ (by omega)
      rw [Hanging, same]
      exact h

theorem slotAt_endHung_of_decided {s : State} {p k : Nat} (h : (slotAt s p k).phase = .decided) (j : TwJob) :
    slotAt (endHung s j) p k = slotAt s p k := slotAt_finishOrigin_of_decided h ..

/-- Everything queued for the mailbox ends with HUNG. -/
theorem foldl_endHung {p k : Fin 32} (l : List TwJob) (s : State) (h : Hanging s p k)
    (hm : ∃ j ∈ l, j.origin = .mbx p k) : (slotAt (l.foldl endHung s) p k).phase = .decided ∧
      ∃ e, (slotAt (l.foldl endHung s) p k).ending = some e ∧ e.status = .hung := by
  induction l generalizing s with
  | nil => simp at hm
  | cons j l ih =>
    rw [List.foldl_cons]
    obtain ⟨x, hx, ho⟩ := hm
    rcases List.mem_cons.mp hx with rfl | hx
    · have ended := hung_of_endHung ho h
      have rest (l : List TwJob) (t : State) (ht : (slotAt t p k).phase = .decided) :
          slotAt (l.foldl Machine.endHung t) p k = slotAt t p k := by
        induction l generalizing t with
        | nil => rfl
        | cons y l ih =>
          have same := slotAt_endHung_of_decided ht y
          rw [List.foldl_cons, ih _ (by rw [same, ht]), same]
      rw [rest l _ ended.1]
      exact ended
    · exact ih _ (h.endHung j) ⟨x, hx, ho⟩

theorem does_busHung {b : Fin 3} {s : State} (hh : (bus s b).hung = none) (sda : Bool) (hv : s.boot.vaon = true) :
    Does (.busHung b sda) s (fun t => (bus t b).hung = some sda ∧ (bus t b).queue = [] ∧
      counter t 0x0E04 b = satAdd 16 (counter s 0x0E04 b) 1 ∧
      ∀ j ∈ (bus s b).queue, ∀ p k, j.origin = .mbx p k → (slotAt s p k).phase = .running →
        ∃ e, (slotAt t p k).ending = some e ∧ e.status = .hung) := by
  have free : ¬ (bus s.fresh_ b).hung.isSome = true := by
    rw [show (bus s.fresh_ b).hung = none from hh]
    decide
  have hung : exec (.busHung b sda) s = .next (hangEffects ((bus s b).queue.foldl endHung
      (raiseAon (bump (setBus s.fresh_ b (fun x => { x with hung := some sda, queue := [] })) 0x0E04 b 16) 0x0803 true
        (b + 256 * b2n sda))) b) := congrArg Host.Outcome.next ((if_pos hv).trans (if_neg free))
  refine ⟨_, hung, ?_⟩
  have told := hangView_raiseAon (bump (setBus s.fresh_ b (fun x => { x with hung := some sda, queue := [] })) 0x0E04 b 16)
    b.isLt 0x0803 true (b + 256 * b2n sda)
  have counted := counter_bump_self (setBus s.fresh_ b (fun x => { x with hung := some sda, queue := [] })) 0x0E04 b 16
  have marked := bus_setBus_self s.fresh_ b (fun x => { x with hung := some sda, queue := [] })
  generalize raiseAon (bump (setBus s.fresh_ b (fun x => { x with hung := some sda, queue := [] })) 0x0E04 b 16) 0x0803 true
    (b + 256 * b2n sda) = u at told
  have slots (p k : Nat) : slotAt u p k = slotAt s p k :=
    congrFun (congrFun (congrArg (fun v : Tbl Bus × (Nat → Nat → Slot) × Nat => v.2.1) told) p) k
  have bus_ : bus u b = { bus s b with hung := some sda, queue := [] } :=
    (congrArg (fun v : Tbl Bus × (Nat → Nat → Slot) × Nat => Tbl.getD v.1 b Bus.init) told).trans marked
  have count : counter u 0x0E04 b = satAdd 16 (counter s 0x0E04 b) 1 :=
    (congrArg (fun v : Tbl Bus × (Nat → Nat → Slot) × Nat => v.2.2) told).trans counted
  have effects := hangView_hangEffects ((bus s b).queue.foldl endHung u) b.isLt
  have plant_ := foldl_leaves (g := plant) (f := endHung) (fun s j => plant_finishOrigin ..) (bus s b).queue u
  have ctr_ := foldl_leaves (g := State.ctr) (f := endHung) (fun s j => ctr_finishOrigin (by simp) (by simp) ..) (bus s b).queue u
  have ended {p k : Fin 32} := foldl_endHung (p := p) (k := k) (bus s b).queue u
  generalize (bus s b).queue.foldl endHung u = v at effects plant_ ctr_ ended ⊢
  have now : bus (hangEffects v b) b = { bus s b with hung := some sda, queue := [] } :=
    (congrArg (fun v : Tbl Bus × (Nat → Nat → Slot) × Nat => Tbl.getD v.1 b Bus.init) effects).trans
      ((bus_of_plant plant_ b).trans bus_)
  refine ⟨by rw [now], by rw [now], ?_, fun j hj p k ho hr => ?_⟩
  · refine (congrArg (fun v : Tbl Bus × (Nat → Nat → Slot) × Nat => v.2.2) effects).trans ?_
    exact (congrArg (fun c => Tbl.getD c (counterKey 0x0E04 b) 0) ctr_).trans count
  · obtain ⟨-, e, ending, status⟩ := ended (p := p) (k := k) (.inl (by rw [slots, hr])) ⟨j, hj, ho⟩
    refine ⟨e, ?_, status⟩
    have slot := congrFun (congrFun (congrArg (fun v : Tbl Bus × (Nat → Nat → Slot) × Nat => v.2.1) effects) p) k
    exact (congrArg Slot.ending slot).trans ending

/-- Settles O54: requests for a bus, the course of the transaction at its head, polls, alerts and a hang. -/
theorem twoWireTransactionsAreQueuedAndCarriedOut : Obligations.TwoWireTransactionsAreQueuedAndCarriedOut := by
  unfold Obligations.TwoWireTransactionsAreQueuedAndCarriedOut
  refine ⟨?requests, ?transactions, fun b s hh => ⟨fun addr m => does_absentPoll hh, exec_alertResponse hh, does_busHung hh⟩⟩
  case requests =>
    rintro o s c _ rfl
    exact ⟨does_transaction, does_busConfigure, does_busStatus⟩
  case transactions =>
    intro b s j rest p k hh hq ha ho hr
    have head : (bus (started s b j) b).queue.drop 1 = rest := by
      rw [bus_started, hq]
      rfl
    have running : (slotAt (started s b j) p k).phase = .running := hr
    have failure (pec : Bool) := dataFailure_spec b.isLt pec ho running
    rw [head] at failure
    refine ⟨fun data => ?done, ?absent, ?failed, does_arbitrationLost hh hq ha ho hr⟩
    case done =>
      obtain ⟨queue, ended⟩ := outcome_done data ho running
      exact ⟨_, exec_busFreeStart _ hh hq ha, queue.trans head, ended⟩
    case absent =>
      refine ⟨_, exec_busFreeStart _ hh hq ha, ?_⟩
      split
      · next first =>
        rw [outcome, if_pos first, queue_secondAttempt, counter_secondAttempt, counter_bump_self, bus_of_plant (plant_bump ..), head]
        exact ⟨rfl, rfl⟩
      · next second => exact outcome_absent second ho running
    case failed =>
      rintro _ (rfl | rfl)
      · exact ⟨_, exec_busFreeStart _ hh hq ha, failure false⟩
      · exact ⟨_, exec_busFreeStart _ hh hq ha, failure true⟩

end Sys2Proof.Machine
end

section
/-! What every function that writes memory, or stops the main domain, keeps of node memory and spill memory: their canonical form.
Functions that leave both memories have their lemma in the layer of `kept`. -/

namespace Sys2Proof.Machine
open Sys2Proof

/-- Node memory and spill memory of a record are in canonical form. -/
def Kept.Tidy (k : Kept) : Prop := k.node.wf = true ∧ k.spill.wf = true

/-- The same of a memory unit. -/
def Memory.Tidy (m : Memory) : Prop := m.bytes.wf = true ∧ m.spill.wf = true

theorem memoryCanonical_iff (s : State) : MemoryCanonical s ↔ (kept s).Tidy := Iff.rfl

/-- An outcome that is a next state keeps the form. -/
def Tidies (s : State) (o : Host.Outcome State Fault Refusal) : Prop := (kept s).Tidy → ∀ t, o = .next t → (kept t).Tidy

@[simp] theorem tidies_next (s t : State) : Tidies s (.next t) ↔ ((kept s).Tidy → (kept t).Tidy) := by
  simp [Tidies]
@[simp] theorem Leaves.tidies {s : State} {o} (h : Leaves kept s o) : Tidies s o := fun hs t ht => h t ht ▸ hs

@[simp] theorem tidy_ite (c : Prop) {_ : Decidable c} (a b : Kept) :
    (if c then a else b).Tidy ↔ if c then a.Tidy else b.Tidy := by
  split <;> rfl
@[simp] theorem tidy_foldl {β : Type} (f : State → β → State) (l : List β) (s : State)
    (hf : ∀ s x, (kept s).Tidy → (kept (f s x)).Tidy) (h : (kept s).Tidy) : (kept (l.foldl f s)).Tidy := by
  induction l generalizing s with
  | nil => exact h
  | cons x l ih => exact ih _ (hf s x h)

@[simp] theorem tidy_runOp (op : Nat) (o : Origin) (s : State) (bop chk) (eff : State → Ctx → State)
    (hf : ∀ s c, (kept s).Tidy → (kept (eff s c)).Tidy) (h : (kept s).Tidy) : (kept (runOp op o s bop chk eff)).Tidy := by
  rcases runOp_cases op o s bop chk eff with e | ⟨c, -, -, ⟨-, e⟩ | ⟨st, ch, e⟩⟩ <;> rw [e]
  · simpa using h
  · exact hf _ _ (by simpa using h)
  · simpa using h
@[simp] theorem tidy_runOnce (op : Nat) (o : Origin) (s : State) (bop chk) (eff : State → Ctx → State)
    (hf : ∀ s c, (kept s).Tidy → (kept (eff s c)).Tidy) (h : (kept s).Tidy) : (kept (runOnce op o s bop chk eff)).Tidy := by
  unfold runOnce
  split
  · simpa using h
  · exact tidy_runOp _ _ _ _ _ _ (fun s c hs => by simpa using hf s c hs) h
@[simp] theorem tidy_regionWrite (s : State) (r off bs) (h : (kept s).Tidy) : (kept (regionWrite s r off bs)).Tidy :=
  ⟨Mem.wf_foldl_write _ _ _ h.1, h.2⟩
@[simp] theorem tidy_writeDesc (s : State) (p d bs) (h : (kept s).Tidy) : (kept (writeDesc s p d bs)).Tidy := by
  unfold writeDesc
  repeat' split
  all_goals simp [h]
@[simp] theorem tidy_stopMain (s : State) (h : (kept s).Tidy) : (kept (stopMain s)).Tidy := by
  unfold stopMain
  split
  · exact h
  · exact ⟨rfl, rfl⟩
@[simp] theorem tidy_releaseStep (s : State) (i) (h : (kept s).Tidy) : (kept (releaseStep s i)).Tidy := by
  simp [releaseStep, h]
@[simp] theorem tidy_endDown (s : State) (goal) (h : (kept s).Tidy) : (kept (endDown s goal)).Tidy := by
  unfold endDown
  split <;> simp [h]
@[simp] theorem tidy_downNext (s : State) (h : (kept s).Tidy) : (kept (downNext s)).Tidy := by
  unfold downNext
  split <;> simp [h]
@[simp] theorem tidy_powerDown (s : State) (goal) (h : (kept s).Tidy) : (kept (powerDown s goal)).Tidy := by
  simp [powerDown, h]
@[simp] theorem tidy_sequenceTimeout (s : State) (h : (kept s).Tidy) : (kept (sequenceTimeout s)).Tidy := by
  unfold sequenceTimeout
  dsimp only
  repeat' split
  all_goals simp [h]
@[simp] theorem tidy_goodTimeout (s : State) (i) (h : (kept s).Tidy) : (kept (goodTimeout s i)).Tidy := by
  unfold goodTimeout
  dsimp only
  repeat' split
  all_goals simp [h]
@[simp] theorem tidy_downExpiry (s : State) (i) (h : (kept s).Tidy) : (kept (downExpiry s i)).Tidy := by
  unfold downExpiry
  dsimp only
  repeat' split
  all_goals simp [h]
@[simp] theorem tidy_railFault (s : State) (v check) (h : (kept s).Tidy) : (kept (railFault s v check)).Tidy := by
  unfold railFault
  dsimp only
  split
  · simp [h]
  · split <;> simp [h]
@[simp] theorem tidy_judge (s : State) (v channel mv) (h : (kept s).Tidy) : (kept (judge s v channel mv)).Tidy := by
  simp [judge, h]
@[simp] theorem tidy_windowScan (s : State) (a b vinA vinB vaon) (h : (kept s).Tidy) :
    (kept (windowScan s a b vinA vinB vaon)).Tidy := by
  unfold windowScan
  refine tidy_foldl _ _ _ (fun s v hs => ?_) (by simpa using h)
  dsimp only
  repeat' split
  all_goals simp [hs]
@[simp] theorem tidy_collapse (s : State) (h : (kept s).Tidy) : (kept (collapse s)).Tidy := by simp [collapse, h]
@[simp] theorem tidy_powerRequest (o code due goal) (s : State) (h : (kept s).Tidy) :
    (kept (powerRequest o code due goal s)).Tidy := by
  unfold powerRequest
  dsimp only
  repeat' split
  all_goals simp [h]
@[simp] theorem tidy_inConvoy (eff : State → Ctx → State) (s : State) (c : Ctx)
    (hf : ∀ s c, (kept s).Tidy → (kept (eff s c)).Tidy) (h : (kept s).Tidy) : (kept (inConvoy eff s c)).Tidy := by
  rcases inConvoy_cases eff s c with e | e | ⟨n, -, e⟩ <;> rw [e] <;> simp [hf, h]
theorem tidy_setMemory (s : State) {f : Memory → Memory} (hf : ∀ m : Memory, m.Tidy → (f m).Tidy) (h : (kept s).Tidy) :
    (kept (setMemory s f)).Tidy := hf s.memory h
@[simp] theorem tidy_writeBytes (s : State) (a bs) (h : (kept s).Tidy) :
    (kept (setMemory s (fun m => { m with bytes := Mem.writeBytes m.bytes a bs }))).Tidy :=
  tidy_setMemory s (fun _ hm => ⟨Mem.wf_writeBytes a bs hm.1, hm.2⟩) h
@[simp] theorem tidy_clearBytes (s : State) (a n) (tags : Tbl Tag → Tbl Tag) (h : (kept s).Tidy) :
    (kept (setMemory s (fun m => { m with bytes := Mem.clear m.bytes a n, tags := tags m.tags }))).Tidy :=
  tidy_setMemory s (fun _ hm => ⟨Mem.wf_clear a n hm.1, hm.2⟩) h
@[simp] theorem tidy_storeLayers (s : State) (l : List Nat) (ps : Nat → List Place2) (bs : Nat → List Byte) (h : (kept s).Tidy) :
    (kept (setMemory s (fun m => l.foldl (fun m i => storeLayer m (ps i) (bs i)) m))).Tidy := by
  refine tidy_setMemory s (fun m hm => ?_) h
  induction l generalizing m with
  | nil => exact hm
  | cons i l ih => exact ih _ (storeLayer_wf (ps i) (bs i) hm)
@[simp] theorem tidy_onWord (hit : State → Ctx → Nat → Bool) (word) (eff : State → Ctx → State) (s : State) (c : Ctx)
    (hf : ∀ s c, (kept s).Tidy → (kept (eff s c)).Tidy) (h : (kept s).Tidy) : (kept (onWord hit word eff s c)).Tidy := by
  unfold onWord
  repeat' split
  all_goals simp [hf, h]
@[simp] theorem tidy_memoryTransferEffect (hostData) (s : State) (c) (h : (kept s).Tidy) :
    (kept (memoryTransferEffect hostData s c)).Tidy := by
  unfold memoryTransferEffect
  dsimp only
  repeat' split
  all_goals simp [h]
@[simp] theorem tidy_copyGranule (s : State) (g r) (h : (kept s).Tidy) : (kept (copyGranule s g r)).Tidy :=
  copyGranule_canonical g r h
@[simp] theorem tidy_retirementEnd (s : State) (g) (h : (kept s).Tidy) : (kept (retirementEnd s g)).Tidy := by
  unfold retirementEnd
  dsimp only
  repeat' split
  all_goals simp [h]
@[simp] theorem tidy_cipherEffect (aadHost inputHost fault) (s : State) (c) (h : (kept s).Tidy) :
    (kept (cipherEffect aadHost inputHost fault s c)).Tidy := by
  unfold cipherEffect
  extract_lets mode src aadDesc out meets meetsAad meetsOut
  clear_value meets meetsAad meetsOut
  split
  · simp [h]
  · exact h
  · simp [h]
  · simp [h]
  · split
    · exact h
    · simp [h]
    · split
      · exact h
      · simp [h]
      · extract_lets attempted input aad blocks counted marked
        have marked_eq : kept marked = kept s := by
          simp only [marked, counted, attempted]
          repeat' split
          all_goals simp
        clear_value marked
        split <;> simp [marked_eq, h]
@[simp] theorem tidy_alwaysOnReset (s : State) (h : (kept s).Tidy) : (kept (alwaysOnReset s)).Tidy := by
  unfold alwaysOnReset
  split
  · exact h
  · exact (tidy_stopMain s h :)
@[simp] theorem tidy_vaultOff (s : State) (h : (kept s).Tidy) : (kept (vaultOff s)).Tidy := tidy_alwaysOnReset s h
@[simp] theorem tidy_evaluateShutdown (s : State) (h : (kept s).Tidy) : (kept (evaluateShutdown s)).Tidy := by
  simp [evaluateShutdown, h]
@[simp] theorem tidy_evaluatePlan (s : State) (dieA dieB) (h : (kept s).Tidy) : (kept (evaluatePlan s dieA dieB)).Tidy := by
  simp [evaluatePlan, h]
@[simp] theorem tidy_parcelToMemory (s : State) (w payload) (h : (kept s).Tidy) : (kept (parcelToMemory s w payload)).Tidy :=
  parcelToMemory_canonical w payload h
@[simp] theorem tidy_releaseChecked (s : State) (cls n w payload) (h : (kept s).Tidy) :
    (kept (releaseChecked s cls n w payload)).Tidy := by
  unfold releaseChecked
  dsimp only
  repeat' split
  all_goals simp [h]
@[simp] theorem tidy_parcelCheck (s : State) (cls n parcel) (h : (kept s).Tidy) : (kept (parcelCheck s cls n parcel)).Tidy := by
  unfold parcelCheck
  dsimp only
  repeat' split
  all_goals simp [h]
@[simp] theorem tidy_modelLoadEffect (image reread) (s : State) (c) (h : (kept s).Tidy) :
    (kept (modelLoadEffect image reread s c)).Tidy := by
  unfold modelLoadEffect
  dsimp only
  repeat' split
  all_goals simp [h]
@[simp] theorem tidy_readResponse (s : State) (n w payload) (h : (kept s).Tidy) : (kept (readResponse s n w payload)).Tidy := by
  unfold readResponse
  dsimp only
  repeat' split
  all_goals simp [h]
@[simp] theorem tidy_takeParcel (s : State) (n content w payload) (h : (kept s).Tidy) :
    (kept (takeParcel s n content w payload)).Tidy := by
  simp [takeParcel, h]
@[simp] theorem tidy_deliverParcel (s : State) (n content w payload) (h : (kept s).Tidy) :
    (kept (deliverParcel s n content w payload)).Tidy := by
  unfold deliverParcel
  dsimp only
  repeat' split
  all_goals simp [h]
@[simp] theorem tidy_acceptParcel (s : State) (n parcel) (h : (kept s).Tidy) : (kept (acceptParcel s n parcel)).Tidy := by
  simp [acceptParcel, h]
@[simp] theorem tidy_linkReceive (s : State) (n parcel fec) (h : (kept s).Tidy) : (kept (linkReceive s n parcel fec)).Tidy := by
  unfold linkReceive
  dsimp only
  repeat' split
  all_goals simp [h]
@[simp] theorem tidy_clearSpill (s : State) (p) (h : (kept s).Tidy) : (kept (clearSpill s p)).Tidy := clearSpill_canonical p h
@[simp] theorem tidy_releaseResources (s : State) (p) (h : (kept s).Tidy) : (kept (releaseResources s p)).Tidy := by
  simp only [releaseResources, kept_setTeardown, kept_setPart, kept_with_keys_extents]
  simp [h]
@[simp] theorem tidy_settleTeardown (s : State) (p) (h : (kept s).Tidy) : (kept (settleTeardown s p)).Tidy := by
  unfold settleTeardown
  dsimp only
  repeat' split
  all_goals simp [h]
@[simp] theorem tidy_settleTeardowns (s : State) (h : (kept s).Tidy) : (kept (settleTeardowns s)).Tidy :=
  tidy_foldl _ _ _ tidy_settleTeardown h
@[simp] theorem tidy_teardownEffect (s : State) (c) (h : (kept s).Tidy) : (kept (teardownEffect s c)).Tidy := by
  simp [teardownEffect, h]
@[simp] theorem tidy_granuleCleared (s : State) (g) (h : (kept s).Tidy) : (kept (granuleCleared s g)).Tidy := by
  unfold granuleCleared
  dsimp only
  split
  · exact h
  · exact tidy_settleTeardowns _ (by simpa using tidy_clearBytes s _ _ _ h)
@[simp] theorem tidy_holdMainOff (s : State) (h : (kept s).Tidy) : (kept (holdMainOff s)).Tidy := by
  simp [holdMainOff, h]
@[simp] theorem tidy_holdMainOffFor (s : State) (code detail) (h : (kept s).Tidy) :
    (kept (holdMainOffFor s code detail)).Tidy := by
  simp [holdMainOffFor, h]
@[simp] theorem tidy_hopOut (s : State) (cls n) (h : (kept s).Tidy) : (kept (hopOut s cls n)).Tidy := by simp [hopOut, h]
@[simp] theorem tidy_pairOffline (s : State) (pair) (h : (kept s).Tidy) : (kept (pairOffline s pair)).Tidy := by
  simp [pairOffline, h]
@[simp] theorem tidy_clockGone (s : State) (d) (h : (kept s).Tidy) : (kept (clockGone s d)).Tidy := by
  unfold clockGone
  split <;> simp [h]
@[simp] theorem tidy_repair (s : State) (group index) (h : (kept s).Tidy) : (kept (repair s group index)).Tidy := by
  unfold repair
  split <;> simp [h]
@[simp] theorem tidy_sectionRead (s : State) (t good) (h : (kept s).Tidy) : (kept (sectionRead s t good)).Tidy := by
  simp [sectionRead, h]
@[simp] theorem tidy_selfTestEnd (s : State) (once twice) (h : (kept s).Tidy) : (kept (selfTestEnd s once twice)).Tidy := by
  have exercised : (kept ((twice.filter (fun r => resourceExists r.1 r.2)).foldl (fun s r => repair s r.1 r.2)
      ((once.filter (fun r => resourceExists r.1 r.2)).foldl (fun s r => transient s r.1 r.2) s))).Tidy :=
    tidy_foldl _ _ _ (fun s r => tidy_repair s r.1 r.2) (by simpa using h)
  unfold selfTestEnd
  dsimp only
  split
  · exact h
  · split
    · exact exercised
    · rw [kept_formStatus, kept_setBoot, kept_with_faults]
      · exact tidy_setMemory _ (fun _ hm => ⟨rfl, hm.2⟩) exercised
      all_goals exact fun _ => rfl
@[simp] theorem tidy_scanInstruction (s : State) (i) (h : (kept s).Tidy) : (kept (scanInstruction s i)).Tidy := by
  simp [scanInstruction, h]
@[simp] theorem tidy_clockRestart (s : State) (d passed) (h : (kept s).Tidy) : (kept (clockRestart s d passed)).Tidy := by
  simp [clockRestart, h]
@[simp] theorem tidy_crossingFault (s : State) (cls n parity) (h : (kept s).Tidy) :
    (kept (crossingFault s cls n parity)).Tidy := by
  simp [crossingFault, h]
@[simp] theorem tidy_lockstep (s : State) (pair lasting running) (h : (kept s).Tidy) :
    (kept (lockstep s pair lasting running)).Tidy := by
  simp [lockstep, h]
@[simp] theorem tidy_managementMismatch (s : State) (lasting) (h : (kept s).Tidy) :
    (kept (managementMismatch s lasting)).Tidy := by
  simp [managementMismatch, h]
@[simp] theorem tidy_tableMismatch (s : State) (h : (kept s).Tidy) : (kept (tableMismatch s)).Tidy := by
  simp [tableMismatch, h]
@[simp] theorem tidy_exercise (s : State) (cls number group index flagged again) (h : (kept s).Tidy) :
    (kept (exercise s cls number group index flagged again)).Tidy := by
  simp [exercise, h]
@[simp] theorem tidy_digestUnitFault (s : State) (p k unit again) (h : (kept s).Tidy) :
    (kept (digestUnitFault s p k unit again)).Tidy := by
  simp [digestUnitFault, h]
@[simp] theorem tidy_digestUnits_ (s : State) (p k fault) (h : (kept s).Tidy) : (kept (digestUnits_ s p k fault)).Tidy := by
  unfold digestUnits_
  split <;> simp [h]
@[simp] theorem tidy_completeUnder (s : State) (p k fault tagMismatch) (h : (kept s).Tidy) :
    (kept (completeUnder s p k fault tagMismatch)).Tidy := by
  simp [completeUnder, h]
@[simp] theorem tidy_completion (s : State) (p k digestFault tagMismatch) (h : (kept s).Tidy) :
    (kept (completion s p k digestFault tagMismatch)).Tidy := by
  simp [completion, h]
@[simp] theorem tidy_ledgerReadEffect (s : State) (c) (h : (kept s).Tidy) : (kept (ledgerReadEffect s c)).Tidy := by
  unfold ledgerReadEffect
  split <;> simp [h]
@[simp] theorem tidy_uncounted (s : State) (group) (f : State → State) (hf : ∀ s, (kept s).Tidy → (kept (f s)).Tidy)
    (h : (kept s).Tidy) : (kept (uncounted s group f)).Tidy := by
  unfold uncounted
  dsimp only
  split
  · simpa using hf s h
  · simpa using hf s h
@[simp] theorem tidy_releaseFence (s : State) (cls i) (h : (kept s).Tidy) : (kept (releaseFence s cls i)).Tidy := by
  unfold releaseFence
  split
  · simp [h]
  · rw [kept_guard]
    exact tidy_clearBytes _ _ _ _ (by simpa using h)
  · simp [h]
@[simp] theorem tidy_settleHop (before after : State) (cls n) (h : (kept after).Tidy) :
    (kept (settleHop before after cls n)).Tidy := by
  simp [settleHop, h]
@[simp] theorem tidy_layerConfirmed (s : State) (n o) (h : (kept s).Tidy) : (kept (layerConfirmed s n o)).Tidy := by
  unfold layerConfirmed
  dsimp only
  repeat' split
  all_goals simp [h]
@[simp] theorem tidy_offloadConfirmed (s : State) (o) (h : (kept s).Tidy) : (kept (offloadConfirmed s o)).Tidy := by
  unfold offloadConfirmed
  dsimp only
  repeat' split
  all_goals simp [h]
@[simp] theorem tidy_confirm (s : State) (n) (h : (kept s).Tidy) : (kept (confirm s n)).Tidy := by
  unfold confirm
  dsimp only
  repeat' split
  all_goals simp [h]
@[simp] theorem tidy_classifyAttempts (s : State) (c) (h : (kept s).Tidy) : (kept (classifyAttempts s c)).Tidy := by
  have counted (l : List Nat) : kept (l.foldl (fun s r => transient s (r / 1024) (r % 1024)) s) = kept s := by simp
  unfold classifyAttempts
  dsimp only
  repeat' split
  all_goals simp only [counted, tidy_repair, h]
@[simp] theorem tidy_resolve_ (s : State) (n hostData) (h : (kept s).Tidy) : (kept (resolve_ s n hostData)).Tidy := by
  unfold resolve_
  dsimp only
  repeat' split
  all_goals simp [h]
@[simp] theorem tidy_readArrives (s : State) (c d data fault) (h : (kept s).Tidy) :
    (kept (readArrives s c d data fault)).Tidy := by
  unfold readArrives
  split
  · simp [h]
  · next e _ =>
    have hx := kept_xtsRun s e false d.lba (slice data 0 (c.desc 0x10).len) fault
    dsimp only
    split
    · next decrypted =>
      rw [decrypted] at hx
      simpa [hx] using h
    · next decrypted =>
      rw [decrypted] at hx
      split <;> simp [hx, h]
@[simp] theorem tidy_driveCompletion (s : State) (o status data fault) (h : (kept s).Tidy) :
    (kept (driveCompletion s o status data fault)).Tidy := by
  unfold driveCompletion
  dsimp only
  repeat' split
  · exact h
  · exact h
  · simp [h]
  · simp [h]
  · simp [h]
  · rw [kept_send, kept_with_driveCmds]
    simp [h]

/-! ### Staged entries, the start of the main domain and fuses -/

@[simp] theorem tidy_setVault (s : State) (f) : (kept (setVault s f)).Tidy ↔ (kept s).Tidy := Iff.rfl
@[simp] theorem tidy_setBoot (s : State) (f) : (kept (setBoot s f)).Tidy ↔ (kept s).Tidy := Iff.rfl
@[simp] theorem tidy_appendEntry (s : State) (e) (h : (kept s).Tidy) : (kept (appendEntry s e)).Tidy := by
  unfold appendEntry
  dsimp only
  repeat' split
  all_goals simp [h]
@[simp] theorem tidy_commitOldest (s : State) (h : (kept s).Tidy) : (kept (commitOldest s)).Tidy := by
  unfold commitOldest
  dsimp only
  repeat' split
  all_goals simp [h]
@[simp] theorem tidy_closeCommit (s : State) (h : (kept s).Tidy) : (kept (closeCommit s)).Tidy := by
  unfold closeCommit
  dsimp only
  repeat' split
  all_goals simp [h]
@[simp] theorem tidy_commitFuel (n : Nat) (s : State) (h : (kept s).Tidy) : (kept (commitFuel n s)).Tidy := by
  induction n generalizing s with
  | zero => exact h
  | succ n ih =>
    unfold commitFuel
    split
    · exact h
    · exact ih _ (tidy_commitOldest s h)
@[simp] theorem tidy_vaultStart (s : State) (h : (kept s).Tidy) : (kept (vaultStart s)).Tidy := by
  rw [vaultStart, verifyLedger, kept_verifyFrom, commitAll]
  exact tidy_closeCommit _ (tidy_commitFuel _ _ (by simpa using h))
@[simp] theorem tidy_mainStart (s : State) (h : (kept s).Tidy) : (kept (mainStart s)).Tidy := by
  unfold mainStart
  split
  · exact h
  · refine tidy_vaultStart _ ?_
    rw [kept_startHosts, kept_createAdministrator]
    exact h
@[simp] theorem tidy_nextStep (s : State) (h : (kept s).Tidy) : (kept (nextStep s)).Tidy := by
  unfold nextStep
  dsimp only
  split
  · exact tidy_powerDown _ _ h
  · split
    · simp [sequenceComplete, h]
    · simp [h]
@[simp] theorem tidy_stepGood (s : State) (i mv) (h : (kept s).Tidy) : (kept (stepGood s i mv)).Tidy := by
  unfold stepGood
  dsimp only
  repeat' split
  all_goals simp [h]
@[simp] theorem tidy_stepAct (s : State) (i absent) (h : (kept s).Tidy) : (kept (stepAct s i absent)).Tidy := by
  unfold stepAct
  dsimp only
  repeat' split
  all_goals simp [h]
@[simp] theorem tidy_fuseBlowEffect (s : State) (c) (h : (kept s).Tidy) : (kept (fuseBlowEffect s c)).Tidy := by
  rw [kept_fuseBlowEffect]
  exact h

/-! ### Every command, every step -/

theorem tidies_execPmbusReadPoll (rail mv current) (s : State) : Tidies s (execPmbusReadPoll rail mv current s) := by
  refine (tidies_next ..).mpr fun h => ?_
  dsimp only
  repeat' split
  all_goals simp [h]
theorem tidies_execMemoryTransfer (o hostData) (s : State) : Tidies s (execMemoryTransfer o hostData s) :=
  (tidies_next ..).mpr (tidy_runOp _ _ _ _ _ _ fun _ _ => tidy_inConvoy _ _ _ fun _ _ =>
    tidy_onWord _ _ _ _ _ (tidy_memoryTransferEffect _))
theorem tidies_execCipherOperation (o aad input fault) (s : State) : Tidies s (execCipherOperation o aad input fault s) :=
  (tidies_next ..).mpr (tidy_runOp _ _ _ _ _ _ fun _ _ => tidy_inConvoy _ _ _ fun _ _ =>
    tidy_onWord _ _ _ _ _ (tidy_cipherEffect _ _ _))
theorem tidies_execFenceResource (o) (s : State) : Tidies s (execFenceResource o s) := by
  refine (tidies_next ..).mpr (tidy_runOp _ _ _ _ _ _ fun s c h => ?_)
  rw [kept_finish]
  exact tidy_uncounted _ _ _ (fun s => tidy_repair s _ _) h
theorem tidies_execTeardownDiscardExpiry (p) (s : State) : Tidies s (execTeardownDiscardExpiry p s) := by
  unfold execTeardownDiscardExpiry
  split <;> simp +contextual
theorem tidies_execParcelCheck (cls number parcel) (s : State) : Tidies s (execParcelCheck cls number parcel s) := by
  unfold execParcelCheck
  split
  · simp +contextual
  · exact fun _ _ h => absurd h (by simp)

theorem tidies_exec (i : Instr) (s : State) : Tidies s (exec i s) := by
  cases i
  case pmbusReadPoll => exact tidies_execPmbusReadPoll _ _ _ _
  case memoryTransfer => exact tidies_execMemoryTransfer _ _ _
  case cipherOperation => exact tidies_execCipherOperation _ _ _ _ _
  case fenceResource => exact tidies_execFenceResource _ _
  case parcelCheck => exact tidies_execParcelCheck _ _ _ _
  case teardownDiscardExpiry => exact tidies_execTeardownDiscardExpiry _ _
  all_goals simp +contextual [exec, execPowerGoodTimeout, execPowerDownDelayExpiry, execRailFault, execRailWindowScan,
    execCollapse, execPowerDown, execDeviceRestart, execTransportKeyGet, execVaultOff, execThermalPlanEvaluation,
    execModelLoad, execPartitionTeardown, execGranuleCleared, execGranuleRetirementEnd, execAlwaysOnReset,
    execSectionReadComplete, execSelfTestEnd, execBoundaryScanInstruction, execClockRestartEnd, execCrossingFault,
    execLockstepMismatch, execManagementCoreMismatch, execConvoyTableMismatch, execCheckerExercise,
    execReceiptRingConsumerWrite, execCompletion, execRefusalCompletion, execLedgerRead, execLedgerAttest, execFenceRelease,
    execLinkParcelReceive, execConvoyConfirm, execConvoyResolved, execDriveCompletion, execSequenceStepAct,
    execSequenceStepPowerGood, execStagedEntryCommit, execFuseBlow_eq]

theorem tidy_step {s t : State} (hs : (kept s).Tidy) (h : step s = .next t) : (kept t).Tidy := by
  unfold step at h
  split at h
  · cases h
    rw [kept_idleTick]
    exact hs
  · next c rest _ => exact tidies_exec c { s with pending := rest } hs t h

/-- Settles O4: whatever a command writes, it writes byte by byte or clears, and every other function leaves both memories or begins
them empty. -/
theorem memoryFormKept : Obligations.MemoryFormKept := by
  unfold Obligations.MemoryFormKept
  exact fun s t hs h => tidy_step hs h

end Sys2Proof.Machine
end

section
/-! What every function of the model leaves of VAON's validity and of the straps sampled with it (R540): one lemma for each
function, in the order of the model's files. Only VAON_VALID and the loss of VAON change either. -/

namespace Sys2Proof.Machine
open Sys2Proof

/-- Whether VAON is valid, and the straps sampled when it became so. -/
def strap (s : State) : Bool × Nat := (s.boot.vaon, s.boot.twtStraps)

theorem strap_congr {s t : State} (h : t.boot = s.boot) : strap t = strap s := by rw [strap, strap, h]

/-! ### Branches, folds and fields -/

@[simp] theorem strap_ite (c : Prop) {_ : Decidable c} (s t : State) :
    strap (if c then s else t) = if c then strap s else strap t :=
  apply_ite ..
@[simp] theorem strap_foldl {β : Type} (f : State → β → State) (l : List β) (s : State)
    (h : ∀ s x, strap (f s x) = strap s) : strap (l.foldl f s) = strap s := by
  induction l generalizing s with
  | nil => rfl
  | cons x l ih => rw [List.foldl_cons, ih, h]
@[simp] theorem strap_with_now (s : State) (x) : strap { s with now := x } = strap s := rfl
@[simp] theorem strap_with_fresh (s : State) (x) : strap { s with fresh := x } = strap s := rfl
@[simp] theorem strap_with_out (s : State) (x) : strap { s with out := x } = strap s := rfl
@[simp] theorem strap_with_parts (s : State) (x) : strap { s with parts := x } = strap s := rfl
@[simp] theorem strap_with_fencedSlots (s : State) (x) : strap { s with fencedSlots := x } = strap s := rfl
@[simp] theorem strap_with_domains (s : State) (x) : strap { s with domains := x } = strap s := rfl
@[simp] theorem strap_with_queues (s : State) (x) : strap { s with queues := x } = strap s := rfl
@[simp] theorem strap_with_streams (s : State) (x) : strap { s with streams := x } = strap s := rfl
@[simp] theorem strap_with_convoys (s : State) (x) : strap { s with convoys := x } = strap s := rfl
@[simp] theorem strap_with_faults (s : State) (x) : strap { s with faults := x } = strap s := rfl
@[simp] theorem strap_with_ctr (s : State) (x) : strap { s with ctr := x } = strap s := rfl
@[simp] theorem strap_with_timebase (s : State) (x) : strap { s with timebase := x } = strap s := rfl
@[simp] theorem strap_with_hosts (s : State) (x) : strap { s with hosts := x } = strap s := rfl
@[simp] theorem strap_with_fns (s : State) (x) : strap { s with fns := x } = strap s := rfl
@[simp] theorem strap_with_drives (s : State) (x) : strap { s with drives := x } = strap s := rfl
@[simp] theorem strap_with_extents (s : State) (x) : strap { s with extents := x } = strap s := rfl
@[simp] theorem strap_with_driveCmds (s : State) (x) : strap { s with driveCmds := x } = strap s := rfl
@[simp] theorem strap_with_nets (s : State) (x) : strap { s with nets := x } = strap s := rfl
@[simp] theorem strap_with_buses (s : State) (x) : strap { s with buses := x } = strap s := rfl
@[simp] theorem strap_with_twt (s : State) (x) : strap { s with twt := x } = strap s := rfl
@[simp] theorem strap_with_ports (s : State) (x) : strap { s with ports := x } = strap s := rfl
@[simp] theorem strap_with_tensor (s : State) (x) : strap { s with tensor := x } = strap s := rfl
@[simp] theorem strap_with_aon (s : State) (x) : strap { s with aon := x } = strap s := rfl
@[simp] theorem strap_with_cls (s : State) (x) : strap { s with cls := x } = strap s := rfl
@[simp] theorem strap_with_keys (s : State) (x) : strap { s with keys := x } = strap s := rfl
@[simp] theorem strap_with_keysLost (s : State) (x) : strap { s with keysLost := x } = strap s := rfl
@[simp] theorem strap_with_vault (s : State) (x) : strap { s with vault := x } = strap s := rfl
@[simp] theorem strap_with_memory (s : State) (x) : strap { s with memory := x } = strap s := rfl
theorem EventsOnly.strap {s t : State} (h : EventsOnly s t) : strap t = strap s := by
  obtain ⟨⟨o, q, f, rfl⟩, -⟩ := h
  exact strap_congr rfl
theorem ReportsOnly.strap {s t : State} (h : ReportsOnly s t) : strap t = strap s := by
  obtain ⟨⟨o, q, f, r, d, c, e, rfl⟩, -, -⟩ := h
  exact strap_congr rfl

/-! ### Machine/Ops -/

@[simp] theorem strap_freshState (s : State) : strap s.fresh_ = strap s := by simp [State.fresh_]
@[simp] theorem strap_send (s : State) (o) : strap (send s o) = strap s := by simp [send]
@[simp] theorem strap_advanceTo (s : State) (t) : strap (advanceTo s t) = strap s := by simp [advanceTo]
@[simp] theorem strap_drawBytes (s : State) (n) : strap (drawBytes s n).2 = strap s := by simp [drawBytes]
@[simp] theorem strap_drawNat (s : State) : strap (drawNat s).2 = strap s := by simp [drawNat]
@[simp] theorem strap_setPart (s : State) (p f) : strap (setPart s p f) = strap s := by simp [setPart]
@[simp] theorem strap_setSlot (s : State) (p k f) : strap (setSlot s p k f) = strap s := by simp [setSlot]
@[simp] theorem strap_bumpBy (s : State) (ident inst width k) : strap (bumpBy s ident inst width k) = strap s := by
  simp [bumpBy]
@[simp] theorem strap_bump (s : State) (ident inst width) : strap (bump s ident inst width) = strap s := by simp [bump]
@[simp] theorem strap_clearCounter (s : State) (ident inst) : strap (clearCounter s ident inst) = strap s := by
  simp [clearCounter]
@[simp] theorem strap_setHost (s : State) (h f) : strap (setHost s h f) = strap s := by simp [setHost]
@[simp] theorem strap_setFn (s : State) (h fn f) : strap (setFn s h fn f) = strap s := by simp [setFn]
@[simp] theorem strap_sendMsix (s : State) (h n) : strap (sendMsix s h n) = strap s := (sendMsix_spec ..).strap
@[simp] theorem strap_raiseMsix (s : State) (p) : strap (raiseMsix s p) = strap s := (raiseMsix_spec ..).strap
@[simp] theorem strap_drain (s : State) (p) : strap (drain s p) = strap s := (drain_spec ..).strap
@[simp] theorem strap_postEvent (s : State) (p e) : strap (postEvent s p e) = strap s := (postEvent_spec ..).strap
@[simp] theorem strap_raiseAdmin (s : State) (code fault subject detail) :
    strap (raiseAdmin s code fault subject detail) = strap s :=
  (raiseAdmin_spec ..).strap
@[simp] theorem strap_raiseBoth (s : State) (p code fault detail) : strap (raiseBoth s p code fault detail) = strap s :=
  (raiseBoth_spec ..).strap
@[simp] theorem strap_twtEvent (s : State) (e) : strap (twtEvent s e) = strap s := (twtEvent_spec ..).strap
@[simp] theorem strap_raiseAon (s : State) (code fault detail) : strap (raiseAon s code fault detail) = strap s :=
  (raiseAon_spec ..).strap
@[simp] theorem strap_raiseVault (s : State) (code fault detail) : strap (raiseVault s code fault detail) = strap s := by
  simp [raiseVault]
@[simp] theorem strap_guard (s : State) : strap (guard s) = strap s := by
  obtain ⟨_, h⟩ := guard_spec s
  exact h.strap.trans (strap_with_faults ..)
@[simp] theorem strap_transient (s : State) (g i) : strap (transient s g i) = strap s := by
  obtain ⟨_, _, h⟩ := transient_spec s g i
  exact h.strap.trans (strap_congr rfl)
@[simp] theorem strap_fence (s : State) (g i) : strap (fence s g i) = strap s := by
  obtain ⟨_, _, h⟩ := fence_spec s g i
  rw [h, strap_with_faults]
@[simp] theorem strap_unfence (s : State) (group index) : strap (unfence s group index) = strap s := by simp [unfence]
@[simp] theorem strap_lastingFault (s : State) (group index) : strap (lastingFault s group index) = strap s := by
  simp [lastingFault]
@[simp] theorem strap_countHop (s : State) (st hop) : strap (countHop s st hop) = strap s := by
  obtain ⟨_, _, _, h⟩ := countHop_spec s st hop
  exact h.strap.trans (strap_congr rfl)
@[simp] theorem strap_decideWith (s : State) (p k a) : strap (decideWith s p k a) = strap s := by simp [decideWith]
@[simp] theorem strap_decideReturned (s : State) (p k st result first) :
    strap (decideReturned s p k st result first) = strap s := by
  simp [decideReturned]
@[simp] theorem strap_writeResponse (s : State) (p k bytes) : strap (writeResponse s p k bytes) = strap s := by
  simp [writeResponse]
@[simp] theorem strap_deliverNow (s : State) (p k e) : strap (deliverNow s p k e) = strap s := by simp [deliverNow]
@[simp] theorem strap_deliverFuel (f : Nat) (s : State) (p) : strap (deliverFuel f s p) = strap s := by
  induction f generalizing s with
  | zero => rfl
  | succ f ih =>
    unfold deliverFuel
    simp only
    repeat' split
    all_goals simp [ih]
@[simp] theorem strap_deliverWaiting (s : State) (p) : strap (deliverWaiting s p) = strap s := by simp [deliverWaiting]
@[simp] theorem strap_beginDelivery (s : State) (p k) : strap (beginDelivery s p k) = strap s := by simp [beginDelivery]
@[simp] theorem strap_accept (s : State) (p k) : strap (accept s p k) = strap s := by simp [accept]
@[simp] theorem strap_mapRunning (s : State) (test f) : strap (mapRunning s test f) = strap s := by simp [mapRunning]
@[simp] theorem strap_endSlot (s : State) (p k a) : strap (endSlot s p k a) = strap s := by
  unfold endSlot
  split <;> simp
@[simp] theorem strap_dropSlot (s : State) (p k) : strap (dropSlot s p k) = strap s := by simp [dropSlot]

/-! ### Machine/Operands -/

@[simp] theorem strap_twtAnswer (s : State) (st result) : strap (twtAnswer s st result) = strap s := by
  unfold twtAnswer
  split <;> simp
@[simp] theorem strap_finish (s : State) (c a) : strap (finish s c a) = strap s := by simp [finish]
@[simp] theorem strap_finishOrigin (s : State) (o a) : strap (finishOrigin s o a) = strap s := by
  unfold finishOrigin
  split <;> simp
@[simp] theorem strap_refuse (s : State) (c reason) : strap (refuse s c reason) = strap s := by simp [refuse]
@[simp] theorem strap_turnAway (s : State) (c ch st result) : strap (turnAway s c ch st result) = strap s := by
  unfold turnAway
  split <;> simp
@[simp] theorem strap_turnBack (s : State) (c ch st) : strap (turnBack s c ch st) = strap s := by simp [turnBack]
@[simp] theorem strap_runOp (op : Nat) (o : Origin) (s : State) (bop chk) (eff : State → Ctx → State)
    (h : ∀ s c, strap (eff s c) = strap s) :
    strap (runOp op o s bop chk eff) = strap s := by
  rcases runOp_cases op o s bop chk eff with e | ⟨c, -, -, ⟨-, e⟩ | ⟨st, ch, e⟩⟩ <;> rw [e] <;> simp [h]
@[simp] theorem strap_markBegun (s : State) (o) : strap (markBegun s o) = strap s := by
  unfold markBegun
  simp only
  repeat' split
  all_goals simp
@[simp] theorem strap_runOnce (op : Nat) (o : Origin) (s : State) (bop chk) (eff : State → Ctx → State)
    (h : ∀ s c, strap (eff s c) = strap s) :
    strap (runOnce op o s bop chk eff) = strap s := by
  unfold runOnce
  split <;> simp [h]
@[simp] theorem strap_nextGeneration (s : State) (kind index) : strap (nextGeneration s kind index) = strap s := by
  simp [nextGeneration]
@[simp] theorem strap_regionWrite (s : State) (r off bs) : strap (regionWrite s r off bs) = strap s := rfl
@[simp] theorem strap_writeDesc (s : State) (p d bs) : strap (writeDesc s p d bs) = strap s := by
  unfold writeDesc
  repeat' split
  all_goals simp

/-! ### Machine/Buses -/

@[simp] theorem strap_setBus (s : State) (b f) : strap (setBus s b f) = strap s := by simp [setBus]
@[simp] theorem strap_markTargetAbsent (s : State) (b addr) : strap (markTargetAbsent s b addr) = strap s := by
  simp [markTargetAbsent]
@[simp] theorem strap_ownTraffic (s : State) (b addr answered) : strap (ownTraffic s b addr answered).2 = strap s := by
  unfold ownTraffic
  repeat' split
  all_goals simp

/-! ### Machine/Kt -/

@[simp] theorem strap_setTensor (s : State) (f) : strap (setTensor s f) = strap s := by simp [setTensor]
@[simp] theorem strap_setAon (s : State) (f) : strap (setAon s f) = strap s := by simp [setAon]
@[simp] theorem strap_setRail (s : State) (v f) : strap (setRail s v f) = strap s := by simp [setRail]
@[simp] theorem strap_writeSetpoint (s : State) (old) : strap (writeSetpoint s old) = strap s := by
  unfold writeSetpoint
  split <;> simp
@[simp] theorem strap_retune (s : State) : strap (retune s) = strap s := by simp [retune]
@[simp] theorem strap_requestPoint (s : State) (p) : strap (requestPoint s p) = strap s := by simp [requestPoint]
@[simp] theorem strap_setCeiling (s : State) (c) : strap (setCeiling s c) = strap s := by simp [setCeiling]
@[simp] theorem strap_ktSwitch (s : State) : strap (ktSwitch s) = strap s := by
  unfold ktSwitch
  simp only
  repeat' split
  all_goals simp
@[simp] theorem strap_setpointPowerGood (s : State) (v) : strap (setpointPowerGood s v) = strap s := by
  unfold setpointPowerGood
  simp only
  repeat' split
  all_goals simp
@[simp] theorem leaves_strap_execKtLimitSet (o) (s : State) : Leaves strap s (execKtLimitSet o s) :=
  (leaves_next ..).mpr (strap_runOp _ _ _ _ _ _ fun s c => by
    simp only [strap_finish, strap_ite, strap_requestPoint, strap_retune, strap_setTensor, ite_self])

/-! ### Machine/Staging -/

@[simp] theorem strap_setVault (s : State) (f) : strap (setVault s f) = strap s := rfl
@[simp] theorem strap_stage (s : State) (kind source detail waiter) :
    strap (stage s kind source detail waiter) = strap s := by
  simp [stage]
@[simp] theorem strap_answerWaiter (s : State) (w number) : strap (answerWaiter s w number) = strap s := by
  unfold answerWaiter
  split <;> simp
@[simp] theorem strap_verifyFrom (s : State) (n prev l) : strap (verifyFrom s n prev l) = strap s := by
  induction l generalizing s n prev with
  | nil => rfl
  | cons e l ih => simp [verifyFrom, ih]
@[simp] theorem strap_verifyLedger (s : State) : strap (verifyLedger s) = strap s := by simp [verifyLedger]

/-! ### Machine/Shutdown -/

@[simp] theorem strap_setBoot (s : State) (f : Boot → Boot) (h : ∀ b, (f b).vaon = b.vaon)
    (g : ∀ b, (f b).twtStraps = b.twtStraps) : strap (setBoot s f) = strap s := by
  rw [strap, setBoot_boot, h, g, strap]
@[simp] theorem strap_dropMailboxWork (s : State) : strap (dropMailboxWork s) = strap s := by
  simp [strap, dropMailboxWork]
@[simp] theorem strap_cutUpdate (s : State) : strap (cutUpdate s) = strap s := by
  unfold cutUpdate
  split <;> simp
@[simp] theorem strap_stopMain (s : State) : strap (stopMain s) = strap s := by
  unfold stopMain
  split
  · simp
  · change strap (cutUpdate _) = _
    simp

/-! ### Machine/MainStart -/

@[simp] theorem strap_createAdministrator (s : State) : strap (createAdministrator s) = strap s := by
  simp [createAdministrator]
@[simp] theorem strap_startHosts (s : State) : strap (startHosts s) = strap s := by simp [startHosts]

/-! ### Machine/Homing -/

@[simp] theorem strap_setAxis (s : State) (i f) : strap (setAxis s i f) = strap s := by simp [setAxis]
@[simp] theorem strap_startHoming (s : State) (i fromFault release) :
    strap (startHoming s i fromFault release) = strap s := by
  simp [startHoming]
@[simp] theorem strap_driverGood (s : State) (v) : strap (driverGood s v) = strap s := by simp [driverGood]
@[simp] theorem strap_startAxes (s : State) : strap (startAxes s) = strap s := by simp [startAxes]
@[simp] theorem strap_homeIfReady (s : State) (i) : strap (homeIfReady s i) = strap s := by simp [homeIfReady]

/-! ### Machine/Power -/

@[simp] theorem strap_setSeq (s : State) (f) : strap (setSeq s f) = strap s := by simp [setSeq]
@[simp] theorem strap_writeSnapshot (s : State) (cause) : strap (writeSnapshot s cause) = strap s := by
  simp [writeSnapshot]
@[simp] theorem strap_releaseRail (s : State) (v) : strap (releaseRail s v) = strap s := by simp [releaseRail]
@[simp] theorem strap_enableRail (s : State) (v) : strap (enableRail s v) = strap s := by simp [enableRail]
@[simp] theorem strap_releaseStep (s : State) (i) : strap (releaseStep s i) = strap s := by
  simp [releaseStep]
@[simp] theorem strap_fenceRail (s : State) (v) : strap (fenceRail s v) = strap s := by simp [fenceRail]
@[simp] theorem strap_startSequence (s : State) (state attempt) : strap (startSequence s state attempt) = strap s := by
  simp [startSequence]
@[simp] theorem strap_endProof (s : State) (ok) : strap (endProof s ok) = strap s := by
  unfold endProof
  split <;> simp
@[simp] theorem strap_endDown (s : State) (goal) : strap (endDown s goal) = strap s := by
  unfold endDown
  split <;> simp
@[simp] theorem strap_downNext (s : State) : strap (downNext s) = strap s := by
  unfold downNext
  split <;> simp
@[simp] theorem strap_abandonCalibration (s : State) : strap (abandonCalibration s) = strap s := by
  unfold abandonCalibration
  simp only
  repeat' split
  all_goals simp
@[simp] theorem strap_endRuns (s : State) (st) : strap (endRuns s st) = strap s := by
  unfold endRuns
  refine strap_foldl _ _ _ fun s x => ?_
  simp only
  repeat' split
  all_goals simp
@[simp] theorem strap_powerDown (s : State) (goal) : strap (powerDown s goal) = strap s := by
  simp [powerDown]
@[simp] theorem strap_sequenceTimeout (s : State) : strap (sequenceTimeout s) = strap s := by
  unfold sequenceTimeout
  simp only
  repeat' split
  all_goals simp
@[simp] theorem strap_setRun (s : State) (v r) : strap (setRun s v r) = strap s := by simp [setRun]
@[simp] theorem strap_startRail (s : State) (v purpose attempt o) : strap (startRail s v purpose attempt o) = strap s := by
  simp [startRail]
@[simp] theorem strap_railUp (s : State) (v r) : strap (railUp s v r) = strap s := by
  unfold railUp
  simp only
  repeat' split
  all_goals simp
@[simp] theorem strap_railDown (s : State) (v r) : strap (railDown s v r) = strap s := by
  unfold railDown
  simp only
  repeat' split
  all_goals simp
@[simp] theorem strap_setpointAbsent (s : State) (st absent) : strap (setpointAbsent s st absent).2 = strap s := by
  unfold setpointAbsent
  split <;> simp
@[simp] theorem strap_goodTimeout (s : State) (i) : strap (goodTimeout s i) = strap s := by
  unfold goodTimeout
  simp only
  repeat' split
  all_goals simp
@[simp] theorem strap_downExpiry (s : State) (i) : strap (downExpiry s i) = strap s := by
  unfold downExpiry
  simp only
  repeat' split
  all_goals simp
@[simp] theorem strap_offTimeExpiry (s : State) (x) : strap (offTimeExpiry s x) = strap s := by
  unfold offTimeExpiry
  repeat' split
  all_goals simp
@[simp] theorem strap_provingExpiry (s : State) (v) : strap (provingExpiry s v) = strap s := by
  unfold provingExpiry
  simp only
  split <;> simp
@[simp] theorem leaves_strap_execRailProvingExpiry (rail) (s : State) : Leaves strap s (execRailProvingExpiry rail s) := by
  unfold execRailProvingExpiry
  split <;> simp
@[simp] theorem strap_railFault (s : State) (v check) : strap (railFault s v check) = strap s := by
  unfold railFault
  simp only
  split
  · simp
  · split <;> simp
@[simp] theorem strap_judge (s : State) (v channel mv) : strap (judge s v channel mv) = strap s := by
  simp [judge]
@[simp] theorem strap_operatingCondition (s : State) (quantity index outside) :
    strap (operatingCondition s quantity index outside) = strap s := by
  simp [operatingCondition]
@[simp] theorem strap_judgeRange (s : State) (v mv) : strap (judgeRange s v mv) = strap s := by simp [judgeRange]
@[simp] theorem strap_windowScan (s : State) (a b vinA vinB vaon) :
    strap (windowScan s a b vinA vinB vaon) = strap s := by
  simp [windowScan]
@[simp] theorem strap_fenceChannel (s : State) (sensor channel) : strap (fenceChannel s sensor channel) = strap s := by
  simp [fenceChannel]
@[simp] theorem leaves_strap_execPmbusReadPoll (rail mv current) (s : State) :
    Leaves strap s (execPmbusReadPoll rail mv current s) := by
  unfold execPmbusReadPoll
  simp only
  repeat' split
  all_goals simp
@[simp] theorem strap_disagreement (s : State) (sensor failA failB) :
    strap (disagreement s sensor failA failB) = strap s := by
  simp [disagreement]
@[simp] theorem strap_dropRuns (s : State) : strap (dropRuns s) = strap s := by simp [dropRuns]
@[simp] theorem strap_releaseAll (s : State) : strap (releaseAll s) = strap s := by simp [releaseAll]
@[simp] theorem strap_collapse (s : State) : strap (collapse s) = strap s := by simp [collapse]
@[simp] theorem strap_qualified (s : State) : strap (qualified s) = strap s := by
  unfold qualified
  simp only
  repeat' split
  all_goals simp
@[simp] theorem leaves_strap_execCollapseWindowExpiry (s : State) : Leaves strap s (execCollapseWindowExpiry s) := by
  unfold execCollapseWindowExpiry
  simp only
  split <;> simp
@[simp] theorem strap_railSwitchEffect (o) (s : State) (c) : strap (railSwitchEffect o s c) = strap s := by
  simp [railSwitchEffect]
@[simp] theorem strap_railFenceReleaseEffect (o) (s : State) (c) : strap (railFenceReleaseEffect o s c) = strap s := by
  simp [railFenceReleaseEffect]
@[simp] theorem strap_powerRequest (o code due goal) (s : State) :
    strap (powerRequest o code due goal s) = strap s := by
  unfold powerRequest
  simp only
  repeat' split
  all_goals simp
@[simp] theorem strap_snapshotReadEffect (s : State) (c) : strap (snapshotReadEffect s c) = strap s := by
  simp [snapshotReadEffect]

/-! ### Machine/Fans -/

@[simp] theorem strap_setFan (s : State) (i f) : strap (setFan s i f) = strap s := by simp [setFan]
@[simp] theorem strap_updateCeiling (s : State) : strap (updateCeiling s) = strap s := by simp [updateCeiling]
@[simp] theorem strap_startSpin (s : State) (i st) : strap (startSpin s i st) = strap s := by simp [startSpin]
@[simp] theorem strap_updateFans (s : State) : strap (updateFans s) = strap s := by simp [updateFans]
@[simp] theorem strap_startFans (s : State) : strap (startFans s) = strap s := by simp [startFans]
@[simp] theorem strap_spinPassed (s : State) (i) : strap (spinPassed s i) = strap s := by simp [spinPassed]
@[simp] theorem strap_spinFailed (s : State) (i noPulse) : strap (spinFailed s i noPulse) = strap s := by simp [spinFailed]
@[simp] theorem strap_spinCheck (s : State) (i final) : strap (spinCheck s i final) = strap s := by simp [spinCheck]
@[simp] theorem strap_tachPulse (s : State) (i rpm) : strap (tachPulse s i rpm) = strap s := by simp [tachPulse]
@[simp] theorem strap_tachLost (s : State) (i) : strap (tachLost s i) = strap s := by simp [tachLost]
@[simp] theorem strap_tachRestored (s : State) (i) : strap (tachRestored s i) = strap s := by
  unfold tachRestored
  simp only
  repeat' split
  all_goals simp

/-! ### Machine/Axes -/

@[simp] theorem strap_judgeMove (s : State) (i) : strap (judgeMove s i) = strap s := by
  unfold judgeMove
  simp only
  split <;> simp
@[simp] theorem strap_retarget (s : State) (i t) : strap (retarget s i t) = strap s := by simp [retarget]
@[simp] theorem strap_planRetarget (s : State) (i) : strap (planRetarget s i) = strap s := by
  unfold planRetarget
  repeat' split
  all_goals simp
@[simp] theorem strap_endRelease (s : State) (i st) : strap (endRelease s i st) = strap s := by
  unfold endRelease
  split <;> simp
@[simp] theorem strap_fenceAxis (s : State) (i cause) : strap (fenceAxis s i cause) = strap s := by simp [fenceAxis]
@[simp] theorem strap_axisFault (s : State) (i kind) : strap (axisFault s i kind) = strap s := by simp [axisFault]
@[simp] theorem strap_feedback (s : State) (i sin cos angle) : strap (feedback s i sin cos angle) = strap s := by
  simp [feedback]
@[simp] theorem strap_trajectory (s : State) (i pos vel acc) : strap (trajectory s i pos vel acc) = strap s := by
  simp [trajectory]
@[simp] theorem strap_referenceMark (s : State) (i sin cos angle) : strap (referenceMark s i sin cos angle) = strap s := by
  simp [referenceMark]
@[simp] theorem strap_faultRecovery (s : State) (i) : strap (faultRecovery s i) = strap s := by
  unfold faultRecovery
  simp only
  repeat' split
  all_goals simp

/-! ### Machine/Queues -/

@[simp] theorem strap_setPort (s : State) (n f) : strap (setPort s n f) = strap s := by simp [setPort]
@[simp] theorem strap_setQueue (s : State) (cls n f) : strap (setQueue s cls n f) = strap s := by simp [setQueue]
@[simp] theorem strap_setDomain (s : State) (d f) : strap (setDomain s d f) = strap s := by simp [setDomain]
@[simp] theorem strap_takeCredit (s : State) (cls n) : strap (takeCredit s cls n) = strap s := by simp [takeCredit]
@[simp] theorem strap_freeEntries (s : State) (cls n k) : strap (freeEntries s cls n k) = strap s := by simp [freeEntries]
@[simp] theorem strap_noteStall (s : State) (cls n) : strap (noteStall s cls n) = strap s := by simp [noteStall]
@[simp] theorem strap_endStall (s : State) (cls n) : strap (endStall s cls n) = strap s := by
  unfold endStall
  simp only
  split <;> simp
@[simp] theorem strap_crossQueue (s : State) (cls n) : strap (crossQueue s cls n) = strap s := by
  obtain ⟨_, h⟩ := crossQueue_spec s cls n
  rw [h, strap_with_queues]

/-! ### Machine/Links -/

@[simp] theorem strap_nextStream (s : State) (src dst p) : strap (nextStream s src dst p).2 = strap s := by
  simp [nextStream]
@[simp] theorem strap_sendControl (s : State) (n flags) : strap (sendControl s n flags) = strap s := by simp [sendControl]
@[simp] theorem strap_dataSlot (s : State) (n) : strap (dataSlot s n) = strap s := by simp [dataSlot]
@[simp] theorem strap_startAckTimer (s : State) (port content wb) : strap (startAckTimer s port content wb) = strap s := by
  simp [startAckTimer]
@[simp] theorem strap_transmit (s : State) (n content wb payload) : strap (transmit s n content wb payload) = strap s := by
  simp [transmit]
@[simp] theorem strap_sendLink (s : State) (n content wb payload) : strap (sendLink s n content wb payload) = strap s := by
  simp [sendLink]
@[simp] theorem strap_flushFuel (f : Nat) (s : State) (n) : strap (flushFuel f s n) = strap s := by
  induction f generalizing s with
  | zero => rfl
  | succ f ih =>
    unfold flushFuel
    simp only
    repeat' split
    all_goals simp [ih]
@[simp] theorem strap_flushWaiting (s : State) (n) : strap (flushWaiting s n) = strap s := by simp [flushWaiting]
@[simp] theorem strap_sendConvoyControl (s : State) (port kind n p generation count) :
    strap (sendConvoyControl s port kind n p generation count) = strap s := by
  simp [sendConvoyControl]
@[simp] theorem strap_countCarried (s : State) (n port) : strap (countCarried s n port) = strap s := by simp [countCarried]
@[simp] theorem strap_sendBulkFrom (src) (s : State) (port content p convoy cmd offset last payload) :
    strap (sendBulkFrom src s port content p convoy cmd offset last payload) = strap s := by
  unfold sendBulkFrom
  split <;> simp
@[simp] theorem strap_sendBulk (s : State) (port content p convoy cmd offset last payload) :
    strap (sendBulk s port content p convoy cmd offset last payload) = strap s := by
  simp [sendBulk]

/-! ### Machine/Convoys -/

@[simp] theorem strap_setConvoy (s : State) (n f) : strap (setConvoy s n f) = strap s := by simp [setConvoy]
@[simp] theorem strap_inConvoy (eff : State → Ctx → State) (s : State) (c : Ctx) (h : ∀ s c, strap (eff s c) = strap s) :
    strap (inConvoy eff s c) = strap s := by
  rcases inConvoy_cases eff s c with e | e | ⟨n, -, e⟩ <;> rw [e] <;> simp [h]
@[simp] theorem strap_openConvoy (s : State) (n p owner) : strap (openConvoy s n p owner) = strap s := by simp [openConvoy]
@[simp] theorem strap_sealConvoy (s : State) (n) : strap (sealConvoy s n) = strap s := by simp [sealConvoy]
@[simp] theorem strap_startSweeps (s : State) (n cancelled) : strap (startSweeps s n cancelled) = strap s := by
  simp [startSweeps]
@[simp] theorem strap_crossTo (s : State) (key dst) : strap (crossTo s key dst) = strap s := by
  unfold crossTo
  split <;> simp
@[simp] theorem strap_parcelOut (s : State) (bs) : strap (parcelOut s bs) = strap s := by simp [parcelOut]
@[simp] theorem strap_releaseHeld (s : State) (e) : strap (releaseHeld s e) = strap s := by simp [releaseHeld]
@[simp] theorem strap_applySignals (s : State) (n) (signal : State → Nat → Nat → Nat → State)
    (h : ∀ s a b c, strap (signal s a b c) = strap s) : strap (applySignals s n signal) = strap s := by
  simp [applySignals, h]
@[simp] theorem strap_confirmConvoy (s : State) (n) (signal : State → Nat → Nat → Nat → State)
    (h : ∀ s a b c, strap (signal s a b c) = strap s) : strap (confirmConvoy s n signal) = strap s := by
  unfold confirmConvoy
  simp only
  split
  · rfl
  · rw [strap_applySignals _ _ _ h]
    repeat' split
    all_goals simp
@[simp] theorem strap_dropWaitingParcels (s : State) (n generation) :
    strap (dropWaitingParcels s n generation) = strap s := by
  simp [dropWaitingParcels]
@[simp] theorem strap_cancelConvoy (s : State) (n cause resource) : strap (cancelConvoy s n cause resource) = strap s := by
  unfold cancelConvoy
  simp only
  repeat' split
  all_goals simp
@[simp] theorem strap_cancelWhere (s : State) (f cause resource) : strap (cancelWhere s f cause resource).2 = strap s := by
  simp [cancelWhere]
@[simp] theorem strap_forgetPortAcks (s : State) (port) : strap (forgetPortAcks s port) = strap s := by
  simp [forgetPortAcks]

/-! ### Machine/Sync -/

@[simp] theorem strap_setSync (s : State) (i o) : strap (setSync s i o) = strap s := by simp [setSync]
@[simp] theorem strap_releaseWaiter (s : State) (w st counter) : strap (releaseWaiter s w st counter) = strap s := by
  simp [releaseWaiter]
@[simp] theorem strap_syncAdd (s : State) (i value) : strap (syncAdd s i value) = strap s := by
  unfold syncAdd
  split <;> simp
@[simp] theorem strap_discardSignal (s : State) (port reason handle) :
    strap (discardSignal s port reason handle) = strap s := by
  simp [discardSignal]
@[simp] theorem strap_applySignal (s : State) (handle value source) :
    strap (applySignal s handle value source) = strap s := by
  unfold applySignal
  split <;> simp
@[simp] theorem strap_dropWaiters (s : State) (i st) : strap (dropWaiters s i st) = strap s := by
  unfold dropWaiters
  split <;> simp
@[simp] theorem strap_forgetWaiter (s : State) (w) : strap (forgetWaiter s w) = strap s := by simp [forgetWaiter]
@[simp] theorem strap_markAbsent (s : State) (port) : strap (markAbsent s port) = strap s := by simp [markAbsent]
@[simp] theorem strap_clearAbsent (s : State) (port) : strap (clearAbsent s port) = strap s := by simp [clearAbsent]
@[simp] theorem strap_syncCreateEffect (s : State) (c) : strap (syncCreateEffect s c) = strap s := by
  unfold syncCreateEffect
  split <;> simp
@[simp] theorem strap_syncDestroyEffect (s : State) (c) : strap (syncDestroyEffect s c) = strap s := by
  simp [syncDestroyEffect]
@[simp] theorem strap_syncSignalEffect (s : State) (c) : strap (syncSignalEffect s c) = strap s := by
  simp [syncSignalEffect]
@[simp] theorem strap_syncWaitEffect (s : State) (c) : strap (syncWaitEffect s c) = strap s := by
  unfold syncWaitEffect
  simp only
  split <;> simp
@[simp] theorem strap_syncReadEffect (s : State) (c) : strap (syncReadEffect s c) = strap s := by
  unfold syncReadEffect
  split <;> simp
@[simp] theorem strap_syncBindEffect (s : State) (c) : strap (syncBindEffect s c) = strap s := by
  unfold syncBindEffect
  split <;> simp
@[simp] theorem strap_syncSignalParcel (s : State) (port payload cv) :
    strap (syncSignalParcel s port payload cv) = strap s := by
  unfold syncSignalParcel
  simp only
  repeat' split
  all_goals simp

/-! ### Machine/NodeMemory -/

@[simp] theorem strap_setMemory (s : State) (f) : strap (setMemory s f) = strap s := rfl
@[simp] theorem strap_setGranule (s : State) (g f) : strap (setGranule s g f) = strap s := by simp [setGranule]
@[simp] theorem strap_regionAllocateEffect (s : State) (c) : strap (regionAllocateEffect s c) = strap s := by
  unfold regionAllocateEffect
  split <;> simp
@[simp] theorem strap_startClearing (s : State) (gs) : strap (startClearing s gs) = strap s := by simp [startClearing]
@[simp] theorem strap_regionFreeEffect (s : State) (c) : strap (regionFreeEffect s c) = strap s := by
  unfold regionFreeEffect
  split <;> simp
@[simp] theorem strap_startRetirement (s : State) (g lost) : strap (startRetirement s g lost) = strap s := by
  simp [startRetirement]
@[simp] theorem strap_wordRead (s : State) (line word found) : strap (wordRead s line word found) = strap s := by
  unfold wordRead
  split <;> simp
@[simp] theorem strap_onWord (hit : State → Ctx → Nat → Bool) (word) (eff : State → Ctx → State) (s : State) (c : Ctx)
    (h : ∀ s c, strap (eff s c) = strap s) :
    strap (onWord hit word eff s c) = strap s := by
  unfold onWord
  repeat' split
  all_goals simp [h]
@[simp] theorem strap_memoryTransferEffect (hostData) (s : State) (c) :
    strap (memoryTransferEffect hostData s c) = strap s := by
  unfold memoryTransferEffect
  simp only
  repeat' split
  all_goals simp
@[simp] theorem leaves_strap_execMemoryTransfer (o hostData) (s : State) :
    Leaves strap s (execMemoryTransfer o hostData s) :=
  (leaves_next ..).mpr (strap_runOp _ _ _ _ _ _ fun _ _ => strap_inConvoy _ _ _ fun _ _ =>
    strap_onWord _ _ _ _ _ (strap_memoryTransferEffect _))
@[simp] theorem strap_damageModel (s : State) (key cause) : strap (damageModel s key cause) = strap s := by
  unfold damageModel
  split <;> simp
@[simp] theorem strap_scrubRead (s : State) (u found) : strap (scrubRead s u found) = strap s := by
  unfold scrubRead
  simp only
  split
  · simp
  · split
    · rw [strap_guard, strap_with_faults]
      simp
    · simp
@[simp] theorem strap_copyGranule (s : State) (g r) : strap (copyGranule s g r) = strap s :=
  strap_setMemory ..
@[simp] theorem strap_replaceGranule (s : State) (g r) : strap (replaceGranule s g r) = strap s := by simp [replaceGranule]
@[simp] theorem strap_loseGranule (s : State) (g) : strap (loseGranule s g) = strap s := by
  unfold loseGranule
  simp only
  repeat' split
  all_goals simp
@[simp] theorem strap_retirementEnd (s : State) (g) : strap (retirementEnd s g) = strap s := by
  unfold retirementEnd
  simp only
  repeat' split
  all_goals simp
@[simp] theorem strap_sweepEnd (s : State) (u) : strap (sweepEnd s u) = strap s := by
  unfold sweepEnd
  simp only
  split <;> simp

/-! ### Machine/Slots -/

@[simp] theorem strap_countBlocks (s : State) (e blocks) : strap (countBlocks s e blocks) = strap s := by
  simp [countBlocks]
@[simp] theorem strap_setNet (s : State) (j f) : strap (setNet s j f) = strap s := by simp [setNet]
@[simp] theorem strap_flowControl (s : State) (j priority) : strap (flowControl s j priority) = strap s := by
  simp [flowControl]
@[simp] theorem strap_releaseBuffer (s : State) (j size) : strap (releaseBuffer s j size) = strap s := by
  simp [releaseBuffer]
@[simp] theorem strap_dropFrame (s : State) (j cause) : strap (dropFrame s j cause) = strap s := by simp [dropFrame]
theorem strap_macsecOpen {s t : State} {j f b} (h : macsecOpen s j f = some (b, t)) : strap t = strap s := by
  unfold macsecOpen at h
  simp only at h
  repeat' split at h
  all_goals cases h
  all_goals simp
theorem strap_macsecSeal {s t : State} {j f b} (h : macsecSeal s j f = some (b, t)) : strap t = strap s := by
  unfold macsecSeal at h
  repeat' split at h
  all_goals cases h
  all_goals simp
@[simp] theorem strap_transmit_ (s : State) (j o f) : strap (transmit_ s j o f) = strap s := by
  unfold transmit_
  split
  · simp
  · next h => simp [strap_macsecSeal h]
@[simp] theorem strap_networkDown (s : State) (j) : strap (networkDown s j) = strap s := by simp [networkDown]
@[simp] theorem strap_fenceMacsec (s : State) (j) : strap (fenceMacsec s j) = strap s := by simp [fenceMacsec]
@[simp] theorem strap_macsecMismatch (s : State) (j again) : strap (macsecMismatch s j again) = strap s := by
  simp [macsecMismatch]
@[simp] theorem strap_flushTx (s : State) (j) : strap (flushTx s j) = strap s := by simp [flushTx]
@[simp] theorem strap_gateFrame (s : State) (j o f) : strap (gateFrame s j o f) = strap s := by simp [gateFrame]
@[simp] theorem strap_pausePriority (s : State) (j priority quanta) :
    strap (pausePriority s j priority quanta) = strap s := by
  simp [pausePriority]

/-! ### Machine/Keys -/

@[simp] theorem strap_installKey (s : State) (index owner kind usage key) :
    strap (installKey s index owner kind usage key) = strap s := by
  simp [installKey]
@[simp] theorem strap_withUnwrapped (s : State) (c kind wrapped) (f : State → List Byte → State)
    (h : ∀ s k, strap (f s k) = strap s) :
    strap (withUnwrapped s c kind wrapped f) = strap s := by
  unfold withUnwrapped
  split <;> simp [h]
@[simp] theorem strap_installEffect (s : State) (c p kind usage key) :
    strap (installEffect s c p kind usage key) = strap s := by
  unfold installEffect
  split <;> simp
@[simp] theorem strap_drawKey (s : State) (kind) : strap (drawKey s kind).2 = strap s := by simp [drawKey]
@[simp] theorem strap_replaceEffect (s : State) (c owner kind usage key) :
    strap (replaceEffect s c owner kind usage key) = strap s := by
  simp [replaceEffect]
@[simp] theorem strap_keyReplaceEffect (s : State) (c) : strap (keyReplaceEffect s c) = strap s := by
  unfold keyReplaceEffect
  split <;> simp
@[simp] theorem leaves_strap_execKeyQuery (o) (s : State) : Leaves strap s (execKeyQuery o s) :=
  (leaves_next ..).mpr (strap_runOp _ _ _ _ _ _ fun s c => by split <;> simp)
@[simp] theorem strap_loseKeySlot (s : State) (i) : strap (loseKeySlot s i) = strap s := by
  unfold loseKeySlot
  split
  · rfl
  · rw [strap_raiseBoth]
    exact strap_congr rfl
@[simp] theorem strap_engineMismatch (s : State) (e again) : strap (engineMismatch s e again) = strap s := by
  simp [engineMismatch]
@[simp] theorem strap_cipherEffect (aadHost inputHost fault) (s : State) (c) :
    strap (cipherEffect aadHost inputHost fault s c) = strap s := by
  unfold cipherEffect
  extract_lets mode src aadDesc out meets meetsAad meetsOut
  clear_value meets meetsAad meetsOut
  split
  · simp
  · rfl
  · simp
  · simp
  · split
    · rfl
    · simp
    · split
      · rfl
      · simp
      · extract_lets attempted input aad blocks counted marked
        have marked_eq : strap marked = strap s := by
          simp only [marked, counted, attempted]
          repeat' split
          all_goals simp
        clear_value marked
        split <;> simp [marked_eq]
@[simp] theorem leaves_strap_execCipherOperation (o aad input fault) (s : State) :
    Leaves strap s (execCipherOperation o aad input fault s) :=
  (leaves_next ..).mpr (strap_runOp _ _ _ _ _ _ fun _ _ => strap_inConvoy _ _ _ fun _ _ =>
    strap_onWord _ _ _ _ _ (strap_cipherEffect _ _ _))
@[simp] theorem strap_withTransport (s : State) : strap (withTransport s) = strap s := by
  unfold withTransport
  split <;> rfl
@[simp] theorem strap_leafSignature (s : State) (msg) : strap (leafSignature s msg).2 = strap s := by simp [leafSignature]
@[simp] theorem strap_akekEffect (host) (s : State) (c) : strap (akekEffect host s c) = strap s := by simp [akekEffect]
@[simp] theorem strap_installReceiptKey (s : State) (p key) : strap (installReceiptKey s p key) = strap s := by
  simp [installReceiptKey]
@[simp] theorem strap_receiptKeyEffect (s : State) (c) : strap (receiptKeyEffect s c) = strap s := by
  unfold receiptKeyEffect
  split <;> simp
@[simp] theorem strap_cipherZeroise (s : State) : strap (cipherZeroise s) = strap s := by
  unfold cipherZeroise
  rw [strap_raiseAdmin]
  change strap (List.foldl _ _ _) = _
  simp

/-! ### Machine/Vault -/

@[simp] theorem strap_tellValidity (before : State) (s : State) : strap (tellValidity before s) = strap s := by
  simp [tellValidity]
@[simp] theorem strap_capture (s : State) (ch dir) : strap (capture s ch dir) = strap s := by simp [capture]
@[simp] theorem strap_vaultReset (s : State) (vaonValid) : strap (vaultReset s vaonValid) = strap s := by
  unfold vaultReset
  simp only
  split
  · simp
  · rw [strap_stage, strap_raiseVault, strap_setVault, strap_with_domains, strap_freshState]
@[simp] theorem strap_supplySwitched (s : State) (toVbat) : strap (supplySwitched s toVbat) = strap s := by
  simp [supplySwitched]
@[simp] theorem leaves_strap_execVaonReturn (above) (s : State) : Leaves strap s (execVaonReturn above s) := by
  unfold execVaonReturn
  simp only
  split <;> simp
@[simp] theorem leaves_strap_execVaultReturnToMain (s : State) : Leaves strap s (execVaultReturnToMain s) := by
  unfold execVaultReturnToMain
  simp only
  split <;> simp
@[simp] theorem strap_fireAlarm (s : State) (i) : strap (fireAlarm s i) = strap s := by simp [fireAlarm]
@[simp] theorem strap_fireAlarms (s : State) (from_ upTo) : strap (fireAlarms s from_ upTo) = strap s := by
  simp [fireAlarms]
@[simp] theorem strap_countSecond (s : State) : strap (countSecond s) = strap s := by simp [countSecond]
@[simp] theorem strap_discipline (s : State) (gain) : strap (discipline s gain) = strap s := by simp [discipline]
@[simp] theorem strap_trimInterval (s : State) : strap (trimInterval s) = strap s := by simp [trimInterval]
@[simp] theorem strap_setTime (s : State) (seconds ticks) : strap (setTime s seconds ticks) = strap s := by simp [setTime]

/-! ### Machine/Tamper -/

@[simp] theorem strap_setSource (s : State) (i f) : strap (setSource s i f) = strap s := by simp [setSource]
@[simp] theorem strap_fenceDetector (s : State) (d) : strap (fenceDetector s d) = strap s := by simp [fenceDetector]
@[simp] theorem strap_exerciseResult (s : State) (i result) : strap (exerciseResult s i result) = strap s := by
  simp [exerciseResult]
@[simp] theorem strap_abortUpdate (s : State) : strap (abortUpdate s) = strap s := by
  unfold abortUpdate
  split
  · rfl
  · rw [strap_endSlot, strap_stage, strap_raiseAon, strap_send, strap_setBoot]
    all_goals exact fun _ => rfl
@[simp] theorem strap_zeroiseKeyStore (s : State) : strap (zeroiseKeyStore s) = strap s := by simp [zeroiseKeyStore]
@[simp] theorem strap_tamper (s : State) (i kind src detail) : strap (tamper s i kind src detail) = strap s := by
  simp [tamper]
@[simp] theorem strap_samplePair (s : State) (i diff) : strap (samplePair s i diff) = strap s := by simp [samplePair]
@[simp] theorem strap_sampleDetector (s : State) (d side other t) : strap (sampleDetector s d side other t) = strap s := by
  simp [sampleDetector]
@[simp] theorem strap_sample (s : State) (a t diffs failA failB) : strap (sample s a t diffs failA failB) = strap s := by
  simp [sample]
@[simp] theorem strap_storeArming (s : State) : strap (storeArming s) = strap s := by simp [storeArming]
@[simp] theorem strap_armingEffect (s : State) (c) : strap (armingEffect s c) = strap s := by simp [armingEffect]
@[simp] theorem strap_selfTest (s : State) (mask passed) : strap (selfTest s mask passed) = strap s := by simp [selfTest]
@[simp] theorem strap_acknowledge (s : State) : strap (acknowledge s) = strap s := by simp [acknowledge]

/-! ### Machine/Thermal -/

@[simp] theorem leaves_strap_execBoardSensorRead (sensor reading) (s : State) :
    Leaves strap s (execBoardSensorRead sensor reading s) := by
  unfold execBoardSensorRead
  simp only
  repeat' split
  all_goals simp
@[simp] theorem strap_evaluateZone (s : State) (z) : strap (evaluateZone s z) = strap s := by simp [evaluateZone]
@[simp] theorem strap_evaluateAirflow (s : State) : strap (evaluateAirflow s) = strap s := by simp [evaluateAirflow]
@[simp] theorem strap_evaluateCritical (s : State) : strap (evaluateCritical s) = strap s := by simp [evaluateCritical]
@[simp] theorem strap_evaluateShutdown (s : State) : strap (evaluateShutdown s) = strap s := by
  simp [evaluateShutdown]
@[simp] theorem strap_evaluatePlan (s : State) (dieA dieB) :
    strap (evaluatePlan s dieA dieB) = strap s := by
  simp [evaluatePlan]

/-! ### Machine/Calibration -/

@[simp] theorem strap_setCal (s : State) (f) : strap (setCal s f) = strap s := by simp [setCal]
@[simp] theorem strap_setCalRun (s : State) (f) : strap (setCalRun s f) = strap s := by simp [setCalRun]
@[simp] theorem strap_startFrontEnd (s : State) (i) : strap (startFrontEnd s i) = strap s := by simp [startFrontEnd]
@[simp] theorem strap_closeRun (s : State) (r) : strap (closeRun s r) = strap s := by
  unfold closeRun
  simp only
  split <;> simp
@[simp] theorem strap_settleAxes (f : Nat) (s : State) : strap (settleAxes f s) = strap s := by
  induction f generalizing s with
  | zero => rfl
  | succ f ih =>
    unfold settleAxes
    simp only
    repeat' split
    all_goals simp [ih]
@[simp] theorem strap_deferAxes (s : State) (mask) : strap (deferAxes s mask).1 = strap s := by
  unfold deferAxes
  simp only
  split
  · rfl
  · simp
@[simp] theorem strap_beginRun (s : State) (mask automatic o) : strap (beginRun s mask automatic o) = strap s := by
  simp [beginRun]
@[simp] theorem strap_pursueRuns (f : Nat) (s : State) : strap (pursueRuns f s) = strap s := by
  induction f generalizing s with
  | zero => rfl
  | succ f ih =>
    unfold pursueRuns
    simp only
    repeat' split
    all_goals simp [ih]
@[simp] theorem strap_pursue (s : State) : strap (pursue s) = strap s := by simp [pursue]
@[simp] theorem strap_startRun (s : State) (mask automatic o) : strap (startRun s mask automatic o) = strap s := by
  simp [startRun]
@[simp] theorem strap_writeCodes (s : State) (n m) : strap (writeCodes s n m) = strap s := by
  unfold writeCodes
  split <;> simp
@[simp] theorem strap_notePass (s : State) (n) : strap (notePass s n) = strap s := by simp [notePass]
@[simp] theorem strap_itemFenced (s : State) (n m) : strap (itemFenced s n m) = strap s := by
  unfold itemFenced
  split <;> simp
@[simp] theorem strap_itemFailed (s : State) (n lasting) : strap (itemFailed s n lasting) = strap s := by simp [itemFailed]
@[simp] theorem strap_itemEnd (s : State) (n m) : strap (itemEnd s n m) = strap s := by
  unfold itemEnd
  simp only
  split <;> simp
@[simp] theorem strap_endCalibrating (s : State) (i) : strap (endCalibrating s i) = strap s := by
  unfold endCalibrating
  simp only
  repeat' split
  all_goals simp
@[simp] theorem strap_frontEndDone (s : State) (i sin cos amplitude) :
    strap (frontEndDone s i sin cos amplitude) = strap s := by
  simp [frontEndDone]

/-! ### Machine/Classify -/

@[simp] theorem strap_setCls (s : State) (f) : strap (setCls s f) = strap s := by simp [setCls]
@[simp] theorem strap_setClsPort (s : State) (j f) : strap (setClsPort s j f) = strap s := by simp [setClsPort]
theorem strap_insertEntry {s t : State} {table e n} (h : insertEntry s table e = some (n, t)) : strap t = strap s := by
  unfold insertEntry at h
  simp only at h
  repeat' split at h
  all_goals cases h
  all_goals simp
@[simp] theorem strap_entryInsertEffect (s : State) (c) : strap (entryInsertEffect s c) = strap s := by
  unfold entryInsertEffect
  split
  · simp
  · next h => simp [strap_insertEntry h]
@[simp] theorem strap_entryUpdateEffect (s : State) (c) : strap (entryUpdateEffect s c) = strap s := by
  unfold entryUpdateEffect
  split <;> simp
@[simp] theorem strap_entryDeleteEffect (s : State) (c) : strap (entryDeleteEffect s c) = strap s := by
  unfold entryDeleteEffect
  split <;> simp
@[simp] theorem strap_entryLookupEffect (s : State) (c) : strap (entryLookupEffect s c) = strap s := by
  unfold entryLookupEffect
  split <;> simp
@[simp] theorem strap_profileSetEffect (s : State) (c) : strap (profileSetEffect s c) = strap s := by
  simp [profileSetEffect]
@[simp] theorem strap_patternSetEffect (s : State) (c) : strap (patternSetEffect s c) = strap s := by
  simp [patternSetEffect]
@[simp] theorem strap_parseLimitsEffect (s : State) (c) : strap (parseLimitsEffect s c) = strap s := by
  simp [parseLimitsEffect]
@[simp] theorem strap_defaultActionEffect (s : State) (c) : strap (defaultActionEffect s c) = strap s := by
  simp [defaultActionEffect]
@[simp] theorem strap_setRing (s : State) (p r x) : strap (setRing s p r x) = strap s := by simp [setRing]
@[simp] theorem strap_receiveRingPostEffect (descs) (s : State) (c) :
    strap (receiveRingPostEffect descs s c) = strap s := by
  simp [receiveRingPostEffect]
@[simp] theorem strap_dropAtRelease (s : State) (j cause) : strap (dropAtRelease s j cause) = strap s := by
  simp [dropAtRelease]
@[simp] theorem strap_deliverRing (s : State) (j p r bytes) : strap (deliverRing s j p r bytes) = strap s := by
  unfold deliverRing
  simp only
  repeat' split
  all_goals simp
@[simp] theorem strap_sendParcels (s : State) (j n tag convoy bytes) :
    strap (sendParcels s j n tag convoy bytes) = strap s := by
  simp [sendParcels]
@[simp] theorem strap_deliverPartner (s : State) (j n tag size hit late body) :
    strap (deliverPartner s j n tag size hit late body) = strap s := by
  unfold deliverPartner
  simp only
  repeat' split
  all_goals simp
theorem strap_decryptFrame {s t : State} {j f v b} (h : decryptFrame s j f v = some (b, t)) : strap t = strap s := by
  unfold decryptFrame at h
  simp only at h
  repeat' split at h
  all_goals cases h
  all_goals simp
@[simp] theorem strap_deliverFrame (s : State) (j key fr v late gap) :
    strap (deliverFrame s j key fr v late gap) = strap s := by
  unfold deliverFrame
  simp only
  split
  · simp
  · next f t h =>
    have ht : strap t = strap s := by
      split at h
      · simp [strap_decryptFrame h]
      · cases h; simp
    repeat' split
    all_goals simp [ht]
@[simp] theorem strap_takeReorder (s : State) (j) : strap (takeReorder s j) = strap s := by simp [takeReorder]
@[simp] theorem strap_leaveReorder (s : State) (j k) : strap (leaveReorder s j k) = strap s := by simp [leaveReorder]
@[simp] theorem strap_crossFrame (s : State) (j len) : strap (crossFrame s j len) = strap s := by simp [crossFrame]
@[simp] theorem strap_releaseFuel (f : Nat) (s : State) (j) : strap (releaseFuel f s j) = strap s := by
  induction f generalizing s with
  | zero => rfl
  | succ f ih =>
    unfold releaseFuel
    simp only
    repeat' split
    all_goals simp [ih]
@[simp] theorem strap_release (s : State) (j) : strap (release s j) = strap s := by simp [release]
@[simp] theorem strap_resolve (s : State) (j k fr v) : strap (resolve s j k fr v) = strap s := by simp [resolve]
@[simp] theorem strap_dropUnresolved (s : State) (j k fr) : strap (dropUnresolved s j k fr) = strap s := by
  simp [dropUnresolved]
@[simp] theorem strap_settle (s : State) (j k fr ext) : strap (settle s j k fr ext) = strap s := by
  unfold settle
  split <;> simp
@[simp] theorem strap_compareFault (s : State) (j k fr ext stage again) :
    strap (compareFault s j k fr ext stage again) = strap s := by
  simp [compareFault]
@[simp] theorem strap_slotFault (s : State) (j k fr ext again) : strap (slotFault s j k fr ext again) = strap s := by
  unfold slotFault
  split <;> simp
@[simp] theorem strap_classificationComplete (s : State) (j pipeline ext fault) :
    strap (classificationComplete s j pipeline ext fault) = strap s := by
  unfold classificationComplete
  simp only
  repeat' split
  all_goals simp
@[simp] theorem strap_releaseTimeout (s : State) (j) : strap (releaseTimeout s j) = strap s := by
  unfold releaseTimeout
  simp only
  split <;> simp
@[simp] theorem strap_resumeParked (s : State) (n ext lost) : strap (resumeParked s n ext lost) = strap s := by
  simp [resumeParked]
@[simp] theorem strap_slotRepairEnd (s : State) (ext) : strap (slotRepairEnd s ext) = strap s := by
  unfold slotRepairEnd
  simp only
  split
  · simp
  · split
    · simp
    · split
      · next h => simp [strap_insertEntry h]
      · simp
@[simp] theorem strap_numberFrame (s : State) (j f) : strap (numberFrame s j f) = strap s := by simp [numberFrame]
@[simp] theorem strap_flowReceive (s : State) (j f) : strap (flowReceive s j f) = strap s := by simp [flowReceive]
@[simp] theorem strap_frameReceive (s : State) (j f fcsOk fecOk fault) :
    strap (frameReceive s j f fcsOk fecOk fault) = strap s := by
  unfold frameReceive
  simp only
  repeat' split
  all_goals simp only [strap_dropFrame, strap_flowReceive, strap_numberFrame, strap_macsecMismatch, strap_freshState]
  all_goals exact (strap_macsecOpen ‹_›).trans (strap_freshState s)

/-! ### Machine/Fabric -/

@[simp] theorem strap_emptyQueue (s : State) (cls n) : strap (emptyQueue s cls n) = strap s := by simp [emptyQueue]
@[simp] theorem strap_initQueue (s : State) (cls n) : strap (initQueue s cls n) = strap s := by simp [initQueue]
@[simp] theorem strap_grantReady (s : State) (cls n) : strap (grantReady s cls n) = strap s := by simp [grantReady]
@[simp] theorem strap_initPartnerCredit (s : State) (n receive) : strap (initPartnerCredit s n receive) = strap s := by
  simp [initPartnerCredit]
@[simp] theorem strap_zeroCounts (s : State) (cls n) : strap (zeroCounts s cls n) = strap s := by simp [zeroCounts]
@[simp] theorem strap_initClass (s : State) (cls n) : strap (initClass s cls n) = strap s := by simp [initClass]
@[simp] theorem strap_initNeighbours (s : State) (d) : strap (initNeighbours s d) = strap s := by simp [initNeighbours]
@[simp] theorem strap_leaveReset (s : State) (d) : strap (leaveReset s d) = strap s := by simp [leaveReset]
@[simp] theorem strap_creditStall (s : State) (cls n cycles) : strap (creditStall s cls n cycles) = strap s := by
  simp [creditStall]
@[simp] theorem strap_reinitQueue (s : State) (cls n) : strap (reinitQueue s cls n) = strap s := by simp [reinitQueue]
@[simp] theorem strap_followStream (s : State) (w) : strap (followStream s w) = strap s := by simp [followStream]
@[simp] theorem strap_parcelLost (s : State) (cls n p seq) : strap (parcelLost s cls n p seq) = strap s := by
  unfold parcelLost
  simp only
  repeat' split
  all_goals simp
@[simp] theorem strap_corrupted (s : State) (cls n cond w) : strap (corrupted s cls n cond w) = strap s := by
  unfold corrupted
  simp only
  split <;> simp
@[simp] theorem strap_tagLines (s : State) (first len tag) : strap (tagLines s first len tag) = strap s := by
  simp [tagLines]
@[simp] theorem strap_parcelToMemory (s : State) (w payload) :
    strap (parcelToMemory s w payload) = strap s := by
  unfold parcelToMemory
  simp only
  repeat' split
  all_goals simp
@[simp] theorem strap_releaseChecked (s : State) (cls n w payload) :
    strap (releaseChecked s cls n w payload) = strap s := by
  unfold releaseChecked
  simp only
  repeat' split
  all_goals simp
@[simp] theorem strap_parcelCheck (s : State) (cls n parcel) :
    strap (parcelCheck s cls n parcel) = strap s := by
  unfold parcelCheck
  simp only
  repeat' split
  all_goals simp

/-! ### Machine/Counters -/

@[simp] theorem strap_readCounter (s : State) (ident inst) : strap (readCounter s ident inst).2 = strap s := by
  simp [readCounter]
@[simp] theorem strap_counterReadEffect (s : State) (c) : strap (counterReadEffect s c) = strap s := by
  unfold counterReadEffect
  split <;> simp

/-! ### Machine/DigestRegs -/

@[simp] theorem strap_setDigest (s : State) (p c d) : strap (setDigest s p c d) = strap s := by simp [setDigest]
@[simp] theorem strap_digestOverrun (s : State) (p c) : strap (digestOverrun s p c) = strap s := by simp [digestOverrun]
@[simp] theorem strap_digestDiscard (s : State) (p c st) : strap (digestDiscard s p c st) = strap s := by
  simp [digestDiscard]
@[simp] theorem strap_digestControl (s : State) (p c value) : strap (digestControl s p c value) = strap s := by
  simp [digestControl]
@[simp] theorem strap_digestWrite (s : State) (p) (f : State → State) (h : ∀ s, strap (f s) = strap s) :
    strap (digestWrite s p f) = strap s := by
  simp [digestWrite, h]
@[simp] theorem strap_whileAbsorbing (s : State) (p c) (f : DigestCtx → State) (h : ∀ d, strap (f d) = strap s) :
    strap (whileAbsorbing s p c f) = strap s := by
  unfold whileAbsorbing
  simp only
  repeat' split
  all_goals simp [h]
@[simp] theorem strap_digestData (s : State) (p c value) : strap (digestData s p c value) = strap s := by simp [digestData]
@[simp] theorem strap_digestFinish (s : State) (p c value) : strap (digestFinish s p c value) = strap s := by
  simp [digestFinish]
@[simp] theorem strap_digestSave (s : State) (p c value) : strap (digestSave s p c value) = strap s := by simp [digestSave]
@[simp] theorem strap_digestMismatch (s : State) (again) : strap (digestMismatch s again) = strap s := by
  simp [digestMismatch]
@[simp] theorem strap_digestBlockComplete (s : State) (p c fault) : strap (digestBlockComplete s p c fault) = strap s := by
  unfold digestBlockComplete
  split <;> simp
@[simp] theorem strap_hmacInitEnd (s : State) (p c) : strap (hmacInitEnd s p c) = strap s := by
  unfold hmacInitEnd
  simp only
  repeat' split
  all_goals simp
@[simp] theorem strap_digestSaveEnd (s : State) (p c) : strap (digestSaveEnd s p c) = strap s := by simp [digestSaveEnd]

/-! ### Machine/Models -/

@[simp] theorem strap_writePartner (s : State) (c ps bs) : strap (writePartner s c ps bs) = strap s := by
  unfold writePartner
  refine strap_foldl _ _ _ fun s x => ?_
  simp only
  repeat' split
  all_goals simp
@[simp] theorem strap_modelLoadEffect (image reread) (s : State) (c) :
    strap (modelLoadEffect image reread s c) = strap s := by
  unfold modelLoadEffect
  simp only
  repeat' split
  all_goals simp
@[simp] theorem strap_unloadModel (s : State) (key) : strap (unloadModel s key) = strap s := by
  unfold unloadModel
  split <;> simp
@[simp] theorem strap_modelUnloadEffect (s : State) (c) : strap (modelUnloadEffect s c) = strap s := by
  simp [modelUnloadEffect]
@[simp] theorem strap_modelQueryEffect (s : State) (c) : strap (modelQueryEffect s c) = strap s := by
  unfold modelQueryEffect
  split <;> simp

/-! ### Machine/Spares -/

@[simp] theorem strap_setOffload (s : State) (key f) : strap (setOffload s key f) = strap s := by
  unfold setOffload
  split <;> simp
@[simp] theorem strap_assignSpares (s : State) : strap (assignSpares s) = strap s := by
  unfold assignSpares
  refine strap_foldl _ _ _ fun s e => strap_foldl _ _ _ fun s b => ?_
  split <;> simp
@[simp] theorem strap_abandon (s : State) (inst) : strap (abandon s inst) = strap s := by simp [abandon]

/-! ### Machine/Partner -/

@[simp] theorem strap_changeLanes (s : State) (n mask) : strap (changeLanes s n mask) = strap s := by simp [changeLanes]
@[simp] theorem strap_repairOnPort (s : State) (n on passed) : strap (repairOnPort s n on passed) = strap s := by
  unfold repairOnPort
  refine strap_foldl _ _ _ fun s x => ?_
  simp only
  repeat' split
  all_goals simp
@[simp] theorem strap_cancelReplayed (s : State) (n lane) : strap (cancelReplayed s n lane) = strap s := by
  simp [cancelReplayed]
@[simp] theorem strap_leavePort (s : State) (n cause) : strap (leavePort s n cause) = strap s := by simp [leavePort]
@[simp] theorem strap_enterSeek (s : State) (n seen) : strap (enterSeek s n seen) = strap s := by simp [enterSeek]
@[simp] theorem strap_startExchange (s : State) (n lanes) : strap (startExchange s n lanes) = strap s := by
  simp [startExchange]
@[simp] theorem strap_dropUnwanted (s : State) (n) : strap (dropUnwanted s n) = strap s := by simp [dropUnwanted]
@[simp] theorem strap_sendAgain (s : State) (n x) : strap (sendAgain s n x) = strap s := by simp [sendAgain]
@[simp] theorem strap_sendLost (s : State) (n) : strap (sendLost s n) = strap s := by simp [sendLost]
@[simp] theorem strap_enterRun (s : State) (n) : strap (enterRun s n) = strap s := by simp [enterRun]
@[simp] theorem strap_dropLane (s : State) (n lane lasting cause) : strap (dropLane s n lane lasting cause) = strap s := by
  simp [dropLane]
@[simp] theorem strap_askReplay (s : State) (n symbols) : strap (askReplay s n symbols) = strap s := by simp [askReplay]
@[simp] theorem strap_replayFailed (s : State) (n symbols) : strap (replayFailed s n symbols) = strap s := by
  unfold replayFailed
  simp only
  repeat' split
  all_goals simp
@[simp] theorem strap_capabilityParcel (s : State) (n payload) : strap (capabilityParcel s n payload) = strap s := by
  unfold capabilityParcel
  split <;> simp
@[simp] theorem strap_owe (s : State) (key checks) : strap (owe s key checks) = strap s := by
  unfold owe
  split <;> simp
@[simp] theorem strap_drawBlock (s : State) (key) : strap (drawBlock s key) = strap s := by
  unfold drawBlock
  split <;> simp
@[simp] theorem strap_settleBlock (s : State) (key b) : strap (settleBlock s key b) = strap s := by
  unfold settleBlock
  simp only
  repeat' split
  all_goals simp
@[simp] theorem strap_resultParcel (s : State) (n content w payload) :
    strap (resultParcel s n content w payload) = strap s := by
  unfold resultParcel
  simp only
  repeat' split
  all_goals simp
@[simp] theorem strap_issueReads (s : State) (m) : strap (issueReads s m) = strap s := by
  unfold issueReads
  refine strap_foldl _ _ _ fun s x => ?_
  simp only
  repeat' split
  all_goals simp
@[simp] theorem strap_readResponse (s : State) (n w payload) :
    strap (readResponse s n w payload) = strap s := by
  unfold readResponse
  simp only
  repeat' split
  all_goals simp
@[simp] theorem strap_takeParcel (s : State) (n content w payload) :
    strap (takeParcel s n content w payload) = strap s := by
  simp [takeParcel]
@[simp] theorem strap_deliverParcel (s : State) (n content w payload) :
    strap (deliverParcel s n content w payload) = strap s := by
  unfold deliverParcel
  simp only
  repeat' split
  all_goals simp
@[simp] theorem strap_acceptParcel (s : State) (n parcel) :
    strap (acceptParcel s n parcel) = strap s := by
  simp [acceptParcel]
@[simp] theorem strap_countSymbols (s : State) (n fec) : strap (countSymbols s n fec) = strap s := by simp [countSymbols]
@[simp] theorem strap_passedAt (s : State) (n) : strap (passedAt s n) = strap s := by simp [passedAt]
@[simp] theorem strap_acknowledge_ (s : State) (n) : strap (acknowledge_ s n) = strap s := by simp [acknowledge_]
@[simp] theorem strap_linkReceive (s : State) (n parcel fec) :
    strap (linkReceive s n parcel fec) = strap s := by
  unfold linkReceive
  simp only
  repeat' split
  all_goals simp
@[simp] theorem strap_resendFrom (s : State) (n from_) : strap (resendFrom s n from_) = strap s := by simp [resendFrom]
@[simp] theorem strap_resend (s : State) (n from_) : strap (resend s n from_) = strap s := by simp [resend]
@[simp] theorem strap_takeFreed (s : State) (n counts) : strap (takeFreed s n counts) = strap s := by simp [takeFreed]
@[simp] theorem strap_countDropped (s : State) (n mask) : strap (countDropped s n mask) = strap s := by simp [countDropped]
@[simp] theorem strap_laneNotice (s : State) (n proposed) : strap (laneNotice s n proposed) = strap s := by
  simp [laneNotice]
@[simp] theorem strap_controlReplay (s : State) (n parcel) : strap (controlReplay s n parcel) = strap s := by
  simp [controlReplay]
@[simp] theorem strap_controlReceive (s : State) (n parcel fec) : strap (controlReceive s n parcel fec) = strap s := by
  simp [controlReceive]
@[simp] theorem strap_relockEnd (s : State) (n lane passed) : strap (relockEnd s n lane passed) = strap s := by
  simp [relockEnd]
@[simp] theorem strap_restripe (s : State) (n) : strap (restripe s n) = strap s := by
  unfold restripe
  simp only
  repeat' split
  all_goals simp
@[simp] theorem strap_seekWindowEnd (s : State) (n) : strap (seekWindowEnd s n) = strap s := by simp [seekWindowEnd]
@[simp] theorem leaves_strap_execTrainingBurstEnd (port) (s : State) : Leaves strap s (execTrainingBurstEnd port s) := by
  unfold execTrainingBurstEnd
  dsimp only
  split <;> simp
@[simp] theorem leaves_strap_execPartnerTrainingSignal (port lane) (s : State) :
    Leaves strap s (execPartnerTrainingSignal port lane s) := by
  unfold execPartnerTrainingSignal
  simp only
  repeat' split
  all_goals simp
@[simp] theorem strap_trainEnd (s : State) (n trained) : strap (trainEnd s n trained) = strap s := by simp [trainEnd]
@[simp] theorem strap_ackTimeout (s : State) (n m) : strap (ackTimeout s n m) = strap s := by
  unfold ackTimeout
  simp only
  split <;> simp
@[simp] theorem strap_convoyControl (s : State) (n payload) : strap (convoyControl s n payload) = strap s := by
  simp [convoyControl]
@[simp] theorem strap_enablePort (s : State) (n) : strap (enablePort s n) = strap s := by simp [enablePort]
@[simp] theorem strap_disablePort (s : State) (n) : strap (disablePort s n) = strap s := by simp [disablePort]

/-! ### Machine/Tiles -/

@[simp] theorem strap_setTile (s : State) (cluster logical tile) : strap (setTile s cluster logical tile) = strap s := by
  simp [setTile]
@[simp] theorem strap_repairTile (s : State) (cluster tile) : strap (repairTile s cluster tile) = strap s := by
  unfold repairTile
  simp only
  repeat' split
  all_goals simp
@[simp] theorem strap_returnTile (s : State) (cluster tile) : strap (returnTile s cluster tile) = strap s := by
  unfold returnTile
  simp only
  split <;> simp
@[simp] theorem strap_setJob (s : State) (o i v) : strap (setJob s o i v) = strap s := by simp [setJob]
@[simp] theorem strap_dropOffload (s : State) (o) : strap (dropOffload s o) = strap s := by simp [dropOffload]
@[simp] theorem strap_endConvoyCommand (s : State) (o st) : strap (endConvoyCommand s o st) = strap s := by
  simp [endConvoyCommand]
@[simp] theorem strap_fencePartner (s : State) (n) : strap (fencePartner s n) = strap s := by simp [fencePartner]

/-! ### Machine/Tensor -/

@[simp] theorem strap_retireSpill (s : State) (u) : strap (retireSpill s u) = strap s := by simp [retireSpill]
@[simp] theorem strap_spillRead (s : State) (line kind) : strap (spillRead s line kind) = strap s := by
  unfold spillRead
  split <;> simp
@[simp] theorem strap_runSpillRead (s : State) (c m x) : strap (runSpillRead s c m x) = strap s := by
  unfold runSpillRead
  split <;> simp
@[simp] theorem strap_modelRunEffect (input spillFault) (s : State) (c) :
    strap (modelRunEffect input spillFault s c) = strap s := by
  unfold modelRunEffect
  simp only
  repeat' split
  all_goals simp
@[simp] theorem strap_blockOffloadEffect (hostData) (s : State) (c) :
    strap (blockOffloadEffect hostData s c) = strap s := by
  unfold blockOffloadEffect
  split <;> simp
@[simp] theorem strap_sendOperands (s : State) (src n p cv cmd bs) :
    strap (sendOperands s src n p cv cmd bs) = strap s := by
  simp [sendOperands]
@[simp] theorem strap_issueOffload (s : State) (cv o) : strap (issueOffload s cv o) = strap s := by
  unfold issueOffload
  split <;> simp
@[simp] theorem strap_tilePassComplete (s : State) (cv cluster logical t) :
    strap (tilePassComplete s cv cluster logical t) = strap s := by
  unfold tilePassComplete
  simp only
  repeat' split
  all_goals simp
@[simp] theorem strap_passFailed (s : State) (x) : strap (passFailed s x) = strap s := by simp [passFailed]
@[simp] theorem strap_reportPicot (s : State) (cluster tile found differs kind) :
    strap (reportPicot s cluster tile found differs kind) = strap s := by
  simp [reportPicot]
@[simp] theorem strap_reportLane (s : State) (cluster tile lane) : strap (reportLane s cluster tile lane) = strap s := by
  unfold reportLane
  split <;> simp
@[simp] theorem strap_picotCheck (s : State) (cluster) : strap (picotCheck s cluster) = strap s := by
  unfold picotCheck
  simp only
  split <;> simp
@[simp] theorem strap_blockPassed (s : State) (o b) : strap (blockPassed s o b) = strap s := by
  unfold blockPassed
  simp only
  split <;> simp
@[simp] theorem strap_blockFailed (s : State) (o n recomputed) : strap (blockFailed s o n recomputed) = strap s := by
  unfold blockFailed
  split <;> simp
@[simp] theorem strap_partnerBlockCheck (s : State) (n) : strap (partnerBlockCheck s n) = strap s := by
  unfold partnerBlockCheck
  simp only
  split <;> simp
@[simp] theorem strap_recomputationFailed (s : State) (o b cluster tile x found e) :
    strap (recomputationFailed s o b cluster tile x found e) = strap s := by
  unfold recomputationFailed
  simp only
  repeat' split
  all_goals simp
@[simp] theorem strap_recomputationComplete (s : State) (n cluster tile errors) :
    strap (recomputationComplete s n cluster tile errors) = strap s := by
  unfold recomputationComplete
  simp only
  repeat' split
  all_goals simp

/-! ### Machine/Commands -/

@[simp] theorem strap_dropOrigins (s : State) (p k) : strap (dropOrigins s p k) = strap s := by
  simp [strap, dropOrigins]
@[simp] theorem strap_withdraw (s : State) (p k cause) : strap (withdraw s p k cause) = strap s := by
  unfold withdraw
  simp only
  rw [strap_ite, strap_setBoot, ite_self]
  · change strap (dropOffload _ (p * 32 + k)) = _
    simp only [strap_dropOffload, strap_dropOrigins]
    split <;> simp
  all_goals exact fun _ => rfl
@[simp] theorem strap_endFromOutside (s : State) (p k cause st) : strap (endFromOutside s p k cause st) = strap s := by
  simp [endFromOutside]
@[simp] theorem strap_enterNumber (s : State) (p k) : strap (enterNumber s p k) = strap s := by
  unfold enterNumber
  simp only
  repeat' split
  all_goals simp
@[simp] theorem strap_quiesceSlot (s : State) (p k) : strap (quiesceSlot s p k) = strap s := by simp [quiesceSlot]
@[simp] theorem strap_quiesce (s : State) (p cause) : strap (quiesce s p cause) = strap s := by
  unfold quiesce
  split <;> simp
@[simp] theorem strap_quiesceWhere (s : State) (f cause) : strap (quiesceWhere s f cause) = strap s := by
  simp [quiesceWhere]
@[simp] theorem strap_discardSlot (s : State) (p k) : strap (discardSlot s p k) = strap s := by simp [discardSlot]
@[simp] theorem strap_fenceMailbox (s : State) : strap (fenceMailbox s) = strap s := by simp [fenceMailbox]
@[simp] theorem strap_guardTags (s : State) (p) : strap (guardTags s p) = strap s := by simp [guardTags]

/-! ### Machine/Teardown -/

@[simp] theorem strap_setTeardown (s : State) (p f) : strap (setTeardown s p f) = strap s := by simp [setTeardown]
@[simp] theorem strap_finishTeardown (s : State) (p t) : strap (finishTeardown s p t) = strap s := by simp [finishTeardown]
@[simp] theorem strap_clearSpill (s : State) (p) : strap (clearSpill s p) = strap s :=
  strap_setMemory ..
theorem strap_with_keys_extents (s : State) (k e) : strap { s with keys := k, extents := e } = strap s := by simp [strap]
@[simp] theorem strap_releaseResources (s : State) (p) : strap (releaseResources s p) = strap s := by
  simp only [releaseResources, strap_setTeardown, strap_setPart, strap_with_keys_extents]
  simp
@[simp] theorem strap_settleTeardown (s : State) (p) : strap (settleTeardown s p) = strap s := by
  unfold settleTeardown
  simp only
  repeat' split
  all_goals simp
@[simp] theorem strap_settleTeardowns (s : State) : strap (settleTeardowns s) = strap s := by
  simp [settleTeardowns]
@[simp] theorem strap_discardCompletion (s : State) (p k) : strap (discardCompletion s p k) = strap s := by
  simp [discardCompletion]
@[simp] theorem strap_completeSlot (s : State) (p k) : strap (completeSlot s p k) = strap s := by
  unfold completeSlot
  simp only
  split <;> simp
@[simp] theorem strap_tearSlot (s : State) (p k) : strap (tearSlot s p k) = strap s := by simp [tearSlot]
@[simp] theorem strap_teardownEffect (s : State) (c) : strap (teardownEffect s c) = strap s := by
  simp [teardownEffect]
@[simp] theorem leaves_strap_execTeardownDiscardExpiry (p) (s : State) :
    Leaves strap s (execTeardownDiscardExpiry p s) := by
  unfold execTeardownDiscardExpiry
  split <;> simp
@[simp] theorem strap_granuleCleared (s : State) (g) : strap (granuleCleared s g) = strap s := by
  unfold granuleCleared
  simp only
  split
  · rfl
  · simp

/-! ### Machine/Repair -/

@[simp] theorem strap_holdMainOff (s : State) : strap (holdMainOff s) = strap s := by
  simp [holdMainOff]
@[simp] theorem strap_holdMainOffFor (s : State) (code detail) :
    strap (holdMainOffFor s code detail) = strap s := by
  simp [holdMainOffFor]
@[simp] theorem strap_endDriveCmds (s : State) (st f) : strap (endDriveCmds s st f) = strap s := by simp [endDriveCmds]
@[simp] theorem strap_portOutOfService (s : State) (n) : strap (portOutOfService s n) = strap s := by
  simp [portOutOfService]
@[simp] theorem strap_hopOut (s : State) (cls n) : strap (hopOut s cls n) = strap s := by simp [hopOut]
@[simp] theorem strap_endManagementWork (s : State) : strap (endManagementWork s) = strap s := by
  unfold endManagementWork
  refine (strap_foldl _ _ _ fun s j => by simp).trans ((strap_with_buses ..).trans ?_)
  repeat' split
  all_goals simp
@[simp] theorem strap_enterSafeState (s : State) : strap (enterSafeState s) = strap s := by simp [enterSafeState]
@[simp] theorem strap_pairOffline (s : State) (pair) : strap (pairOffline s pair) = strap s := by
  simp [pairOffline]
@[simp] theorem strap_endRunsLasting (s : State) (f) : strap (endRunsLasting s f) = strap s := by simp [endRunsLasting]
@[simp] theorem strap_clockGone (s : State) (d) : strap (clockGone s d) = strap s := by
  unfold clockGone
  split <;> simp
@[simp] theorem strap_repair (s : State) (group index) : strap (repair s group index) = strap s := by
  unfold repair
  split <;> simp

/-! ### Machine/Network -/

@[simp] theorem strap_engineCheck (s : State) (e handle x) : strap (engineCheck s e handle x).2 = strap s := by
  unfold engineCheck
  split <;> simp
@[simp] theorem strap_sealOutbound (s : State) (c f fault) : strap (sealOutbound s c f fault).2.2 = strap s := by
  unfold sealOutbound
  simp only
  repeat' split
  all_goals simp
@[simp] theorem strap_frameTransmitEffect (host fault) (s : State) (c) :
    strap (frameTransmitEffect host fault s c) = strap s := by
  unfold frameTransmitEffect
  repeat' split
  all_goals simp
@[simp] theorem leaves_strap_execFrameTransmit (o frame fault) (s : State) :
    Leaves strap s (execFrameTransmit o frame fault s) := by
  unfold execFrameTransmit
  split
  · simp only [leaves_next]
    repeat' split
    all_goals simp
  · exact (leaves_next ..).mpr (strap_runOp _ _ _ _ _ _ fun _ _ => strap_inConvoy _ _ _ fun _ _ =>
      strap_onWord _ _ _ _ _ (strap_frameTransmitEffect _ _))
@[simp] theorem strap_espSaSetEffect (s : State) (c) : strap (espSaSetEffect s c) = strap s := by simp [espSaSetEffect]
@[simp] theorem strap_macsecSaSetEffect (s : State) (c) : strap (macsecSaSetEffect s c) = strap s := by
  simp [macsecSaSetEffect]
@[simp] theorem strap_enableNet (s : State) (j) : strap (enableNet s j) = strap s := by simp [enableNet]
@[simp] theorem strap_disableNet (s : State) (j) : strap (disableNet s j) = strap s := by
  unfold disableNet
  simp only
  split
  · simp
  · exact (strap_with_domains ..).trans (by simp)
@[simp] theorem strap_telemetryEffect (host) (s : State) (c) : strap (telemetryEffect host s c) = strap s := by
  unfold telemetryEffect
  simp only
  repeat' split
  all_goals simp
theorem strap_foldl_snd {β γ : Type} (f : γ × State → β → γ × State) (l : List β) (r : γ × State)
    (h : ∀ r x, strap (f r x).2 = strap r.2) : strap (l.foldl f r).2 = strap r.2 := by
  induction l generalizing r with
  | nil => rfl
  | cons x l ih => rw [List.foldl_cons, ih, h]
@[simp] theorem strap_readRecords (s : State) (es) : strap (readRecords s es).2 = strap s :=
  strap_foldl_snd _ _ _ fun r e => strap_readCounter r.2 e.1 e.2
@[simp] theorem strap_sendDatagram (s : State) (j x last es) : strap (sendDatagram s j x last es) = strap s := by
  simp [sendDatagram]
@[simp] theorem strap_telemetryPeriod (s : State) (j) : strap (telemetryPeriod s j) = strap s := by
  unfold telemetryPeriod
  simp only
  split <;> simp

/-! ### Machine/Boot -/

@[simp] theorem strap_copyRejected (s : State) (copy reason kind) : strap (copyRejected s copy reason kind) = strap s := by
  simp [copyRejected]
@[simp] theorem strap_rejectCopy (s : State) (copy reason kind) : strap (rejectCopy s copy reason kind) = strap s := by
  simp [rejectCopy]
@[simp] theorem strap_applyBuses (s : State) : strap (applyBuses s) = strap s := by
  unfold applyBuses
  refine strap_foldl _ _ _ fun s i => ?_
  split <;> simp
theorem strap_with_aon_vault (s : State) (a : AlwaysOn) (v : Vault) : strap { s with aon := a, vault := v } = strap s := rfl
@[simp] theorem strap_acceptCopy (s : State) (copy c) : strap (acceptCopy s copy c) = strap s := by
  unfold acceptCopy
  simp only [strap_ite, strap_startSequence, ite_self, strap_startRun, strap_startAxes, strap_startFans,
    strap_updateCeiling, strap_applyBuses, strap_raiseAon]
  exact (strap_with_aon_vault ..).trans (strap_setBoot _ _ (fun _ => rfl) (fun _ => rfl))
@[simp] theorem strap_trySelect (s : State) (l) : strap (trySelect s l) = strap s := by
  induction l generalizing s with
  | nil => simp [trySelect]
  | cons e l ih =>
    unfold trySelect
    repeat' split
    all_goals simp [ih]
@[simp] theorem strap_examine (s : State) (i c) : strap (examine s i c).1 = strap s := by
  unfold examine
  repeat' split
  all_goals simp
@[simp] theorem strap_selectImage (s : State) (a b) : strap (selectImage s a b) = strap s := by
  unfold selectImage
  split
  · rfl
  · simp
@[simp] theorem strap_enableListed (s : State) : strap (enableListed s) = strap s := by simp [enableListed]
@[simp] theorem strap_sectionRead (s : State) (t good) : strap (sectionRead s t good) = strap s := by
  simp [sectionRead]
@[simp] theorem strap_formStatus (s : State) : strap (formStatus s) = strap s := by simp [formStatus]
@[simp] theorem strap_selfTestEnd (s : State) (once twice) :
    strap (selfTestEnd s once twice) = strap s := by
  unfold selfTestEnd
  simp only
  split
  · rfl
  · split
    · simp
    · rw [strap_formStatus, strap_setBoot, strap_with_faults, strap_setMemory]
      · simp
      all_goals exact fun _ => rfl
@[simp] theorem strap_deliverRecord (s : State) : strap (deliverRecord s) = strap s := by
  unfold deliverRecord
  simp only
  refine (strap_foldl _ _ _ fun s e => by simp).trans ?_
  split
  · refine (strap_foldl _ _ _ fun s e => by simp).trans rfl
  · rw [strap_raiseAdmin]
    refine (strap_foldl _ _ _ fun s e => by simp).trans rfl
theorem strap_with_fresh_cls (s : State) (n c) : strap { s with fresh := n, cls := c } = strap s := by simp [strap]
@[simp] theorem strap_synfyReady (s : State) : strap (synfyReady s) = strap s := by
  unfold synfyReady
  simp only
  split
  · rfl
  · rw [strap_setBoot, strap_foldl, strap_foldl, strap_with_fresh_cls, strap_raiseAon, strap_deliverRecord,
      strap_grantReady, strap_setBoot]
    · split
      · rfl
      · simp
    · exact fun _ => rfl
    · exact fun _ => rfl
    · intro s n
      split <;> simp
    · intro s j
      simp
    · exact fun _ => rfl
    · exact fun _ => rfl
@[simp] theorem strap_loadItem (s : State) (c) : strap (loadItem s c) = strap s := by
  unfold loadItem
  simp only
  repeat' split
  all_goals simp
@[simp] theorem strap_loadContent (s : State) (content) : strap (loadContent s content) = strap s := by simp [loadContent]
@[simp] theorem strap_nodeDoneRises (s : State) : strap (nodeDoneRises s) = strap s := by simp [nodeDoneRises]
@[simp] theorem strap_soloMode (s : State) : strap (soloMode s) = strap s := by
  unfold soloMode
  split <;> simp
@[simp] theorem strap_scanInstruction (s : State) (i) : strap (scanInstruction s i) = strap s := by
  simp [scanInstruction]

/-! ### Machine/Faults -/

@[simp] theorem strap_raiseClock (s : State) (d detail) : strap (raiseClock s d detail) = strap s := by simp [raiseClock]
@[simp] theorem strap_beginRepair (s : State) (test) : strap (beginRepair s test) = strap s := by simp [beginRepair]
@[simp] theorem strap_endRepair (s : State) (passed) : strap (endRepair s passed) = strap s := by simp [endRepair]
@[simp] theorem strap_clockLoss (s : State) (d) : strap (clockLoss s d) = strap s := by
  unfold clockLoss
  simp only
  repeat' split
  all_goals simp
@[simp] theorem strap_clockRestart (s : State) (d passed) :
    strap (clockRestart s d passed) = strap s := by
  simp [clockRestart]
@[simp] theorem strap_crossingFault (s : State) (cls n parity) :
    strap (crossingFault s cls n parity) = strap s := by
  simp [crossingFault]
@[simp] theorem strap_lockstep (s : State) (pair lasting running) :
    strap (lockstep s pair lasting running) = strap s := by
  simp [lockstep]
@[simp] theorem strap_managementMismatch (s : State) (lasting) :
    strap (managementMismatch s lasting) = strap s := by
  simp [managementMismatch]
@[simp] theorem leaves_strap_execManagementCoreResumed (s : State) : Leaves strap s (execManagementCoreResumed s) := by
  unfold execManagementCoreResumed
  simp only [leaves_next]
  repeat' split
  · simp
  · rw [strap_endRepair, strap_transient, strap_with_faults, strap_freshState]
  · rw [strap_pursue, strap_beginRun, strap_endRepair, strap_transient, strap_with_faults, strap_freshState]
@[simp] theorem strap_rebuildTable (s : State) : strap (rebuildTable s) = strap s := by simp [rebuildTable]
@[simp] theorem strap_fenceQueues (s : State) : strap (fenceQueues s) = strap s := by simp [fenceQueues]
@[simp] theorem strap_tableMismatch (s : State) : strap (tableMismatch s) = strap s := by
  simp [tableMismatch]
@[simp] theorem strap_exercise (s : State) (cls number group index flagged again) :
    strap (exercise s cls number group index flagged again) = strap s := by
  simp [exercise]

/-! ### Machine/Mailbox -/

@[simp] theorem strap_doorbell (s : State) (p size value poisoned) :
    strap (doorbell s p size value poisoned) = strap s := by
  simp [doorbell]
@[simp] theorem strap_writeRequests (s : State) (p off data) : strap (writeRequests s p off data) = strap s := by
  simp [writeRequests]
@[simp] theorem strap_writeDigestRegs (s : State) (p c off data) : strap (writeDigestRegs s p c off data) = strap s := by
  simp [writeDigestRegs]
@[simp] theorem strap_registerWrite (s : State) (p off data poisoned) :
    strap (registerWrite s p off data poisoned) = strap s := by
  simp [registerWrite]
@[simp] theorem leaves_strap_execRegisterWrite (sender offset data poisoned) (s : State) :
    Leaves strap s (execRegisterWrite sender offset data poisoned s) := by
  unfold execRegisterWrite
  split <;> simp
@[simp] theorem strap_enablePartition (s : State) (p) : strap (enablePartition s p) = strap s := by simp [enablePartition]
@[simp] theorem strap_sendPending (s : State) (h fn) : strap (sendPending s h fn) = strap s := by simp [sendPending]
@[simp] theorem leaves_strap_execMsixHoldoffExpiry (p) (s : State) : Leaves strap s (execMsixHoldoffExpiry p s) := by
  unfold execMsixHoldoffExpiry
  split <;> simp
@[simp] theorem strap_reseal (s : State) (p k st) : strap (reseal s p k st) = strap s := by
  unfold reseal
  split <;> simp
@[simp] theorem strap_digestUnitFault (s : State) (p k unit again) :
    strap (digestUnitFault s p k unit again) = strap s := by
  simp [digestUnitFault]
@[simp] theorem strap_digestUnits_ (s : State) (p k fault) :
    strap (digestUnits_ s p k fault) = strap s := by
  unfold digestUnits_
  split <;> simp
@[simp] theorem strap_completeUnder (s : State) (p k fault tagMismatch) :
    strap (completeUnder s p k fault tagMismatch) = strap s := by
  simp [completeUnder]
@[simp] theorem strap_cancelTorn (s : State) (p k) : strap (cancelTorn s p k) = strap s := by simp [cancelTorn]
@[simp] theorem strap_completion (s : State) (p k digestFault tagMismatch) :
    strap (completion s p k digestFault tagMismatch) = strap s := by
  simp [completion]
@[simp] theorem strap_endRefusing (s : State) (p k) : strap (endRefusing s p k) = strap s := by
  unfold endRefusing
  simp only
  split <;> simp
@[simp] theorem strap_cancelEffect (s : State) (c) : strap (cancelEffect s c) = strap s := by simp [cancelEffect]

/-! ### Machine/HostPorts -/

@[simp] theorem strap_resetFns (s : State) (h f g) : strap (resetFns s h f g) = strap s := by simp [resetFns]
@[simp] theorem strap_dropVfs (s : State) (h) : strap (dropVfs s h) = strap s := by simp [dropVfs]
@[simp] theorem strap_functionReset (s : State) (h fn) : strap (functionReset s h fn) = strap s := by simp [functionReset]
@[simp] theorem strap_portReset (s : State) (h) : strap (portReset s h) = strap s := by simp [portReset]
@[simp] theorem strap_perstAssert (s : State) (h) : strap (perstAssert s h) = strap s := by simp [perstAssert]
@[simp] theorem strap_perstRelease (s : State) (h) : strap (perstRelease s h) = strap s := by simp [perstRelease]
@[simp] theorem strap_linkDown (s : State) (h cause) : strap (linkDown s h cause) = strap s := by simp [linkDown]
@[simp] theorem strap_disableFn (s : State) (h fn x) : strap (disableFn s h fn x) = strap s := by
  unfold disableFn
  split <;> simp
@[simp] theorem strap_configure (s : State) (h fn x) : strap (configure s h fn x) = strap s := by
  unfold configure
  split <;> simp
@[simp] theorem strap_dmaReadFailure (s : State) (p k poisoned again) :
    strap (dmaReadFailure s p k poisoned again) = strap s := by
  simp [dmaReadFailure]

/-! ### Machine/Ledger -/

@[simp] theorem strap_ledgerReadEffect (s : State) (c) : strap (ledgerReadEffect s c) = strap s := by
  unfold ledgerReadEffect
  split <;> simp

/-! ### Machine/Maintenance -/

@[simp] theorem strap_setScrub (s : State) (on) : strap (setScrub s on) = strap s := by
  unfold setScrub
  repeat' split
  · simp
  · exact (strap_guard _).trans rfl
  · rfl
@[simp] theorem strap_uncounted (s : State) (group) (f : State → State) (h : ∀ s, strap (f s) = strap s) :
    strap (uncounted s group f) = strap s := by
  unfold uncounted
  simp only
  split <;> simp [h]
@[simp] theorem strap_releaseFence (s : State) (cls i) : strap (releaseFence s cls i) = strap s := by
  unfold releaseFence
  split <;> simp

/-! ### Machine/Parcels -/

@[simp] theorem strap_withdrawEnded (before : State) (after : State) :
    strap (withdrawEnded before after) = strap after := by
  simp [withdrawEnded]
@[simp] theorem strap_settleHop (before : State) (after : State) (cls n) :
    strap (settleHop before after cls n) = strap after := by
  simp [settleHop]
@[simp] theorem leaves_strap_execParcelCheck (cls number parcel) (s : State) :
    Leaves strap s (execParcelCheck cls number parcel s) := by
  unfold execParcelCheck
  split
  · simp
  · simp [Leaves]

/-! ### Machine/Partitions -/

@[simp] theorem strap_bindGranules (s : State) (p u n) : strap (bindGranules s p u n) = strap s := by simp [bindGranules]
@[simp] theorem strap_createEffect (s : State) (c) : strap (createEffect s c) = strap s := by
  unfold createEffect
  split <;> simp
@[simp] theorem strap_rebind (s : State) (p u v) : strap (rebind s p u v) = strap s := by simp [rebind]
@[simp] theorem strap_quotaSetEffect (s : State) (c) : strap (quotaSetEffect s c) = strap s := by simp [quotaSetEffect]

/-! ### Machine/Runs -/

@[simp] theorem strap_startReads (s : State) (n o) : strap (startReads s n o) = strap s := by
  unfold startReads
  split <;> simp
@[simp] theorem strap_openCommand (s : State) (n p k) : strap (openCommand s n p k) = strap s := by
  unfold openCommand
  simp only
  repeat' split
  all_goals simp
@[simp] theorem strap_reportOverrun (s : State) (o n l) : strap (reportOverrun s o n l) = strap s := by
  simp [reportOverrun]
@[simp] theorem strap_sealMembers (s : State) (n) : strap (sealMembers s n) = strap s := by
  unfold sealMembers
  simp only
  repeat' split
  all_goals simp
@[simp] theorem strap_runSignal (s : State) (n handle value) : strap (runSignal s n handle value) = strap s := by
  simp [runSignal]
@[simp] theorem strap_layerConfirmed (s : State) (n o) : strap (layerConfirmed s n o) = strap s := by
  unfold layerConfirmed
  simp only
  repeat' split
  all_goals simp
@[simp] theorem strap_offloadConfirmed (s : State) (o) : strap (offloadConfirmed s o) = strap s := by
  unfold offloadConfirmed
  simp only
  repeat' split
  all_goals simp
@[simp] theorem strap_confirm (s : State) (n) : strap (confirm s n) = strap s := by
  unfold confirm
  simp only
  repeat' split
  all_goals simp
@[simp] theorem strap_deadlineExpiry (s : State) (n) : strap (deadlineExpiry s n) = strap s := by
  unfold deadlineExpiry
  simp only
  split <;> simp
@[simp] theorem strap_frameResolved (s : State) (n delivered cause) :
    strap (frameResolved s n delivered cause) = strap s := by
  unfold frameResolved
  simp only
  repeat' split
  all_goals simp
@[simp] theorem strap_rereadInputs (s : State) (o hostData) : strap (rereadInputs s o hostData) = strap s := by
  simp [rereadInputs]
@[simp] theorem strap_reissue (s : State) (n hostData) : strap (reissue s n hostData) = strap s := by
  unfold reissue
  simp only
  repeat' split
  all_goals simp
@[simp] theorem strap_rerun (s : State) (n hostData) : strap (rerun s n hostData) = strap s := by simp [rerun]
@[simp] theorem strap_freeConvoy (s : State) (n) : strap (freeConvoy s n) = strap s := by simp [freeConvoy]
@[simp] theorem strap_classifyAttempts (s : State) (c) : strap (classifyAttempts s c) = strap s := by
  have h (l : List Nat) : strap (l.foldl (fun s r => transient s (r / 1024) (r % 1024)) s) = strap s := by simp
  unfold classifyAttempts
  simp only
  repeat' split
  all_goals simp only [h, strap_repair]
@[simp] theorem strap_resolve_ (s : State) (n hostData) : strap (resolve_ s n hostData) = strap s := by
  unfold resolve_
  simp only
  repeat' split
  all_goals simp

/-! ### Machine/Spdm -/

@[simp] theorem strap_spdmAnswer (s : State) (h bs f) : strap (spdmAnswer s h bs f) = strap s := by simp [spdmAnswer]
@[simp] theorem strap_spdmChallenge (s : State) (h r) : strap (spdmChallenge s h r) = strap s := by simp [spdmChallenge]
@[simp] theorem strap_spdmMeasurements (s : State) (h r) : strap (spdmMeasurements s h r) = strap s := by
  simp [spdmMeasurements]
@[simp] theorem strap_spdmRequest (s : State) (h r) : strap (spdmRequest s h r) = strap s := by
  unfold spdmRequest
  split <;> simp

/-! ### Machine/Storage -/

@[simp] theorem strap_setDrive (s : State) (k f) : strap (setDrive s k f) = strap s := by simp [setDrive]
@[simp] theorem strap_extentCreateEffect (s : State) (c) : strap (extentCreateEffect s c) = strap s := by
  unfold extentCreateEffect
  split <;> simp
@[simp] theorem strap_issueDrive (s : State) (c e opcode off len data) :
    strap (issueDrive s c e opcode off len data) = strap s := by
  unfold issueDrive
  rw [strap_send, strap_with_driveCmds, strap_setSlot]
@[simp] theorem strap_xtsRun (s : State) (e enc lba bs fault) : strap (xtsRun s e enc lba bs fault).2 = strap s := by
  unfold xtsRun
  simp only
  repeat' split
  all_goals simp
@[simp] theorem leaves_strap_execStorageRead (o) (s : State) : Leaves strap s (execStorageRead o s) :=
  (leaves_next ..).mpr (strap_runOnce _ _ _ _ _ _ fun s c => by split <;> simp)
@[simp] theorem strap_storageWriteEffect (host fault) (s : State) (c) :
    strap (storageWriteEffect host fault s c) = strap s := by
  unfold storageWriteEffect
  simp only
  split
  · rfl
  · rfl
  · simp
  · next e _ _ =>
    have hx (bs : List Byte) := strap_xtsRun s e true (e.start + c.u 8 8 / lbaSize s e) bs fault
    split <;> next h => simpa [h] using hx (readDesc s c.p (c.desc 0x10) host)
@[simp] theorem leaves_strap_execFlush (o) (s : State) : Leaves strap s (execFlush o s) :=
  (leaves_next ..).mpr (strap_runOnce _ _ _ _ _ _ fun s c => by split <;> simp)
@[simp] theorem leaves_strap_execDeallocate (o) (s : State) : Leaves strap s (execDeallocate o s) :=
  (leaves_next ..).mpr (strap_runOnce _ _ _ _ _ _ fun s c => by split <;> simp)
@[simp] theorem strap_driveFound (s : State) (k x) : strap (driveFound s k x) = strap s := by
  unfold driveFound
  split <;> simp
@[simp] theorem leaves_strap_execDriveProbe (link found) (s : State) : Leaves strap s (execDriveProbe link found s) := by
  unfold execDriveProbe
  simp only
  repeat' split
  all_goals simp
@[simp] theorem strap_readArrives (s : State) (c d data fault) :
    strap (readArrives s c d data fault) = strap s := by
  unfold readArrives
  split
  · simp
  · next e _ =>
    have hx := strap_xtsRun s e false d.lba (slice data 0 (c.desc 0x10).len) fault
    simp only
    split
    · next h => simpa [h] using hx
    · next h =>
      rw [h] at hx
      split <;> simp [hx]
@[simp] theorem strap_driveCompletion (s : State) (o status data fault) :
    strap (driveCompletion s o status data fault) = strap s := by
  unfold driveCompletion
  simp only
  repeat' split
  · rfl
  · rfl
  · simp
  · simp
  · simp
  · rw [strap_send, strap_with_driveCmds]
    simp
@[simp] theorem strap_driveFails (s : State) (k fatal resetOk) : strap (driveFails s k fatal resetOk) = strap s := by
  unfold driveFails
  simp only
  split
  · split
    · simp
    · split
      · simp
      · rw [strap_foldl]
        · simp
        · intro s e
          rw [strap_send, strap_with_driveCmds, strap_setSlot]
  · rfl

/-! ### Machine/TwoWire -/

@[simp] theorem strap_transactionEffect (o) (s : State) (c) : strap (transactionEffect o s c) = strap s := by
  simp [transactionEffect]
@[simp] theorem strap_settleBus (s : State) (b) : strap (settleBus s b) = strap s := by simp [settleBus]
@[simp] theorem strap_endJob (s : State) (b j st data) : strap (endJob s b j st data) = strap s := by simp [endJob]
@[simp] theorem strap_dropAbsent (f : Nat) (s : State) (b) : strap (dropAbsent f s b) = strap s := by
  induction f generalizing s with
  | zero => rfl
  | succ f ih =>
    unfold dropAbsent
    repeat' split
    all_goals simp [ih]
@[simp] theorem strap_settleQueue (s : State) (b) : strap (settleQueue s b) = strap s := by simp [settleQueue]
@[simp] theorem strap_secondAttempt (s : State) (b j) : strap (secondAttempt s b j) = strap s := by simp [secondAttempt]
@[simp] theorem strap_dataFailure (s : State) (b j pec) : strap (dataFailure s b j pec) = strap s := by simp [dataFailure]
@[simp] theorem strap_attempt (s : State) (b t) : strap (attempt s b t) = strap s := by
  unfold attempt
  simp only
  repeat' split
  all_goals simp
@[simp] theorem strap_arbitrationLost (s : State) (b) : strap (arbitrationLost s b) = strap s := by
  unfold arbitrationLost
  simp only
  split <;> simp
@[simp] theorem strap_absentPoll (s : State) (b addr result) : strap (absentPoll s b addr result) = strap s := by
  unfold absentPoll
  simp only
  repeat' split
  all_goals simp
@[simp] theorem leaves_strap_execAlertResponse (b answer) (s : State) : Leaves strap s (execAlertResponse b answer s) := by
  unfold execAlertResponse
  split <;> simp
@[simp] theorem strap_hangEffects (s : State) (b) : strap (hangEffects s b) = strap s := by
  unfold hangEffects
  split <;> simp
@[simp] theorem strap_busHung (s : State) (b sda) : strap (busHung s b sda) = strap s := by simp [busHung]
@[simp] theorem strap_twtRequest (s : State) (f pecOk) : strap (twtRequest s f pecOk) = strap s := by
  unfold twtRequest
  simp only
  repeat' split
  all_goals simp
@[simp] theorem strap_twtResponseRead (s : State) : strap (twtResponseRead s) = strap s := by
  unfold twtResponseRead
  simp only
  repeat' split
  all_goals simp
@[simp] theorem strap_twtEventRead (s : State) : strap (twtEventRead s) = strap s := by
  unfold twtEventRead
  split <;> simp

/-! ### Machine/Update -/

@[simp] theorem strap_updateBegin (host signatureOk) (s : State) (c) :
    strap (updateBegin host signatureOk s c) = strap s := by
  unfold updateBegin
  split <;> simp
@[simp] theorem strap_updateEnd (readBack) (s : State) (c) : strap (updateEnd readBack s c) = strap s := by
  simp [updateEnd]
@[simp] theorem leaves_strap_execFirmwareUpdate (o image signatureOk readBack) (s : State) :
    Leaves strap s (execFirmwareUpdate o image signatureOk readBack s) := by
  unfold execFirmwareUpdate
  repeat' split
  all_goals simp

/-! ### Machine/Start -/

@[simp] theorem strap_enterHistory (s : State) (p k seq) : strap (enterHistory s p k seq) = strap s := by
  simp [enterHistory]
@[simp] theorem strap_beginCommand (s : State) (c) : strap (beginCommand s c) = strap s := by simp [beginCommand]
@[simp] theorem strap_returnFirst (s : State) (c st result receipt) :
    strap (returnFirst s c st result receipt) = strap s := by
  simp [returnFirst]
@[simp] theorem strap_handlePlace (s : State) (c place) : strap (handlePlace s c place) = strap s := by
  unfold handlePlace
  split <;> simp
@[simp] theorem strap_startCommand (s : State) (p k) : strap (startCommand s p k) = strap s := by
  unfold startCommand
  simp only
  split <;> simp
@[simp] theorem strap_storeFault (s : State) (p k bytes passes) : strap (storeFault s p k bytes passes) = strap s := by
  simp [storeFault]
@[simp] theorem leaves_strap_execCommandStart (p slot read) (s : State) : Leaves strap s (execCommandStart p slot read s) := by
  unfold execCommandStart
  repeat' split
  all_goals simp

/-! ### Machine/Idle -/

theorem strap_idleTick (s : State) : strap (idleTick s) = strap s := by
  simp only [idleTick, strap_flushTx]
  rfl

/-! ### Staged entries and the start of the main domain -/

@[simp] theorem strap_appendEntry (s : State) (e) : strap (appendEntry s e) = strap s := by
  unfold appendEntry
  dsimp only
  repeat' split
  all_goals simp
@[simp] theorem strap_commitOldest (s : State) : strap (commitOldest s) = strap s := by
  unfold commitOldest
  dsimp only
  repeat' split
  all_goals simp
@[simp] theorem strap_closeCommit (s : State) : strap (closeCommit s) = strap s := by
  unfold closeCommit
  dsimp only
  repeat' split
  all_goals simp
@[simp] theorem strap_commitFuel (n : Nat) (s : State) : strap (commitFuel n s) = strap s := by
  induction n generalizing s with
  | zero => rfl
  | succ n ih =>
    unfold commitFuel
    split <;> simp [ih]
@[simp] theorem strap_vaultStart (s : State) : strap (vaultStart s) = strap s := by simp [vaultStart, commitAll]
@[simp] theorem strap_mainStart (s : State) : strap (mainStart s) = strap s := by
  unfold mainStart
  split
  · rfl
  · rw [strap_vaultStart, strap_startHosts, strap_createAdministrator]
    rfl
@[simp] theorem strap_nextStep (s : State) : strap (nextStep s) = strap s := by simp [nextStep, sequenceComplete]
@[simp] theorem strap_stepGood (s : State) (i mv) : strap (stepGood s i mv) = strap s := by
  unfold stepGood
  dsimp only
  repeat' split
  all_goals simp
@[simp] theorem strap_stepAct (s : State) (i absent) : strap (stepAct s i absent) = strap s := by
  unfold stepAct
  dsimp only
  repeat' split
  all_goals simp

/-! ### Every command, every step -/

/-- The commands named by `case` end in several ways and have their own lemma; every other ends in one next state. -/
theorem leaves_strap_exec (i : Instr) (s : State) (hv : s.boot.vaon = true) :
    Leaves strap s (exec i s) ∨ ∃ t, exec i s = .next t ∧ t.boot.vaon = false := by
  cases i
  case vaonValid straps => exact .inl (by simp [exec_vaonValid_idle straps (.inl hv)])
  case alwaysOnReset | vaultOff => exact .inr ⟨_, rfl, vaon_alwaysOnReset _⟩
  all_goals left
  case ktLimitSet | memoryTransfer | frameTransmit | storageRead | flush | deallocate | keyQuery | cipherOperation |
      firmwareUpdate | registerWrite | msixHoldoffExpiry | commandStart | teardownDiscardExpiry | parcelCheck |
      trainingBurstEnd | partnerTrainingSignal | driveProbe | vaonReturn | vaultReturnToMain | railProvingExpiry |
      pmbusReadPoll | collapseWindowExpiry | boardSensorRead | alertResponse | managementCoreResumed =>
    simp [exec]
  all_goals
    refine (leaves_next ..).mpr ?_
    simp

theorem strap_step {s t : State} (hv : s.boot.vaon = true) (h : step s = .next t) (ht : t.boot.vaon = true) :
    strap t = strap s := by
  unfold step at h
  split at h
  · cases h
    exact strap_idleTick s
  · next c rest _ =>
    rcases leaves_strap_exec c { s with pending := rest } hv with same | ⟨u, hu, gone⟩
    · exact same t h
    · rw [hu] at h
      cases h
      exact absurd ht (by rw [gone]; decide)

/-- Settles O58: the straps are written where VAON becomes valid, and no command but the loss of VAON touches its validity. -/
theorem strapsAreSampledOnce : Obligations.StrapsAreSampledOnce := by
  unfold Obligations.StrapsAreSampledOnce
  refine ⟨fun straps s => ⟨fun hv hon => ?_, fun hv => exec_vaonValid_idle straps (.inl hv)⟩, fun s t hv h ht => ?_⟩
  · exact ⟨_, exec_vaonValid straps hv hon, rfl, rfl⟩
  · exact congrArg Prod.snd (strap_step hv h ht)

end Sys2Proof.Machine
end
